-- ==== Sys2Proof/Word.lean ====
section
/-! DEFINITION. The plain word types of the package: a management register (R11: all registers are 32 bits wide),
a 32-byte memory word (R10), a byte, and the maps that hold sparse storage. -/

namespace Sys2Proof

/-- One byte. -/
abbrev Byte := BitVec 8

/-- A management register, 32 bits (Registers and fields, R75). -/
abbrev Reg32 := BitVec 32

/-- A memory word: 32 bytes at a 32-byte-aligned address (R10). Byte i is bits [8i+7:8i] (R9). A flit slot
is also 32 bytes (R10) and uses the same type. -/
abbrev Word := BitVec 256

/-- Sparse storage by key: keys strictly rising, and no entry equal to what an unlisted key reads as. -/
abbrev SMap (α : Type) := List (Nat × α)

end Sys2Proof
end

