-- ==== Sys2Proof/Syntax.lean ====
section
/-! DEFINITION. The commands: one constructor per row of spec/opcode_table.json, in the table's order. An operand
named k is a stack index, p a package port (R11), rid a request, ch a channel, pc a pseudo-channel, src the
management access source (R88), v the 32-bit value written. Operands that the table does not list carry what the
outside world supplies to the event (a sensor reading, a received symbol group, a verify outcome). -/

namespace Sys2Proof

/-- A management access source (R88): the MGMT channel of a package port, PMBus, or the Docent of a stack. -/
inductive Source where
  | port (p : Nat)
  | pmbus
  | docent (k : Nat)
  deriving DecidableEq, Repr

/-- A Vitrine SRAM error found by a scrub read or a lookup (R221). -/
inductive SramErr where
  /-- single-bit, any array, or disagreeing triplicate copies: corrected. -/
  | single
  /-- uncorrectable data of sector i. -/
  | data (sector : Nat)
  /-- uncorrectable tag. -/
  | tag
  /-- uncorrectable owner record. -/
  | owner
  deriving DecidableEq, Repr

/-- What the outside (the TSV interface) answers to a training operation or a tracking pass: per pin, the error
counts at the three offsets of R253, the pattern-compare count of R251 and the pass bits of R252. (DESIGN CHOICE, notes/assumptions/23.md) -/
structure TrnResult where
  pinErrors : List Nat
  firstFail : Option Nat
  failMask  : BitVec 36
  passMaps  : List (BitVec 128)
  atMinus   : List Nat
  atZero    : List Nat
  atPlus    : List Nat
  deriving DecidableEq, Repr

/-- The outcome of a Docent repair or training that the hardware underneath decides: burn verified (R429) and the
channels whose training failed (R482). (DESIGN CHOICE, notes/assumptions/23.md) -/
structure DocOutcome where
  burnOk     : Bool
  failedChs  : List Nat
  deriving DecidableEq, Repr

/-- How an OTP burn went: pulses applied (1 to 4) and whether the word verified (R429). (DESIGN CHOICE, notes/assumptions/23.md) -/
structure Burn where
  pulses   : Nat
  verified : Bool
  deriving DecidableEq, Repr

/-- What a receive lane measures during a training frame (R317, R321): stage settings and the three eye heights in mV. (DESIGN CHOICE, notes/assumptions/23.md) -/
structure LaneObs where
  ctle : Nat
  vga  : Nat
  dfe1 : Int
  dfe2 : Int
  dfe3 : Int
  eyeHigh : Nat
  eyeMid  : Nat
  eyeLow  : Nat
  deriving DecidableEq, Repr

/-- The two PLLs of a stack and its port-transmit PLLs (R378, R385). -/
inductive Pll where
  | core
  | fix
  | port (i : Nat)
  deriving DecidableEq, Repr

/-- The clock muxes of R388. -/
inductive ClockMux where
  | docent
  | reference
  | coreDivider
  deriving DecidableEq, Repr

/-- Wake events, with the codes of CLK_MODE_STATUS.WAKE_CAUSE (R403). -/
inductive WakeCause where
  | wakeN
  | squelch
  | mailbox
  | message
  | access
  | modeWrite
  deriving DecidableEq, Repr

/-- The four parts of the start check (R478), as found at start. (DESIGN CHOICE, notes/assumptions/23.md) -/
structure StartCheck where
  docentOk : Bool
  otpOk    : Bool
  powerOk  : Bool
  timerOk  : Bool
  deriving DecidableEq, Repr

/-- A report that a block raises itself (R449): page index, package-page flag, SUB, kind code, severity, ADDR. (DESIGN CHOICE, notes/assumptions/23.md) -/
structure NewReport where
  pkgPage : Bool
  page    : Nat
  sub     : Nat
  kind    : Nat
  sev     : Nat
  addr    : BitVec 48
  deriving DecidableEq, Repr

/-- A failure found by a self-test phase (R488): KIND 1 to 4 as HEALTH, 5 critical, 6 other; instance; test. (DESIGN CHOICE, notes/assumptions/23.md) -/
structure BstFinding where
  kind : Nat
  inst : Nat
  test : Nat
  deriving DecidableEq, Repr



/-- The commands, one per row of the table. (DESIGN CHOICE, notes/assumptions/23.md) -/
inductive Instr where
  /-- REGISTER_WRITE (R12). A management write to a register field that has no row of its own takes effect according to its access type. -/
  | registerWrite (src : Source) (addr : Reg32) (v : Reg32)
  /-- PACKAGE_PAGE_WRITE (R17). A write to a package page is carried over the ring to every stack, and it completes once every stack has applied it. -/
  | packagePageWrite (src : Source) (addr : Reg32) (v : Reg32)
  /-- STAGED_WRITE (R91). A write to a staged offset changes only the staged image and sets DIRTY; it is held while a COMMIT is in progress. -/
  | stagedWrite (src : Source) (addr : Reg32) (v : Reg32)
  /-- DISCARD (R86). A write to PAGE_STAGE_STATE.DISCARD copies every live ST value into the staged image and clears DIRTY. -/
  | discard (src : Source) (addr : Reg32)
  /-- COUNTER_CLEAR (R82). A write to PAGE_CTRL.COUNTER_CLEAR sets every counter of a clearable page to 0. -/
  | counterClear (src : Source) (addr : Reg32)
  /-- COUNTER_LOW_READ (R88). Reading the low word of a 64-bit counter latches its high word for that access source. -/
  | counterLowRead (src : Source) (addr : Reg32)
  /-- PAGE_ERR_BROADCAST (R510). At the next tick, a PAGE_ERR event of a package page is sent on SYS and sets the bit in every copy. -/
  | pageErrBroadcast (k : Nat)
  /-- AGGREGATOR_SELECT (R18). At the first tick after every stack has completed step 6 or entered SAFE, the lowest eligible stack takes the aggregator. -/
  | aggregatorSelect
  /-- RING_LINK_FAIL (R25). A ring link that fails its check for 16 frames or loses clock is taken out of service; messages on its path are lost and the affected requests time out. -/
  | ringLinkFail (k : Nat) (up : Bool)
  /-- RING_PARTITION (R511). At the tick after the ring partitions, the stacks outside the part that holds the reference enter SAFE. -/
  | ringPartition
  /-- FRAME_TICK (R35). A frame tick begins a frame: budgets, buckets, window and frame accounting are set for the new frame. -/
  | frameTick
  /-- MISS_EVENT_APPLY (R168). At the next tick, miss events sent by the serving stack on SYS update every SCH copy, and the IRQ is sent. -/
  | missEventApply
  /-- RUN_LEVEL_CHANGE (R391). A change of running P-level is applied at a tick on every stack, with voltage first when the level rises and frequency first when it falls. -/
  | runLevelChange (level : Nat)
  /-- FRAME_COUNT_ALIGN (R39). Every 1,024 frames the aggregator sends its frame counter on SYS, and a stack whose counter differs takes the aggregator's value. -/
  | frameCountAlign
  /-- TIME_SYNC (R41). A TIME_SYNC received on the reference port is accepted or rejected. -/
  | timeSync (p : Nat) (f : BitVec 64) (e : Nat) (phase : Nat)
  /-- TIME_SYNC_APPLY (R42). At the designated edge, every stack applies an accepted TIME_SYNC and sets the tick of frame F or F + 1. -/
  | timeSyncApply
  /-- TIER_UP (R46). When the hottest die reaches 85 °C or 105 °C, the stack's tier rises at the next tick, changing the window and the refresh rate. -/
  | tierUp (k : Nat)
  /-- TIER_DOWN (R46). After 6,250 frames at least 2 °C below its threshold, the tier falls one step. -/
  | tierDown (k : Nat)
  /-- COMMIT (R92). A write of CMT_COMMIT.GO is accepted, the staged state is frozen and the checks start. -/
  | commit (src : Source) (v : Reg32)
  /-- COMMIT_CHECK_ONLY (R92). A GO written with CHECK_ONLY runs the accept and check steps and applies nothing. -/
  | commitCheckOnly (src : Source) (v : Reg32)
  /-- COMMIT_CHECK_DONE (R93). The ordered checks complete: on failure the result is recorded; otherwise the aggregator sends APPLY(T). -/
  | commitCheckDone
  /-- APPLY (R92). A stack that receives APPLY(T) acknowledges it and starts any voltage ramp. -/
  | apply (k : Nat)
  /-- APPLY_ACK (R92). The aggregator receives an acknowledgement and, once every stack has acknowledged, sends CONFIRM. -/
  | applyAck (k : Nat)
  /-- COMMIT_ABORT (R97). If not every stack has acknowledged by tick T − 1, ABORT is sent and the COMMIT ends ABORTED. -/
  | commitAbort
  /-- COMMIT_APPLY (R92). At tick T, every stack that holds CONFIRM copies all staged values into the live registers. -/
  | commitApply
  /-- COMMIT_COMPLETE (R92). At the first tick after the result is known, CMT_RESULT updates, DONE sets and the held writes are performed. -/
  | commitComplete
  /-- READ (R108). A READ request of 1 to 8 words is served from the Vitrine or from memory and returns its data. -/
  | read (k : Nat) (rid : Nat) (err : Option SramErr)
  /-- WRITE (R108). A WRITE request of 1 to 8 words writes its data into the slice and returns a response. -/
  | write (k : Nat) (rid : Nat) (err : Option SramErr)
  /-- WRITE_POSTED (R109). A posted write is performed; it sends a response only if its status is not OK. -/
  | writePosted (k : Nat) (rid : Nat)
  /-- WRITE_MASKED (R108). A WRITE_MASKED writes the enabled bytes of one word as a read-modify-write in the NDU. -/
  | writeMasked (k : Nat) (rid : Nat)
  /-- FENCE (R121). A FENCE holds the later requests of its context until every earlier request of that context has completed. -/
  | fence (p : Nat) (ctx : Nat)
  /-- FENCE_COMPLETE (R121). Once every earlier request of its context has completed, the FENCE response is sent. -/
  | fenceComplete (p : Nat) (ctx : Nat)
  /-- RANGE_ZERO (R109). A RANGE_ZERO sets the tiles of its span INVALID and drops their lines without write-back. -/
  | rangeZero (k : Nat) (rid : Nat) (j : Nat)
  /-- RANGE_ZERO_COMPLETE (R109). When every stack has cleared its tiles of the span, the response returns with the count of RETIRED tiles skipped. -/
  | rangeZeroComplete (k : Nat) (rid : Nat)
  /-- MGMT_READ (R127). A management read returns the register value, with a status under R75 and R76. -/
  | mgmtRead (p : Nat)
  /-- MGMT_WRITE (R127). A management write is applied, and its response is sent once the write has been applied. -/
  | mgmtWrite (p : Nat)
  /-- IRQ (R128). An IRQ message is sent, or coalesced while it waits for MGMT credit, on the reference port's MGMT channel. -/
  | irq
  /-- INBOUND_IRQ_TELEMETRY (R104). An IRQ or TELEMETRY message received from a partner is discarded, its credits are returned and NX_PROTOCOL is logged. -/
  | inboundIrqTelemetry (p : Nat) (header : Word)
  /-- LATE_RSP (R117). A response that arrives after a TIMEOUT has been sent for its request is discarded and logged. -/
  | lateRsp (p : Nat) (rid : Nat)
  /-- INGRESS_RELEASE (R136). The head request of a context leaves the ingress buffer once its bucket, outstanding count and destination room allow it. -/
  | ingressRelease (p : Nat) (ctx : Nat)
  /-- ADMISSION_QUEUE_ENTRY (R139). A released request enters the serving stack's admission-queue partition; it completes with ADMIT_HOLD if that stack is in or entering MAINTENANCE. -/
  | admissionQueueEntry (k : Nat) (rid : Nat)
  /-- REQUEST_TABLE_ALLOCATE (R143). When an entry becomes free, the admission queue fills it in class and age order, subject to the occupancy limits and the per-context cap. -/
  | requestTableAllocate (k : Nat)
  /-- REQUEST_AGED (R142). A request that has waited 64 frames since its bucket allowed it becomes aged. -/
  | requestAged (rid : Nat)
  /-- ADMIT_TIMEOUT (R144). A request that has waited 2,048 frames in the admission queue completes with ADMIT_HOLD. -/
  | admitTimeout (k : Nat) (rid : Nat)
  /-- RESPONSE_TO_EGRESS (R140). A completed request's response moves into reserved RSP egress space and frees its request-table entry. -/
  | responseToEgress (k : Nat) (rid : Nat)
  /-- RSP_STALL (R147). After 8,192 frames with responses waiting and no RSP credit, the port reports RSP_STALL. -/
  | rspStall (p : Nat)
  /-- ADD32 (R182). A 32-bit ADD atomic, acknowledged or posted, adds A to the operand modulo 2^32. -/
  | add32 (k : Nat) (rid : Nat)
  /-- AND32 (R182). A 32-bit AND atomic. -/
  | and32 (k : Nat) (rid : Nat)
  /-- OR32 (R182). A 32-bit OR atomic. -/
  | or32 (k : Nat) (rid : Nat)
  /-- XOR32 (R182). A 32-bit XOR atomic. -/
  | xor32 (k : Nat) (rid : Nat)
  /-- SMIN32 (R182). A 32-bit signed minimum atomic. -/
  | smin32 (k : Nat) (rid : Nat)
  /-- SMAX32 (R182). A 32-bit signed maximum atomic. -/
  | smax32 (k : Nat) (rid : Nat)
  /-- UMIN32 (R182). A 32-bit unsigned minimum atomic. -/
  | umin32 (k : Nat) (rid : Nat)
  /-- UMAX32 (R182). A 32-bit unsigned maximum atomic. -/
  | umax32 (k : Nat) (rid : Nat)
  /-- SWAP32 (R182). A 32-bit SWAP atomic. -/
  | swap32 (k : Nat) (rid : Nat)
  /-- CAS32 (R182). A 32-bit compare-and-swap atomic. -/
  | cas32 (k : Nat) (rid : Nat)
  /-- FADD32 (R183). An FP32 FADD atomic under IEEE 754. -/
  | fadd32 (k : Nat) (rid : Nat)
  /-- FMIN32 (R183). An FP32 FMIN atomic (minimumNumber). -/
  | fmin32 (k : Nat) (rid : Nat)
  /-- FMAX32 (R183). An FP32 FMAX atomic (maximumNumber). -/
  | fmax32 (k : Nat) (rid : Nat)
  /-- ADD64 (R182). A 64-bit ADD atomic, acknowledged or posted. -/
  | add64 (k : Nat) (rid : Nat)
  /-- AND64 (R182). A 64-bit AND atomic. -/
  | and64 (k : Nat) (rid : Nat)
  /-- OR64 (R182). A 64-bit OR atomic. -/
  | or64 (k : Nat) (rid : Nat)
  /-- XOR64 (R182). A 64-bit XOR atomic. -/
  | xor64 (k : Nat) (rid : Nat)
  /-- SMIN64 (R182). A 64-bit signed minimum atomic. -/
  | smin64 (k : Nat) (rid : Nat)
  /-- SMAX64 (R182). A 64-bit signed maximum atomic. -/
  | smax64 (k : Nat) (rid : Nat)
  /-- UMIN64 (R182). A 64-bit unsigned minimum atomic. -/
  | umin64 (k : Nat) (rid : Nat)
  /-- UMAX64 (R182). A 64-bit unsigned maximum atomic. -/
  | umax64 (k : Nat) (rid : Nat)
  /-- SWAP64 (R182). A 64-bit SWAP atomic. -/
  | swap64 (k : Nat) (rid : Nat)
  /-- CAS64 (R182). A 64-bit compare-and-swap atomic. -/
  | cas64 (k : Nat) (rid : Nat)
  /-- FADD64 (R183). An FP64 FADD atomic. -/
  | fadd64 (k : Nat) (rid : Nat)
  /-- FMIN64 (R183). An FP64 FMIN atomic. -/
  | fmin64 (k : Nat) (rid : Nat)
  /-- FMAX64 (R183). An FP64 FMAX atomic. -/
  | fmax64 (k : Nat) (rid : Nat)
  /-- CAS128 (R182). A 128-bit compare-and-swap atomic. -/
  | cas128 (k : Nat) (rid : Nat)
  /-- REPRO_ADD (R188). An FP64 addend is added exactly into a 192-bit accumulator word, initialising the word first if INIT is 0. -/
  | reproAdd (k : Nat) (rid : Nat)
  /-- FOLD (R189). FOLD returns an accumulator rounded to FP64, together with its flags. -/
  | fold (k : Nat) (rid : Nat)
  /-- FOLD_CLEAR (R189). FOLD_CLEAR returns the FOLD result and clears the accumulator and its sticky flags. -/
  | foldClear (k : Nat) (rid : Nat)
  /-- SCATTER_ACC (R191). Each (index, value) pair updates its element with the named add operation. -/
  | scatterAcc (k : Nat) (rid : Nat)
  /-- GATHER (R192). A GATHER reads the elements named by an index list and returns them in a sequence of responses. -/
  | gather (k : Nat) (rid : Nat)
  /-- STRIDED_GATHER (R192). A STRIDED_GATHER reads elements at a stride and returns them in a sequence of responses. -/
  | stridedGather (k : Nat) (rid : Nat)
  /-- STRIDED_COPY (R192). A STRIDED_COPY copies elements at a source stride to a destination stride. -/
  | stridedCopy (k : Nat) (rid : Nat)
  /-- PKG_COPY (R192). A PKG_COPY copies contiguous words within the package. -/
  | pkgCopy (k : Nat) (rid : Nat)
  /-- GTH_DESCRIPTOR_START (R178). A descriptor operation takes a free GTH descriptor context and starts issuing its element accesses. -/
  | gthDescriptorStart (k : Nat) (rid : Nat)
  /-- GTH_ELEMENT_ACCESS (R178). One element access is performed on its own channel or, over the ring, on another stack. -/
  | gthElementAccess (k : Nat) (rid : Nat)
  /-- ACC_SPILL_ALL (R200). A write of NDU_CTRL.ACC_SPILL_ALL spills every resident accumulator of the slice. -/
  | accSpillAll (src : Source) (k : Nat) (ch : Nat) (v : Reg32)
  /-- VIT_FLUSH (R217). VIT_OP FLUSH writes back the dirty sectors of the selected lines and spills their accumulators. -/
  | vitFlush (src : Source) (k : Nat) (v : Reg32)
  /-- VIT_INVALIDATE (R217). VIT_OP INVALIDATE drops the selected lines without write-back. -/
  | vitInvalidate (src : Source) (k : Nat) (v : Reg32)
  /-- VIT_FLUSH_INV (R217). VIT_OP FLUSH_INV writes back and then drops the selected lines. -/
  | vitFlushInv (src : Source) (k : Nat) (v : Reg32)
  /-- VIT_OP_DONE (R219). Once the last write-back of a Vitrine operation has been performed, DONE sets and OP_DONE pulses. -/
  | vitOpDone (k : Nat)
  /-- VIT_SRAM_SCRUB (R222). In an idle cycle, a slice reads and corrects one SRAM word. -/
  | vitSramScrub (k : Nat) (ch : Nat) (line : Nat) (err : Option SramErr)
  /-- VIT_SCRUB_LATE (R222). A Vitrine SRAM scrub pass that has not completed at the end of its period is logged. -/
  | vitScrubLate (k : Nat)
  /-- REFRESH_SPACING (R242). At each refresh spacing, a bank's refresh debt D rises by 1. -/
  | refreshSpacing (k : Nat) (ch : Nat) (pc : Nat) (bank : Nat)
  /-- PER_BANK_REFRESH (R240). A per-bank refresh, due or forced, refreshes 8 rows of a bank in the window and lowers D by 1. -/
  | perBankRefresh (k : Nat) (ch : Nat) (pc : Nat) (bank : Nat)
  /-- ACTIVATE (R244). An activation updates the bank's tracker table and queues a targeted refresh when a count reaches a multiple of ACT_THRESH. -/
  | activate (k : Nat) (ch : Nat) (pc : Nat) (bank : Nat) (row : Nat) (ue : Bool)
  /-- TARGETED_REFRESH (R245). A queued targeted refresh of the rows adjacent to the triggering row runs in its share of the window. -/
  | targetedRefresh (k : Nat) (ch : Nat) (pc : Nat)
  /-- TARGETED_REFRESH_PROMOTE (R245). A targeted refresh that has waited 4 frames is promoted to forced-refresh priority. -/
  | targetedRefreshPromote (k : Nat) (ch : Nat) (pc : Nat)
  /-- POWER_DOWN_ENTRY (R248). A pseudo-channel whose bank queues have stayed empty for PD_IDLE cycles precharges its banks and enters power-down. -/
  | powerDownEntry (k : Nat) (ch : Nat) (pc : Nat)
  /-- TRN_PATTERN (R250). A training GO with MODE 0 runs the pattern generator and the compare engine. -/
  | trnPattern (src : Source) (k : Nat) (ch : Nat) (v : Reg32) (res : TrnResult)
  /-- TRN_SWEEP (R252). A training GO with MODE 1 sweeps one parameter and records the pass bits. -/
  | trnSweep (src : Source) (k : Nat) (ch : Nat) (v : Reg32) (res : TrnResult)
  /-- TRN_TRACKING_PASS (R253). A training GO with MODE 2 runs a single tracking pass. -/
  | trnTrackingPass (src : Source) (k : Nat) (ch : Nat) (v : Reg32) (res : TrnResult)
  /-- TRN_ABORT (R258). A write of ABORT stops the training operation at the end of its current burst. -/
  | trnAbort (src : Source) (k : Nat) (ch : Nat) (v : Reg32)
  /-- TRN_DONE (R261). A training operation completes, DONE sets and TRN_DONE pulses. -/
  | trnDone (k : Nat) (ch : Nat)
  /-- TRACKING_PASS (R253). Every TRK_FRAMES frames, a pseudo-channel runs a tracking pass that adjusts read delay or reports a margin loss or failure. -/
  | trackingPass (k : Nat) (ch : Nat) (pc : Nat) (res : TrnResult)
  /-- PAUSE_REQUEST (R254). Docent sets PAUSE, and a retrain pause begins at the next tick when PAUSE_EN allows it. -/
  | pauseRequest (src : Source) (k : Nat) (ch : Nat) (v : Reg32)
  /-- PAUSE_CLEAR (R254). Firmware clears PAUSE, and the pause ends at the next tick. -/
  | pauseClear (src : Source) (k : Nat) (ch : Nat) (v : Reg32)
  /-- PAUSE_EN_CLEAR (R254). Host software clears PAUSE_EN, which ends any pause at the next tick. -/
  | pauseEnClear (src : Source) (k : Nat) (ch : Nat) (v : Reg32)
  /-- PAUSE_DEBT (R254). A pause is ended at the tick after any bank's D reaches 8, and the event is reported. -/
  | pauseDebt (k : Nat) (ch : Nat)
  /-- CTL_DLY_WRITE (R252). A write to CTL_DLY takes effect at the next frame tick. -/
  | ctlDlyWrite (src : Source) (k : Nat) (ch : Nat) (v : Reg32)
  /-- MEMORY_DIE_SENSOR_READ (R415). Every 16 frames each memory-die sensor is read and cross-checked against its estimate. -/
  | memoryDieSensorRead (k : Nat) (raw : List (Option Int))
  /-- SUSPECT_CLEAR (R415). A suspect die within ±4 °C of its estimate for 6,250 frames is cleared. -/
  | suspectClear (k : Nat) (die : Nat)
  /-- SEAL (R281). A listed tile whose LAST_WRITE is SEAL_DELAY frames old starts a normal seal. -/
  | seal (k : Nat) (tile : Nat)
  /-- FORCED_SEAL (R284). A tile whose OPEN_SINCE is FORCE_LIMIT frames old starts a forced seal that holds writes. -/
  | forcedSeal (k : Nat) (tile : Nat)
  /-- SEAL_COMPLETE (R282). A seal writes its parity, sets the tile SEALED, frees its open-list entry and unpins the parity line. -/
  | sealComplete (k : Nat) (tile : Nat)
  /-- OPEN_LIST_SWEEP (R286). While OVERFLOW is 1, each frame sweeps part of the tile-state map and lists unlisted OPEN tiles. -/
  | openListSweep (k : Nat)
  /-- SCRUB_TILE (R287). Patrol scrub visits one tile, decodes its words and checks its page-code syndromes. -/
  | scrubTile (k : Nat) (tile : Nat)
  /-- SCRUB_LATE (R287). A patrol scrub pass that has not finished at the end of its period is recorded. -/
  | scrubLate (k : Nat)
  /-- TSM_MAP_SCRUB (R280). The tile-state map SRAM is scrubbed; single-bit errors are corrected. -/
  | tsmMapScrub (k : Nat) (group : Nat) (err : Option Bool)
  /-- RETIRE (R279). TSM_DEACC RETIRE sets the selected tiles of this stack RETIRED and drops their lines. -/
  | retire (src : Source) (k : Nat) (v : Reg32)
  /-- RELEASE (R279). TSM_DEACC RELEASE sets RETIRED tiles INVALID. -/
  | release (src : Source) (k : Nat) (v : Reg32)
  /-- REOPEN (R279). TSM_DEACC REOPEN sets RETIRED tiles OPEN. -/
  | reopen (src : Source) (k : Nat) (v : Reg32)
  /-- DEACC_DONE (R294). A deaccession operation completes, DONE sets and DEACC_DONE pulses. -/
  | deaccDone (k : Nat)
  /-- TSM_QUERY (R293). A write to a query register updates the tile's state result in the next access cycle. -/
  | tsmQuery (src : Source) (k : Nat) (hi : Bool) (v : Reg32)
  /-- ADM_PROBE (R74). A write to the probe registers decomposes the offset with the live or staged masks. -/
  | admProbe (src : Source) (k : Nat) (off : Nat) (v : Reg32)
  /-- ROW_REPAIR (R290). DOC_CMD ROW_REPAIR burns a REPAIR entry and redirects a failing row to a spare. -/
  | rowRepair (src : Source) (k : Nat) (v : Reg32) (out : DocOutcome)
  /-- LANE_SHIFT (R290). DOC_CMD LANE_SHIFT burns a REPAIR entry and shifts a pin's group towards its spare TSV, then retrains. -/
  | laneShift (src : Source) (k : Nat) (v : Reg32) (out : DocOutcome)
  /-- TRAIN_CHANNEL (R482). DOC_CMD TRAIN_CHANNEL runs the training procedure on one channel. -/
  | trainChannel (src : Source) (k : Nat) (v : Reg32) (out : DocOutcome)
  /-- TRAIN_ALL (R482). DOC_CMD TRAIN_ALL runs the training procedure on every usable channel. -/
  | trainAll (src : Source) (k : Nat) (v : Reg32) (out : DocOutcome)
  /-- LANE_MAP (R318). In DETECT, all 8 receive lanes see 4 training markers and the port enters LANE_MAP to detect polarity and order. -/
  | laneMap (p : Nat) (lanes : List (Nat × Bool))
  /-- LANE_MAP_CONSISTENT (R318). A lane map consistent for 16 training frames moves the port to TRAIN. -/
  | laneMapConsistent (p : Nat)
  /-- LANE_MAP_TIMEOUT (R318). LANE_MAP does not complete within 1 ms, and the port returns to DETECT, counting a failed try. -/
  | laneMapTimeout (p : Nat)
  /-- TRAINING_FRAME (R320). A training frame's block is received and its coefficient request is applied and answered. -/
  | trainingFrame (p : Nat) (lane : Nat) (payload : BitVec 64) (obs : LaneObs)
  /-- PHASE_A_DONE (R321). Both ends have sent RX_READY in 16 consecutive frames, and phase A ends. -/
  | phaseADone (p : Nat)
  /-- PHASE_A_TIMEOUT (R318). Phase A does not complete within 8 ms, and the port returns to DETECT. -/
  | phaseATimeout (p : Nat)
  /-- PHASE_B_SWITCH (R321). Sixteen frames after each end has seen RATE_B, the transmitters stop and resume at 106.25 GBd. -/
  | phaseBSwitch (p : Nat)
  /-- PHASE_B_DONE (R321). Phase B completes its procedure, and the port uses framing B. -/
  | phaseBDone (p : Nat)
  /-- PHASE_B_TIMEOUT (R321). Phase B times out, and the port falls back to framing A and logs NX_FALLBACK_A. -/
  | phaseBTimeout (p : Nat)
  /-- ALIGN_DONE (R318). Markers are in place on every lane and deskew is done, and the port enters LINK_INIT. -/
  | alignDone (p : Nat)
  /-- ALIGN_TIMEOUT (R318). ALIGN does not complete within 1 ms, and the port returns to DETECT. -/
  | alignTimeout (p : Nat)
  /-- NXL_RESTART (R332). A write of NXL_CTRL.RESTART clears TRIES and HELD and enters DETECT. -/
  | nxlRestart (src : Source) (p : Nat) (v : Reg32)
  /-- TEST_ENTER (R318). Setting TEST_EN moves the port into TEST from any state. -/
  | testEnter (src : Source) (p : Nat) (v : Reg32)
  /-- TEST_EXIT (R318). Clearing TEST_EN moves the port from TEST to DETECT. -/
  | testExit (src : Source) (p : Nat) (v : Reg32)
  /-- ALIGNMENT_MARKER (R314). A received marker is checked and sets the symbol, codeword and period boundaries. -/
  | alignmentMarker (p : Nat) (lane : Nat) (symbols : List Nat) (displacement : Int)
  /-- ALIGNMENT_LOST (R314). No marker is found for four consecutive periods, and the port retrains. -/
  | alignmentLost (p : Nat)
  /-- CODEWORD (R311). A framing-B codeword is LDPC-decoded and its bits go to the link layer, flagged if it failed. -/
  | codeword (p : Nat) (lane : Nat) (soft : List Int)
  /-- FRAMING_A_GROUP (R339). A framing-A group of 13 flits is checked by its four trailer blocks and its CRC-32. -/
  | framingAGroup (p : Nat) (blocks : List (BitVec 66))
  /-- BURST_IDLE_ENTRY (R323). After BI_IDLE flit times with nothing to send, a transmitter sends end-of-burst and parks. -/
  | burstIdleEntry (p : Nat)
  /-- TX_WAKE (R324). A parked transmitter with flits to send ramps up and sends the preamble and two wake markers. -/
  | txWake (p : Nat)
  /-- SQUELCH_ASSERT (R324). A parked receiver's squelch asserts, and it starts gain and phase acquisition. -/
  | squelchAssert (p : Nat) (lane : Nat)
  /-- SQUELCH_DEASSERT (R325). Squelch deasserts, the gain unfreezes and any qualification in progress is abandoned. -/
  | squelchDeassert (p : Nat) (lane : Nat)
  /-- NX_FALSE_WAKE (R324). Wake markers do not arrive within 256 ns of squelch, and the lane parks again. -/
  | nxFalseWake (p : Nat) (lane : Nat)
  /-- INJECT_SINGLE (R329). An NXL_INJ GO in single mode hits one symbol on each selected lane. -/
  | injectSingle (src : Source) (p : Nat) (v : Reg32)
  /-- INJECT_BURST (R329). An NXL_INJ GO in burst mode hits BURST_LEN consecutive symbols. -/
  | injectBurst (src : Source) (p : Nat) (v : Reg32)
  /-- INJECT_RATE (R329). Setting rate mode hits one symbol in every 2^RATE_EXP until MODE changes. -/
  | injectRate (src : Source) (p : Nat) (v : Reg32)
  /-- FLIT (R343). A received flit is parsed, and is accepted, discarded as a duplicate, or treated as a loss. -/
  | flit (p : Nat) (slots : List Word) (lost : Bool)
  /-- NOP (R341). A NOP link-control slot has no content. -/
  | nop (p : Nat) (slot : Word)
  /-- LACK (R342). A LACK acknowledges flits up to SEQ and releases them from the replay buffer, or with NAK names the first lost flit. -/
  | lack (p : Nat) (slot : Word)
  /-- LCRD (R349). An LCRD slot returns RSP, MGMT and per-context credits. -/
  | lcrd (p : Nat) (slot : Word)
  /-- LINIT (R350). A LINIT slot in LINK_INIT carries SEEN, RESUME, ACK_SEQ and the grants. -/
  | linit (p : Nat) (slot : Word)
  /-- VCSEL (R341). A VCSEL slot selects the virtual channel of later messages. -/
  | vcsel (p : Nat) (slot : Word)
  /-- LACK_DUE (R344). A LACK is sent after ACK_FLITS accepted flits, or within 100 ns of an unacknowledged accepted flit. -/
  | lackDue (p : Nat)
  /-- PERIOD_TRAILER (R347). A received period trailer declares START_SEQ and carries one event. -/
  | periodTrailer (p : Nat) (words : List (BitVec 56)) (phase : Nat)
  /-- PERIOD_TRAILER_SEND (R345). At the end of a marker period, the transmitter sends the trailer with START_SEQ and any event. -/
  | periodTrailerSend (p : Nat)
  /-- FLIT_TRANSMIT (R351). The transmitter fills the next flit from ready messages in priority order, or sends a fill flit. -/
  | flitTransmit (p : Nat)
  /-- LINK_INIT_COMPLETE (R350). Both ends have exchanged SEEN, credits are granted and the port enters ACTIVE. -/
  | linkInitComplete (p : Nat)
  /-- NX_INIT_TIMEOUT (R350). LINK_INIT does not complete within 1 ms, and the port returns to DETECT. -/
  | nxInitTimeout (p : Nat)
  /-- REPLAY_LIMIT (R352). After REPLAY_LIMIT replays from the same START_SEQ, the port retrains. -/
  | replayLimit (p : Nat)
  /-- PROGRESS_PERIODS_EXPIRY (R352). After PROGRESS_PERIODS periods with no acknowledgement progress, the port retrains. -/
  | progressPeriodsExpiry (p : Nat)
  /-- NXP_RETRAIN (R357). A write of NXP_CTRL.RETRAIN sends RETRAIN and retrains the port. -/
  | nxpRetrain (src : Source) (p : Nat) (v : Reg32)
  /-- FORWARD_RESPONSE (R369). A response to a forwarded request finds its record, restores REQ_ID and TAG and goes back on the arrival port. -/
  | forwardResponse (p : Nat)
  /-- FWD_TIMEOUT (R370). A forward record with no response after 8,192 frames completes its request with TIMEOUT. -/
  | fwdTimeout (p : Nat) (rec : Nat)
  /-- REF_HOLDOVER (R382). No reference edge for 64 ns freezes the PLL loops and enters HOLDOVER. -/
  | refHoldover
  /-- REF_EDGES_RETURN (R382). Edges return within 4 µs with the CDR locked, and the state returns to LOCKED. -/
  | refEdgesReturn
  /-- HOLDOVER_TIMEOUT (R382). After 4 µs in HOLDOVER, the next qualified source is taken (FAILOVER), or the package is LOST. -/
  | holdoverTimeout (qual : List Bool)
  /-- FAILOVER_RELOCK (R383). The PLLs relock to the new source and the next tick is re-anchored, possibly making a long frame. -/
  | failoverRelock (exact : Bool)
  /-- REF_REVERT (R384). With REVERT set and the primary qualified again, the package returns to the primary at the next tick. -/
  | refRevert
  /-- REF_RECOVERY (R387). A source qualifies during LOST, and the package runs steps 3 to 9 of the RETAIN exit and resets its port links. -/
  | refRecovery (qual : List Bool) (oscCycles : Nat)
  /-- PLL_CHECK_WINDOW (R385). Each 4,096-cycle window checks a PLL's count, and two consecutive failures restart the PLL or enter SAFE. -/
  | pllCheckWindow (k : Nat) (pll : Pll) (count : Nat)
  /-- CLK_MUX_FORCED (R388). A mux whose old clock shows no edge within 64 cycles forces its switch. -/
  | clkMuxForced (k : Nat) (mux : ClockMux)
  /-- CLK_DOCENT_SEL (R401). A Docent write of SEL_PLL moves Docent's clock to PLL_FIX. -/
  | clkDocentSel (src : Source) (k : Nat) (v : Reg32)
  /-- CLK_REF_WRITE (R399). A write of CLK_REF changes the sources at the next tick, or is ignored if it would leave none qualified. -/
  | clkRefWrite (src : Source) (k : Nat) (v : Reg32) (qual : List Bool)
  /-- MODE_ACTIVE_REQUEST (R392). CLK_PKG_MODE with REQ ACTIVE returns the package from IDLE. -/
  | modeActiveRequest (src : Source) (k : Nat) (v : Reg32)
  /-- MODE_IDLE_REQUEST (R392). CLK_PKG_MODE with REQ IDLE enters IDLE at the next tick. -/
  | modeIdleRequest (src : Source) (k : Nat) (v : Reg32)
  /-- MODE_RETAIN_REQUEST (R394). CLK_PKG_MODE with REQ RETAIN starts RETAIN entry, or is rejected or held as stated. -/
  | modeRetainRequest (src : Source) (k : Nat) (v : Reg32)
  /-- MAINTENANCE_REQUEST (R392). CLK_STK_MODE with REQ 1 stops admission to the stack's request table. -/
  | maintenanceRequest (src : Source) (k : Nat) (v : Reg32)
  /-- MAINTENANCE_ENTERED (R392). Once the stack's request table is empty, the stack is in MAINTENANCE. -/
  | maintenanceEntered (k : Nat)
  /-- MAINTENANCE_EXIT (R392). CLK_STK_MODE with REQ 0 returns the stack to the package mode at the next tick. -/
  | maintenanceExit (src : Source) (k : Nat) (v : Reg32)
  /-- AUTO_IDLE (R392). With AUTO_EN set and no message for IDLE_FRAMES frames, the package enters IDLE. -/
  | autoIdle
  /-- IDLE_WAKE (R393). A wake event in IDLE ungates the core and wakes the ports; ACTIVE begins at a tick. -/
  | idleWake (cause : WakeCause)
  /-- RETAIN_ENTRY_COMPLETE (R394). RETAIN entry completes at 60 µs with the rail at retention level. -/
  | retainEntryComplete
  /-- RETAIN_WAKE (R395). A wake event in RETAIN starts the exit sequence. -/
  | retainWake (cause : WakeCause)
  /-- RETAIN_EXIT_COMPLETE (R396). The exit completes, and the package is ACTIVE at the next tick with its timers resumed. -/
  | retainExitComplete (oscCycles : Nat)
  /-- VIN_SAMPLE (R407). Each frame, every tile samples VIN, and the package acts on the lowest sample. -/
  | vinSample (mv : List Nat)
  /-- SUPPLY_CAP_LIFT (R407). After 1,024 frames with every sample at 6.2 V or more, the supply cap is lifted. -/
  | supplyCapLift
  /-- UVLO (R407). VIN falling below 4.2 V stops every tile and the package goes OFF. -/
  | uvlo
  /-- OVP (R407). VIN above 19 V stops every tile and the package goes OFF. -/
  | ovp
  /-- IVR_FAULT (R412). A rail outside its window for more than 2 µs puts the stack in SAFE. -/
  | ivrFault (k : Nat) (rail : Nat)
  /-- TILE_ILIMIT (R412). A tile held at its input limit for more than 8 µs puts the stack at T3. -/
  | tileIlimit (k : Nat)
  /-- ILIMIT_T3_END (R412). After 1,024 frames without reaching its limit, the T3 held by the tile ends. -/
  | ilimitT3End (k : Nat)
  /-- BROWNOUT (R412). The 1.2 V output below 1.08 V for 1 µs resets the whole package and loses retention. -/
  | brownout (k : Nat)
  /-- BASE_SENSOR_READ (R414). Each frame, the base-die and lid sensors are read and the throttle stage is judged. -/
  | baseSensorRead (k : Nat) (base : List Int) (lid : Int) (power : Nat) (iin : Nat)
  /-- STAGE_STEP_DOWN (R417). After 6,250 frames at least 3 °C below the entry threshold, the stage steps down one level. -/
  | stageStepDown (k : Nat)
  /-- THM_LOW_POWER_CHECK (R419). In RETAIN or LOST, every 1,024 estimated frames the base-die and lid sensors are checked against T4. -/
  | thmLowPowerCheck (k : Nat) (base : List Int) (lid : Int)
  /-- THM_THRESH_WRITE (R425). A THM_THRESH write is applied, or ignored with THRESH_REJECT if the order breaks. -/
  | thmThreshWrite (src : Source) (k : Nat) (v : Reg32)
  /-- PWR_VIN_READ (R421). A read of PWR_VIN returns the source's minimum and restarts it. -/
  | pwrVinRead (src : Source) (k : Nat)
  /-- OTP_PROGRAM (R429). OTP_CMD PROGRAM burns one logical word with verify pulses. -/
  | otpProgram (src : Source) (k : Nat) (v : Reg32) (burn : Burn)
  /-- OTP_FINALIZE (R434). OTP_CMD FINALIZE sets FINAL_WORDS and burns the digest, locking the region. -/
  | otpFinalize (src : Source) (k : Nat) (v : Reg32) (burn : Burn)
  /-- OTP_ADVANCE (R436). OTP_CMD ADVANCE burns a lifecycle transition word and its digest slot. -/
  | otpAdvance (src : Source) (k : Nat) (v : Reg32) (burn : Burn)
  /-- OTP_RESENSE (R430). OTP_CMD RESENSE repeats both margin reads and updates the marginal counts. -/
  | otpResense (src : Source) (k : Nat) (v : Reg32) (flips : List Nat)
  /-- SERVICE_UNLOCK_SUBMIT (R439). SUBMIT has Docent verify the signature over the nonce, and opens service access or counts a failure. -/
  | serviceUnlockSubmit (src : Source) (k : Nat) (v : Reg32) (nonce : BitVec 64)
  /-- CALIBRATION (R442). CAL_CMD GO starts a calibration with its first measurement run. -/
  | calibration (src : Source) (k : Nat) (v : Reg32) (run : List Int)
  /-- CALIBRATION_SECOND_RUN (R442). At least 1,024 frames later, the second run is compared and its mean is burned into the next slot, or the run disagrees. -/
  | calibrationSecondRun (k : Nat) (run : List Int) (burn : Burn)
  /-- FAULT_REPORT (R453). A fault report is taken in, counted, assigned its reaction level and placed in the FIFO. -/
  | faultReport (k : Nat) (new : List NewReport)
  /-- LOG_RECORD_WRITE (R455). One record drains per cycle from the FIFO into the log ring. -/
  | logRecordWrite (k : Nat)
  /-- MIRROR_RECORD (R456). A record received on the REG ring class enters the aggregator's mirror ring. -/
  | mirrorRecord (k : Nat)
  /-- SAFE_FORCED_RESET (R461). If SAFE entry has not completed within 1 µs, a warm reset with retention is forced. -/
  | safeForcedReset (k : Nat)
  /-- SAFE_EXIT (R462). REG_SAFE_CTRL.EXIT leaves SAFE unless a blocker holds, in which case it is rejected. -/
  | safeExit (src : Source) (k : Nat) (v : Reg32) (railsOk : Bool)
  /-- HALT_BROADCAST (R463). A stack receiving HALT enters SAFE with BY_HALT, records the cause and stops ALIVE; Docent writes the Archive. -/
  | haltBroadcast (k : Nat)
  /-- ARCHIVE_DONE (R464). Docent finishes writing the Archive, and VALID sets. -/
  | archiveDone (k : Nat)
  /-- FORCE_HALT (R471). A write of REG_CTRL.FORCE_HALT reports REG_FORCED_HALT at HALT level. -/
  | forceHalt (src : Source) (k : Nat) (v : Reg32)
  /-- KCNT_CLEAR (R471). A write of KCNT_CLEAR clears every per-kind counter. -/
  | kcntClear (src : Source) (k : Nat) (v : Reg32)
  /-- FIRST_CLEAR (R457). Writing 1 to REG_FIRST.VALID clears VALID and OVF. -/
  | firstClear (src : Source) (k : Nat) (v : Reg32)
  /-- PEND_ACKNOWLEDGE (R460). Writing 1 to a REG_PEND bit acknowledges its escalation class. -/
  | pendAcknowledge (src : Source) (k : Nat) (sev : Nat) (v : Reg32)
  /-- KIND_CFG_WRITE (R452). A REG_KIND_CFG.LEVEL write is carried package-wide, within the default limits. -/
  | kindCfgWrite (src : Source) (k : Nat) (v : Reg32)
  /-- LOG_RD_IDX_WRITE (R473). A write of REG_LOG_RD_IDX copies the log record into the data registers. -/
  | logRdIdxWrite (src : Source) (k : Nat) (v : Reg32)
  /-- MIR_RD_IDX_WRITE (R473). A write of REG_MIR_RD_IDX copies the mirror record into the data registers. -/
  | mirRdIdxWrite (src : Source) (k : Nat) (v : Reg32)
  /-- ARCH_DATA_READ (R474). A read of REG_ARCH_DATA returns the Archive word and advances OFFSET. -/
  | archDataRead (src : Source) (k : Nat)
  /-- ARCH_DISCARD (R468). A write of DISCARD clears the Archive's VALID. -/
  | archDiscard (src : Source) (k : Nat) (v : Reg32)
  /-- ALIVE_TOGGLE (R469). Every 512 frames the aggregator toggles ALIVE. -/
  | aliveToggle
  /-- TELEMETRY (R470). Every 1,024 frames the aggregator sends a TELEMETRY message, or skips it for want of credit. -/
  | telemetry
  /-- VIN_VALID (R477). VIN rising through 4.4 V starts power-on and steps 1 to 4 of the start-up sequence. -/
  | vinValid (chks : List StartCheck)
  /-- START_REFERENCE (R477). A reference source first qualifies after step 4, and steps 5 to 11 run from t_R. -/
  | startReference (k : Nat) (qual : List Bool) (chk : StartCheck) (locked : Bool) (failedChs : List Nat)
  /-- START_WATCHDOG (R479). A start step not completed within its time plus 20 ms puts the stack in SAFE. -/
  | startWatchdog (k : Nat)
  /-- PACKAGE_ACTIVE (R477). At the first tick at which every stack not held has completed step 11 and the timing link is ACTIVE, the package enters ACTIVE. -/
  | packageActive
  /-- RESET_N (R502). An accepted RESET_N pulse performs a package reset. -/
  | resetN (ns : Nat)
  /-- PKG_RESET (R494). STK_RESET.PKG_RESET with KEY 0xA5 resets the package as RESET_N does. -/
  | pkgReset (src : Source) (k : Nat) (v : Reg32)
  /-- WARM_RESET_RETAIN (R484). STK_RESET GO with RETAIN 1 warm-resets the base die, keeping retained state. -/
  | warmResetRetain (src : Source) (k : Nat) (v : Reg32)
  /-- WARM_RESET_NO_RETAIN (R484). STK_RESET GO with RETAIN 0 warm-resets the base die, losing the tile map and the Vitrine. -/
  | warmResetNoRetain (src : Source) (k : Nat) (v : Reg32)
  /-- BASE_DIE_RESET_RELEASE (R484). At 1 µs the reset is released, and Docent boots, reloads package state and restores service. -/
  | baseDieResetRelease (k : Nat)
  /-- BST_REQUEST (R485). BST_CTRL GO with MODE 0 starts a request self-test in MAINTENANCE, or is rejected. -/
  | bstRequest (src : Source) (k : Nat) (v : Reg32)
  /-- BST_SHUTDOWN (R489). BST_CTRL GO with MODE 1 starts a SHUTDOWN self-test ending in self-refresh. -/
  | bstShutdown (src : Source) (k : Nat) (v : Reg32)
  /-- BST_CANCEL (R490). A write of CANCEL stops the current phase and runs RESTORE and RECORD. -/
  | bstCancel (src : Source) (k : Nat) (v : Reg32)
  /-- BST_PHASE_DONE (R486). A self-test phase completes and the next selected phase begins. -/
  | bstPhaseDone (k : Nat) (fails : List BstFinding)
  /-- DOC_MBOX_IN_WRITE (R493). A write to DOC_MBOX_IN delivers a word to Docent; a PMBus write of it wakes the package from RETAIN. -/
  | docMboxInWrite (src : Source) (k : Nat) (v : Reg32)
  /-- WAKE_N (R502). A falling edge of WAKE_N held for at least 200 ns is a wake event. -/
  | wakeN (ns : Nat)
  /-- CLEAR_FAULTS (R505). PMBus CLEAR_FAULTS clears the STATUS_WORD bits. -/
  | clearFaults
  /-- CAPABILITY (R505). PMBus CAPABILITY returns 0xC0. -/
  | capability
  /-- STATUS_WORD (R505). PMBus STATUS_WORD returns the VIN, temperature and CML status. -/
  | statusWord
  /-- READ_VIN (R505). PMBus READ_VIN returns the lowest tile sample. -/
  | readVin
  /-- READ_IIN (R505). PMBus READ_IIN returns the sum of the tile input currents. -/
  | readIin
  /-- READ_TEMPERATURE_1 (R505). PMBus READ_TEMPERATURE_1 returns the hottest value in use. -/
  | readTemperature1
  /-- READ_TEMPERATURE_2 (R505). PMBus READ_TEMPERATURE_2 returns the hottest lid sensor. -/
  | readTemperature2
  /-- READ_PIN (R505). PMBus READ_PIN returns the package input power. -/
  | readPin
  /-- PMBUS_REVISION (R505). PMBus PMBUS_REVISION returns 0x33. -/
  | pmbusRevision
  /-- MFR_MGMT_ADDR (R505). PMBus MFR_MGMT_ADDR sets the management address for MFR_MGMT_DATA. -/
  | mfrMgmtAddr (v : Reg32)
  /-- MFR_MGMT_DATA_READ (R505). A PMBus block read of MFR_MGMT_DATA performs a management read at MFR_MGMT_ADDR. -/
  | mfrMgmtDataRead
  /-- MFR_MGMT_DATA_WRITE (R505). A PMBus block write of MFR_MGMT_DATA performs a management write, acknowledged once applied. -/
  | mfrMgmtDataWrite (v : Reg32)
  /-- MFR_MGMT_STATUS (R505). PMBus MFR_MGMT_STATUS returns the status of the last management access. -/
  | mfrMgmtStatus
  /-- PMBUS_UNSUPPORTED (R504). An unlisted PMBus command is NACKed at its command byte and sets CML. -/
  | pmbusUnsupported (code : Byte)
  /-- BYPASS (R507). The TAP BYPASS instruction. -/
  | bypass (k : Nat)
  /-- IDCODE (R506). The TAP IDCODE instruction returns the part's IDCODE. -/
  | idcode (k : Nat)
  /-- SAMPLE_PRELOAD (R507). The TAP SAMPLE/PRELOAD instruction, where the lifecycle state permits it. -/
  | samplePreload (k : Nat) (pins : BitVec 9)
  /-- EXTEST (R507). The TAP EXTEST instruction drives the sideband outputs from the boundary register. -/
  | extest (k : Nat) (pins : BitVec 9)
  /-- CLAMP (R507). The TAP CLAMP instruction. -/
  | clamp (k : Nat)
  /-- HIGHZ (R507). The TAP HIGHZ instruction. -/
  | highz (k : Nat)
  /-- IEEE_1500_WRAPPER_ACCESS (R507). A TAP IEEE 1500 wrapper access instruction, decoded only where the lifecycle state permits it. -/
  | ieee1500WrapperAccess (k : Nat) (code : Byte)
  /-- LOGIC_SCAN (R507). A TAP logic-scan instruction stops the scanned stack's service, where the lifecycle state permits it. -/
  | logicScan (k : Nat) (code : Byte)
  /-- OVP_RESTART (R407). After an OVP shutdown, VIN falling below 18.5 V lets the tiles restart the package. -/
  | ovpRestart
  /-- VIN_BELOW_3V (R412). VIN falling below 3.0 V clears the cause latch, PWR_RESET_CAUSE and BST_LAST.CRIT_FAIL. -/
  | vinBelow3v (k : Nat)
  /-- RESET_N_RELEASE (R502). The release of a RESET_N held low lets the start-up sequence proceed from its hold after step 2, with the 3 ms bound of step 3 counted from the release. -/
  | resetNRelease
  /-- PLL_LOCK (R385). A PLL restarted under start judgement reaches lock, with its lock indicator held for 2 µs, or exhausts its retries, ending the stack's PLL recovery. -/
  | pllLock (k : Nat) (pll : Pll) (locked : Bool)
  /-- OTP_CMD_DONE (R443). An OTP command's burn or sensing completes: RESULT and DONE are set, CMD_DONE pulses, and any waiting calibration or RETAIN request proceeds. -/
  | otpCmdDone (k : Nat)
  /-- DOC_CMD_DONE (R493). A DOC_CMD repair or training completes: RESULT and DONE are set and CMD_DONE pulses. -/
  | docCmdDone (k : Nat)
  /-- CHECKER_LOCK (R328). In TEST, a lane's checker locks after 64 error-free pattern symbols and then counts TEST_SYMBOLS and TEST_ERRORS. -/
  | checkerLock (p : Nat) (lane : Nat) (symbols : List Nat)
  deriving DecidableEq, Repr

end Sys2Proof
end

