-- ==== Sys2Proof/Decode.lean ====
section
/-! DEFINITION. The command that a word spells. spec/opcode_table.json gives no row any bits: commands reach the block
as register accesses, messages and events, not as encoded words. -/

namespace Sys2Proof

/-- No row of the table has bits, so no word spells a command. (DEDUCED, notes/assumptions/22.md) -/
def decodeTableWord (_nbits _w : Nat) : Option Instr := none

end Sys2Proof
end

