-- ==== Sys2Proof/Config.lean ====
section
/-! DEFINITION. What the spec leaves open, as constants without a body: nothing in Lean can evaluate them or
prove a value of them. Each is named in the assumption log. -/

namespace Sys2Proof.Config

/-- A free value for the n-th draw; State.free counts the draws (DESIGN CHOICE, notes/assumptions/1.md). -/
opaque freeNat : Nat → Nat

/-- The output of the layered min-sum decoder (R311) for 2,048 received 6-bit soft values, after at most
8 iterations: the codeword and the number of iterations. The spec gives the decoder's parameters but not its
message arithmetic to the bit (DESIGN CHOICE, notes/assumptions/6.md). -/
opaque ldpcDecode : List Int → BitVec 2048 × Nat

/-- The ECDSA P-256 check of R439 against the public key held in Docent's ROM, over nonce, serial number and
signature (DESIGN CHOICE, notes/assumptions/7.md). -/
opaque svcSignatureValid : Nat → Nat → Nat → Bool

/-- DOC_STATUS.ROM_VERSION, "per ROM" (R493) (DESIGN CHOICE, notes/assumptions/8.md). -/
opaque romVersion : BitVec 16

/-- The pseudo-LRU choice of R213: the spec names pseudo-LRU without giving its tree. The victim's position among n
eligible ways (taken modulo n), from the set's state (DESIGN CHOICE, notes/assumptions/5.md). -/
opaque plruVictim : Nat → Nat → Nat

/-- The set's pseudo-LRU state after a touch of a way (DESIGN CHOICE, notes/assumptions/5.md). -/
opaque plruTouch : Nat → Nat → Nat

/-- Initial value of the CRC-16 of a training block (R320): the spec gives the polynomial alone
(DESIGN CHOICE, notes/assumptions/15.md). -/
opaque trainCrcInit : Nat

/-- Initial value of the OTP array's CRC-8 and CRC-16 by width (R432, R440): the spec gives the polynomials alone
(DESIGN CHOICE, notes/assumptions/16.md). -/
opaque otpCrcInit : Nat → Nat

/-- Unity of a VSENSE_GAIN coefficient (R441): the spec does not give its encoding (DESIGN CHOICE, notes/assumptions/17.md). -/
opaque vsenseUnity : BitVec 28

/-- Channel, pseudo-channel and pin of the vendor lane-repair map's shifts, from the content of CRITICAL: the spec does not
give the map's format (R431, R481; DESIGN CHOICE, notes/assumptions/17.md). -/
opaque vendorShifts : Nat → List (Nat × Nat × Nat)

end Sys2Proof.Config
end

