-- ==== Sys2Proof/Machine/State.lean ====
section
/-! DEFINITION. The state of one Abaxel package as plain data: the register files of every page, the request path,
the near-data engines, the Vitrine, the channels, the tile-state map, the Nimnex ports, the Registrar, clocks, power,
thermal, OTP, self-test, PMBus and TAP, with the queue of waiting commands. -/

namespace Sys2Proof.Machine

/-- The parts of R1: stacks and memory dies per stack. (DESIGN CHOICE, notes/assumptions/25.md) -/
inductive Part where
  | ax8h16 | ax4h16 | ax2h16 | ax8h12 | ax4h12 | ax2h12
  deriving DecidableEq, Repr

/-- The lid suffix of R2. (DESIGN CHOICE, notes/assumptions/25.md) -/
inductive Lid where
  | c | a
  deriving DecidableEq, Repr

/-- The virtual channels of R104, in the order of VCSEL's codes (R341). -/
inductive Vc where
  | req | rsp | fwd | mgmt
  deriving DecidableEq, Repr

/-- Tile states (R275). -/
inductive TileState where
  | invalid | opened | sealed | retired
  deriving DecidableEq, Repr

/-- Package modes (R27, R392, R403); `starting` is the start-up sequence (R477), `lost` the loss of every reference
(R386). `leavingLost` and `leavingRetain` are the exits of R387 and R396. -/
inductive PkgMode where
  | off | starting | active | idle | enteringRetain | retain | leavingRetain | lost
  deriving DecidableEq, Repr

/-- A stack's own mode beside the package mode (R27, R403); `maintPending` is an accepted MAINTENANCE request whose
request table is not yet empty (R24). -/
inductive StkMode where
  | asPackage | maintPending | maintenance | safe
  deriving DecidableEq, Repr

/-- A memory or near-data request on its way (R106), with what the arrival port fixed once (R113, R154). -/
structure Req where
  rid     : Nat
  /-- arrival package port (R110). -/
  port    : Nat
  vc      : Vc
  /-- the role the port had on arrival (R363). -/
  role    : Nat
  /-- OPCODE (R108, R179). -/
  op      : Nat
  reqId   : Nat
  tag     : Nat
  len     : Nat
  label   : Nat
  addr    : BitVec 48
  dlValid : Bool
  dlFrame : Nat
  dlSlot  : Nat
  poisonIn : Bool
  hops    : Nat
  /-- header bytes 18 to 31. -/
  param   : BitVec 112
  /-- a reserved field of header bytes 0 to 17 is not 0 (R107). -/
  rsvd    : Bool
  /-- data words with their poison bits (R126). -/
  data    : List (Word × Bool)
  /-- class code of R152: 0 to 3 are G0 to G3, 4 to 15 are B0 to B11. -/
  cls     : Nat
  /-- best-effort class of the words beyond the reservation, as a class code. -/
  ovf     : Nat
  /-- local ticks remaining to the deadline (R43, R113); negative when overdue. -/
  dlTicks : Int
  dlOff   : Nat
  /-- frames waited since the token bucket last allowed it (R142). -/
  wait    : Nat
  aged    : Bool
  /-- frames waited in the admission queue (R144). -/
  admWait : Nat
  /-- serving stack (R19 step 5). -/
  home    : Nat
  deriving DecidableEq, Repr

/-- A response (R114), or a management response (R127). -/
structure Resp where
  rid      : Nat
  /-- the port it leaves on (R20). -/
  port     : Nat
  vc       : Vc
  op       : Nat
  posted   : Bool
  status   : Nat
  reqId    : Nat
  tag      : Nat
  data     : List (Word × Bool)
  opStatus : Nat
  addr     : BitVec 48
  doneFrame : Nat
  /-- header bytes 16 to 31. -/
  inline   : BitVec 128
  deriving DecidableEq, Repr

/-- One element access of a descriptor (R178, R191, R192). `src` and `dst` are package offsets, out of range where
the descriptor's arithmetic leaves the 40-bit space (R193). -/
structure Elem where
  idx     : Nat
  src     : Option Int
  dst     : Option Int
  value   : BitVec 128
  deriving DecidableEq, Repr

/-- Progress of a descriptor operation in a GTH context (R178). -/
structure Gth where
  todo     : List Elem
  /-- gathered element values in index order, with a failed flag and a poison flag. -/
  results  : List (BitVec 256 × Bool × Bool)
  fails    : List Nat
  poisoned : Bool
  opStatus : Nat
  deriving DecidableEq, Repr

/-- A request-table entry (R140). -/
structure Entry where
  req     : Req
  /-- every word so far was charged to the class's budget (R157). -/
  inRes   : Bool
  /-- the completed request's responses, waiting for RSP egress (R133, R140). -/
  done    : Option (List Resp)
  /-- stacks that have cleared their tiles of a RANGE_ZERO span, and RETIRED tiles skipped so far (R109). -/
  rzDone  : List Nat
  rzSkip  : Nat
  gth     : Option Gth
  /-- ticks since the entry was allocated (R167). -/
  seen    : Nat
  deriving DecidableEq, Repr

/-- A management message in MGMT ingress (R127). -/
structure MgmtMsg where
  op     : Nat
  reqId  : Nat
  tag    : Nat
  /-- ADDR that the response echoes. -/
  addr   : BitVec 48
  maddr  : Reg32
  wdata  : Reg32
  /-- a reserved field is not 0 (R107, R127). -/
  rsvd   : Bool
  slots  : Nat
  deriving DecidableEq, Repr

/-- A forward record of an egress port (R368). -/
structure FwdRec where
  idx     : Nat
  req     : Req
  /-- stack that holds the record: the egress port's. -/
  age     : Nat
  posted  : Bool
  deriving DecidableEq, Repr

/-- A forwarded request waiting for link transmission, as rewritten (R368). -/
structure FwdMsg where
  header : Word
  data   : List (Word × Bool)
  deriving DecidableEq, Repr

/-- A message being received flit slot by flit slot (R105, R340): its virtual channel, header and words so far. -/
structure Partial where
  vc     : Vc
  header : Word
  words  : List Word
  owed   : Nat
  deriving DecidableEq, Repr

/-- States of a port's lanes (R318), in the code order of NXL_STATUS.STATE (R333). -/
inductive LaneState where
  | detect | laneMap | train | align | linkInit | active | test
  deriving DecidableEq, Repr

/-- Burst-idle state of a receive lane (R324 to R326). -/
inductive RxBurst where
  | running | parked | acquiring
  deriving DecidableEq, Repr

/-- One lane: its transmit FIR (R315), receive settings (R317), and receive state. Indexed by logical lane. -/
structure Lane where
  pre       : Nat
  post      : Nat
  preset    : Nat
  preSts    : Nat
  postSts   : Nat
  ctle      : Nat
  vga       : Nat
  dfe1      : Int
  dfe2      : Int
  dfe3      : Int
  eyeHigh   : Nat
  eyeMid    : Nat
  eyeLow    : Nat
  iterPeak  : Nat
  iterLast  : Nat
  frozen    : Bool
  rx        : RxBurst
  /-- wake markers received since squelch (R324). -/
  wakeMarks : Nat
  /-- consecutive failures (R326) and whether the count is held until the next marker. -/
  fails     : Nat
  failHeld  : Bool
  /-- descrambler state, the last 58 received bits (R307). -/
  scramRx   : BitVec 58
  /-- periods without a marker (R314). -/
  noMarker  : Nat
  /-- consecutive markers in place. -/
  markRun   : Nat
  /-- transmit line: scrambler state, units waiting for a codeword, the stuffing count, stuff symbols of the period, and the symbols
  last sent (R307, R312, R313, R338). -/
  txScram   : BitVec 58
  txUnits   : List (BitVec 64)
  txRun     : Nat × Nat
  txStuffs  : Nat
  line      : List Nat
  /-- receive line: the destuffing count, and units that wait for the other lanes, with those of failed codewords marked. -/
  rxRun     : Nat × Nat
  rxUnits   : List (BitVec 64 × Bool)
  /-- transmit FIR and preset of the last training (R328). -/
  fir       : Option (Nat × Nat × Nat)
  /-- symbols of a single or burst injection still to hit, and the symbols since the last error of a rate (R329). -/
  injLeft   : Nat
  injCount  : Nat
  /-- test generator, checker register and the checker's error-free symbols (R328). -/
  gen       : Nat
  chk       : Nat
  chkRun    : Nat
  chkLocked : Bool
  /-- training: partner's RX_READY run, own RX_READY, partner's CAP_B and RATE_B (R320, R321). -/
  rdyRun    : Nat
  partnerCapB  : Bool
  partnerRateB : Nat
  deriving DecidableEq, Repr

/-- An NX port: ingress and egress buffers (R129), credits (R130 to R134), buckets (R159), link layer (R338 to R355)
and lanes (R302 to R330). -/
structure Port where
  ingress   : List Req
  /-- FENCEs that have left ingress and wait for the earlier requests of their contexts (R121). -/
  fences    : List Req
  mgmtIn    : List MgmtMsg
  rspIn     : List Resp
  /-- RSP ingress space reserved for the responses of forwarded requests (R368). -/
  rspInRsv  : Nat
  fwdOut    : List FwdMsg
  rspOut    : List Resp
  /-- responses that ended their requests at the port while RSP egress was full (R133). -/
  rspWait   : List Resp
  mgmtOut   : List Resp
  /-- raw package-originated MGMT messages (IRQ, TELEMETRY) ready to send. -/
  mgmtRaw   : List (List Word)
  /-- credits the sender holds per context; unlisted: the granted profile (R130, R350). -/
  ctxCred   : SMap Int
  /-- outstanding requests per context (R132). -/
  outst     : SMap Nat
  /-- peer credits held per downstream REQ_ID (R136). -/
  peerCred  : SMap Nat
  mgmtCred  : Nat
  rspAvail  : Nat
  mgmtAvail : Nat
  rspGranted  : Nat
  mgmtGranted : Nat
  /-- releases in the round of the best-effort classes, and the last context released, per class code (R138, R158). -/
  wrr       : SMap Nat
  rrCtx     : SMap Nat
  /-- token bucket counts per label in 1/8 word; unlisted: full (R159). -/
  buckets   : SMap Int
  fwdRecs   : List FwdRec
  /-- record indices that ended with TIMEOUT, oldest first: their responses may still come (R117, R370). -/
  staleRecs : List Nat
  rspStallFrames : Nat
  rspStalled : Bool
  /-- link layer: receive side. -/
  rxExpect  : Nat
  rxPeriodSeq : Nat
  nakPending : Bool
  unacked   : Nat
  parse     : Option Partial
  rxVc      : Vc
  /-- link layer: transmit side. -/
  txNext    : Nat
  replay    : List (Nat × List Word)
  txAcked   : Nat
  nakRx     : Option Nat
  replayFrom : Option Nat
  replayRun : Nat
  /-- the first period of the last replay has not ended; stored flits still to be resent (R345). -/
  replayFresh : Bool
  resend    : List (Nat × List Word)
  noProgress : Nat
  lackDue   : Bool
  lcrdOut   : List (Nat × Nat)
  rspRet    : Nat
  mgmtRet   : Nat
  txEvent   : Nat
  txVc      : Vc
  /-- rest of the message being sent, and the last flit sent. -/
  txQueue   : List Word
  txFlit    : List Word
  /-- framing A: the flits of the group being sent, and the lanes on which the next blocks sent and received begin (R338, R339). -/
  groupOut  : List (List Word)
  txBlock   : Nat
  rxBlock   : Nat
  /-- marker count (R305), and flit times in a row with nothing to send (R323). -/
  txSeq     : Nat
  idleFlits : Nat
  /-- flits since the last that carried FWD while FWD waits (R351). -/
  fwdSkip   : Nat
  lastTrailer : List (BitVec 56)
  /-- LINK_INIT (R350, R353). -/
  seenTx    : Bool
  seenRx    : Bool
  resume    : Bool
  partnerResume : Bool
  /-- lanes. -/
  lstate    : LaneState
  held      : Bool
  tries     : Nat
  framingB  : Bool
  phaseB    : Bool
  reversed  : Bool
  polarity  : BitVec 8
  physLane  : List Nat
  lanes     : List Lane
  txParked  : Bool
  rateBSent : Bool
  wasActive : Bool
  injBusy   : Bool
  unusable  : Bool
  /-- responses of requests older than this are discarded at RSP egress: they arrived before a link reset (R354). -/
  dropBelow : Nat
  deriving DecidableEq, Repr

/-- A Vitrine line (R208, R209), identified by its physical place: channel, SID, PC, bank group, bank, row, the line
within its 1 KiB row, and the PARITY bit. -/
structure Line where
  ch     : Nat
  sid    : Nat
  pc     : Nat
  bg     : Nat
  bank   : Nat
  row    : Nat
  line   : Nat
  parity : Bool
  way    : Nat
  valid  : BitVec 8
  dirty  : BitVec 8
  poison : BitVec 8
  data   : BitVec 2048
  pin    : Bool
  label  : Nat
  cls    : Nat
  deriving DecidableEq, Repr

/-- An open-list entry (R281); `tile` is the tile's index in its stack. -/
structure OpenEnt where
  tile  : Nat
  since : Nat
  last  : Nat
  deriving DecidableEq, Repr

/-- A bank of a pseudo-channel: refresh debt and pointer (R240, R242), tracker (R244), open row and in-order service (R122,
R236). -/
structure Bank where
  debt   : Int
  ptr    : Nat
  track  : List (Nat × Nat)
  spill  : Nat
  /-- the row that the bank holds open (R234). -/
  openRow : Option Nat
  /-- writes that were pending when the bank switched to in-order service (R122); none left: first-ready service. -/
  inOrder : List Nat
  /-- refresh spacings since the dies left self-refresh (R240). -/
  spaced : Nat
  /-- refreshes and activations of the bank in the frame, each bounded by its timing (R234, R246). -/
  refs   : Nat
  acts   : Nat
  /-- guaranteed requests that were pending at the bank's last forced refresh (R242). -/
  waited : List Nat
  deriving DecidableEq, Repr

/-- A queued targeted refresh (R245): bank, rows, frames waited, promoted. -/
structure Targeted where
  bank     : Nat
  rows     : List Nat
  age      : Nat
  promoted : Bool
  deriving DecidableEq, Repr

/-- A write-back that waits in its bank's queue (R122, R219, R237): bank, row, class and label it is charged to, its age,
whether it belongs to a VIT_OP, and the requests that entered the bank's queue before it. -/
structure Wb where
  bank  : Nat
  row   : Nat
  cls   : Nat
  label : Nat
  wait  : Nat
  op    : Bool
  older : List Nat
  deriving DecidableEq, Repr

/-- A pseudo-channel. -/
structure PChan where
  banks    : SMap Bank
  targeted : List Targeted
  powerDown : Bool
  selfRefresh : Bool
  paused   : Bool
  /-- per-pin delays and Vref (R263), as CTL_DLY words; unlisted: the reset value. -/
  dly      : SMap Reg32
  /-- local tick of the last tracking pass (R253). -/
  trkLast  : Nat
  /-- the tracking pass of R249 step 3 is due. -/
  trkDue   : Bool
  /-- slots used in the frame, per class code, and slots forced refresh took from Gk (R50, R157). -/
  used     : SMap Nat
  forcedTaken : SMap Nat
  /-- window slots used in the frame per activity of R48, and slots of work begun that an activity still owes (R49). -/
  win      : SMap Nat
  owed     : SMap Nat
  /-- slots of the turnaround reserve used in the frame (R238). -/
  turnUsed : Nat
  /-- slots of the frame that work begun in the frame before takes. -/
  carry    : Nat
  /-- direction of the last word on the bus: true is a write (R238). -/
  lastWrite : Option Bool
  /-- a drain of writes is on (R237). -/
  drain    : Bool
  /-- write-backs that wait in the bank queues, in the order in which they were produced (R122, R219, R237). -/
  wbq      : List Wb
  /-- services in the round of the best-effort classes, per class code (R158). -/
  wrr      : SMap Nat
  /-- frames since the last foreground access (R248). -/
  quiet    : Nat
  /-- at T1 and T2, slots that best-effort has been given since the last one left idle (R417). -/
  bePhase  : Nat
  /-- what the training row holds: the pattern last written to it, with the user pattern; the data of a tracking pass are code 6
  (R250, R253). -/
  trnRow   : Option (Nat × BitVec 64)
  /-- guaranteed classes that used a slot of the frame, in any class (R167). -/
  asked    : List Nat
  deriving DecidableEq, Repr

/-- A training operation as GO started it (R250 to R253, R258 to R260): its registers and the outcome. -/
structure TrnRun where
  mode    : Nat
  pc      : Nat
  target  : Nat
  param   : Nat
  bursts  : Nat
  start   : Nat
  stop    : Nat
  step    : Nat
  pattern : Nat
  user    : BitVec 64
  res     : TrnResult
  deriving DecidableEq, Repr

/-- A channel and its column (R16). -/
structure Chan where
  pcs      : List PChan
  /-- per-pin error counts and pass maps of the last training operation (R262). -/
  trnErr   : List Nat
  trnMap   : List (BitVec 128)
  unusable : Bool
  viUnusable : Bool
  nduUnusable : Bool
  /-- CTL_DLY writes that take effect at the next tick (R252). -/
  dlyPend  : List (Nat × Reg32)
  /-- the training operation that is running (R250 to R253). -/
  trnPend  : Option TrnRun
  /-- resident accumulators, least recently used first: tile and word (R190). -/
  accs     : List (Nat × Nat)
  /-- pseudo-LRU state per set (R208). -/
  plru     : SMap Nat
  deriving DecidableEq, Repr

/-- A report waiting at the intake with its tally (R453). -/
structure Waiting where
  source : BitVec 16
  kind   : Nat
  sev    : Nat
  addr   : BitVec 48
  frame  : Nat
  tally  : Nat
  saturated : Bool
  /-- an intake cycle has passed it over: its producer keeps it waiting. -/
  kept   : Bool
  /-- page and PAGE_ERR bit it came through, for the mark of R462. -/
  bit    : Option (Nat × Nat)
  deriving DecidableEq, Repr

/-- A Registrar record (R455). -/
structure Rec where
  source : BitVec 16
  kind   : Nat
  sev    : Nat
  level  : Nat
  esc    : Bool
  addr   : BitVec 48
  frame  : Nat
  sysId  : Nat
  seq    : Nat
  deriving DecidableEq, Repr

/-- The Registrar of a stack (R449 to R460). -/
structure Registrar where
  waiting : List Waiting
  /-- per-kind 16-bit counters (R453). -/
  kcnt    : SMap Nat
  /-- current levels that differ from the default, this stack's copy (R452). -/
  levels  : SMap Nat
  fifo    : List Rec
  log     : SMap Rec
  logNext : Nat
  seq     : Nat
  /-- records written but not yet mirrored (R456). -/
  toMirror : List Rec
  mirror  : SMap Rec
  mirNext : Nat
  /-- PAGE_ERR bits whose reports since the last clear were decided FENCE or HALT (R462), per page. -/
  marks   : SMap (BitVec 32)
  archWords : SMap (BitVec 32)
  archAddr : SMap Nat
  /-- first free-value draw of the Archive's sections whose layout the spec does not give. -/
  archFree : Nat
  /-- REG reports since the last telemetry message, per severity, and DROPPED (R470). -/
  telCnt  : List Nat
  telDrop : Nat
  fenceNow : Bool
  deriving DecidableEq, Repr

/-- A row-event or lane-event count (R289). -/
structure Evt where
  key    : Nat
  count  : Nat
  opened : Nat
  deriving DecidableEq, Repr

/-- Thermal control (R414 to R420); temperatures in 0.25 °C. -/
structure Thermal where
  base     : List Int
  baseUse  : List Int
  baseDis  : List Nat
  baseExcl : List Bool
  mem      : List Int
  memUse   : List Int
  memDis   : List Nat
  memAgree : List Nat
  suspect  : List Bool
  /-- values in use at the previous memory-die read cycle, and the estimates E_d (R415). -/
  memPrev  : List Int
  est      : List Int
  /-- die, suspect flag and value in use that a marking or a clearing brings at the next tick (R415, R420). -/
  memNext  : List (Nat × Bool × Int)
  lid      : Int
  lidUse   : Int
  /-- stage in force, the stage that temperatures and the rate alarm hold, and one to take effect at the next tick (R417). -/
  stage    : Nat
  tstage   : Nat
  stageNext : Option Nat
  holdDown : Nat
  tierHold : Nat
  ror      : Bool
  /-- per-frame history of the values in use: local tick and values (R418). -/
  hist     : List (Nat × List Int)
  /-- samples every 64 frames: values in use, stage, tier, frame (R465). -/
  samples  : List (List Int × Nat × Nat × Nat)
  t4InLow  : Bool
  /-- local tick of the last read of the memory-die sensors (R241). -/
  memLast  : Nat
  /-- the memory-die sensors have been read since start. -/
  memRead  : Bool
  deriving DecidableEq, Repr

/-- Power control of a stack (R407 to R413). -/
structure Power where
  vinMv   : Nat
  /-- lowest sample since the source's last read; unlisted: none (R421). -/
  vinMin  : SMap Nat
  vinLow  : Nat
  pin     : Nat
  iin     : Nat
  tileMode : Nat
  ilimit  : Bool
  ilimitT3 : Bool
  /-- frames since the tile last reached its limit (R412). -/
  ilimitFree : Nat
  railMv  : List Nat
  railOk  : List Bool
  railsRun : Bool
  memFault : Bool
  capReported : Bool
  deriving DecidableEq, Repr

/-- The always-on latches (R412, R488): kept while VIN stays above 3.0 V. (DEDUCED, notes/assumptions/34.md) -/
structure Latch where
  cause     : BitVec 6
  critFail  : Bool
  /-- a brown-out that no start has reported yet. -/
  brownNew  : Bool
  lastPass  : Bool
  deriving DecidableEq, Repr

/-- Clock unit of a stack (R378 to R391). -/
structure Clock where
  corePll : Nat
  fixPll  : Nat
  coreBad : Nat
  fixBad  : Nat
  coreLastFail : Option Nat
  fixLastFail  : Option Nat
  portBad : List Nat
  docPll  : Bool
  /-- a failed PLL restarts: the stack behaves as under loss of reference (R385). -/
  recovering : Bool
  /-- the last mode GO was rejected (R403). -/
  rejected : Bool
  deriving DecidableEq, Repr

/-- The OTP array and its controller (R428 to R446). -/
structure Otp where
  /-- the two cells of each logical bit: words of cell A and of cell B (R428). -/
  cellA   : SMap (BitVec 32)
  cellB   : SMap (BitVec 32)
  /-- bits (word × 32 + bit) whose tight-margin read differs from the normal read (R430). -/
  weak    : List Nat
  lifecycle : Nat
  lcFallback : Bool
  conservative : Bool
  checkFail : List Bool
  marginal : List Nat
  /-- DECLARED, FOUND and EXT_FOUND per region, parsed at start (R432, R433). -/
  counts  : List (Nat × Nat × Nat)
  /-- catalogue record in use per type: slot, SEQ, payload; none is nominal (R440). -/
  inUse   : List (Option (Nat × Nat × BitVec 224))
  /-- a calibrated record that takes effect at the next tick: type, slot, SEQ, payload (R442). -/
  calNext : Option (Nat × Nat × Nat × BitVec 224)
  svcOpen  : Bool
  svcFails : Nat
  nonce    : BitVec 64
  sig      : SMap (BitVec 32)
  /-- result that OTP_CMD_DONE will show for the running command (R443). -/
  pendRes  : Option Nat
  /-- a running calibration: type, first run, local tick of the first run (R442). -/
  cal      : Option (Nat × List Int × Nat)
  /-- a CAL GO waiting for an OTP command to end: type and first run (R442). -/
  calWait  : Option (Nat × List Int)
  deriving DecidableEq, Repr

/-- Self-test engine (R485 to R490). -/
structure Bst where
  phase   : Nat
  sel     : Nat
  mode    : Bool
  noBurn  : Bool
  cancelPend : Bool
  fails   : List (BstFinding × Bool)
  saveValid : Bool
  /-- channels whose shares hold the save image's stripes, the header's first, and the tile-state map in it (R4, R487). -/
  saveAt    : List Nat
  saveTiles : SMap TileState
  shutdown : Bool
  t4Pend  : Bool
  deriving DecidableEq, Repr

/-- Docent and the start-up sequence of a stack (R477 to R482, R493). -/
structure Docent where
  bootStep : Nat
  startOk  : Bool
  startFail : Bool
  heldSafe : Bool
  /-- command in progress: op and result (R493). -/
  cmd      : Option (Nat × Nat)
  /-- spare rows used (ch, pc, sid, bg, index, bank, row) and lane shifts (ch, pc, pin) in force (R481). -/
  spares   : List (List Nat)
  shifts   : List (Nat × Nat × Nat)
  /-- the telemetry ring of the service area (R4): the last 65,536 records, and the next place. -/
  telRing  : SMap (BitVec 128)
  telPos   : Nat
  deriving DecidableEq, Repr

/-- A seal in progress (R282 to R284). -/
structure Seal where
  tile   : Nat
  forced : Bool
  deriving DecidableEq, Repr

/-- Frame timer of a stack (R38, R39, R43). -/
structure Timer where
  frame    : Nat
  /-- local ticks, aged on wake (R43, R53). -/
  ticks    : Nat
  tier     : Nat
  tierKnown : Bool
  /-- the tier that the next tick brings (R46). -/
  tierNext : Option Nat
  halved   : Bool
  capShort : Bool
  /-- the counter takes the aggregator's value at the next tick (R39, R484). -/
  align    : Bool
  deriving DecidableEq, Repr

/-- One stack: its register files, its copy of the package pages (R17), and its blocks (R16). -/
structure Stack where
  /-- stack-window registers that differ from their reset value, by window offset. -/
  regs     : SMap Reg32
  /-- this stack's copy of the package window, by window offset. -/
  pkgRegs  : SMap Reg32
  /-- live and staged label table, three words per label: key 4L + word (R89, R152). -/
  labels   : SMap Reg32
  stLabels : SMap Reg32
  /-- 64-bit counters by window offset (R79). -/
  cnt      : SMap Nat
  /-- high-word latches by window page and source (R88). -/
  latch    : SMap Nat
  mode     : StkMode
  /-- the stack mode that the next tick brings (R392). -/
  stkNext  : Option StkMode
  /-- the base die is under reset, until Docent has restored service (R484). -/
  rst      : Bool
  resetRetain : Bool
  /-- SAFE entered and step 2 of R461 not yet complete. -/
  safeEntry : Bool
  upFailed   : Bool
  downFailed : Bool
  admQ     : List Req
  table    : List Entry
  tiles    : SMap TileState
  openList : List OpenEnt
  seals    : List Seal
  overflow : Bool
  sweepPos : Nat
  sweepDirty : Bool
  /-- allocations in the round of the best-effort classes, per class code (R143, R158). -/
  wrr      : SMap Nat
  /-- refresh phase per SID in 1/25,000 of a spacing, and the interval code in force per SID (R240 to R243). -/
  refPhase : List Nat
  sidIv    : List Nat
  /-- tiles visited in the scrub pass in progress (R287). -/
  scrubSeen : List Nat
  scrubStart : Nat
  /-- lines that the SRAM scrub pass of each slice has read, one bit each, and the local tick at which the pass began (R222). -/
  vitScrubSeen : List Nat
  vitScrubStart : List Nat
  lines    : List Line
  /-- logic scan has stopped this stack's service (R507). -/
  scanned  : Bool
  chans    : List Chan
  budget   : List Nat
  /-- the SCB registers in force, which take a write at the next tick (R298). -/
  scb      : SMap Reg32
  rowEvts  : List Evt
  laneEvts : SMap Evt
  rg       : Registrar
  th       : Thermal
  pw       : Power
  latches  : Latch
  clk      : Clock
  otp      : Otp
  bst      : Bst
  doc      : Docent
  tm       : Timer
  deriving DecidableEq, Repr

/-- Phase of the COMMIT in progress (R92). -/
inductive CommitPhase where
  | none | checking | prepared | confirmed | aborted | done
  deriving DecidableEq, Repr

/-- A write held from the acceptance of a COMMIT to DONE (R92 step 2), with the management message that still waits for
its response. -/
structure HeldWrite where
  src  : Source
  addr : Nat
  v    : Nat
  msg  : Option (Nat × MgmtMsg)
  deriving DecidableEq, Repr

/-- The COMMIT sequencer of the aggregator (R92 to R97). -/
structure Commit where
  phase    : CommitPhase
  checkOnly : Bool
  /-- the target tick T as a local-tick count of the aggregator (R94). -/
  target   : Nat
  /-- stacks that have received APPLY, whose acknowledgement has arrived, and that hold CONFIRM (R92). -/
  applied  : List Nat
  acked    : List Nat
  got      : List Nat
  /-- STATUS and FAIL_STACK that COMMIT_COMPLETE will show (R100). -/
  status   : Nat
  failStack : Nat
  /-- writes held, in arrival order (R92 step 2). -/
  held     : List HeldWrite
  deriving DecidableEq, Repr

/-- A pending or sent interrupt message (R128). -/
structure Irq where
  kind   : Nat
  count  : Nat
  source : Reg32
  detail : Reg32
  frame  : Nat
  deriving DecidableEq, Repr

/-- A guarantee-miss event on its way to the SCH copies (R168). -/
structure Miss where
  late   : Bool
  stack  : Nat
  ch     : Nat
  pc     : Nat
  cls    : Nat
  frame  : Nat
  label  : Nat
  deriving DecidableEq, Repr

/-- The reference (R380 to R387): REF_STATE codes of R400, 4 is FAILOVER. -/
structure Reference where
  state   : Nat
  index   : Nat
  port    : Nat
  qual    : List Bool
  srcStack : Nat
  /-- the CLK_REF write that takes effect at the next tick, with the sources it names that are qualified (R399). -/
  refPend : Option (Reg32 × List Bool)
  deriving DecidableEq, Repr

/-- PMBus target state (R504, R505). -/
structure Pmbus where
  addr    : Reg32
  /-- bits of STATUS_WORD: VIN_UV, VIN_OV, temperature, CML. -/
  uvFault : Bool
  ovFault : Bool
  tempFault : Bool
  cml     : Bool
  /-- MFR_MGMT_STATUS. -/
  mgmt    : Nat
  /-- the last value read, and whether the last transaction was acknowledged. -/
  out     : Nat
  ack     : Bool
  strap   : Nat
  deriving DecidableEq, Repr

/-- A TAP of a stack (R506, R507). -/
structure Tap where
  ir      : Byte
  dr      : Nat
  /-- boundary register, from bit 0: RESET_N, WAKE_N, PWR_GOOD, THERM_N, ALIVE, SMB_CLK, SMB_DAT, SMB_A0, SMB_A1. -/
  boundary : BitVec 9
  deriving DecidableEq, Repr

/-- Sideband pins (R499, R502, R503, R469). -/
structure Pins where
  resetN  : Bool
  wakeN   : Bool
  pwrGood : Bool
  thermN  : Bool
  alive   : Bool
  vinAbove3 : Bool
  ovpHeld : Bool
  deriving DecidableEq, Repr

/-- A HALT on its way over SYS (R463): kind, SOURCE, record, and the stacks that have received it. -/
structure Halt where
  kind   : Nat
  source : BitVec 16
  got    : List Nat
  record : Option Rec
  deriving DecidableEq, Repr

/-- The machine. -/
structure State where
  /-- commands waiting, first in first out. -/
  pending : List Instr
  part    : Part
  lid     : Lid
  /-- the model's own field: draws of free values so far (DESIGN CHOICE, notes/assumptions/1.md). -/
  free    : Nat
  stks  : List Stack
  ports   : List Port
  /-- bytes of the memory dies, 36 per stored word, canonical (R267, R271). -/
  dies    : List Host.Cell
  /-- requests released from an ingress buffer towards their serving stack (R19 step 5, R139). -/
  transit : List Req
  nextRid : Nat
  /-- requests that completed with TIMEOUT and whose late response is to be discarded (R117). -/
  timedOut : List Nat
  mode    : PkgMode
  agg     : Nat
  aggChosen : Bool
  runLevel : Nat
  /-- the running level that the next tick brings (R37). -/
  levelNext : Option Nat
  supplyCap : Bool
  supplyOk  : Nat
  /-- package-page counters by package-window offset. -/
  pkgCnt  : SMap Nat
  commit  : Commit
  /-- stacks that acknowledged an APPLY whose ABORT did not reach them, with its tick T (R97). -/
  splitDue : List (Nat × Nat)
  miss    : List Miss
  /-- PAGE_ERR bits of package pages to be sent at the next tick: stack, page, bit (R510). -/
  errPend : List (Nat × Nat × Nat)
  /-- the miss events and PAGE_ERR bits that the last tick has sent (R168, R510). -/
  missDue : List Miss
  errDue  : List (Nat × Nat × Nat)
  /-- the number of the frame that begins at the next tick, from an accepted TIME_SYNC (R41, R42). -/
  sync    : Option Nat
  longFrame : Bool
  timeValid : Bool
  timeEst   : Bool
  /-- the estimate of R53 has been added, and the first tick after the stop has not come yet. -/
  afterStop : Bool
  ref     : Reference
  irqs    : List Irq
  telSeq  : Nat
  /-- aggregator's local ticks at the last TELEMETRY due, ALIVE edge and counter comparison (R39, R469, R470). -/
  telLast : Nat
  aliveLast : Nat
  alignLast : Nat
  lastTel : List Word
  halt    : Option Halt
  idleFrames : Nat
  wakeCause  : Nat
  /-- mode that the next tick brings (R392); local tick of the aggregator at which RETAIN entry began (R394). -/
  modeNext   : Option PkgMode
  retainAt   : Nat
  retainWant : Bool
  wakeInEntry : Option WakeCause
  /-- frames for which WAKE_N stays low (R503). -/
  wakeLow    : Nat
  pins    : Pins
  pmbus   : Pmbus
  taps    : List Tap
  /-- the value the last management access returned, with its status code (R127). -/
  mgmtOut : Reg32 × Nat
  deriving DecidableEq, Repr

/-- Faults of the model. No command of this block stops the machine with a fault: every stop that the spec describes
(SAFE, HALT, a NACK, a rejected command) is a next state. -/
inductive Fault where
  /-- Raised by nobody; a fault reason the type needs to be inhabited. Safe. -/
  | unused
  deriving DecidableEq, Repr

/-- Refusals of the model. -/
inductive Refusal where
  /-- Raised by Dispatch for a command that has no meaning yet. Safe. -/
  | notModelled (mnemonic : String)
  deriving DecidableEq, Repr

/-- Stack count N (R1). -/
def Part.stks : Part → Nat
  | .ax8h16 | .ax8h12 => 8
  | .ax4h16 | .ax4h12 => 4
  | .ax2h16 | .ax2h12 => 2

/-- Memory dies per stack (R1). -/
def Part.dies : Part → Nat
  | .ax8h16 | .ax4h16 | .ax2h16 => 16
  | .ax8h12 | .ax4h12 | .ax2h12 => 12

/-- A lane after reset: FIR of preset 5, gain 0x18 (R334). (DESIGN CHOICE, notes/assumptions/4.md) -/
def Lane.reset : Lane :=
  { pre := 4, post := 8, preset := 5, preSts := 0, postSts := 0, ctle := 0, vga := 0x18, dfe1 := 0, dfe2 := 0,
    dfe3 := 0, eyeHigh := 0, eyeMid := 0, eyeLow := 0, iterPeak := 0, iterLast := 0, frozen := false,
    rx := .running, wakeMarks := 0, fails := 0, failHeld := false, scramRx := 0, noMarker := 0, markRun := 0,
    txScram := 0, txUnits := [], txRun := (0, 0), txStuffs := 0, line := [], rxRun := (0, 0), rxUnits := [], fir := none,
    injLeft := 0, injCount := 0, gen := 1, chk := 0, chkRun := 0, chkLocked := false, rdyRun := 0, partnerCapB := false, partnerRateB := 0 }

/-- A port after reset (R333, R358). (DESIGN CHOICE, notes/assumptions/4.md) -/
def Port.reset : Port :=
  { ingress := [], fences := [], mgmtIn := [], rspIn := [], rspInRsv := 0, fwdOut := [], rspOut := [], rspWait := [],
    mgmtOut := [], mgmtRaw := [], ctxCred := [], outst := [], peerCred := [], mgmtCred := 0,
    rspAvail := 0, mgmtAvail := 0, rspGranted := 0, mgmtGranted := 0, wrr := [], rrCtx := [], buckets := [], fwdRecs := [], staleRecs := [],
    rspStallFrames := 0, rspStalled := false, rxExpect := 0, rxPeriodSeq := 0, nakPending := false, unacked := 0, parse := none, rxVc := .mgmt, txNext := 0, replay := [], txAcked := 4095,
    nakRx := none, replayFrom := none, replayRun := 0, replayFresh := false, resend := [], noProgress := 0, lackDue := false, lcrdOut := [],
    rspRet := 0, mgmtRet := 0, txEvent := 0, txVc := .mgmt, txQueue := [], txFlit := [], groupOut := [], txBlock := 0, rxBlock := 0, txSeq := 0, idleFlits := 0, fwdSkip := 0, lastTrailer := [],
    seenTx := false, seenRx := false, resume := false, partnerResume := false, lstate := .detect, held := false,
    tries := 0, framingB := false, phaseB := false, reversed := false, polarity := 0, physLane := [],
    lanes := List.replicate 8 Lane.reset, txParked := false, rateBSent := false,
    wasActive := false, injBusy := false, unusable := false, dropBelow := 0 }

/-- A bank after reset: debt 0, empty tracker. -/
def Bank.reset : Bank :=
  { debt := 0, ptr := 0, track := [], spill := 0, openRow := none, inOrder := [], spaced := 0,
    refs := 0, acts := 0, waited := [] }

/-- A pseudo-channel after reset. (DESIGN CHOICE, notes/assumptions/4.md) -/
def PChan.reset : PChan :=
  { banks := [], targeted := [], powerDown := false, selfRefresh := false, paused := false, dly := [],
    trkLast := 0, trkDue := false, used := [], forcedTaken := [], win := [], owed := [], turnUsed := 0, carry := 0,
    lastWrite := none, drain := false, wbq := [], wrr := [], quiet := 0, bePhase := 0, trnRow := none, asked := [] }

/-- A channel after reset. (DESIGN CHOICE, notes/assumptions/4.md) -/
def Chan.reset : Chan :=
  { pcs := List.replicate 2 PChan.reset, trnErr := [], trnMap := [], unusable := false, viUnusable := false,
    nduUnusable := false, dlyPend := [], trnPend := none, accs := [], plru := [] }

/-- The Registrar after reset: every kind at its default level, empty log. (DESIGN CHOICE, notes/assumptions/4.md) -/
def Registrar.reset : Registrar :=
  { waiting := [], kcnt := [], levels := [], fifo := [], log := [], logNext := 0, seq := 0, toMirror := [],
    mirror := [], mirNext := 0, marks := [], archWords := [], archAddr := [], archFree := 0,
    telCnt := [0, 0, 0, 0], telDrop := 0, fenceNow := false }

/-- Thermal control after reset. (DESIGN CHOICE, notes/assumptions/4.md) -/
def Thermal.reset (dies : Nat) : Thermal :=
  { base := List.replicate 32 0, baseUse := List.replicate 32 0, baseDis := List.replicate 32 0,
    baseExcl := List.replicate 32 false, mem := List.replicate dies 0, memUse := List.replicate dies 0,
    memDis := List.replicate dies 0, memAgree := List.replicate dies 0, suspect := List.replicate dies false,
    memPrev := List.replicate dies 0, est := List.replicate dies 0, memNext := [], lid := 0, lidUse := 0, stage := 0, tstage := 0,
    stageNext := none, holdDown := 0, tierHold := 0, ror := false, hist := [], samples := [], t4InLow := false,
    memLast := 0, memRead := false }

/-- Power control after reset: no sample yet (R421). (DESIGN CHOICE, notes/assumptions/4.md) -/
def Power.reset : Power :=
  { vinMv := 0, vinMin := [], vinLow := 0xFFFF, pin := 0, iin := 0, tileMode := 0, ilimit := false,
    ilimitT3 := false, ilimitFree := 0, railMv := [0, 0, 0, 0], railOk := [false, false, false, false], railsRun := false,
    memFault := false, capReported := false }

/-- The always-on latches with nothing recorded: a cold start (R412). -/
def Latch.reset : Latch := { cause := 0, critFail := false, brownNew := false, lastPass := false }

/-- The clock unit after reset: both PLLs off, Docent on the ring oscillator (R400). (DESIGN CHOICE, notes/assumptions/4.md) -/
def Clock.reset : Clock :=
  { corePll := 0, fixPll := 0, coreBad := 0, fixBad := 0, coreLastFail := none, fixLastFail := none,
    portBad := [0, 0, 0, 0], docPll := false, recovering := false,
    rejected := false }

/-- An OTP array with no cell burned (DESIGN CHOICE, notes/assumptions/3.md). -/
def Otp.reset : Otp :=
  { cellA := [], cellB := [], weak := [], lifecycle := 0, lcFallback := false,
    conservative := false, checkFail := List.replicate 7 false, marginal := List.replicate 7 0,
    counts := List.replicate 7 (0, 0, 0), inUse := List.replicate 6 none, calNext := none, svcOpen := false,
    svcFails := 0, nonce := 0, sig := [], pendRes := none, cal := none, calWait := none }

/-- The self-test engine after reset. (DESIGN CHOICE, notes/assumptions/4.md) -/
def Bst.reset : Bst :=
  { phase := 0, sel := 0, mode := false, noBurn := false, cancelPend := false, fails := [], saveValid := false, saveAt := [], saveTiles := [],
    shutdown := false, t4Pend := false }

/-- Docent after reset. (DESIGN CHOICE, notes/assumptions/4.md) -/
def Docent.reset : Docent :=
  { bootStep := 0, startOk := false, startFail := false, heldSafe := false, cmd := none,
    spares := [], shifts := [], telRing := [], telPos := 0 }

/-- The frame timer after reset: hot until the first tier decision (R58). (DESIGN CHOICE, notes/assumptions/4.md) -/
def Timer.reset : Timer :=
  { frame := 0, ticks := 0, tier := 2, tierKnown := false, tierNext := none, halved := false, capShort := false, align := false }

/-- A stack after reset: every register at its reset value, every tile INVALID, every line invalid (R477 step 11). (DESIGN CHOICE, notes/assumptions/4.md) -/
def Stack.reset (dies : Nat) : Stack :=
  { regs := [], pkgRegs := [], labels := [], stLabels := [], cnt := [], latch := [], mode := .asPackage, stkNext := none,
    rst := false, resetRetain := true, safeEntry := false, upFailed := false, downFailed := false, admQ := [], table := [], tiles := [], openList := [], seals := [], overflow := false,
    sweepPos := 0, sweepDirty := false, wrr := [], refPhase := [0, 0, 0, 0], sidIv := [0, 0, 0, 0], scrubSeen := [], scrubStart := 0, vitScrubSeen := List.replicate 32 0, vitScrubStart := List.replicate 32 0,
    lines := [], scanned := false, chans := List.replicate 32 Chan.reset,
    budget := [0, 0, 0, 0], scb := [], rowEvts := [], laneEvts := [], rg := Registrar.reset,
    th := Thermal.reset dies, pw := Power.reset, latches := Latch.reset, clk := Clock.reset, otp := Otp.reset,
    bst := Bst.reset, doc := Docent.reset, tm := Timer.reset }

/-- A part after reset, VIN absent: OFF, and every register, buffer and pin at its reset value. The package leaves
it through VIN_VALID, START_REFERENCE and PACKAGE_ACTIVE (R477; DEDUCED, notes/assumptions/2.md). (DESIGN CHOICE, notes/assumptions/4.md) (DEDUCED, notes/assumptions/19.md) -/
def State.resetOf (part : Part) (lid : Lid) : State :=
  { pending := [], part := part, lid := lid, free := 0,
    stks := List.replicate part.stks (Stack.reset part.dies),
    ports := List.replicate (4 * part.stks) Port.reset, dies := [], transit := [], nextRid := 0,
    timedOut := [], mode := .off, agg := 0, aggChosen := false, runLevel := 3, levelNext := none, supplyCap := false, supplyOk := 0,
    pkgCnt := [],
    commit := { phase := .none, checkOnly := false, target := 0, applied := [], acked := [], got := [], status := 0,
                failStack := 0, held := [] }, splitDue := [],
    miss := [], errPend := [], missDue := [], errDue := [], sync := none, longFrame := false, timeValid := false, timeEst := false, afterStop := false,
    ref := { state := 3, index := 3, port := 0, qual := [false, false, false], srcStack := 0, refPend := none },
    irqs := [], telSeq := 0, telLast := 0, aliveLast := 0, alignLast := 0, lastTel := [], halt := none, idleFrames := 0, wakeCause := 0,
    modeNext := none, retainAt := 0, retainWant := false, wakeInEntry := none, wakeLow := 0,
    pins := { resetN := true, wakeN := true, pwrGood := false, thermN := true, alive := false,
              vinAbove3 := false, ovpHeld := false },
    pmbus := { addr := 0, mgmt := 0, uvFault := false, ovFault := false, tempFault := false, cml := false, out := 0,
               ack := false, strap := 0 },
    taps := List.replicate part.stks { ir := 0x01, dr := 0, boundary := 0 }, mgmtOut := (0, 0) }

/-- The machine after reset: the AX8-16 with the liquid lid, the part of the default conditions (R8). (DEDUCED, notes/assumptions/2.md) (DESIGN CHOICE, notes/assumptions/25.md) -/
def State.reset : State := State.resetOf .ax8h16 .c

end Sys2Proof.Machine
end

