-- ==== Sys2Proof/Machine/RegTable.lean ====
section
/-! DEFINITION. The register map: every register of every page with its fields, access types and reset values, as the
register tables of the spec give them (R29 to R33, R55 to R60, R71 to R74, R79 to R86, R99 to R103, R149 to R152, R169
to R176, R200 to R207, R225 to R233, R255 to R266, R293 to R301, R332 to R337, R357 to R360, R374 to R377, R398 to
R406, R421 to R427, R443 to R448, R471 to R476, R491 to R494), the page index (R77, R78), PAGE_CAP and the Registrar
kinds (R450 to R452). A reset value that the spec ties to the part or to a latch is computed where it is read. -/

namespace Sys2Proof.Machine

/-- The pages of R77 and R78. -/
inductive Page where
  | pkg | tic | sch | rte | cmt | stk | clk | pwr | thm | otp | cal | reg | bst | adm | tsm | scb | vit | doc | nxp | nxl | ctl | ndu | gth | label
  deriving DecidableEq, Repr

/-- Field access types (R12). -/
inductive Acc where
  | ro | rw | w1c | w1s | wo | st
  deriving DecidableEq, Repr

/-- A field: bits [hi:lo], access type, reset value. -/
structure Fld where
  hi  : Nat
  lo  : Nat
  acc : Acc
  rst : Nat
  deriving DecidableEq, Repr

/-- A register array: first offset, stride, count, fields. A single register has count 1. -/
structure RegSpec where
  off    : Nat
  stride : Nat
  count  : Nat
  flds   : List Fld
  deriving DecidableEq, Repr

/-- A named field: page, register offset in the page, bits. -/
structure FRef where
  page : Page
  off  : Nat
  hi   : Nat
  lo   : Nat
  deriving DecidableEq, Repr

/-- Block type codes (R77, R78). -/
def Page.blockType : Page → Nat
  | .pkg => 0x01
  | .tic => 0x02
  | .sch => 0x0B
  | .rte => 0x0E
  | .cmt => 0x17
  | .stk => 0x15
  | .clk => 0x03
  | .pwr => 0x04
  | .thm => 0x05
  | .otp => 0x06
  | .cal => 0x07
  | .reg => 0x08
  | .bst => 0x09
  | .adm => 0x0A
  | .tsm => 0x12
  | .scb => 0x13
  | .vit => 0x0F
  | .doc => 0x14
  | .nxp => 0x0C
  | .nxl => 0x0D
  | .ctl => 0x10
  | .ndu => 0x11
  | .gth => 0x16
  | .label => 0x00

/-- Page index of instance i within its window (R77, R78). -/
def Page.index (i : Nat) : Page → Nat
  | .pkg => 0x00
  | .tic => 0x01
  | .sch => 0x02
  | .rte => 0x13
  | .cmt => 0x14
  | .stk => 0x00
  | .clk => 0x01
  | .pwr => 0x02
  | .thm => 0x03
  | .otp => 0x04
  | .cal => 0x05
  | .reg => 0x06
  | .bst => 0x07
  | .adm => 0x08
  | .tsm => 0x09
  | .scb => 0x0A
  | .vit => 0x0B
  | .doc => 0x0C
  | .nxp => 0x10 + i
  | .nxl => 0x14 + i
  | .ctl => 0x20 + i
  | .ndu => 0x40 + i
  | .gth => 0x60
  | .label => 0x03 + i

/-- The package pages (R17). -/
def Page.isPkg : Page → Bool
  | .pkg | .tic | .sch | .rte | .cmt | .label => true
  | _ => false

/-- The page at an index of the package window, with its instance (R78). -/
def pkgPageAt (n : Nat) : Option (Page × Nat) :=
  if n = 0 then some (.pkg, 0) else if n = 1 then some (.tic, 0) else if n = 2 then some (.sch, 0)
  else if 3 ≤ n ∧ n ≤ 0x12 then some (.label, n - 3) else if n = 0x13 then some (.rte, 0)
  else if n = 0x14 then some (.cmt, 0) else none

/-- The page at an index of a stack window, with its instance (R77). -/
def stkPageAt (n : Nat) : Option (Page × Nat) :=
  if n = 0 then some (.stk, 0) else if n = 1 then some (.clk, 0) else if n = 2 then some (.pwr, 0)
  else if n = 3 then some (.thm, 0) else if n = 4 then some (.otp, 0) else if n = 5 then some (.cal, 0)
  else if n = 6 then some (.reg, 0) else if n = 7 then some (.bst, 0) else if n = 8 then some (.adm, 0)
  else if n = 9 then some (.tsm, 0) else if n = 10 then some (.scb, 0) else if n = 11 then some (.vit, 0)
  else if n = 12 then some (.doc, 0) else if 0x10 ≤ n ∧ n ≤ 0x13 then some (.nxp, n - 0x10)
  else if 0x14 ≤ n ∧ n ≤ 0x17 then some (.nxl, n - 0x14) else if 0x20 ≤ n ∧ n ≤ 0x3F then some (.ctl, n - 0x20)
  else if 0x40 ≤ n ∧ n ≤ 0x5F then some (.ndu, n - 0x40) else if n = 0x60 then some (.gth, 0) else none


/-- Registers of the PKG page. -/
def regsPkg : List RegSpec :=
  [
    ⟨0x100, 0, 1, [⟨1, 0, .st, 0x3⟩]⟩,  -- PLEVEL R29
    ⟨0x104, 0, 1, [⟨31, 29, .ro, 0x0⟩, ⟨28, 28, .ro, 0x0⟩, ⟨27, 26, .ro, 0x3⟩, ⟨23, 16, .ro, 0x0⟩, ⟨15, 8, .ro, 0x0⟩, ⟨7, 0, .ro, 0x0⟩]⟩,  -- STATUS R30
    ⟨0x108, 0, 1, [⟨31, 16, .ro, 0x0⟩, ⟨15, 15, .ro, 0x0⟩, ⟨11, 8, .ro, 0x0⟩, ⟨7, 0, .ro, 0x0⟩]⟩  -- PART R31
  ]

/-- Registers of the TIC page. -/
def regsTic : List RegSpec :=
  [
    ⟨0x10, 0, 1, [⟨2, 2, .w1c, 0x0⟩, ⟨1, 1, .w1c, 0x0⟩, ⟨0, 0, .w1c, 0x0⟩]⟩,  -- PAGE_ERR R59
    ⟨0x100, 0, 1, [⟨1, 1, .rw, 0x1⟩, ⟨0, 0, .rw, 0x1⟩]⟩,  -- CTRL R55
    ⟨0x104, 0, 1, [⟨17, 16, .ro, 0x3⟩, ⟨3, 3, .ro, 0x0⟩, ⟨1, 1, .ro, 0x0⟩, ⟨0, 0, .ro, 0x0⟩]⟩,  -- STATUS R56
    ⟨0x108, 0, 1, [⟨23, 16, .ro, 0x0⟩, ⟨10, 0, .ro, 0x0⟩]⟩,  -- NOW R57
    ⟨0x120, 4, 8, [⟨30, 30, .ro, 0x0⟩, ⟨29, 28, .ro, 0x2⟩, ⟨27, 17, .ro, 0x0⟩, ⟨16, 9, .ro, 0x0⟩, ⟨8, 0, .ro, 0x0⟩]⟩  -- CAP R58
  ]

/-- Registers of the SCH page. -/
def regsSch : List RegSpec :=
  [
    ⟨0x10, 0, 1, [⟨2, 2, .w1c, 0x0⟩, ⟨1, 1, .w1c, 0x0⟩, ⟨0, 0, .w1c, 0x0⟩]⟩,  -- PAGE_ERR R175
    ⟨0x100, 0, 1, [⟨8, 8, .rw, 0x0⟩, ⟨7, 4, .rw, 0xF⟩, ⟨3, 0, .rw, 0xF⟩]⟩,  -- CTRL R169
    ⟨0x104, 0, 1, [⟨1, 0, .st, 0x2⟩]⟩,  -- ADMIT R170
    ⟨0x108, 0, 1, [⟨26, 16, .ro, 0x0⟩, ⟨15, 0, .ro, 0x0⟩]⟩,  -- ADMIT_STATUS R171
    ⟨0x110, 4, 4, [⟨15, 0, .ro, 0x0⟩]⟩,  -- GRES R172
    ⟨0x120, 4, 3, [⟨31, 24, .st, 0x10⟩, ⟨23, 16, .st, 0x10⟩, ⟨15, 8, .st, 0x10⟩, ⟨7, 0, .st, 0x10⟩]⟩,  -- BWEIGHT R173
    ⟨0x130, 0, 1, [⟨31, 31, .ro, 0x0⟩, ⟨30, 28, .ro, 0x0⟩, ⟨27, 23, .ro, 0x0⟩, ⟨22, 22, .ro, 0x0⟩, ⟨21, 20, .ro, 0x0⟩, ⟨15, 0, .ro, 0x0⟩]⟩,  -- MISS_LAST R174
    ⟨0x134, 0, 1, [⟨11, 0, .ro, 0x0⟩]⟩  -- MISS_LABEL R174
  ]

/-- Registers of the RTE page. -/
def regsRte : List RegSpec :=
  [
    ⟨0x10, 0, 1, [⟨3, 3, .w1c, 0x0⟩, ⟨2, 2, .w1c, 0x0⟩, ⟨1, 1, .w1c, 0x0⟩, ⟨0, 0, .w1c, 0x0⟩]⟩,  -- PAGE_ERR R376
    ⟨0x100, 4, 256, [⟨31, 31, .st, 0x0⟩, ⟨30, 30, .st, 0x0⟩, ⟨29, 28, .st, 0x0⟩, ⟨4, 0, .st, 0x0⟩]⟩,  -- ENTRY R374
    ⟨0x500, 4, 32, [⟨31, 0, .st, 0x0⟩]⟩,  -- GROUP R375
    ⟨0x580, 4, 4, [⟨31, 0, .st, 0x0⟩]⟩,  -- ROLE R375
    ⟨0x590, 0, 1, [⟨12, 8, .st, 0x0⟩, ⟨7, 0, .st, 0x0⟩]⟩  -- SELF R375
  ]

/-- Registers of the CMT page. -/
def regsCmt : List RegSpec :=
  [
    ⟨0x10, 0, 1, [⟨1, 1, .w1c, 0x0⟩, ⟨0, 0, .w1c, 0x0⟩]⟩,  -- PAGE_ERR R102
    ⟨0x100, 0, 1, [⟨31, 31, .wo, 0x0⟩, ⟨30, 30, .wo, 0x0⟩, ⟨15, 0, .wo, 0x0⟩]⟩,  -- COMMIT R99
    ⟨0x104, 0, 1, [⟨31, 31, .ro, 0x0⟩, ⟨30, 30, .ro, 0x0⟩, ⟨29, 29, .ro, 0x0⟩, ⟨28, 25, .ro, 0x0⟩, ⟨24, 19, .ro, 0x0⟩, ⟨18, 16, .ro, 0x0⟩, ⟨15, 0, .ro, 0x0⟩]⟩,  -- RESULT R100
    ⟨0x108, 0, 1, [⟨24, 24, .ro, 0x0⟩, ⟨23, 16, .ro, 0x0⟩, ⟨15, 0, .ro, 0x0⟩]⟩  -- FAIL R101
  ]

/-- Registers of the STK page. -/
def regsStk : List RegSpec :=
  [
    ⟨0x100, 0, 1, [⟨31, 31, .wo, 0x0⟩, ⟨30, 30, .rw, 0x1⟩, ⟨29, 29, .wo, 0x0⟩, ⟨7, 0, .wo, 0x0⟩]⟩,  -- RESET R494
    ⟨0x104, 0, 1, [⟨31, 30, .ro, 0x0⟩, ⟨29, 29, .ro, 0x0⟩, ⟨15, 0, .ro, 0x0⟩]⟩,  -- RESET_STATUS R494
    ⟨0x108, 0, 1, [⟨15, 0, .ro, 0x0⟩]⟩,  -- ID R32
    ⟨0x10C, 0, 1, [⟨31, 29, .ro, 0x0⟩, ⟨28, 28, .ro, 0x0⟩, ⟨27, 14, .ro, 0x0⟩, ⟨12, 0, .ro, 0x0⟩]⟩,  -- STATUS R32
    ⟨0x110, 0, 1, [⟨3, 3, .ro, 0x0⟩, ⟨2, 2, .ro, 0x0⟩, ⟨1, 1, .ro, 0x0⟩, ⟨0, 0, .ro, 0x0⟩]⟩  -- RING R33
  ]

/-- Registers of the CLK page. -/
def regsClk : List RegSpec :=
  [
    ⟨0x10, 0, 1, [⟨6, 6, .w1c, 0x0⟩, ⟨5, 5, .w1c, 0x0⟩, ⟨4, 4, .w1c, 0x0⟩, ⟨3, 3, .w1c, 0x0⟩, ⟨2, 2, .w1c, 0x0⟩, ⟨1, 1, .w1c, 0x0⟩, ⟨0, 0, .w1c, 0x0⟩]⟩,  -- PAGE_ERR R405
    ⟨0x100, 0, 1, [⟨24, 24, .rw, 0x0⟩, ⟨23, 23, .rw, 0x1⟩, ⟨21, 16, .rw, 0x1⟩, ⟨15, 15, .rw, 0x1⟩, ⟨13, 8, .rw, 0x4⟩, ⟨5, 0, .rw, 0x0⟩]⟩,  -- REF R399
    ⟨0x104, 0, 1, [⟨31, 30, .ro, 0x3⟩, ⟨29, 28, .ro, 0x3⟩, ⟨27, 22, .ro, 0x0⟩, ⟨21, 20, .ro, 0x0⟩, ⟨19, 17, .ro, 0x0⟩, ⟨16, 16, .ro, 0x0⟩, ⟨15, 14, .ro, 0x0⟩, ⟨13, 12, .ro, 0x0⟩, ⟨10, 8, .ro, 0x0⟩, ⟨2, 2, .ro, 0x0⟩, ⟨1, 0, .ro, 0x3⟩]⟩,  -- STATUS R400
    ⟨0x108, 0, 1, [⟨0, 0, .rw, 0x0⟩]⟩,  -- DOCENT_SEL R401
    ⟨0x110, 0, 1, [⟨31, 31, .wo, 0x0⟩, ⟨1, 0, .rw, 0x0⟩]⟩,  -- PKG_MODE R402
    ⟨0x114, 0, 1, [⟨31, 31, .wo, 0x0⟩, ⟨0, 0, .rw, 0x0⟩]⟩,  -- STK_MODE R402
    ⟨0x118, 0, 1, [⟨31, 31, .ro, 0x0⟩, ⟨30, 30, .ro, 0x0⟩, ⟨29, 28, .ro, 0x0⟩, ⟨27, 26, .ro, 0x0⟩, ⟨10, 8, .ro, 0x0⟩]⟩,  -- MODE_STATUS R403
    ⟨0x11C, 0, 1, [⟨31, 31, .rw, 0x0⟩, ⟨23, 0, .rw, 0x400⟩]⟩,  -- IDLE_CFG R402
    ⟨0x120, 0, 1, [⟨5, 0, .rw, 0x0⟩]⟩,  -- GATE_DIS R404
    ⟨0x124, 0, 1, [⟨5, 0, .ro, 0x0⟩]⟩  -- GATE_STATUS R404
  ]

/-- Registers of the PWR page. -/
def regsPwr : List RegSpec :=
  [
    ⟨0x10, 0, 1, [⟨3, 3, .w1c, 0x0⟩, ⟨2, 2, .w1c, 0x0⟩, ⟨1, 1, .w1c, 0x0⟩, ⟨0, 0, .w1c, 0x0⟩]⟩,  -- PAGE_ERR R423
    ⟨0x100, 0, 1, [⟨5, 4, .ro, 0x0⟩, ⟨3, 3, .ro, 0x0⟩, ⟨2, 2, .ro, 0x0⟩, ⟨1, 1, .ro, 0x0⟩, ⟨0, 0, .ro, 0x0⟩]⟩,  -- STATUS R421
    ⟨0x104, 0, 1, [⟨31, 16, .ro, 0xFFFF⟩, ⟨15, 0, .ro, 0x0⟩]⟩,  -- VIN R421
    ⟨0x108, 0, 1, [⟨31, 16, .ro, 0x0⟩, ⟨15, 0, .ro, 0x0⟩]⟩,  -- TILE R421
    ⟨0x10C, 0, 1, [⟨1, 0, .rw, 0x0⟩]⟩,  -- RAIL_SEL R421
    ⟨0x110, 0, 1, [⟨16, 16, .ro, 0x0⟩, ⟨15, 0, .ro, 0x0⟩]⟩,  -- RAIL R421
    ⟨0x120, 0, 1, [⟨5, 5, .w1c, 0x0⟩, ⟨4, 4, .w1c, 0x0⟩, ⟨3, 3, .w1c, 0x0⟩, ⟨2, 2, .w1c, 0x0⟩, ⟨1, 1, .w1c, 0x0⟩, ⟨0, 0, .w1c, 0x0⟩]⟩  -- RESET_CAUSE R422
  ]

/-- Registers of the THM page. -/
def regsThm : List RegSpec :=
  [
    ⟨0x10, 0, 1, [⟨7, 7, .w1c, 0x0⟩, ⟨6, 6, .w1c, 0x0⟩, ⟨5, 5, .w1c, 0x0⟩, ⟨4, 4, .w1c, 0x0⟩, ⟨3, 3, .w1c, 0x0⟩, ⟨2, 2, .w1c, 0x0⟩, ⟨1, 1, .w1c, 0x0⟩, ⟨0, 0, .w1c, 0x0⟩]⟩,  -- PAGE_ERR R426
    ⟨0x100, 0, 1, [⟨31, 24, .rw, 0x7E⟩, ⟨23, 16, .rw, 0x78⟩, ⟨15, 8, .rw, 0x74⟩, ⟨7, 0, .rw, 0x70⟩]⟩,  -- THRESH R425
    ⟨0x104, 0, 1, [⟨31, 31, .rw, 0x1⟩, ⟨23, 8, .rw, 0x186A⟩, ⟨7, 0, .rw, 0xF⟩]⟩,  -- ROR R425
    ⟨0x108, 0, 1, [⟨31, 31, .ro, 0x0⟩, ⟨30, 28, .ro, 0x0⟩, ⟨27, 26, .ro, 0x2⟩, ⟨25, 21, .ro, 0x0⟩, ⟨20, 16, .ro, 0x0⟩, ⟨10, 0, .ro, 0x0⟩]⟩,  -- STATUS R425
    ⟨0x110, 0, 1, [⟨5, 0, .rw, 0x0⟩]⟩,  -- SENSE_SEL R425
    ⟨0x114, 0, 1, [⟨31, 31, .ro, 0x0⟩, ⟨26, 16, .ro, 0x0⟩, ⟨10, 0, .ro, 0x0⟩]⟩,  -- SENSE R425
    ⟨0x118, 0, 1, [⟨10, 0, .ro, 0x0⟩]⟩  -- SENSE_EST R425
  ]

/-- Registers of the OTP page. -/
def regsOtp : List RegSpec :=
  [
    ⟨0x10, 0, 1, [⟨9, 9, .w1c, 0x0⟩, ⟨8, 8, .w1c, 0x0⟩, ⟨7, 7, .w1c, 0x0⟩, ⟨6, 6, .w1c, 0x0⟩, ⟨5, 5, .w1c, 0x0⟩, ⟨4, 4, .w1c, 0x0⟩, ⟨3, 3, .w1c, 0x0⟩, ⟨2, 2, .w1c, 0x0⟩, ⟨1, 1, .w1c, 0x0⟩, ⟨0, 0, .w1c, 0x0⟩]⟩,  -- PAGE_ERR R444
    ⟨0x100, 0, 1, [⟨31, 29, .ro, 0x0⟩, ⟨28, 28, .ro, 0x0⟩, ⟨27, 27, .ro, 0x0⟩, ⟨26, 26, .ro, 0x0⟩, ⟨25, 25, .ro, 0x0⟩, ⟨15, 0, .ro, 0x0⟩]⟩,  -- STATUS R443
    ⟨0x104, 0, 1, [⟨2, 0, .rw, 0x0⟩]⟩,  -- REGION_SEL R443
    ⟨0x108, 0, 1, [⟨31, 31, .ro, 0x0⟩, ⟨30, 30, .ro, 0x0⟩, ⟨29, 29, .ro, 0x0⟩, ⟨28, 20, .ro, 0x0⟩, ⟨15, 0, .ro, 0x0⟩]⟩,  -- REGION_INFO R443
    ⟨0x10C, 0, 1, [⟨31, 16, .ro, 0x0⟩, ⟨15, 0, .ro, 0x0⟩]⟩,  -- REGION_COUNT R443
    ⟨0x110, 0, 1, [⟨10, 0, .rw, 0x0⟩]⟩,  -- READ_ADDR R443
    ⟨0x114, 0, 1, [⟨31, 0, .ro, 0x0⟩]⟩,  -- READ_DATA R443
    ⟨0x118, 0, 1, [⟨31, 0, .ro, 0x0⟩]⟩,  -- READ_TIGHT R443
    ⟨0x120, 0, 1, [⟨10, 0, .rw, 0x0⟩]⟩,  -- PROG_ADDR R443
    ⟨0x124, 0, 1, [⟨31, 0, .rw, 0x0⟩]⟩,  -- PROG_DATA R443
    ⟨0x128, 0, 1, [⟨31, 31, .wo, 0x0⟩, ⟨10, 8, .rw, 0x0⟩, ⟨1, 0, .rw, 0x0⟩]⟩,  -- CMD R443
    ⟨0x12C, 0, 1, [⟨31, 31, .ro, 0x0⟩, ⟨30, 30, .ro, 0x0⟩, ⟨3, 0, .ro, 0x0⟩]⟩,  -- CMD_STATUS R443
    ⟨0x140, 4, 2, [⟨31, 0, .ro, 0x0⟩]⟩,  -- SVC_NONCE R443
    ⟨0x150, 4, 16, [⟨31, 0, .wo, 0x0⟩]⟩,  -- SVC_RESP R443
    ⟨0x190, 0, 1, [⟨31, 31, .wo, 0x0⟩]⟩  -- SVC_CTRL R443
  ]

/-- Registers of the CAL page. -/
def regsCal : List RegSpec :=
  [
    ⟨0x10, 0, 1, [⟨0, 0, .w1c, 0x0⟩]⟩,  -- PAGE_ERR R447
    ⟨0x100, 0, 1, [⟨31, 31, .wo, 0x0⟩, ⟨7, 0, .rw, 0x1⟩]⟩,  -- CMD R446
    ⟨0x104, 0, 1, [⟨31, 31, .ro, 0x0⟩, ⟨30, 30, .ro, 0x0⟩, ⟨11, 8, .ro, 0x0⟩, ⟨2, 0, .ro, 0x0⟩]⟩,  -- STATUS R446
    ⟨0x110, 0, 1, [⟨10, 8, .rw, 0x0⟩, ⟨7, 0, .rw, 0x1⟩]⟩,  -- INUSE_SEL R446
    ⟨0x114, 0, 1, [⟨31, 0, .ro, 0x0⟩]⟩,  -- INUSE R446
    ⟨0x118, 0, 1, [⟨12, 12, .ro, 0x0⟩, ⟨11, 8, .ro, 0x0⟩, ⟨7, 0, .ro, 0x0⟩]⟩  -- SOURCE R446
  ]

/-- Registers of the REG page. -/
def regsReg : List RegSpec :=
  [
    ⟨0x10, 0, 1, [⟨5, 5, .w1c, 0x0⟩, ⟨4, 4, .w1c, 0x0⟩, ⟨3, 3, .w1c, 0x0⟩, ⟨2, 2, .w1c, 0x0⟩, ⟨1, 1, .w1c, 0x0⟩, ⟨0, 0, .w1c, 0x0⟩]⟩,  -- PAGE_ERR R475
    ⟨0x100, 0, 1, [⟨31, 31, .wo, 0x0⟩, ⟨30, 30, .wo, 0x0⟩, ⟨0, 0, .rw, 0x1⟩]⟩,  -- CTRL R471
    ⟨0x104, 0, 1, [⟨31, 31, .ro, 0x0⟩, ⟨30, 30, .w1c, 0x0⟩]⟩,  -- STATUS R471
    ⟨0x108, 0, 1, [⟨31, 31, .wo, 0x0⟩]⟩,  -- SAFE_CTRL R471
    ⟨0x10C, 0, 1, [⟨31, 31, .ro, 0x0⟩, ⟨30, 30, .ro, 0x0⟩, ⟨29, 29, .ro, 0x0⟩, ⟨28, 26, .ro, 0x0⟩, ⟨25, 16, .ro, 0x0⟩, ⟨15, 0, .ro, 0x0⟩]⟩,  -- SAFE_STATUS R471
    ⟨0x110, 0, 1, [⟨31, 31, .w1c, 0x0⟩, ⟨30, 30, .ro, 0x0⟩, ⟨29, 28, .ro, 0x0⟩, ⟨27, 26, .ro, 0x0⟩, ⟨25, 16, .ro, 0x0⟩, ⟨15, 0, .ro, 0x0⟩]⟩,  -- FIRST R472
    ⟨0x114, 0, 1, [⟨31, 0, .ro, 0x0⟩]⟩,  -- FIRST_ADDR R472
    ⟨0x118, 0, 1, [⟨31, 16, .ro, 0x0⟩, ⟨15, 0, .ro, 0x0⟩]⟩,  -- FIRST_FRAME R472
    ⟨0x120, 4, 4, [⟨23, 1, .w1c, 0x0⟩]⟩,  -- PEND R472
    ⟨0x130, 0, 1, [⟨23, 1, .rw, 0x0⟩]⟩,  -- ESC_MASK R472
    ⟨0x140, 0, 1, [⟨9, 0, .rw, 0x0⟩]⟩,  -- KIND_SEL R473
    ⟨0x144, 0, 1, [⟨31, 31, .ro, 0x0⟩, ⟨5, 4, .ro, 0x0⟩, ⟨1, 0, .rw, 0x0⟩]⟩,  -- KIND_CFG R473
    ⟨0x148, 0, 1, [⟨15, 0, .ro, 0x0⟩]⟩,  -- KCNT R473
    ⟨0x150, 0, 1, [⟨27, 16, .ro, 0x0⟩, ⟨15, 0, .ro, 0x0⟩]⟩,  -- LOG_HEAD R473
    ⟨0x154, 0, 1, [⟨11, 0, .rw, 0x0⟩]⟩,  -- LOG_RD_IDX R473
    ⟨0x158, 4, 4, [⟨31, 0, .ro, 0x0⟩]⟩,  -- LOG_DATA R473
    ⟨0x170, 0, 1, [⟨13, 0, .ro, 0x0⟩]⟩,  -- MIR_HEAD R473
    ⟨0x174, 0, 1, [⟨13, 0, .rw, 0x0⟩]⟩,  -- MIR_RD_IDX R473
    ⟨0x178, 4, 4, [⟨31, 0, .ro, 0x0⟩]⟩,  -- MIR_DATA R473
    ⟨0x190, 0, 1, [⟨31, 31, .ro, 0x0⟩, ⟨30, 30, .ro, 0x0⟩, ⟨29, 29, .ro, 0x0⟩, ⟨28, 24, .ro, 0x0⟩, ⟨14, 0, .ro, 0x0⟩]⟩,  -- ARCH_STATUS R474
    ⟨0x194, 0, 1, [⟨23, 2, .rw, 0x0⟩]⟩,  -- ARCH_ADDR R474
    ⟨0x198, 0, 1, [⟨31, 0, .ro, 0x0⟩]⟩,  -- ARCH_DATA R474
    ⟨0x19C, 0, 1, [⟨31, 31, .wo, 0x0⟩]⟩  -- ARCH_CTRL R474
  ]

/-- Registers of the BST page. -/
def regsBst : List RegSpec :=
  [
    ⟨0x10, 0, 1, [⟨2, 2, .w1c, 0x0⟩, ⟨1, 1, .w1c, 0x0⟩, ⟨0, 0, .w1c, 0x0⟩]⟩,  -- PAGE_ERR R492
    ⟨0x100, 0, 1, [⟨31, 31, .wo, 0x0⟩, ⟨30, 30, .wo, 0x0⟩, ⟨29, 29, .rw, 0x0⟩, ⟨28, 28, .rw, 0x0⟩, ⟨9, 8, .rw, 0x1⟩, ⟨5, 0, .rw, 0x3F⟩]⟩,  -- CTRL R491
    ⟨0x104, 0, 1, [⟨31, 31, .ro, 0x0⟩, ⟨30, 30, .ro, 0x0⟩, ⟨29, 29, .ro, 0x0⟩, ⟨28, 28, .ro, 0x0⟩, ⟨27, 25, .ro, 0x0⟩, ⟨24, 22, .ro, 0x0⟩, ⟨15, 8, .ro, 0x0⟩, ⟨7, 0, .ro, 0x0⟩]⟩,  -- STATUS R491
    ⟨0x108, 0, 1, [⟨5, 0, .rw, 0x0⟩]⟩,  -- FAIL_SEL R491
    ⟨0x10C, 0, 1, [⟨31, 31, .ro, 0x0⟩, ⟨30, 28, .ro, 0x0⟩, ⟨27, 23, .ro, 0x0⟩, ⟨22, 20, .ro, 0x0⟩, ⟨19, 19, .ro, 0x0⟩]⟩,  -- FAIL R491
    ⟨0x110, 0, 1, [⟨31, 31, .ro, 0x0⟩, ⟨30, 30, .ro, 0x0⟩]⟩,  -- LAST R491
    ⟨0x114, 0, 1, [⟨1, 1, .ro, 0x0⟩, ⟨0, 0, .ro, 0x0⟩]⟩  -- NOT_RUN R491
  ]

/-- Registers of the ADM page. -/
def regsAdm : List RegSpec :=
  [
    ⟨0x100, 8, 15, [⟨31, 10, .st, 0x0⟩]⟩,  -- MASK_LO R72
    ⟨0x104, 8, 15, [⟨7, 0, .st, 0x0⟩]⟩,  -- MASK_HI R72
    ⟨0x200, 0, 1, [⟨31, 0, .rw, 0x0⟩]⟩,  -- PROBE_LO R74
    ⟨0x204, 0, 1, [⟨7, 0, .rw, 0x0⟩]⟩,  -- PROBE_HI R74
    ⟨0x208, 0, 1, [⟨0, 0, .rw, 0x0⟩]⟩,  -- PROBE_CTRL R74
    ⟨0x20C, 0, 1, [⟨31, 31, .ro, 0x1⟩, ⟨17, 15, .ro, 0x0⟩, ⟨14, 10, .ro, 0x0⟩, ⟨9, 9, .ro, 0x0⟩, ⟨8, 7, .ro, 0x0⟩, ⟨6, 5, .ro, 0x0⟩, ⟨4, 3, .ro, 0x0⟩]⟩,  -- PROBE_RES0 R74
    ⟨0x210, 0, 1, [⟨19, 5, .ro, 0x0⟩, ⟨4, 0, .ro, 0x0⟩]⟩  -- PROBE_RES1 R74
  ]

/-- Registers of the TSM page. -/
def regsTsm : List RegSpec :=
  [
    ⟨0x10, 0, 1, [⟨1, 1, .w1c, 0x0⟩, ⟨0, 0, .w1c, 0x0⟩]⟩,  -- PAGE_ERR R296
    ⟨0x100, 0, 1, [⟨31, 12, .rw, 0x0⟩]⟩,  -- QUERY_LO R293
    ⟨0x104, 0, 1, [⟨7, 0, .rw, 0x0⟩]⟩,  -- QUERY_HI R293
    ⟨0x108, 0, 1, [⟨31, 31, .ro, 0x0⟩, ⟨30, 30, .ro, 0x0⟩, ⟨1, 0, .ro, 0x0⟩]⟩,  -- QUERY_RES R293
    ⟨0x110, 0, 1, [⟨31, 12, .rw, 0x0⟩]⟩,  -- DEACC_BASE_LO R294
    ⟨0x114, 0, 1, [⟨7, 0, .rw, 0x0⟩]⟩,  -- DEACC_BASE_HI R294
    ⟨0x118, 0, 1, [⟨27, 0, .rw, 0x0⟩]⟩,  -- DEACC_TILES R294
    ⟨0x11C, 0, 1, [⟨31, 31, .wo, 0x0⟩, ⟨1, 0, .rw, 0x0⟩]⟩,  -- DEACC_CTRL R294
    ⟨0x120, 0, 1, [⟨31, 31, .ro, 0x0⟩, ⟨30, 30, .ro, 0x0⟩, ⟨29, 29, .ro, 0x0⟩, ⟨27, 0, .ro, 0x0⟩]⟩,  -- DEACC_STATUS R294
    ⟨0x130, 0, 1, [⟨25, 0, .ro, 0x0⟩]⟩,  -- COUNT_RETIRED R295
    ⟨0x134, 0, 1, [⟨25, 0, .ro, 0x0⟩]⟩  -- COUNT_OPEN R295
  ]

/-- Registers of the SCB page. -/
def regsScb : List RegSpec :=
  [
    ⟨0x10, 0, 1, [⟨7, 7, .w1c, 0x0⟩, ⟨6, 6, .w1c, 0x0⟩, ⟨5, 5, .w1c, 0x0⟩, ⟨4, 4, .w1c, 0x0⟩, ⟨3, 3, .w1c, 0x0⟩, ⟨2, 2, .w1c, 0x0⟩, ⟨1, 1, .w1c, 0x0⟩, ⟨0, 0, .w1c, 0x0⟩]⟩,  -- PAGE_ERR R300
    ⟨0x100, 0, 1, [⟨0, 0, .rw, 0x1⟩]⟩,  -- CTRL R298
    ⟨0x104, 0, 1, [⟨23, 16, .rw, 0x40⟩, ⟨15, 0, .rw, 0x40⟩]⟩,  -- SEAL R298
    ⟨0x108, 0, 1, [⟨31, 0, .rw, 0x6DDD00⟩]⟩,  -- SCRUB_PERIOD R298
    ⟨0x10C, 0, 1, [⟨15, 8, .rw, 0x10⟩, ⟨3, 0, .rw, 0x3⟩]⟩,  -- THRESH R298
    ⟨0x110, 0, 1, [⟨31, 0, .rw, 0x1499700⟩]⟩,  -- ROW_WINDOW R298
    ⟨0x114, 0, 1, [⟨31, 0, .rw, 0xDBBA0⟩]⟩,  -- LANE_WINDOW R298
    ⟨0x120, 0, 1, [⟨31, 31, .ro, 0x0⟩, ⟨15, 0, .ro, 0x0⟩]⟩  -- STATUS R299
  ]

/-- Registers of the VIT page. -/
def regsVit : List RegSpec :=
  [
    ⟨0x10, 0, 1, [⟨3, 3, .w1c, 0x0⟩, ⟨2, 2, .w1c, 0x0⟩, ⟨1, 1, .w1c, 0x0⟩, ⟨0, 0, .w1c, 0x0⟩]⟩,  -- PAGE_ERR R232
    ⟨0x100, 0, 1, [⟨15, 12, .rw, 0x4⟩, ⟨8, 8, .rw, 0x1⟩, ⟨3, 0, .rw, 0xB⟩]⟩,  -- CTRL R225
    ⟨0x110, 4, 3, [⟨28, 24, .st, 0x10⟩, ⟨20, 16, .st, 0x10⟩, ⟨12, 8, .st, 0x10⟩, ⟨4, 0, .st, 0x10⟩]⟩,  -- WAYCAP R226
    ⟨0x11C, 0, 1, [⟨4, 0, .st, 0x10⟩]⟩,  -- BECAP R227
    ⟨0x120, 0, 1, [⟨23, 0, .rw, 0x10000⟩]⟩,  -- SCRUB R228
    ⟨0x140, 0, 1, [⟨31, 31, .wo, 0x0⟩, ⟨29, 28, .rw, 0x0⟩, ⟨27, 26, .rw, 0x0⟩, ⟨11, 0, .rw, 0x0⟩]⟩,  -- OP R229
    ⟨0x144, 0, 1, [⟨31, 12, .rw, 0x0⟩]⟩,  -- OP_BASE_LO R229
    ⟨0x148, 0, 1, [⟨7, 0, .rw, 0x0⟩]⟩,  -- OP_BASE_HI R229
    ⟨0x14C, 0, 1, [⟨27, 0, .rw, 0x0⟩]⟩,  -- OP_TILES R229
    ⟨0x150, 0, 1, [⟨31, 31, .ro, 0x0⟩, ⟨30, 30, .ro, 0x0⟩, ⟨29, 29, .ro, 0x0⟩, ⟨18, 0, .ro, 0x0⟩]⟩,  -- OP_STATUS R230
    ⟨0x160, 0, 1, [⟨4, 0, .rw, 0x0⟩]⟩,  -- OCC_SEL R231
    ⟨0x164, 0, 1, [⟨28, 16, .ro, 0x0⟩, ⟨13, 0, .ro, 0x0⟩]⟩  -- OCC R231
  ]

/-- Registers of the DOC page. -/
def regsDoc : List RegSpec :=
  [
    ⟨0x10, 0, 1, [⟨3, 3, .w1c, 0x0⟩, ⟨2, 2, .w1c, 0x0⟩, ⟨1, 1, .w1c, 0x0⟩, ⟨0, 0, .w1c, 0x0⟩]⟩,  -- PAGE_ERR R493
    ⟨0x100, 0, 1, [⟨31, 28, .ro, 0x0⟩, ⟨27, 27, .ro, 0x0⟩, ⟨15, 0, .ro, 0x0⟩]⟩,  -- STATUS R493
    ⟨0x110, 0, 1, [⟨31, 31, .wo, 0x0⟩, ⟨30, 28, .rw, 0x0⟩, ⟨12, 8, .rw, 0x0⟩, ⟨7, 7, .rw, 0x0⟩, ⟨5, 0, .rw, 0x0⟩]⟩,  -- CMD R493
    ⟨0x114, 0, 1, [⟨21, 20, .rw, 0x0⟩, ⟨19, 18, .rw, 0x0⟩, ⟨17, 16, .rw, 0x0⟩, ⟨14, 0, .rw, 0x0⟩]⟩,  -- ROW R493
    ⟨0x118, 0, 1, [⟨31, 31, .ro, 0x0⟩, ⟨30, 30, .ro, 0x0⟩, ⟨3, 0, .ro, 0x0⟩]⟩,  -- CMD_STATUS R493
    ⟨0x120, 0, 1, [⟨31, 0, .rw, 0x0⟩]⟩,  -- MBOX_IN R493
    ⟨0x124, 0, 1, [⟨31, 0, .ro, 0x0⟩]⟩  -- MBOX_OUT R493
  ]

/-- Registers of the NXP page. -/
def regsNxp : List RegSpec :=
  [
    ⟨0x10, 0, 1, [⟨7, 7, .w1c, 0x0⟩, ⟨6, 6, .w1c, 0x0⟩, ⟨5, 5, .w1c, 0x0⟩, ⟨4, 4, .w1c, 0x0⟩, ⟨3, 3, .w1c, 0x0⟩, ⟨2, 2, .w1c, 0x0⟩, ⟨1, 1, .w1c, 0x0⟩, ⟨0, 0, .w1c, 0x0⟩]⟩,  -- PAGE_ERR R359
    ⟨0x100, 0, 1, [⟨31, 31, .wo, 0x0⟩, ⟨23, 16, .rw, 0x8⟩, ⟨15, 12, .rw, 0x8⟩, ⟨7, 0, .rw, 0x20⟩]⟩,  -- CTRL R357
    ⟨0x104, 0, 1, [⟨31, 30, .ro, 0x0⟩, ⟨28, 28, .ro, 0x0⟩, ⟨27, 16, .ro, 0x0⟩, ⟨11, 0, .ro, 0x0⟩]⟩,  -- STATUS R358
    ⟨0x108, 0, 1, [⟨31, 16, .ro, 0x0⟩, ⟨15, 0, .ro, 0x0⟩]⟩,  -- PARTNER R358
    ⟨0x400, 4, 16, [⟨25, 16, .st, 0x20⟩, ⟨9, 0, .st, 0x20⟩]⟩,  -- CR_PROFILE R149
    ⟨0x440, 4, 128, [⟨31, 28, .st, 0x0⟩, ⟨27, 24, .st, 0x0⟩, ⟨23, 20, .st, 0x0⟩, ⟨19, 16, .st, 0x0⟩, ⟨15, 12, .st, 0x0⟩, ⟨11, 8, .st, 0x0⟩, ⟨7, 4, .st, 0x0⟩, ⟨3, 0, .st, 0x0⟩]⟩,  -- CR_MAP R150
    ⟨0x640, 0, 1, [⟨8, 0, .st, 0x100⟩]⟩  -- CR_VC R151
  ]

/-- Registers of the NXL page. -/
def regsNxl : List RegSpec :=
  [
    ⟨0x10, 0, 1, [⟨7, 7, .w1c, 0x0⟩, ⟨6, 6, .w1c, 0x0⟩, ⟨5, 5, .w1c, 0x0⟩, ⟨4, 4, .w1c, 0x0⟩, ⟨3, 3, .w1c, 0x0⟩, ⟨2, 2, .w1c, 0x0⟩, ⟨1, 1, .w1c, 0x0⟩, ⟨0, 0, .w1c, 0x0⟩]⟩,  -- PAGE_ERR R336
    ⟨0x100, 0, 1, [⟨31, 31, .wo, 0x0⟩, ⟨30, 30, .rw, 0x0⟩, ⟨29, 29, .rw, 0x1⟩, ⟨28, 28, .rw, 0x1⟩, ⟨27, 24, .rw, 0x4⟩, ⟨23, 21, .rw, 0x5⟩, ⟨20, 18, .rw, 0x5⟩, ⟨15, 8, .rw, 0x18⟩, ⟨7, 0, .rw, 0x40⟩]⟩,  -- CTRL R332
    ⟨0x104, 0, 1, [⟨31, 28, .ro, 0x0⟩, ⟨27, 27, .ro, 0x0⟩, ⟨26, 26, .ro, 0x0⟩, ⟨25, 25, .ro, 0x0⟩, ⟨24, 24, .ro, 0x0⟩, ⟨23, 16, .ro, 0x0⟩, ⟨15, 15, .ro, 0x0⟩, ⟨14, 14, .ro, 0x0⟩, ⟨11, 8, .ro, 0x0⟩, ⟨7, 0, .ro, 0x0⟩]⟩,  -- STATUS R333
    ⟨0x108, 0, 1, [⟨2, 0, .rw, 0x0⟩]⟩,  -- LANE_SEL R334
    ⟨0x110, 0, 1, [⟨31, 29, .ro, 0x5⟩, ⟨21, 16, .ro, 0x34⟩, ⟨12, 8, .ro, 0x8⟩, ⟨3, 0, .ro, 0x4⟩]⟩,  -- LANE_FIR R334
    ⟨0x114, 0, 1, [⟨31, 28, .ro, 0x0⟩, ⟨27, 20, .ro, 0x18⟩, ⟨17, 12, .ro, 0x0⟩, ⟨11, 6, .ro, 0x0⟩, ⟨5, 0, .ro, 0x0⟩]⟩,  -- LANE_RX R334
    ⟨0x118, 0, 1, [⟨23, 16, .ro, 0x0⟩, ⟨15, 8, .ro, 0x0⟩, ⟨7, 0, .ro, 0x0⟩]⟩,  -- LANE_EYE R334
    ⟨0x11C, 0, 1, [⟨7, 4, .ro, 0x0⟩, ⟨3, 0, .ro, 0x0⟩]⟩,  -- LANE_DEC R334
    ⟨0x140, 0, 1, [⟨31, 30, .rw, 0x0⟩, ⟨29, 29, .rw, 0x0⟩, ⟨28, 28, .rw, 0x0⟩, ⟨27, 26, .rw, 0x0⟩, ⟨25, 25, .rw, 0x0⟩, ⟨23, 16, .rw, 0xFF⟩]⟩,  -- TEST R335
    ⟨0x144, 0, 1, [⟨31, 31, .wo, 0x0⟩, ⟨30, 29, .rw, 0x3⟩, ⟨28, 24, .rw, 0x14⟩, ⟨23, 16, .rw, 0x1⟩, ⟨15, 8, .rw, 0x0⟩]⟩,  -- INJ R335
    ⟨0x148, 0, 1, [⟨31, 31, .ro, 0x0⟩, ⟨7, 0, .ro, 0x0⟩]⟩  -- TEST_STATUS R335
  ]

/-- Registers of the CTL page. -/
def regsCtl : List RegSpec :=
  [
    ⟨0x10, 0, 1, [⟨3, 3, .w1c, 0x0⟩, ⟨2, 2, .w1c, 0x0⟩, ⟨1, 1, .w1c, 0x0⟩, ⟨0, 0, .w1c, 0x0⟩]⟩,  -- PAGE_ERR R265
    ⟨0x100, 0, 1, [⟨16, 16, .rw, 0x1⟩, ⟨8, 8, .rw, 0x1⟩, ⟨7, 0, .rw, 0x20⟩]⟩,  -- CTRL R255
    ⟨0x104, 0, 1, [⟨31, 24, .rw, 0x40⟩, ⟨13, 8, .rw, 0x18⟩, ⟨5, 0, .rw, 0x8⟩]⟩,  -- SCHED R256
    ⟨0x108, 0, 1, [⟨19, 16, .ro, 0x0⟩, ⟨11, 8, .ro, 0x0⟩, ⟨7, 0, .ro, 0x0⟩]⟩,  -- REF_STATUS R257
    ⟨0x110, 0, 1, [⟨15, 0, .rw, 0x1000⟩]⟩,  -- ACT_CFG R257
    ⟨0x140, 0, 1, [⟨31, 31, .wo, 0x0⟩, ⟨30, 30, .wo, 0x0⟩, ⟨29, 29, .rw, 0x0⟩, ⟨28, 28, .rw, 0x0⟩, ⟨24, 24, .rw, 0x0⟩, ⟨21, 20, .rw, 0x0⟩, ⟨19, 19, .rw, 0x0⟩, ⟨17, 16, .rw, 0x0⟩, ⟨15, 0, .rw, 0x100⟩]⟩,  -- TRN_CTRL R258
    ⟨0x144, 0, 1, [⟨2, 0, .rw, 0x1⟩]⟩,  -- TRN_PAT R259
    ⟨0x148, 0, 1, [⟨31, 0, .rw, 0x0⟩]⟩,  -- TRN_USER_LO R259
    ⟨0x14C, 0, 1, [⟨31, 0, .rw, 0x0⟩]⟩,  -- TRN_USER_HI R259
    ⟨0x150, 0, 1, [⟨30, 24, .rw, 0x7F⟩, ⟨22, 16, .rw, 0x0⟩, ⟨6, 0, .rw, 0x1⟩]⟩,  -- TRN_SWEEP R260
    ⟨0x154, 0, 1, [⟨31, 31, .ro, 0x0⟩, ⟨30, 30, .ro, 0x0⟩, ⟨29, 29, .ro, 0x0⟩, ⟨28, 28, .ro, 0x0⟩, ⟨27, 27, .ro, 0x0⟩, ⟨15, 0, .ro, 0x0⟩]⟩,  -- TRN_STATUS R261
    ⟨0x158, 0, 1, [⟨31, 0, .ro, 0x0⟩]⟩,  -- TRN_FAIL_LO R261
    ⟨0x15C, 0, 1, [⟨3, 0, .ro, 0x0⟩]⟩,  -- TRN_FAIL_HI R261
    ⟨0x160, 0, 1, [⟨5, 0, .rw, 0x0⟩]⟩,  -- TRN_SEL R262
    ⟨0x164, 0, 1, [⟨15, 0, .ro, 0x0⟩]⟩,  -- TRN_ERRCNT R262
    ⟨0x170, 4, 4, [⟨31, 0, .ro, 0x0⟩]⟩,  -- TRN_MAP R262
    ⟨0x180, 0, 1, [⟨6, 6, .rw, 0x0⟩, ⟨5, 0, .rw, 0x0⟩]⟩,  -- DLY_SEL R263
    ⟨0x184, 0, 1, [⟨21, 16, .rw, 0x20⟩, ⟨14, 8, .rw, 0x40⟩, ⟨6, 0, .rw, 0x40⟩]⟩,  -- DLY R263
    ⟨0x190, 0, 1, [⟨27, 24, .rw, 0x4⟩, ⟨23, 0, .rw, 0x400⟩]⟩  -- TRK R264
  ]

/-- Registers of the NDU page. -/
def regsNdu : List RegSpec :=
  [
    ⟨0x10, 0, 1, [⟨1, 1, .w1c, 0x0⟩, ⟨0, 0, .w1c, 0x0⟩]⟩,  -- PAGE_ERR R202
    ⟨0x100, 0, 1, [⟨0, 0, .wo, 0x0⟩]⟩,  -- CTRL R200
    ⟨0x104, 0, 1, [⟨13, 0, .rw, 0x1000⟩]⟩,  -- ACC_CFG R201
    ⟨0x108, 0, 1, [⟨13, 0, .ro, 0x0⟩]⟩  -- ACC_STATUS R201
  ]

/-- Registers of the GTH page. -/
def regsGth : List RegSpec :=
  [
    ⟨0x10, 0, 1, [⟨1, 1, .w1c, 0x0⟩, ⟨0, 0, .w1c, 0x0⟩]⟩,  -- PAGE_ERR R206
    ⟨0x100, 0, 1, [⟨26, 16, .ro, 0x0⟩, ⟨4, 0, .ro, 0x0⟩]⟩,  -- STATUS R204
    ⟨0x200, 16, 8, [⟨31, 12, .rw, 0x0⟩]⟩,  -- ACCR_BASE_LO R205
    ⟨0x204, 16, 8, [⟨7, 0, .rw, 0x0⟩]⟩,  -- ACCR_BASE_HI R205
    ⟨0x208, 16, 8, [⟨27, 0, .rw, 0x0⟩]⟩,  -- ACCR_SIZE R205
    ⟨0x20C, 16, 8, [⟨31, 31, .rw, 0x0⟩, ⟨7, 0, .rw, 0x7D⟩]⟩  -- ACCR_CFG R205
  ]

/-- Registers of the LABEL page. -/
def regsLabel : List RegSpec :=
  [
    ⟨0x0, 0, 1, [⟨18, 8, .st, 0x0⟩, ⟨7, 4, .st, 0x0⟩, ⟨3, 0, .st, 0x4⟩]⟩,  -- W0 R152
    ⟨0x4, 0, 1, [⟨31, 16, .st, 0x40⟩, ⟨15, 0, .st, 0x0⟩]⟩,  -- W1 R152
    ⟨0x8, 0, 1, [⟨18, 8, .st, 0x0⟩, ⟨7, 0, .st, 0x10⟩]⟩  -- W2 R152
  ]

/-- The registers of a page. -/
def Page.regs : Page → List RegSpec
  | .pkg => regsPkg
  | .tic => regsTic
  | .sch => regsSch
  | .rte => regsRte
  | .cmt => regsCmt
  | .stk => regsStk
  | .clk => regsClk
  | .pwr => regsPwr
  | .thm => regsThm
  | .otp => regsOtp
  | .cal => regsCal
  | .reg => regsReg
  | .bst => regsBst
  | .adm => regsAdm
  | .tsm => regsTsm
  | .scb => regsScb
  | .vit => regsVit
  | .doc => regsDoc
  | .nxp => regsNxp
  | .nxl => regsNxl
  | .ctl => regsCtl
  | .ndu => regsNdu
  | .gth => regsGth
  | .label => regsLabel

/-- PAGE_CAP: HAS_STAGED, CLEARABLE and COUNTERS of each page (R81). -/
def Page.cap : Page → Bool × Bool × Nat
  | .pkg => (true, false, 0)
  | .tic => (false, false, 6)
  | .sch => (true, true, 11)
  | .rte => (true, true, 5)
  | .cmt => (false, true, 6)
  | .stk => (false, true, 3)
  | .clk => (false, true, 8)
  | .pwr => (false, true, 4)
  | .thm => (false, true, 7)
  | .otp => (false, true, 3)
  | .cal => (false, true, 3)
  | .reg => (false, true, 8)
  | .bst => (false, true, 4)
  | .adm => (true, false, 0)
  | .tsm => (false, true, 4)
  | .scb => (false, true, 8)
  | .vit => (true, true, 6)
  | .doc => (false, true, 4)
  | .nxp => (true, true, 10)
  | .nxl => (false, true, 32)
  | .ctl => (false, true, 8)
  | .ndu => (false, true, 6)
  | .gth => (false, true, 4)
  | .label => (false, false, 0)

/-- A Registrar kind (R450): page whose bit reports it, bit (or n of R452), severity and default level (R458 codes). -/
structure Kind where
  page : Page
  bit  : Nat
  sev  : Nat
  lvl  : Nat
  deriving DecidableEq, Repr

/-- The kind code (R450). -/
def Kind.code (x : Kind) : Nat := x.page.blockType * 32 + x.bit

/-- TIC.SYNC_REJECT. -/
def K.TIC_SYNC_REJECT : Kind := ⟨.tic, 0, 0, 0⟩
/-- TIC.FRAME_MISMATCH. -/
def K.TIC_FRAME_MISMATCH : Kind := ⟨.tic, 1, 1, 1⟩
/-- TIC.FORCED_OVERRUN. -/
def K.TIC_FORCED_OVERRUN : Kind := ⟨.tic, 2, 0, 0⟩
/-- CLK.MUX_FORCED. -/
def K.CLK_MUX_FORCED : Kind := ⟨.clk, 0, 0, 0⟩
/-- CLK.REF_HOLDOVER. -/
def K.CLK_REF_HOLDOVER : Kind := ⟨.clk, 1, 0, 0⟩
/-- CLK.REF_FAILOVER. -/
def K.CLK_REF_FAILOVER : Kind := ⟨.clk, 2, 1, 1⟩
/-- CLK.REF_LOST. -/
def K.CLK_REF_LOST : Kind := ⟨.clk, 3, 1, 1⟩
/-- CLK.PLL_RESTART. -/
def K.CLK_PLL_RESTART : Kind := ⟨.clk, 4, 0, 1⟩
/-- CLK.PLL_FAIL. -/
def K.CLK_PLL_FAIL : Kind := ⟨.clk, 5, 2, 2⟩
/-- CLK.REF_SEL_REJECT. -/
def K.CLK_REF_SEL_REJECT : Kind := ⟨.clk, 6, 0, 0⟩
/-- PWR.BROWNOUT. -/
def K.PWR_BROWNOUT : Kind := ⟨.pwr, 0, 1, 1⟩
/-- PWR.VIN_CAP. -/
def K.PWR_VIN_CAP : Kind := ⟨.pwr, 1, 0, 1⟩
/-- PWR.ILIMIT. -/
def K.PWR_ILIMIT : Kind := ⟨.pwr, 2, 1, 1⟩
/-- PWR.IVR_FAULT. -/
def K.PWR_IVR_FAULT : Kind := ⟨.pwr, 3, 2, 2⟩
/-- THM.SUSPECT. -/
def K.THM_SUSPECT : Kind := ⟨.thm, 0, 0, 1⟩
/-- THM.SENSOR_FAIL. -/
def K.THM_SENSOR_FAIL : Kind := ⟨.thm, 1, 1, 1⟩
/-- THM.ROR. -/
def K.THM_ROR : Kind := ⟨.thm, 2, 1, 1⟩
/-- THM.T1. -/
def K.THM_T1 : Kind := ⟨.thm, 3, 0, 0⟩
/-- THM.T2. -/
def K.THM_T2 : Kind := ⟨.thm, 4, 0, 1⟩
/-- THM.T3. -/
def K.THM_T3 : Kind := ⟨.thm, 5, 1, 1⟩
/-- THM.T4. -/
def K.THM_T4 : Kind := ⟨.thm, 6, 1, 2⟩
/-- THM.THRESH_REJECT. -/
def K.THM_THRESH_REJECT : Kind := ⟨.thm, 7, 0, 0⟩
/-- OTP.LC_FAIL. -/
def K.OTP_LC_FAIL : Kind := ⟨.otp, 0, 1, 1⟩
/-- OTP.IDENT_FAIL. -/
def K.OTP_IDENT_FAIL : Kind := ⟨.otp, 1, 1, 1⟩
/-- OTP.CRIT_FAIL. -/
def K.OTP_CRIT_FAIL : Kind := ⟨.otp, 2, 1, 1⟩
/-- OTP.REPAIR_FAIL. -/
def K.OTP_REPAIR_FAIL : Kind := ⟨.otp, 3, 2, 2⟩
/-- OTP.CAT_FAIL. -/
def K.OTP_CAT_FAIL : Kind := ⟨.otp, 4, 0, 1⟩
/-- OTP.CUST_FAIL. -/
def K.OTP_CUST_FAIL : Kind := ⟨.otp, 5, 0, 1⟩
/-- OTP.HEALTH_BAD. -/
def K.OTP_HEALTH_BAD : Kind := ⟨.otp, 6, 1, 1⟩
/-- OTP.MARGINAL. -/
def K.OTP_MARGINAL : Kind := ⟨.otp, 7, 0, 1⟩
/-- OTP.PROG_FAIL. -/
def K.OTP_PROG_FAIL : Kind := ⟨.otp, 8, 1, 1⟩
/-- OTP.SVC_FAIL. -/
def K.OTP_SVC_FAIL : Kind := ⟨.otp, 9, 0, 1⟩
/-- CAL.DISAGREE. -/
def K.CAL_DISAGREE : Kind := ⟨.cal, 0, 0, 0⟩
/-- REG.OVERFLOW. -/
def K.REG_OVERFLOW : Kind := ⟨.reg, 0, 0, 0⟩
/-- REG.MIRROR_LOST. -/
def K.REG_MIRROR_LOST : Kind := ⟨.reg, 1, 0, 0⟩
/-- REG.LOG_SRAM_CE. -/
def K.REG_LOG_SRAM_CE : Kind := ⟨.reg, 2, 0, 0⟩
/-- REG.LOG_SRAM_UE. -/
def K.REG_LOG_SRAM_UE : Kind := ⟨.reg, 3, 1, 1⟩
/-- REG.FORCED_HALT. -/
def K.REG_FORCED_HALT : Kind := ⟨.reg, 4, 3, 3⟩
/-- REG.SAFE_FORCED_RESET. -/
def K.REG_SAFE_FORCED_RESET : Kind := ⟨.reg, 5, 2, 1⟩
/-- BST.BLOCK_FAIL. -/
def K.BST_BLOCK_FAIL : Kind := ⟨.bst, 0, 1, 1⟩
/-- BST.CRIT_FAIL. -/
def K.BST_CRIT_FAIL : Kind := ⟨.bst, 1, 2, 2⟩
/-- BST.HEALTH_FULL. -/
def K.BST_HEALTH_FULL : Kind := ⟨.bst, 2, 1, 1⟩
/-- SCH.MISS_LATE. -/
def K.SCH_MISS_LATE : Kind := ⟨.sch, 0, 0, 0⟩
/-- SCH.MISS_SHORT. -/
def K.SCH_MISS_SHORT : Kind := ⟨.sch, 1, 0, 0⟩
/-- SCH.CAPACITY_SHORT. -/
def K.SCH_CAPACITY_SHORT : Kind := ⟨.sch, 2, 0, 0⟩
/-- NXP.REPLAY. -/
def K.NXP_REPLAY : Kind := ⟨.nxp, 0, 0, 0⟩
/-- NXP.RETRAIN. -/
def K.NXP_RETRAIN : Kind := ⟨.nxp, 1, 0, 1⟩
/-- NXP.LINK_RESET. -/
def K.NXP_LINK_RESET : Kind := ⟨.nxp, 2, 1, 1⟩
/-- NXP.CREDIT_VIOL. -/
def K.NXP_CREDIT_VIOL : Kind := ⟨.nxp, 3, 1, 1⟩
/-- NXP.PROTOCOL. -/
def K.NXP_PROTOCOL : Kind := ⟨.nxp, 4, 1, 1⟩
/-- NXP.TRAILER_CRC. -/
def K.NXP_TRAILER_CRC : Kind := ⟨.nxp, 5, 0, 0⟩
/-- NXP.RSP_STALL. -/
def K.NXP_RSP_STALL : Kind := ⟨.nxp, 6, 1, 1⟩
/-- NXP.INIT_TIMEOUT. -/
def K.NXP_INIT_TIMEOUT : Kind := ⟨.nxp, 7, 0, 0⟩
/-- NXL.TRAIN_FAIL. -/
def K.NXL_TRAIN_FAIL : Kind := ⟨.nxl, 0, 0, 0⟩
/-- NXL.LANE_ORDER. -/
def K.NXL_LANE_ORDER : Kind := ⟨.nxl, 1, 1, 1⟩
/-- NXL.FALLBACK_A. -/
def K.NXL_FALLBACK_A : Kind := ⟨.nxl, 2, 0, 1⟩
/-- NXL.UNFREEZE. -/
def K.NXL_UNFREEZE : Kind := ⟨.nxl, 3, 0, 0⟩
/-- NXL.FALSE_WAKE. -/
def K.NXL_FALSE_WAKE : Kind := ⟨.nxl, 4, 0, 0⟩
/-- NXL.SLIP. -/
def K.NXL_SLIP : Kind := ⟨.nxl, 5, 0, 0⟩
/-- NXL.STUFF_OVERRUN. -/
def K.NXL_STUFF_OVERRUN : Kind := ⟨.nxl, 6, 0, 0⟩
/-- NXL.PORT_HELD. -/
def K.NXL_PORT_HELD : Kind := ⟨.nxl, 7, 1, 1⟩
/-- RTE.NO_ENTRY. -/
def K.RTE_NO_ENTRY : Kind := ⟨.rte, 0, 0, 0⟩
/-- RTE.HOPS. -/
def K.RTE_HOPS : Kind := ⟨.rte, 1, 0, 0⟩
/-- RTE.UPDOWN. -/
def K.RTE_UPDOWN : Kind := ⟨.rte, 2, 1, 1⟩
/-- RTE.FWD_TIMEOUT. -/
def K.RTE_FWD_TIMEOUT : Kind := ⟨.rte, 3, 1, 1⟩
/-- VIT.SRAM_CE. -/
def K.VIT_SRAM_CE : Kind := ⟨.vit, 0, 0, 0⟩
/-- VIT.SRAM_UE. -/
def K.VIT_SRAM_UE : Kind := ⟨.vit, 1, 1, 1⟩
/-- VIT.TAG_UE. -/
def K.VIT_TAG_UE : Kind := ⟨.vit, 2, 2, 2⟩
/-- VIT.SCRUB_LATE. -/
def K.VIT_SCRUB_LATE : Kind := ⟨.vit, 3, 0, 0⟩
/-- CTL.TRK_MARGIN. -/
def K.CTL_TRK_MARGIN : Kind := ⟨.ctl, 0, 0, 0⟩
/-- CTL.TRK_FAIL. -/
def K.CTL_TRK_FAIL : Kind := ⟨.ctl, 1, 1, 1⟩
/-- CTL.ACT_TRK_UE. -/
def K.CTL_ACT_TRK_UE : Kind := ⟨.ctl, 2, 1, 1⟩
/-- CTL.PAUSE_DEBT. -/
def K.CTL_PAUSE_DEBT : Kind := ⟨.ctl, 3, 0, 0⟩
/-- NDU.POISON_RESULT. -/
def K.NDU_POISON_RESULT : Kind := ⟨.ndu, 0, 0, 0⟩
/-- NDU.ACC_OVF. -/
def K.NDU_ACC_OVF : Kind := ⟨.ndu, 1, 0, 0⟩
/-- TSM.SRAM_CE. -/
def K.TSM_SRAM_CE : Kind := ⟨.tsm, 0, 0, 0⟩
/-- TSM.SRAM_UE. -/
def K.TSM_SRAM_UE : Kind := ⟨.tsm, 1, 2, 1⟩
/-- SCB.WORD_CE. -/
def K.SCB_WORD_CE : Kind := ⟨.scb, 0, 0, 0⟩
/-- SCB.WORD_REBUILT. -/
def K.SCB_WORD_REBUILT : Kind := ⟨.scb, 1, 1, 1⟩
/-- SCB.WORD_POISON. -/
def K.SCB_WORD_POISON : Kind := ⟨.scb, 2, 2, 1⟩
/-- SCB.LASTING_ROW. -/
def K.SCB_LASTING_ROW : Kind := ⟨.scb, 3, 1, 1⟩
/-- SCB.LASTING_LANE. -/
def K.SCB_LASTING_LANE : Kind := ⟨.scb, 4, 1, 1⟩
/-- SCB.PAGE_MISMATCH. -/
def K.SCB_PAGE_MISMATCH : Kind := ⟨.scb, 5, 1, 1⟩
/-- SCB.OPEN_OVERFLOW. -/
def K.SCB_OPEN_OVERFLOW : Kind := ⟨.scb, 6, 0, 0⟩
/-- SCB.SCRUB_LATE. -/
def K.SCB_SCRUB_LATE : Kind := ⟨.scb, 7, 0, 0⟩
/-- DOC.CMD_FAIL. -/
def K.DOC_CMD_FAIL : Kind := ⟨.doc, 0, 0, 0⟩
/-- DOC.REPAIR_CONFLICT. -/
def K.DOC_REPAIR_CONFLICT : Kind := ⟨.doc, 1, 1, 1⟩
/-- DOC.TRAIN_START_FAIL. -/
def K.DOC_TRAIN_START_FAIL : Kind := ⟨.doc, 2, 1, 1⟩
/-- DOC.START_FAIL. -/
def K.DOC_START_FAIL : Kind := ⟨.doc, 3, 2, 2⟩
/-- STK.POSTED_FAIL. -/
def K.STK_POSTED_FAIL : Kind := ⟨.stk, 24, 0, 0⟩
/-- STK.ADMIT_TIMEOUT. -/
def K.STK_ADMIT_TIMEOUT : Kind := ⟨.stk, 25, 0, 0⟩
/-- STK.RING_LINK_FAIL. -/
def K.STK_RING_LINK_FAIL : Kind := ⟨.stk, 26, 1, 1⟩
/-- STK.LATE_RSP. -/
def K.STK_LATE_RSP : Kind := ⟨.stk, 27, 0, 0⟩
/-- STK.ROUTE_UNBACKED. -/
def K.STK_ROUTE_UNBACKED : Kind := ⟨.stk, 28, 0, 0⟩
/-- STK.RING_PARTITION. -/
def K.STK_RING_PARTITION : Kind := ⟨.stk, 29, 1, 2⟩
/-- GTH.ELEM_FAIL. -/
def K.GTH_ELEM_FAIL : Kind := ⟨.gth, 0, 0, 0⟩
/-- GTH.IDX_POISON. -/
def K.GTH_IDX_POISON : Kind := ⟨.gth, 1, 0, 0⟩
/-- CMT.ABORT. -/
def K.CMT_ABORT : Kind := ⟨.cmt, 0, 0, 0⟩
/-- CMT.SPLIT. -/
def K.CMT_SPLIT : Kind := ⟨.cmt, 1, 1, 2⟩

/-- Kinds, part 0. -/
def kinds0 : List Kind :=
  [K.TIC_SYNC_REJECT, K.TIC_FRAME_MISMATCH, K.TIC_FORCED_OVERRUN, K.CLK_MUX_FORCED, K.CLK_REF_HOLDOVER,
   K.CLK_REF_FAILOVER, K.CLK_REF_LOST, K.CLK_PLL_RESTART, K.CLK_PLL_FAIL, K.CLK_REF_SEL_REJECT, K.PWR_BROWNOUT,
   K.PWR_VIN_CAP, K.PWR_ILIMIT, K.PWR_IVR_FAULT, K.THM_SUSPECT, K.THM_SENSOR_FAIL, K.THM_ROR, K.THM_T1, K.THM_T2,
   K.THM_T3, K.THM_T4, K.THM_THRESH_REJECT, K.OTP_LC_FAIL, K.OTP_IDENT_FAIL, K.OTP_CRIT_FAIL]

/-- Kinds, part 1. -/
def kinds1 : List Kind :=
  [K.OTP_REPAIR_FAIL, K.OTP_CAT_FAIL, K.OTP_CUST_FAIL, K.OTP_HEALTH_BAD, K.OTP_MARGINAL, K.OTP_PROG_FAIL,
   K.OTP_SVC_FAIL, K.CAL_DISAGREE, K.REG_OVERFLOW, K.REG_MIRROR_LOST, K.REG_LOG_SRAM_CE, K.REG_LOG_SRAM_UE,
   K.REG_FORCED_HALT, K.REG_SAFE_FORCED_RESET, K.BST_BLOCK_FAIL, K.BST_CRIT_FAIL, K.BST_HEALTH_FULL,
   K.SCH_MISS_LATE, K.SCH_MISS_SHORT, K.SCH_CAPACITY_SHORT, K.NXP_REPLAY, K.NXP_RETRAIN, K.NXP_LINK_RESET,
   K.NXP_CREDIT_VIOL, K.NXP_PROTOCOL]

/-- Kinds, part 2. -/
def kinds2 : List Kind :=
  [K.NXP_TRAILER_CRC, K.NXP_RSP_STALL, K.NXP_INIT_TIMEOUT, K.NXL_TRAIN_FAIL, K.NXL_LANE_ORDER, K.NXL_FALLBACK_A,
   K.NXL_UNFREEZE, K.NXL_FALSE_WAKE, K.NXL_SLIP, K.NXL_STUFF_OVERRUN, K.NXL_PORT_HELD, K.RTE_NO_ENTRY,
   K.RTE_HOPS, K.RTE_UPDOWN, K.RTE_FWD_TIMEOUT, K.VIT_SRAM_CE, K.VIT_SRAM_UE, K.VIT_TAG_UE, K.VIT_SCRUB_LATE,
   K.CTL_TRK_MARGIN, K.CTL_TRK_FAIL, K.CTL_ACT_TRK_UE, K.CTL_PAUSE_DEBT, K.NDU_POISON_RESULT, K.NDU_ACC_OVF]

/-- Kinds, part 3. -/
def kinds3 : List Kind :=
  [K.TSM_SRAM_CE, K.TSM_SRAM_UE, K.SCB_WORD_CE, K.SCB_WORD_REBUILT, K.SCB_WORD_POISON, K.SCB_LASTING_ROW,
   K.SCB_LASTING_LANE, K.SCB_PAGE_MISMATCH, K.SCB_OPEN_OVERFLOW, K.SCB_SCRUB_LATE, K.DOC_CMD_FAIL,
   K.DOC_REPAIR_CONFLICT, K.DOC_TRAIN_START_FAIL, K.DOC_START_FAIL, K.STK_POSTED_FAIL, K.STK_ADMIT_TIMEOUT,
   K.STK_RING_LINK_FAIL, K.STK_LATE_RSP, K.STK_ROUTE_UNBACKED, K.STK_RING_PARTITION, K.GTH_ELEM_FAIL,
   K.GTH_IDX_POISON, K.CMT_ABORT, K.CMT_SPLIT]

/-- Every kind that exists (REG_KIND_CFG.DEFINED, R473). -/
def kinds : List Kind := kinds0 ++ kinds1 ++ kinds2 ++ kinds3

/-- The kind with a code. -/
def kindOf (code : Nat) : Option Kind := kinds.find? (fun x => x.code == code)

/-- PKG_PLEVEL.LEVEL (R29). -/
def F.PKG_PLEVEL_LEVEL : FRef := ⟨.pkg, 0x100, 1, 0⟩
/-- PKG_STATUS.AGG_STACK (R30). -/
def F.PKG_STATUS_AGG_STACK : FRef := ⟨.pkg, 0x104, 31, 29⟩
/-- PKG_STATUS.HALTED (R30). -/
def F.PKG_STATUS_HALTED : FRef := ⟨.pkg, 0x104, 28, 28⟩
/-- PKG_STATUS.RUN_LEVEL (R30). -/
def F.PKG_STATUS_RUN_LEVEL : FRef := ⟨.pkg, 0x104, 27, 26⟩
/-- PKG_STATUS.SAFE_MAP (R30). -/
def F.PKG_STATUS_SAFE_MAP : FRef := ⟨.pkg, 0x104, 23, 16⟩
/-- PKG_STATUS.MAINT_MAP (R30). -/
def F.PKG_STATUS_MAINT_MAP : FRef := ⟨.pkg, 0x104, 15, 8⟩
/-- PKG_STATUS.PRESENT_MAP (R30). -/
def F.PKG_STATUS_PRESENT_MAP : FRef := ⟨.pkg, 0x104, 7, 0⟩
/-- PKG_PART.PART_CODE (R31). -/
def F.PKG_PART_PART_CODE : FRef := ⟨.pkg, 0x108, 31, 16⟩
/-- PKG_PART.LID (R31). -/
def F.PKG_PART_LID : FRef := ⟨.pkg, 0x108, 15, 15⟩
/-- PKG_PART.STACKS (R31). -/
def F.PKG_PART_STACKS : FRef := ⟨.pkg, 0x108, 11, 8⟩
/-- PKG_PART.DIES (R31). -/
def F.PKG_PART_DIES : FRef := ⟨.pkg, 0x108, 7, 0⟩
/-- TIC_PAGE_ERR.FORCED_OVERRUN (R59). -/
def F.TIC_PAGE_ERR_FORCED_OVERRUN : FRef := ⟨.tic, 0x10, 2, 2⟩
/-- TIC_PAGE_ERR.FRAME_MISMATCH (R59). -/
def F.TIC_PAGE_ERR_FRAME_MISMATCH : FRef := ⟨.tic, 0x10, 1, 1⟩
/-- TIC_PAGE_ERR.SYNC_REJECT (R59). -/
def F.TIC_PAGE_ERR_SYNC_REJECT : FRef := ⟨.tic, 0x10, 0, 0⟩
/-- TIC_CTRL.MISMATCH_CHECK_EN (R55). -/
def F.TIC_CTRL_MISMATCH_CHECK_EN : FRef := ⟨.tic, 0x100, 1, 1⟩
/-- TIC_CTRL.SYNC_ACCEPT (R55). -/
def F.TIC_CTRL_SYNC_ACCEPT : FRef := ⟨.tic, 0x100, 0, 0⟩
/-- TIC_STATUS.P_LEVEL (R56). -/
def F.TIC_STATUS_P_LEVEL : FRef := ⟨.tic, 0x104, 17, 16⟩
/-- TIC_STATUS.LONG_FRAME (R56). -/
def F.TIC_STATUS_LONG_FRAME : FRef := ⟨.tic, 0x104, 3, 3⟩
/-- TIC_STATUS.TIME_ESTIMATED (R56). -/
def F.TIC_STATUS_TIME_ESTIMATED : FRef := ⟨.tic, 0x104, 1, 1⟩
/-- TIC_STATUS.TIME_VALID (R56). -/
def F.TIC_STATUS_TIME_VALID : FRef := ⟨.tic, 0x104, 0, 0⟩
/-- TIC_NOW.REF_PHASE (R57). -/
def F.TIC_NOW_REF_PHASE : FRef := ⟨.tic, 0x108, 23, 16⟩
/-- TIC_NOW.SLOT (R57). -/
def F.TIC_NOW_SLOT : FRef := ⟨.tic, 0x108, 10, 0⟩
/-- TIC_CAP.HALVED (R58). -/
def F.TIC_CAP_HALVED : FRef := ⟨.tic, 0x120, 30, 30⟩
/-- TIC_CAP.TIER (R58). -/
def F.TIC_CAP_TIER : FRef := ⟨.tic, 0x120, 29, 28⟩
/-- TIC_CAP.GUAR_SLOTS (R58). -/
def F.TIC_CAP_GUAR_SLOTS : FRef := ⟨.tic, 0x120, 27, 17⟩
/-- TIC_CAP.TURN_SLOTS (R58). -/
def F.TIC_CAP_TURN_SLOTS : FRef := ⟨.tic, 0x120, 16, 9⟩
/-- TIC_CAP.BG_SLOTS (R58). -/
def F.TIC_CAP_BG_SLOTS : FRef := ⟨.tic, 0x120, 8, 0⟩
/-- SCH_PAGE_ERR.CAPACITY_SHORT (R175). -/
def F.SCH_PAGE_ERR_CAPACITY_SHORT : FRef := ⟨.sch, 0x10, 2, 2⟩
/-- SCH_PAGE_ERR.MISS_SHORT (R175). -/
def F.SCH_PAGE_ERR_MISS_SHORT : FRef := ⟨.sch, 0x10, 1, 1⟩
/-- SCH_PAGE_ERR.MISS_LATE (R175). -/
def F.SCH_PAGE_ERR_MISS_LATE : FRef := ⟨.sch, 0x10, 0, 0⟩
/-- SCH_CTRL.LABEL_VIEW (R169). -/
def F.SCH_CTRL_LABEL_VIEW : FRef := ⟨.sch, 0x100, 8, 8⟩
/-- SCH_CTRL.SHORT_IRQ_EN (R169). -/
def F.SCH_CTRL_SHORT_IRQ_EN : FRef := ⟨.sch, 0x100, 7, 4⟩
/-- SCH_CTRL.LATE_IRQ_EN (R169). -/
def F.SCH_CTRL_LATE_IRQ_EN : FRef := ⟨.sch, 0x100, 3, 0⟩
/-- SCH_ADMIT.ADMIT_TIER (R170). -/
def F.SCH_ADMIT_ADMIT_TIER : FRef := ⟨.sch, 0x104, 1, 0⟩
/-- SCH_ADMIT_STATUS.CAPACITY (R171). -/
def F.SCH_ADMIT_STATUS_CAPACITY : FRef := ⟨.sch, 0x108, 26, 16⟩
/-- SCH_ADMIT_STATUS.DEMAND (R171). -/
def F.SCH_ADMIT_STATUS_DEMAND : FRef := ⟨.sch, 0x108, 15, 0⟩
/-- SCH_GRES.RES_SUM (R172). -/
def F.SCH_GRES_RES_SUM : FRef := ⟨.sch, 0x110, 15, 0⟩
/-- SCH_BWEIGHT.W3 (R173). -/
def F.SCH_BWEIGHT_W3 : FRef := ⟨.sch, 0x120, 31, 24⟩
/-- SCH_BWEIGHT.W2 (R173). -/
def F.SCH_BWEIGHT_W2 : FRef := ⟨.sch, 0x120, 23, 16⟩
/-- SCH_BWEIGHT.W1 (R173). -/
def F.SCH_BWEIGHT_W1 : FRef := ⟨.sch, 0x120, 15, 8⟩
/-- SCH_BWEIGHT.W0 (R173). -/
def F.SCH_BWEIGHT_W0 : FRef := ⟨.sch, 0x120, 7, 0⟩
/-- SCH_MISS_LAST.KIND (R174). -/
def F.SCH_MISS_LAST_KIND : FRef := ⟨.sch, 0x130, 31, 31⟩
/-- SCH_MISS_LAST.STACK (R174). -/
def F.SCH_MISS_LAST_STACK : FRef := ⟨.sch, 0x130, 30, 28⟩
/-- SCH_MISS_LAST.CHANNEL (R174). -/
def F.SCH_MISS_LAST_CHANNEL : FRef := ⟨.sch, 0x130, 27, 23⟩
/-- SCH_MISS_LAST.PC (R174). -/
def F.SCH_MISS_LAST_PC : FRef := ⟨.sch, 0x130, 22, 22⟩
/-- SCH_MISS_LAST.CLASS (R174). -/
def F.SCH_MISS_LAST_CLASS : FRef := ⟨.sch, 0x130, 21, 20⟩
/-- SCH_MISS_LAST.FRAME (R174). -/
def F.SCH_MISS_LAST_FRAME : FRef := ⟨.sch, 0x130, 15, 0⟩
/-- SCH_MISS_LABEL.LABEL (R174). -/
def F.SCH_MISS_LABEL_LABEL : FRef := ⟨.sch, 0x134, 11, 0⟩
/-- RTE_PAGE_ERR.FWD_TIMEOUT (R376). -/
def F.RTE_PAGE_ERR_FWD_TIMEOUT : FRef := ⟨.rte, 0x10, 3, 3⟩
/-- RTE_PAGE_ERR.UPDOWN (R376). -/
def F.RTE_PAGE_ERR_UPDOWN : FRef := ⟨.rte, 0x10, 2, 2⟩
/-- RTE_PAGE_ERR.HOPS (R376). -/
def F.RTE_PAGE_ERR_HOPS : FRef := ⟨.rte, 0x10, 1, 1⟩
/-- RTE_PAGE_ERR.NO_ENTRY (R376). -/
def F.RTE_PAGE_ERR_NO_ENTRY : FRef := ⟨.rte, 0x10, 0, 0⟩
/-- RTE_ENTRY.VALID (R374). -/
def F.RTE_ENTRY_VALID : FRef := ⟨.rte, 0x100, 31, 31⟩
/-- RTE_ENTRY.LOCAL (R374). -/
def F.RTE_ENTRY_LOCAL : FRef := ⟨.rte, 0x100, 30, 30⟩
/-- RTE_ENTRY.HOP_COUNT (R374). -/
def F.RTE_ENTRY_HOP_COUNT : FRef := ⟨.rte, 0x100, 29, 28⟩
/-- RTE_ENTRY.GROUP (R374). -/
def F.RTE_ENTRY_GROUP : FRef := ⟨.rte, 0x100, 4, 0⟩
/-- RTE_GROUP.PORTS (R375). -/
def F.RTE_GROUP_PORTS : FRef := ⟨.rte, 0x500, 31, 0⟩
/-- RTE_ROLE.PORTS (R375). -/
def F.RTE_ROLE_PORTS : FRef := ⟨.rte, 0x580, 31, 0⟩
/-- RTE_SELF.DOMAIN (R375). -/
def F.RTE_SELF_DOMAIN : FRef := ⟨.rte, 0x590, 12, 8⟩
/-- RTE_SELF.PACKAGE (R375). -/
def F.RTE_SELF_PACKAGE : FRef := ⟨.rte, 0x590, 7, 0⟩
/-- CMT_PAGE_ERR.SPLIT (R102). -/
def F.CMT_PAGE_ERR_SPLIT : FRef := ⟨.cmt, 0x10, 1, 1⟩
/-- CMT_PAGE_ERR.ABORT (R102). -/
def F.CMT_PAGE_ERR_ABORT : FRef := ⟨.cmt, 0x10, 0, 0⟩
/-- CMT_COMMIT.GO (R99). -/
def F.CMT_COMMIT_GO : FRef := ⟨.cmt, 0x100, 31, 31⟩
/-- CMT_COMMIT.CHECK_ONLY (R99). -/
def F.CMT_COMMIT_CHECK_ONLY : FRef := ⟨.cmt, 0x100, 30, 30⟩
/-- CMT_COMMIT.TAG (R99). -/
def F.CMT_COMMIT_TAG : FRef := ⟨.cmt, 0x100, 15, 0⟩
/-- CMT_RESULT.BUSY (R100). -/
def F.CMT_RESULT_BUSY : FRef := ⟨.cmt, 0x104, 31, 31⟩
/-- CMT_RESULT.DONE (R100). -/
def F.CMT_RESULT_DONE : FRef := ⟨.cmt, 0x104, 30, 30⟩
/-- CMT_RESULT.CHECK_ONLY (R100). -/
def F.CMT_RESULT_CHECK_ONLY : FRef := ⟨.cmt, 0x104, 29, 29⟩
/-- CMT_RESULT.STATUS (R100). -/
def F.CMT_RESULT_STATUS : FRef := ⟨.cmt, 0x104, 28, 25⟩
/-- CMT_RESULT.SOURCE (R100). -/
def F.CMT_RESULT_SOURCE : FRef := ⟨.cmt, 0x104, 24, 19⟩
/-- CMT_RESULT.FAIL_STACK (R100). -/
def F.CMT_RESULT_FAIL_STACK : FRef := ⟨.cmt, 0x104, 18, 16⟩
/-- CMT_RESULT.TAG (R100). -/
def F.CMT_RESULT_TAG : FRef := ⟨.cmt, 0x104, 15, 0⟩
/-- CMT_FAIL.WINDOW (R101). -/
def F.CMT_FAIL_WINDOW : FRef := ⟨.cmt, 0x108, 24, 24⟩
/-- CMT_FAIL.PAGE (R101). -/
def F.CMT_FAIL_PAGE : FRef := ⟨.cmt, 0x108, 23, 16⟩
/-- CMT_FAIL.ITEM (R101). -/
def F.CMT_FAIL_ITEM : FRef := ⟨.cmt, 0x108, 15, 0⟩
/-- STK_RESET.GO (R494). -/
def F.STK_RESET_GO : FRef := ⟨.stk, 0x100, 31, 31⟩
/-- STK_RESET.RETAIN (R494). -/
def F.STK_RESET_RETAIN : FRef := ⟨.stk, 0x100, 30, 30⟩
/-- STK_RESET.PKG_RESET (R494). -/
def F.STK_RESET_PKG_RESET : FRef := ⟨.stk, 0x100, 29, 29⟩
/-- STK_RESET.KEY (R494). -/
def F.STK_RESET_KEY : FRef := ⟨.stk, 0x100, 7, 0⟩
/-- STK_RESET_STATUS.LAST (R494). -/
def F.STK_RESET_STATUS_LAST : FRef := ⟨.stk, 0x104, 31, 30⟩
/-- STK_RESET_STATUS.FROM_SAVE (R494). -/
def F.STK_RESET_STATUS_FROM_SAVE : FRef := ⟨.stk, 0x104, 29, 29⟩
/-- STK_RESET_STATUS.WARM_COUNT (R494). -/
def F.STK_RESET_STATUS_WARM_COUNT : FRef := ⟨.stk, 0x104, 15, 0⟩
/-- STK_ID.SYS_ID (R32). -/
def F.STK_ID_SYS_ID : FRef := ⟨.stk, 0x108, 15, 0⟩
/-- STK_STATUS.MODE (R32). -/
def F.STK_STATUS_MODE : FRef := ⟨.stk, 0x10C, 31, 29⟩
/-- STK_STATUS.AGG (R32). -/
def F.STK_STATUS_AGG : FRef := ⟨.stk, 0x10C, 28, 28⟩
/-- STK_STATUS.REQ_TABLE (R32). -/
def F.STK_STATUS_REQ_TABLE : FRef := ⟨.stk, 0x10C, 27, 14⟩
/-- STK_STATUS.ADMIT_Q (R32). -/
def F.STK_STATUS_ADMIT_Q : FRef := ⟨.stk, 0x10C, 12, 0⟩
/-- STK_RING.DOWN_FAILED (R33). -/
def F.STK_RING_DOWN_FAILED : FRef := ⟨.stk, 0x110, 3, 3⟩
/-- STK_RING.UP_FAILED (R33). -/
def F.STK_RING_UP_FAILED : FRef := ⟨.stk, 0x110, 2, 2⟩
/-- STK_RING.DOWN_OK (R33). -/
def F.STK_RING_DOWN_OK : FRef := ⟨.stk, 0x110, 1, 1⟩
/-- STK_RING.UP_OK (R33). -/
def F.STK_RING_UP_OK : FRef := ⟨.stk, 0x110, 0, 0⟩
/-- CLK_PAGE_ERR.REF_SEL_REJECT (R405). -/
def F.CLK_PAGE_ERR_REF_SEL_REJECT : FRef := ⟨.clk, 0x10, 6, 6⟩
/-- CLK_PAGE_ERR.PLL_FAIL (R405). -/
def F.CLK_PAGE_ERR_PLL_FAIL : FRef := ⟨.clk, 0x10, 5, 5⟩
/-- CLK_PAGE_ERR.PLL_RESTART (R405). -/
def F.CLK_PAGE_ERR_PLL_RESTART : FRef := ⟨.clk, 0x10, 4, 4⟩
/-- CLK_PAGE_ERR.REF_LOST (R405). -/
def F.CLK_PAGE_ERR_REF_LOST : FRef := ⟨.clk, 0x10, 3, 3⟩
/-- CLK_PAGE_ERR.REF_FAILOVER (R405). -/
def F.CLK_PAGE_ERR_REF_FAILOVER : FRef := ⟨.clk, 0x10, 2, 2⟩
/-- CLK_PAGE_ERR.REF_HOLDOVER (R405). -/
def F.CLK_PAGE_ERR_REF_HOLDOVER : FRef := ⟨.clk, 0x10, 1, 1⟩
/-- CLK_PAGE_ERR.MUX_FORCED (R405). -/
def F.CLK_PAGE_ERR_MUX_FORCED : FRef := ⟨.clk, 0x10, 0, 0⟩
/-- CLK_REF.REVERT (R399). -/
def F.CLK_REF_REVERT : FRef := ⟨.clk, 0x100, 24, 24⟩
/-- CLK_REF.B2_EN (R399). -/
def F.CLK_REF_B2_EN : FRef := ⟨.clk, 0x100, 23, 23⟩
/-- CLK_REF.BACKUP2 (R399). -/
def F.CLK_REF_BACKUP2 : FRef := ⟨.clk, 0x100, 21, 16⟩
/-- CLK_REF.B1_EN (R399). -/
def F.CLK_REF_B1_EN : FRef := ⟨.clk, 0x100, 15, 15⟩
/-- CLK_REF.BACKUP1 (R399). -/
def F.CLK_REF_BACKUP1 : FRef := ⟨.clk, 0x100, 13, 8⟩
/-- CLK_REF.PRIMARY (R399). -/
def F.CLK_REF_PRIMARY : FRef := ⟨.clk, 0x100, 5, 0⟩
/-- CLK_STATUS.REF_STATE (R400). -/
def F.CLK_STATUS_REF_STATE : FRef := ⟨.clk, 0x104, 31, 30⟩
/-- CLK_STATUS.REF_INDEX (R400). -/
def F.CLK_STATUS_REF_INDEX : FRef := ⟨.clk, 0x104, 29, 28⟩
/-- CLK_STATUS.REF_PORT (R400). -/
def F.CLK_STATUS_REF_PORT : FRef := ⟨.clk, 0x104, 27, 22⟩
/-- CLK_STATUS.DIST (R400). -/
def F.CLK_STATUS_DIST : FRef := ⟨.clk, 0x104, 21, 20⟩
/-- CLK_STATUS.SOURCE_STACK (R400). -/
def F.CLK_STATUS_SOURCE_STACK : FRef := ⟨.clk, 0x104, 19, 17⟩
/-- CLK_STATUS.DOCENT_PLL (R400). -/
def F.CLK_STATUS_DOCENT_PLL : FRef := ⟨.clk, 0x104, 16, 16⟩
/-- CLK_STATUS.CORE_PLL (R400). -/
def F.CLK_STATUS_CORE_PLL : FRef := ⟨.clk, 0x104, 15, 14⟩
/-- CLK_STATUS.FIX_PLL (R400). -/
def F.CLK_STATUS_FIX_PLL : FRef := ⟨.clk, 0x104, 13, 12⟩
/-- CLK_STATUS.QUALIFIED (R400). -/
def F.CLK_STATUS_QUALIFIED : FRef := ⟨.clk, 0x104, 10, 8⟩
/-- CLK_STATUS.T3_DIV (R400). -/
def F.CLK_STATUS_T3_DIV : FRef := ⟨.clk, 0x104, 2, 2⟩
/-- CLK_STATUS.RUN_LEVEL (R400). -/
def F.CLK_STATUS_RUN_LEVEL : FRef := ⟨.clk, 0x104, 1, 0⟩
/-- CLK_DOCENT_SEL.SEL_PLL (R401). -/
def F.CLK_DOCENT_SEL_SEL_PLL : FRef := ⟨.clk, 0x108, 0, 0⟩
/-- CLK_PKG_MODE.GO (R402). -/
def F.CLK_PKG_MODE_GO : FRef := ⟨.clk, 0x110, 31, 31⟩
/-- CLK_PKG_MODE.REQ (R402). -/
def F.CLK_PKG_MODE_REQ : FRef := ⟨.clk, 0x110, 1, 0⟩
/-- CLK_STK_MODE.GO (R402). -/
def F.CLK_STK_MODE_GO : FRef := ⟨.clk, 0x114, 31, 31⟩
/-- CLK_STK_MODE.REQ (R402). -/
def F.CLK_STK_MODE_REQ : FRef := ⟨.clk, 0x114, 0, 0⟩
/-- CLK_MODE_STATUS.BUSY (R403). -/
def F.CLK_MODE_STATUS_BUSY : FRef := ⟨.clk, 0x118, 31, 31⟩
/-- CLK_MODE_STATUS.REJECTED (R403). -/
def F.CLK_MODE_STATUS_REJECTED : FRef := ⟨.clk, 0x118, 30, 30⟩
/-- CLK_MODE_STATUS.PKG_MODE (R403). -/
def F.CLK_MODE_STATUS_PKG_MODE : FRef := ⟨.clk, 0x118, 29, 28⟩
/-- CLK_MODE_STATUS.STK_MODE (R403). -/
def F.CLK_MODE_STATUS_STK_MODE : FRef := ⟨.clk, 0x118, 27, 26⟩
/-- CLK_MODE_STATUS.WAKE_CAUSE (R403). -/
def F.CLK_MODE_STATUS_WAKE_CAUSE : FRef := ⟨.clk, 0x118, 10, 8⟩
/-- CLK_IDLE_CFG.AUTO_EN (R402). -/
def F.CLK_IDLE_CFG_AUTO_EN : FRef := ⟨.clk, 0x11C, 31, 31⟩
/-- CLK_IDLE_CFG.IDLE_FRAMES (R402). -/
def F.CLK_IDLE_CFG_IDLE_FRAMES : FRef := ⟨.clk, 0x11C, 23, 0⟩
/-- CLK_GATE_DIS.DISABLE (R404). -/
def F.CLK_GATE_DIS_DISABLE : FRef := ⟨.clk, 0x120, 5, 0⟩
/-- CLK_GATE_STATUS.GATED (R404). -/
def F.CLK_GATE_STATUS_GATED : FRef := ⟨.clk, 0x124, 5, 0⟩
/-- PWR_PAGE_ERR.IVR_FAULT (R423). -/
def F.PWR_PAGE_ERR_IVR_FAULT : FRef := ⟨.pwr, 0x10, 3, 3⟩
/-- PWR_PAGE_ERR.ILIMIT (R423). -/
def F.PWR_PAGE_ERR_ILIMIT : FRef := ⟨.pwr, 0x10, 2, 2⟩
/-- PWR_PAGE_ERR.VIN_CAP (R423). -/
def F.PWR_PAGE_ERR_VIN_CAP : FRef := ⟨.pwr, 0x10, 1, 1⟩
/-- PWR_PAGE_ERR.BROWNOUT (R423). -/
def F.PWR_PAGE_ERR_BROWNOUT : FRef := ⟨.pwr, 0x10, 0, 0⟩
/-- PWR_STATUS.TILE_MODE (R421). -/
def F.PWR_STATUS_TILE_MODE : FRef := ⟨.pwr, 0x100, 5, 4⟩
/-- PWR_STATUS.ILIMIT_T3 (R421). -/
def F.PWR_STATUS_ILIMIT_T3 : FRef := ⟨.pwr, 0x100, 3, 3⟩
/-- PWR_STATUS.ILIMIT (R421). -/
def F.PWR_STATUS_ILIMIT : FRef := ⟨.pwr, 0x100, 2, 2⟩
/-- PWR_STATUS.VIN_CAP (R421). -/
def F.PWR_STATUS_VIN_CAP : FRef := ⟨.pwr, 0x100, 1, 1⟩
/-- PWR_STATUS.RAILS_OK (R421). -/
def F.PWR_STATUS_RAILS_OK : FRef := ⟨.pwr, 0x100, 0, 0⟩
/-- PWR_VIN.VIN_MIN (R421). -/
def F.PWR_VIN_VIN_MIN : FRef := ⟨.pwr, 0x104, 31, 16⟩
/-- PWR_VIN.VIN_MV (R421). -/
def F.PWR_VIN_VIN_MV : FRef := ⟨.pwr, 0x104, 15, 0⟩
/-- PWR_TILE.PIN (R421). -/
def F.PWR_TILE_PIN : FRef := ⟨.pwr, 0x108, 31, 16⟩
/-- PWR_TILE.IIN_MA (R421). -/
def F.PWR_TILE_IIN_MA : FRef := ⟨.pwr, 0x108, 15, 0⟩
/-- PWR_RAIL_SEL.RAIL (R421). -/
def F.PWR_RAIL_SEL_RAIL : FRef := ⟨.pwr, 0x10C, 1, 0⟩
/-- PWR_RAIL.IN_WINDOW (R421). -/
def F.PWR_RAIL_IN_WINDOW : FRef := ⟨.pwr, 0x110, 16, 16⟩
/-- PWR_RAIL.MV (R421). -/
def F.PWR_RAIL_MV : FRef := ⟨.pwr, 0x110, 15, 0⟩
/-- PWR_RESET_CAUSE.IN_RETAIN (R422). -/
def F.PWR_RESET_CAUSE_IN_RETAIN : FRef := ⟨.pwr, 0x120, 5, 5⟩
/-- PWR_RESET_CAUSE.PKG_RESET (R422). -/
def F.PWR_RESET_CAUSE_PKG_RESET : FRef := ⟨.pwr, 0x120, 4, 4⟩
/-- PWR_RESET_CAUSE.BROWNOUT (R422). -/
def F.PWR_RESET_CAUSE_BROWNOUT : FRef := ⟨.pwr, 0x120, 3, 3⟩
/-- PWR_RESET_CAUSE.OVP (R422). -/
def F.PWR_RESET_CAUSE_OVP : FRef := ⟨.pwr, 0x120, 2, 2⟩
/-- PWR_RESET_CAUSE.UVLO (R422). -/
def F.PWR_RESET_CAUSE_UVLO : FRef := ⟨.pwr, 0x120, 1, 1⟩
/-- PWR_RESET_CAUSE.RESET_N (R422). -/
def F.PWR_RESET_CAUSE_RESET_N : FRef := ⟨.pwr, 0x120, 0, 0⟩
/-- THM_PAGE_ERR.THRESH_REJECT (R426). -/
def F.THM_PAGE_ERR_THRESH_REJECT : FRef := ⟨.thm, 0x10, 7, 7⟩
/-- THM_PAGE_ERR.T4 (R426). -/
def F.THM_PAGE_ERR_T4 : FRef := ⟨.thm, 0x10, 6, 6⟩
/-- THM_PAGE_ERR.T3 (R426). -/
def F.THM_PAGE_ERR_T3 : FRef := ⟨.thm, 0x10, 5, 5⟩
/-- THM_PAGE_ERR.T2 (R426). -/
def F.THM_PAGE_ERR_T2 : FRef := ⟨.thm, 0x10, 4, 4⟩
/-- THM_PAGE_ERR.T1 (R426). -/
def F.THM_PAGE_ERR_T1 : FRef := ⟨.thm, 0x10, 3, 3⟩
/-- THM_PAGE_ERR.ROR (R426). -/
def F.THM_PAGE_ERR_ROR : FRef := ⟨.thm, 0x10, 2, 2⟩
/-- THM_PAGE_ERR.SENSOR_FAIL (R426). -/
def F.THM_PAGE_ERR_SENSOR_FAIL : FRef := ⟨.thm, 0x10, 1, 1⟩
/-- THM_PAGE_ERR.SUSPECT (R426). -/
def F.THM_PAGE_ERR_SUSPECT : FRef := ⟨.thm, 0x10, 0, 0⟩
/-- THM_THRESH.T4 (R425). -/
def F.THM_THRESH_T4 : FRef := ⟨.thm, 0x100, 31, 24⟩
/-- THM_THRESH.T3 (R425). -/
def F.THM_THRESH_T3 : FRef := ⟨.thm, 0x100, 23, 16⟩
/-- THM_THRESH.T2 (R425). -/
def F.THM_THRESH_T2 : FRef := ⟨.thm, 0x100, 15, 8⟩
/-- THM_THRESH.T1 (R425). -/
def F.THM_THRESH_T1 : FRef := ⟨.thm, 0x100, 7, 0⟩
/-- THM_ROR.EN (R425). -/
def F.THM_ROR_EN : FRef := ⟨.thm, 0x104, 31, 31⟩
/-- THM_ROR.WINDOW (R425). -/
def F.THM_ROR_WINDOW : FRef := ⟨.thm, 0x104, 23, 8⟩
/-- THM_ROR.RATE (R425). -/
def F.THM_ROR_RATE : FRef := ⟨.thm, 0x104, 7, 0⟩
/-- THM_STATUS.ROR_ALARM (R425). -/
def F.THM_STATUS_ROR_ALARM : FRef := ⟨.thm, 0x108, 31, 31⟩
/-- THM_STATUS.STAGE (R425). -/
def F.THM_STATUS_STAGE : FRef := ⟨.thm, 0x108, 30, 28⟩
/-- THM_STATUS.TIER (R425). -/
def F.THM_STATUS_TIER : FRef := ⟨.thm, 0x108, 27, 26⟩
/-- THM_STATUS.SUSPECTS (R425). -/
def F.THM_STATUS_SUSPECTS : FRef := ⟨.thm, 0x108, 25, 21⟩
/-- THM_STATUS.HOT_SRC (R425). -/
def F.THM_STATUS_HOT_SRC : FRef := ⟨.thm, 0x108, 20, 16⟩
/-- THM_STATUS.HOT_TEMP (R425). -/
def F.THM_STATUS_HOT_TEMP : FRef := ⟨.thm, 0x108, 10, 0⟩
/-- THM_SENSE_SEL.SENSOR (R425). -/
def F.THM_SENSE_SEL_SENSOR : FRef := ⟨.thm, 0x110, 5, 0⟩
/-- THM_SENSE.SUSPECT (R425). -/
def F.THM_SENSE_SUSPECT : FRef := ⟨.thm, 0x114, 31, 31⟩
/-- THM_SENSE.IN_USE (R425). -/
def F.THM_SENSE_IN_USE : FRef := ⟨.thm, 0x114, 26, 16⟩
/-- THM_SENSE.RAW (R425). -/
def F.THM_SENSE_RAW : FRef := ⟨.thm, 0x114, 10, 0⟩
/-- THM_SENSE_EST.ESTIMATE (R425). -/
def F.THM_SENSE_EST_ESTIMATE : FRef := ⟨.thm, 0x118, 10, 0⟩
/-- OTP_PAGE_ERR.SVC_FAIL (R444). -/
def F.OTP_PAGE_ERR_SVC_FAIL : FRef := ⟨.otp, 0x10, 9, 9⟩
/-- OTP_PAGE_ERR.PROG_FAIL (R444). -/
def F.OTP_PAGE_ERR_PROG_FAIL : FRef := ⟨.otp, 0x10, 8, 8⟩
/-- OTP_PAGE_ERR.MARGINAL (R444). -/
def F.OTP_PAGE_ERR_MARGINAL : FRef := ⟨.otp, 0x10, 7, 7⟩
/-- OTP_PAGE_ERR.HEALTH_BAD (R444). -/
def F.OTP_PAGE_ERR_HEALTH_BAD : FRef := ⟨.otp, 0x10, 6, 6⟩
/-- OTP_PAGE_ERR.CUST_FAIL (R444). -/
def F.OTP_PAGE_ERR_CUST_FAIL : FRef := ⟨.otp, 0x10, 5, 5⟩
/-- OTP_PAGE_ERR.CAT_FAIL (R444). -/
def F.OTP_PAGE_ERR_CAT_FAIL : FRef := ⟨.otp, 0x10, 4, 4⟩
/-- OTP_PAGE_ERR.REPAIR_FAIL (R444). -/
def F.OTP_PAGE_ERR_REPAIR_FAIL : FRef := ⟨.otp, 0x10, 3, 3⟩
/-- OTP_PAGE_ERR.CRIT_FAIL (R444). -/
def F.OTP_PAGE_ERR_CRIT_FAIL : FRef := ⟨.otp, 0x10, 2, 2⟩
/-- OTP_PAGE_ERR.IDENT_FAIL (R444). -/
def F.OTP_PAGE_ERR_IDENT_FAIL : FRef := ⟨.otp, 0x10, 1, 1⟩
/-- OTP_PAGE_ERR.LC_FAIL (R444). -/
def F.OTP_PAGE_ERR_LC_FAIL : FRef := ⟨.otp, 0x10, 0, 0⟩
/-- OTP_STATUS.LIFECYCLE (R443). -/
def F.OTP_STATUS_LIFECYCLE : FRef := ⟨.otp, 0x100, 31, 29⟩
/-- OTP_STATUS.LC_FALLBACK (R443). -/
def F.OTP_STATUS_LC_FALLBACK : FRef := ⟨.otp, 0x100, 28, 28⟩
/-- OTP_STATUS.SVC_OPEN (R443). -/
def F.OTP_STATUS_SVC_OPEN : FRef := ⟨.otp, 0x100, 27, 27⟩
/-- OTP_STATUS.SVC_LOCKOUT (R443). -/
def F.OTP_STATUS_SVC_LOCKOUT : FRef := ⟨.otp, 0x100, 26, 26⟩
/-- OTP_STATUS.CONSERVATIVE (R443). -/
def F.OTP_STATUS_CONSERVATIVE : FRef := ⟨.otp, 0x100, 25, 25⟩
/-- OTP_STATUS.MARGINAL (R443). -/
def F.OTP_STATUS_MARGINAL : FRef := ⟨.otp, 0x100, 15, 0⟩
/-- OTP_REGION_SEL.REGION (R443). -/
def F.OTP_REGION_SEL_REGION : FRef := ⟨.otp, 0x104, 2, 0⟩
/-- OTP_REGION_INFO.LOCKED (R443). -/
def F.OTP_REGION_INFO_LOCKED : FRef := ⟨.otp, 0x108, 31, 31⟩
/-- OTP_REGION_INFO.CHECK_FAIL (R443). -/
def F.OTP_REGION_INFO_CHECK_FAIL : FRef := ⟨.otp, 0x108, 30, 30⟩
/-- OTP_REGION_INFO.INCOMPLETE (R443). -/
def F.OTP_REGION_INFO_INCOMPLETE : FRef := ⟨.otp, 0x108, 29, 29⟩
/-- OTP_REGION_INFO.EXT_FOUND (R443). -/
def F.OTP_REGION_INFO_EXT_FOUND : FRef := ⟨.otp, 0x108, 28, 20⟩
/-- OTP_REGION_INFO.MARGINAL (R443). -/
def F.OTP_REGION_INFO_MARGINAL : FRef := ⟨.otp, 0x108, 15, 0⟩
/-- OTP_REGION_COUNT.DECLARED (R443). -/
def F.OTP_REGION_COUNT_DECLARED : FRef := ⟨.otp, 0x10C, 31, 16⟩
/-- OTP_REGION_COUNT.FOUND (R443). -/
def F.OTP_REGION_COUNT_FOUND : FRef := ⟨.otp, 0x10C, 15, 0⟩
/-- OTP_READ_ADDR.WORD (R443). -/
def F.OTP_READ_ADDR_WORD : FRef := ⟨.otp, 0x110, 10, 0⟩
/-- OTP_READ_DATA.NORMAL (R443). -/
def F.OTP_READ_DATA_NORMAL : FRef := ⟨.otp, 0x114, 31, 0⟩
/-- OTP_READ_TIGHT.TIGHT (R443). -/
def F.OTP_READ_TIGHT_TIGHT : FRef := ⟨.otp, 0x118, 31, 0⟩
/-- OTP_PROG_ADDR.WORD (R443). -/
def F.OTP_PROG_ADDR_WORD : FRef := ⟨.otp, 0x120, 10, 0⟩
/-- OTP_PROG_DATA.DATA (R443). -/
def F.OTP_PROG_DATA_DATA : FRef := ⟨.otp, 0x124, 31, 0⟩
/-- OTP_CMD.GO (R443). -/
def F.OTP_CMD_GO : FRef := ⟨.otp, 0x128, 31, 31⟩
/-- OTP_CMD.ARG (R443). -/
def F.OTP_CMD_ARG : FRef := ⟨.otp, 0x128, 10, 8⟩
/-- OTP_CMD.CMD (R443). -/
def F.OTP_CMD_CMD : FRef := ⟨.otp, 0x128, 1, 0⟩
/-- OTP_CMD_STATUS.BUSY (R443). -/
def F.OTP_CMD_STATUS_BUSY : FRef := ⟨.otp, 0x12C, 31, 31⟩
/-- OTP_CMD_STATUS.DONE (R443). -/
def F.OTP_CMD_STATUS_DONE : FRef := ⟨.otp, 0x12C, 30, 30⟩
/-- OTP_CMD_STATUS.RESULT (R443). -/
def F.OTP_CMD_STATUS_RESULT : FRef := ⟨.otp, 0x12C, 3, 0⟩
/-- OTP_SVC_NONCE.NONCE (R443). -/
def F.OTP_SVC_NONCE_NONCE : FRef := ⟨.otp, 0x140, 31, 0⟩
/-- OTP_SVC_RESP.SIG (R443). -/
def F.OTP_SVC_RESP_SIG : FRef := ⟨.otp, 0x150, 31, 0⟩
/-- OTP_SVC_CTRL.SUBMIT (R443). -/
def F.OTP_SVC_CTRL_SUBMIT : FRef := ⟨.otp, 0x190, 31, 31⟩
/-- CAL_PAGE_ERR.DISAGREE (R447). -/
def F.CAL_PAGE_ERR_DISAGREE : FRef := ⟨.cal, 0x10, 0, 0⟩
/-- CAL_CMD.GO (R446). -/
def F.CAL_CMD_GO : FRef := ⟨.cal, 0x100, 31, 31⟩
/-- CAL_CMD.TYPE (R446). -/
def F.CAL_CMD_TYPE : FRef := ⟨.cal, 0x100, 7, 0⟩
/-- CAL_STATUS.BUSY (R446). -/
def F.CAL_STATUS_BUSY : FRef := ⟨.cal, 0x104, 31, 31⟩
/-- CAL_STATUS.DONE (R446). -/
def F.CAL_STATUS_DONE : FRef := ⟨.cal, 0x104, 30, 30⟩
/-- CAL_STATUS.SLOT (R446). -/
def F.CAL_STATUS_SLOT : FRef := ⟨.cal, 0x104, 11, 8⟩
/-- CAL_STATUS.RESULT (R446). -/
def F.CAL_STATUS_RESULT : FRef := ⟨.cal, 0x104, 2, 0⟩
/-- CAL_INUSE_SEL.WORD (R446). -/
def F.CAL_INUSE_SEL_WORD : FRef := ⟨.cal, 0x110, 10, 8⟩
/-- CAL_INUSE_SEL.TYPE (R446). -/
def F.CAL_INUSE_SEL_TYPE : FRef := ⟨.cal, 0x110, 7, 0⟩
/-- CAL_INUSE.VALUE (R446). -/
def F.CAL_INUSE_VALUE : FRef := ⟨.cal, 0x114, 31, 0⟩
/-- CAL_SOURCE.NOMINAL (R446). -/
def F.CAL_SOURCE_NOMINAL : FRef := ⟨.cal, 0x118, 12, 12⟩
/-- CAL_SOURCE.SLOT (R446). -/
def F.CAL_SOURCE_SLOT : FRef := ⟨.cal, 0x118, 11, 8⟩
/-- CAL_SOURCE.SEQ (R446). -/
def F.CAL_SOURCE_SEQ : FRef := ⟨.cal, 0x118, 7, 0⟩
/-- REG_PAGE_ERR.SAFE_FORCED_RESET (R475). -/
def F.REG_PAGE_ERR_SAFE_FORCED_RESET : FRef := ⟨.reg, 0x10, 5, 5⟩
/-- REG_PAGE_ERR.FORCED_HALT (R475). -/
def F.REG_PAGE_ERR_FORCED_HALT : FRef := ⟨.reg, 0x10, 4, 4⟩
/-- REG_PAGE_ERR.LOG_SRAM_UE (R475). -/
def F.REG_PAGE_ERR_LOG_SRAM_UE : FRef := ⟨.reg, 0x10, 3, 3⟩
/-- REG_PAGE_ERR.LOG_SRAM_CE (R475). -/
def F.REG_PAGE_ERR_LOG_SRAM_CE : FRef := ⟨.reg, 0x10, 2, 2⟩
/-- REG_PAGE_ERR.MIRROR_LOST (R475). -/
def F.REG_PAGE_ERR_MIRROR_LOST : FRef := ⟨.reg, 0x10, 1, 1⟩
/-- REG_PAGE_ERR.OVERFLOW (R475). -/
def F.REG_PAGE_ERR_OVERFLOW : FRef := ⟨.reg, 0x10, 0, 0⟩
/-- REG_CTRL.FORCE_HALT (R471). -/
def F.REG_CTRL_FORCE_HALT : FRef := ⟨.reg, 0x100, 31, 31⟩
/-- REG_CTRL.KCNT_CLEAR (R471). -/
def F.REG_CTRL_KCNT_CLEAR : FRef := ⟨.reg, 0x100, 30, 30⟩
/-- REG_CTRL.TELEM_EN (R471). -/
def F.REG_CTRL_TELEM_EN : FRef := ⟨.reg, 0x100, 0, 0⟩
/-- REG_STATUS.HALTED (R471). -/
def F.REG_STATUS_HALTED : FRef := ⟨.reg, 0x104, 31, 31⟩
/-- REG_STATUS.OVERFLOW (R471). -/
def F.REG_STATUS_OVERFLOW : FRef := ⟨.reg, 0x104, 30, 30⟩
/-- REG_SAFE_CTRL.EXIT (R471). -/
def F.REG_SAFE_CTRL_EXIT : FRef := ⟨.reg, 0x108, 31, 31⟩
/-- REG_SAFE_STATUS.SAFE (R471). -/
def F.REG_SAFE_STATUS_SAFE : FRef := ⟨.reg, 0x10C, 31, 31⟩
/-- REG_SAFE_STATUS.BY_HALT (R471). -/
def F.REG_SAFE_STATUS_BY_HALT : FRef := ⟨.reg, 0x10C, 30, 30⟩
/-- REG_SAFE_STATUS.EXIT_REJECT (R471). -/
def F.REG_SAFE_STATUS_EXIT_REJECT : FRef := ⟨.reg, 0x10C, 29, 29⟩
/-- REG_SAFE_STATUS.BLOCK (R471). -/
def F.REG_SAFE_STATUS_BLOCK : FRef := ⟨.reg, 0x10C, 28, 26⟩
/-- REG_SAFE_STATUS.CAUSE_KIND (R471). -/
def F.REG_SAFE_STATUS_CAUSE_KIND : FRef := ⟨.reg, 0x10C, 25, 16⟩
/-- REG_SAFE_STATUS.CAUSE_SRC (R471). -/
def F.REG_SAFE_STATUS_CAUSE_SRC : FRef := ⟨.reg, 0x10C, 15, 0⟩
/-- REG_FIRST.VALID (R472). -/
def F.REG_FIRST_VALID : FRef := ⟨.reg, 0x110, 31, 31⟩
/-- REG_FIRST.OVF (R472). -/
def F.REG_FIRST_OVF : FRef := ⟨.reg, 0x110, 30, 30⟩
/-- REG_FIRST.LEVEL (R472). -/
def F.REG_FIRST_LEVEL : FRef := ⟨.reg, 0x110, 29, 28⟩
/-- REG_FIRST.SEVERITY (R472). -/
def F.REG_FIRST_SEVERITY : FRef := ⟨.reg, 0x110, 27, 26⟩
/-- REG_FIRST.KIND (R472). -/
def F.REG_FIRST_KIND : FRef := ⟨.reg, 0x110, 25, 16⟩
/-- REG_FIRST.SOURCE (R472). -/
def F.REG_FIRST_SOURCE : FRef := ⟨.reg, 0x110, 15, 0⟩
/-- REG_FIRST_ADDR.ADDR_31_0 (R472). -/
def F.REG_FIRST_ADDR_ADDR_31_0 : FRef := ⟨.reg, 0x114, 31, 0⟩
/-- REG_FIRST_FRAME.FRAME (R472). -/
def F.REG_FIRST_FRAME_FRAME : FRef := ⟨.reg, 0x118, 31, 16⟩
/-- REG_FIRST_FRAME.ADDR_47_32 (R472). -/
def F.REG_FIRST_FRAME_ADDR_47_32 : FRef := ⟨.reg, 0x118, 15, 0⟩
/-- REG_PEND.PEND (R472). -/
def F.REG_PEND_PEND : FRef := ⟨.reg, 0x120, 23, 1⟩
/-- REG_ESC_MASK.MASK (R472). -/
def F.REG_ESC_MASK_MASK : FRef := ⟨.reg, 0x130, 23, 1⟩
/-- REG_KIND_SEL.KIND (R473). -/
def F.REG_KIND_SEL_KIND : FRef := ⟨.reg, 0x140, 9, 0⟩
/-- REG_KIND_CFG.DEFINED (R473). -/
def F.REG_KIND_CFG_DEFINED : FRef := ⟨.reg, 0x144, 31, 31⟩
/-- REG_KIND_CFG.DEFAULT (R473). -/
def F.REG_KIND_CFG_DEFAULT : FRef := ⟨.reg, 0x144, 5, 4⟩
/-- REG_KIND_CFG.LEVEL (R473). -/
def F.REG_KIND_CFG_LEVEL : FRef := ⟨.reg, 0x144, 1, 0⟩
/-- REG_KCNT.COUNT (R473). -/
def F.REG_KCNT_COUNT : FRef := ⟨.reg, 0x148, 15, 0⟩
/-- REG_LOG_HEAD.NEXT (R473). -/
def F.REG_LOG_HEAD_NEXT : FRef := ⟨.reg, 0x150, 27, 16⟩
/-- REG_LOG_HEAD.NEXT_SEQ (R473). -/
def F.REG_LOG_HEAD_NEXT_SEQ : FRef := ⟨.reg, 0x150, 15, 0⟩
/-- REG_LOG_RD_IDX.INDEX (R473). -/
def F.REG_LOG_RD_IDX_INDEX : FRef := ⟨.reg, 0x154, 11, 0⟩
/-- REG_LOG_DATA.DATA (R473). -/
def F.REG_LOG_DATA_DATA : FRef := ⟨.reg, 0x158, 31, 0⟩
/-- REG_MIR_HEAD.NEXT (R473). -/
def F.REG_MIR_HEAD_NEXT : FRef := ⟨.reg, 0x170, 13, 0⟩
/-- REG_MIR_RD_IDX.INDEX (R473). -/
def F.REG_MIR_RD_IDX_INDEX : FRef := ⟨.reg, 0x174, 13, 0⟩
/-- REG_MIR_DATA.DATA (R473). -/
def F.REG_MIR_DATA_DATA : FRef := ⟨.reg, 0x178, 31, 0⟩
/-- REG_ARCH_STATUS.VALID (R474). -/
def F.REG_ARCH_STATUS_VALID : FRef := ⟨.reg, 0x190, 31, 31⟩
/-- REG_ARCH_STATUS.WRITING (R474). -/
def F.REG_ARCH_STATUS_WRITING : FRef := ⟨.reg, 0x190, 30, 30⟩
/-- REG_ARCH_STATUS.SUBSET (R474). -/
def F.REG_ARCH_STATUS_SUBSET : FRef := ⟨.reg, 0x190, 29, 29⟩
/-- REG_ARCH_STATUS.CHANNEL (R474). -/
def F.REG_ARCH_STATUS_CHANNEL : FRef := ⟨.reg, 0x190, 28, 24⟩
/-- REG_ARCH_STATUS.WRITTEN (R474). -/
def F.REG_ARCH_STATUS_WRITTEN : FRef := ⟨.reg, 0x190, 14, 0⟩
/-- REG_ARCH_ADDR.OFFSET (R474). -/
def F.REG_ARCH_ADDR_OFFSET : FRef := ⟨.reg, 0x194, 23, 2⟩
/-- REG_ARCH_DATA.DATA (R474). -/
def F.REG_ARCH_DATA_DATA : FRef := ⟨.reg, 0x198, 31, 0⟩
/-- REG_ARCH_CTRL.DISCARD (R474). -/
def F.REG_ARCH_CTRL_DISCARD : FRef := ⟨.reg, 0x19C, 31, 31⟩
/-- BST_PAGE_ERR.HEALTH_FULL (R492). -/
def F.BST_PAGE_ERR_HEALTH_FULL : FRef := ⟨.bst, 0x10, 2, 2⟩
/-- BST_PAGE_ERR.CRIT_FAIL (R492). -/
def F.BST_PAGE_ERR_CRIT_FAIL : FRef := ⟨.bst, 0x10, 1, 1⟩
/-- BST_PAGE_ERR.BLOCK_FAIL (R492). -/
def F.BST_PAGE_ERR_BLOCK_FAIL : FRef := ⟨.bst, 0x10, 0, 0⟩
/-- BST_CTRL.GO (R491). -/
def F.BST_CTRL_GO : FRef := ⟨.bst, 0x100, 31, 31⟩
/-- BST_CTRL.CANCEL (R491). -/
def F.BST_CTRL_CANCEL : FRef := ⟨.bst, 0x100, 30, 30⟩
/-- BST_CTRL.MODE (R491). -/
def F.BST_CTRL_MODE : FRef := ⟨.bst, 0x100, 29, 29⟩
/-- BST_CTRL.NO_BURN (R491). -/
def F.BST_CTRL_NO_BURN : FRef := ⟨.bst, 0x100, 28, 28⟩
/-- BST_CTRL.LOGIC_SET (R491). -/
def F.BST_CTRL_LOGIC_SET : FRef := ⟨.bst, 0x100, 9, 8⟩
/-- BST_CTRL.SEL (R491). -/
def F.BST_CTRL_SEL : FRef := ⟨.bst, 0x100, 5, 0⟩
/-- BST_STATUS.BUSY (R491). -/
def F.BST_STATUS_BUSY : FRef := ⟨.bst, 0x104, 31, 31⟩
/-- BST_STATUS.DONE (R491). -/
def F.BST_STATUS_DONE : FRef := ⟨.bst, 0x104, 30, 30⟩
/-- BST_STATUS.CANCELLED (R491). -/
def F.BST_STATUS_CANCELLED : FRef := ⟨.bst, 0x104, 29, 29⟩
/-- BST_STATUS.REJECTED (R491). -/
def F.BST_STATUS_REJECTED : FRef := ⟨.bst, 0x104, 28, 28⟩
/-- BST_STATUS.REJECT_WHY (R491). -/
def F.BST_STATUS_REJECT_WHY : FRef := ⟨.bst, 0x104, 27, 25⟩
/-- BST_STATUS.PHASE (R491). -/
def F.BST_STATUS_PHASE : FRef := ⟨.bst, 0x104, 24, 22⟩
/-- BST_STATUS.FAILS (R491). -/
def F.BST_STATUS_FAILS : FRef := ⟨.bst, 0x104, 15, 8⟩
/-- BST_STATUS.BURNS (R491). -/
def F.BST_STATUS_BURNS : FRef := ⟨.bst, 0x104, 7, 0⟩
/-- BST_FAIL_SEL.INDEX (R491). -/
def F.BST_FAIL_SEL_INDEX : FRef := ⟨.bst, 0x108, 5, 0⟩
/-- BST_FAIL.VALID (R491). -/
def F.BST_FAIL_VALID : FRef := ⟨.bst, 0x10C, 31, 31⟩
/-- BST_FAIL.KIND (R491). -/
def F.BST_FAIL_KIND : FRef := ⟨.bst, 0x10C, 30, 28⟩
/-- BST_FAIL.INSTANCE (R491). -/
def F.BST_FAIL_INSTANCE : FRef := ⟨.bst, 0x10C, 27, 23⟩
/-- BST_FAIL.TEST (R491). -/
def F.BST_FAIL_TEST : FRef := ⟨.bst, 0x10C, 22, 20⟩
/-- BST_FAIL.BURNED (R491). -/
def F.BST_FAIL_BURNED : FRef := ⟨.bst, 0x10C, 19, 19⟩
/-- BST_LAST.CRIT_FAIL (R491). -/
def F.BST_LAST_CRIT_FAIL : FRef := ⟨.bst, 0x110, 31, 31⟩
/-- BST_LAST.LAST_PASS (R491). -/
def F.BST_LAST_LAST_PASS : FRef := ⟨.bst, 0x110, 30, 30⟩
/-- BST_NOT_RUN.FRAME_TIMER (R491). -/
def F.BST_NOT_RUN_FRAME_TIMER : FRef := ⟨.bst, 0x114, 1, 1⟩
/-- BST_NOT_RUN.SOURCE_PORT (R491). -/
def F.BST_NOT_RUN_SOURCE_PORT : FRef := ⟨.bst, 0x114, 0, 0⟩
/-- ADM_MASK_LO.BITS_31_10 (R72). -/
def F.ADM_MASK_LO_BITS_31_10 : FRef := ⟨.adm, 0x100, 31, 10⟩
/-- ADM_MASK_HI.BITS_39_32 (R72). -/
def F.ADM_MASK_HI_BITS_39_32 : FRef := ⟨.adm, 0x104, 7, 0⟩
/-- ADM_PROBE_LO.OFFSET_31_0 (R74). -/
def F.ADM_PROBE_LO_OFFSET_31_0 : FRef := ⟨.adm, 0x200, 31, 0⟩
/-- ADM_PROBE_HI.OFFSET_39_32 (R74). -/
def F.ADM_PROBE_HI_OFFSET_39_32 : FRef := ⟨.adm, 0x204, 7, 0⟩
/-- ADM_PROBE_CTRL.USE_STAGED (R74). -/
def F.ADM_PROBE_CTRL_USE_STAGED : FRef := ⟨.adm, 0x208, 0, 0⟩
/-- ADM_PROBE_RES0.BACKED (R74). -/
def F.ADM_PROBE_RES0_BACKED : FRef := ⟨.adm, 0x20C, 31, 31⟩
/-- ADM_PROBE_RES0.STACK (R74). -/
def F.ADM_PROBE_RES0_STACK : FRef := ⟨.adm, 0x20C, 17, 15⟩
/-- ADM_PROBE_RES0.CHANNEL (R74). -/
def F.ADM_PROBE_RES0_CHANNEL : FRef := ⟨.adm, 0x20C, 14, 10⟩
/-- ADM_PROBE_RES0.PC (R74). -/
def F.ADM_PROBE_RES0_PC : FRef := ⟨.adm, 0x20C, 9, 9⟩
/-- ADM_PROBE_RES0.BG (R74). -/
def F.ADM_PROBE_RES0_BG : FRef := ⟨.adm, 0x20C, 8, 7⟩
/-- ADM_PROBE_RES0.BANK (R74). -/
def F.ADM_PROBE_RES0_BANK : FRef := ⟨.adm, 0x20C, 6, 5⟩
/-- ADM_PROBE_RES0.SID (R74). -/
def F.ADM_PROBE_RES0_SID : FRef := ⟨.adm, 0x20C, 4, 3⟩
/-- ADM_PROBE_RES1.ROW (R74). -/
def F.ADM_PROBE_RES1_ROW : FRef := ⟨.adm, 0x210, 19, 5⟩
/-- ADM_PROBE_RES1.COLUMN (R74). -/
def F.ADM_PROBE_RES1_COLUMN : FRef := ⟨.adm, 0x210, 4, 0⟩
/-- TSM_PAGE_ERR.SRAM_UE (R296). -/
def F.TSM_PAGE_ERR_SRAM_UE : FRef := ⟨.tsm, 0x10, 1, 1⟩
/-- TSM_PAGE_ERR.SRAM_CE (R296). -/
def F.TSM_PAGE_ERR_SRAM_CE : FRef := ⟨.tsm, 0x10, 0, 0⟩
/-- TSM_QUERY_LO.BASE_31_12 (R293). -/
def F.TSM_QUERY_LO_BASE_31_12 : FRef := ⟨.tsm, 0x100, 31, 12⟩
/-- TSM_QUERY_HI.BASE_39_32 (R293). -/
def F.TSM_QUERY_HI_BASE_39_32 : FRef := ⟨.tsm, 0x104, 7, 0⟩
/-- TSM_QUERY_RES.IN_STACK (R293). -/
def F.TSM_QUERY_RES_IN_STACK : FRef := ⟨.tsm, 0x108, 31, 31⟩
/-- TSM_QUERY_RES.LISTED (R293). -/
def F.TSM_QUERY_RES_LISTED : FRef := ⟨.tsm, 0x108, 30, 30⟩
/-- TSM_QUERY_RES.STATE (R293). -/
def F.TSM_QUERY_RES_STATE : FRef := ⟨.tsm, 0x108, 1, 0⟩
/-- TSM_DEACC_BASE_LO.BASE_31_12 (R294). -/
def F.TSM_DEACC_BASE_LO_BASE_31_12 : FRef := ⟨.tsm, 0x110, 31, 12⟩
/-- TSM_DEACC_BASE_HI.BASE_39_32 (R294). -/
def F.TSM_DEACC_BASE_HI_BASE_39_32 : FRef := ⟨.tsm, 0x114, 7, 0⟩
/-- TSM_DEACC_TILES.TILES (R294). -/
def F.TSM_DEACC_TILES_TILES : FRef := ⟨.tsm, 0x118, 27, 0⟩
/-- TSM_DEACC_CTRL.GO (R294). -/
def F.TSM_DEACC_CTRL_GO : FRef := ⟨.tsm, 0x11C, 31, 31⟩
/-- TSM_DEACC_CTRL.ACTION (R294). -/
def F.TSM_DEACC_CTRL_ACTION : FRef := ⟨.tsm, 0x11C, 1, 0⟩
/-- TSM_DEACC_STATUS.BUSY (R294). -/
def F.TSM_DEACC_STATUS_BUSY : FRef := ⟨.tsm, 0x120, 31, 31⟩
/-- TSM_DEACC_STATUS.DONE (R294). -/
def F.TSM_DEACC_STATUS_DONE : FRef := ⟨.tsm, 0x120, 30, 30⟩
/-- TSM_DEACC_STATUS.REJECTED (R294). -/
def F.TSM_DEACC_STATUS_REJECTED : FRef := ⟨.tsm, 0x120, 29, 29⟩
/-- TSM_DEACC_STATUS.CHANGED (R294). -/
def F.TSM_DEACC_STATUS_CHANGED : FRef := ⟨.tsm, 0x120, 27, 0⟩
/-- TSM_COUNT_RETIRED.TILES (R295). -/
def F.TSM_COUNT_RETIRED_TILES : FRef := ⟨.tsm, 0x130, 25, 0⟩
/-- TSM_COUNT_OPEN.TILES (R295). -/
def F.TSM_COUNT_OPEN_TILES : FRef := ⟨.tsm, 0x134, 25, 0⟩
/-- SCB_PAGE_ERR.SCRUB_LATE (R300). -/
def F.SCB_PAGE_ERR_SCRUB_LATE : FRef := ⟨.scb, 0x10, 7, 7⟩
/-- SCB_PAGE_ERR.OPEN_OVERFLOW (R300). -/
def F.SCB_PAGE_ERR_OPEN_OVERFLOW : FRef := ⟨.scb, 0x10, 6, 6⟩
/-- SCB_PAGE_ERR.PAGE_MISMATCH (R300). -/
def F.SCB_PAGE_ERR_PAGE_MISMATCH : FRef := ⟨.scb, 0x10, 5, 5⟩
/-- SCB_PAGE_ERR.LASTING_LANE (R300). -/
def F.SCB_PAGE_ERR_LASTING_LANE : FRef := ⟨.scb, 0x10, 4, 4⟩
/-- SCB_PAGE_ERR.LASTING_ROW (R300). -/
def F.SCB_PAGE_ERR_LASTING_ROW : FRef := ⟨.scb, 0x10, 3, 3⟩
/-- SCB_PAGE_ERR.WORD_POISON (R300). -/
def F.SCB_PAGE_ERR_WORD_POISON : FRef := ⟨.scb, 0x10, 2, 2⟩
/-- SCB_PAGE_ERR.WORD_REBUILT (R300). -/
def F.SCB_PAGE_ERR_WORD_REBUILT : FRef := ⟨.scb, 0x10, 1, 1⟩
/-- SCB_PAGE_ERR.WORD_CE (R300). -/
def F.SCB_PAGE_ERR_WORD_CE : FRef := ⟨.scb, 0x10, 0, 0⟩
/-- SCB_CTRL.SCRUB_EN (R298). -/
def F.SCB_CTRL_SCRUB_EN : FRef := ⟨.scb, 0x100, 0, 0⟩
/-- SCB_SEAL.FORCE_LIMIT (R298). -/
def F.SCB_SEAL_FORCE_LIMIT : FRef := ⟨.scb, 0x104, 23, 16⟩
/-- SCB_SEAL.SEAL_DELAY (R298). -/
def F.SCB_SEAL_SEAL_DELAY : FRef := ⟨.scb, 0x104, 15, 0⟩
/-- SCB_SCRUB_PERIOD.PERIOD (R298). -/
def F.SCB_SCRUB_PERIOD_PERIOD : FRef := ⟨.scb, 0x108, 31, 0⟩
/-- SCB_THRESH.LANE_THRESH (R298). -/
def F.SCB_THRESH_LANE_THRESH : FRef := ⟨.scb, 0x10C, 15, 8⟩
/-- SCB_THRESH.ROW_THRESH (R298). -/
def F.SCB_THRESH_ROW_THRESH : FRef := ⟨.scb, 0x10C, 3, 0⟩
/-- SCB_ROW_WINDOW.WINDOW (R298). -/
def F.SCB_ROW_WINDOW_WINDOW : FRef := ⟨.scb, 0x110, 31, 0⟩
/-- SCB_LANE_WINDOW.WINDOW (R298). -/
def F.SCB_LANE_WINDOW_WINDOW : FRef := ⟨.scb, 0x114, 31, 0⟩
/-- SCB_STATUS.OVERFLOW (R299). -/
def F.SCB_STATUS_OVERFLOW : FRef := ⟨.scb, 0x120, 31, 31⟩
/-- SCB_STATUS.LISTED (R299). -/
def F.SCB_STATUS_LISTED : FRef := ⟨.scb, 0x120, 15, 0⟩
/-- VIT_PAGE_ERR.SCRUB_LATE (R232). -/
def F.VIT_PAGE_ERR_SCRUB_LATE : FRef := ⟨.vit, 0x10, 3, 3⟩
/-- VIT_PAGE_ERR.TAG_UE (R232). -/
def F.VIT_PAGE_ERR_TAG_UE : FRef := ⟨.vit, 0x10, 2, 2⟩
/-- VIT_PAGE_ERR.SRAM_UE (R232). -/
def F.VIT_PAGE_ERR_SRAM_UE : FRef := ⟨.vit, 0x10, 1, 1⟩
/-- VIT_PAGE_ERR.SRAM_CE (R232). -/
def F.VIT_PAGE_ERR_SRAM_CE : FRef := ⟨.vit, 0x10, 0, 0⟩
/-- VIT_CTRL.PIN_WAYS (R225). -/
def F.VIT_CTRL_PIN_WAYS : FRef := ⟨.vit, 0x100, 15, 12⟩
/-- VIT_CTRL.SCRUB_EN (R225). -/
def F.VIT_CTRL_SCRUB_EN : FRef := ⟨.vit, 0x100, 8, 8⟩
/-- VIT_CTRL.FLUSH_CLASS (R225). -/
def F.VIT_CTRL_FLUSH_CLASS : FRef := ⟨.vit, 0x100, 3, 0⟩
/-- VIT_WAYCAP.CAP3 (R226). -/
def F.VIT_WAYCAP_CAP3 : FRef := ⟨.vit, 0x110, 28, 24⟩
/-- VIT_WAYCAP.CAP2 (R226). -/
def F.VIT_WAYCAP_CAP2 : FRef := ⟨.vit, 0x110, 20, 16⟩
/-- VIT_WAYCAP.CAP1 (R226). -/
def F.VIT_WAYCAP_CAP1 : FRef := ⟨.vit, 0x110, 12, 8⟩
/-- VIT_WAYCAP.CAP0 (R226). -/
def F.VIT_WAYCAP_CAP0 : FRef := ⟨.vit, 0x110, 4, 0⟩
/-- VIT_BECAP.BE_WAYS (R227). -/
def F.VIT_BECAP_BE_WAYS : FRef := ⟨.vit, 0x11C, 4, 0⟩
/-- VIT_SCRUB.SCRUB_FRAMES (R228). -/
def F.VIT_SCRUB_SCRUB_FRAMES : FRef := ⟨.vit, 0x120, 23, 0⟩
/-- VIT_OP.GO (R229). -/
def F.VIT_OP_GO : FRef := ⟨.vit, 0x140, 31, 31⟩
/-- VIT_OP.ACTION (R229). -/
def F.VIT_OP_ACTION : FRef := ⟨.vit, 0x140, 29, 28⟩
/-- VIT_OP.SCOPE (R229). -/
def F.VIT_OP_SCOPE : FRef := ⟨.vit, 0x140, 27, 26⟩
/-- VIT_OP.LABEL (R229). -/
def F.VIT_OP_LABEL : FRef := ⟨.vit, 0x140, 11, 0⟩
/-- VIT_OP_BASE_LO.BASE_31_12 (R229). -/
def F.VIT_OP_BASE_LO_BASE_31_12 : FRef := ⟨.vit, 0x144, 31, 12⟩
/-- VIT_OP_BASE_HI.BASE_39_32 (R229). -/
def F.VIT_OP_BASE_HI_BASE_39_32 : FRef := ⟨.vit, 0x148, 7, 0⟩
/-- VIT_OP_TILES.TILES (R229). -/
def F.VIT_OP_TILES_TILES : FRef := ⟨.vit, 0x14C, 27, 0⟩
/-- VIT_OP_STATUS.BUSY (R230). -/
def F.VIT_OP_STATUS_BUSY : FRef := ⟨.vit, 0x150, 31, 31⟩
/-- VIT_OP_STATUS.DONE (R230). -/
def F.VIT_OP_STATUS_DONE : FRef := ⟨.vit, 0x150, 30, 30⟩
/-- VIT_OP_STATUS.REJECTED (R230). -/
def F.VIT_OP_STATUS_REJECTED : FRef := ⟨.vit, 0x150, 29, 29⟩
/-- VIT_OP_STATUS.LINES (R230). -/
def F.VIT_OP_STATUS_LINES : FRef := ⟨.vit, 0x150, 18, 0⟩
/-- VIT_OCC_SEL.SLICE (R231). -/
def F.VIT_OCC_SEL_SLICE : FRef := ⟨.vit, 0x160, 4, 0⟩
/-- VIT_OCC.PINNED (R231). -/
def F.VIT_OCC_PINNED : FRef := ⟨.vit, 0x164, 28, 16⟩
/-- VIT_OCC.DIRTY (R231). -/
def F.VIT_OCC_DIRTY : FRef := ⟨.vit, 0x164, 13, 0⟩
/-- DOC_PAGE_ERR.START_FAIL (R493). -/
def F.DOC_PAGE_ERR_START_FAIL : FRef := ⟨.doc, 0x10, 3, 3⟩
/-- DOC_PAGE_ERR.TRAIN_START_FAIL (R493). -/
def F.DOC_PAGE_ERR_TRAIN_START_FAIL : FRef := ⟨.doc, 0x10, 2, 2⟩
/-- DOC_PAGE_ERR.REPAIR_CONFLICT (R493). -/
def F.DOC_PAGE_ERR_REPAIR_CONFLICT : FRef := ⟨.doc, 0x10, 1, 1⟩
/-- DOC_PAGE_ERR.CMD_FAIL (R493). -/
def F.DOC_PAGE_ERR_CMD_FAIL : FRef := ⟨.doc, 0x10, 0, 0⟩
/-- DOC_STATUS.BOOT_STEP (R493). -/
def F.DOC_STATUS_BOOT_STEP : FRef := ⟨.doc, 0x100, 31, 28⟩
/-- DOC_STATUS.START_OK (R493). -/
def F.DOC_STATUS_START_OK : FRef := ⟨.doc, 0x100, 27, 27⟩
/-- DOC_STATUS.ROM_VERSION (R493). -/
def F.DOC_STATUS_ROM_VERSION : FRef := ⟨.doc, 0x100, 15, 0⟩
/-- DOC_CMD.GO (R493). -/
def F.DOC_CMD_GO : FRef := ⟨.doc, 0x110, 31, 31⟩
/-- DOC_CMD.OP (R493). -/
def F.DOC_CMD_OP : FRef := ⟨.doc, 0x110, 30, 28⟩
/-- DOC_CMD.CHANNEL (R493). -/
def F.DOC_CMD_CHANNEL : FRef := ⟨.doc, 0x110, 12, 8⟩
/-- DOC_CMD.PC (R493). -/
def F.DOC_CMD_PC : FRef := ⟨.doc, 0x110, 7, 7⟩
/-- DOC_CMD.PIN (R493). -/
def F.DOC_CMD_PIN : FRef := ⟨.doc, 0x110, 5, 0⟩
/-- DOC_ROW.SID (R493). -/
def F.DOC_ROW_SID : FRef := ⟨.doc, 0x114, 21, 20⟩
/-- DOC_ROW.BG (R493). -/
def F.DOC_ROW_BG : FRef := ⟨.doc, 0x114, 19, 18⟩
/-- DOC_ROW.BANK (R493). -/
def F.DOC_ROW_BANK : FRef := ⟨.doc, 0x114, 17, 16⟩
/-- DOC_ROW.ROW (R493). -/
def F.DOC_ROW_ROW : FRef := ⟨.doc, 0x114, 14, 0⟩
/-- DOC_CMD_STATUS.BUSY (R493). -/
def F.DOC_CMD_STATUS_BUSY : FRef := ⟨.doc, 0x118, 31, 31⟩
/-- DOC_CMD_STATUS.DONE (R493). -/
def F.DOC_CMD_STATUS_DONE : FRef := ⟨.doc, 0x118, 30, 30⟩
/-- DOC_CMD_STATUS.RESULT (R493). -/
def F.DOC_CMD_STATUS_RESULT : FRef := ⟨.doc, 0x118, 3, 0⟩
/-- DOC_MBOX_IN.DATA (R493). -/
def F.DOC_MBOX_IN_DATA : FRef := ⟨.doc, 0x120, 31, 0⟩
/-- DOC_MBOX_OUT.DATA (R493). -/
def F.DOC_MBOX_OUT_DATA : FRef := ⟨.doc, 0x124, 31, 0⟩
/-- NXP_PAGE_ERR.INIT_TIMEOUT (R359). -/
def F.NXP_PAGE_ERR_INIT_TIMEOUT : FRef := ⟨.nxp, 0x10, 7, 7⟩
/-- NXP_PAGE_ERR.RSP_STALL (R359). -/
def F.NXP_PAGE_ERR_RSP_STALL : FRef := ⟨.nxp, 0x10, 6, 6⟩
/-- NXP_PAGE_ERR.TRAILER_CRC (R359). -/
def F.NXP_PAGE_ERR_TRAILER_CRC : FRef := ⟨.nxp, 0x10, 5, 5⟩
/-- NXP_PAGE_ERR.PROTOCOL (R359). -/
def F.NXP_PAGE_ERR_PROTOCOL : FRef := ⟨.nxp, 0x10, 4, 4⟩
/-- NXP_PAGE_ERR.CREDIT_VIOL (R359). -/
def F.NXP_PAGE_ERR_CREDIT_VIOL : FRef := ⟨.nxp, 0x10, 3, 3⟩
/-- NXP_PAGE_ERR.LINK_RESET (R359). -/
def F.NXP_PAGE_ERR_LINK_RESET : FRef := ⟨.nxp, 0x10, 2, 2⟩
/-- NXP_PAGE_ERR.RETRAIN (R359). -/
def F.NXP_PAGE_ERR_RETRAIN : FRef := ⟨.nxp, 0x10, 1, 1⟩
/-- NXP_PAGE_ERR.REPLAY (R359). -/
def F.NXP_PAGE_ERR_REPLAY : FRef := ⟨.nxp, 0x10, 0, 0⟩
/-- NXP_CTRL.RETRAIN (R357). -/
def F.NXP_CTRL_RETRAIN : FRef := ⟨.nxp, 0x100, 31, 31⟩
/-- NXP_CTRL.PROGRESS_PERIODS (R357). -/
def F.NXP_CTRL_PROGRESS_PERIODS : FRef := ⟨.nxp, 0x100, 23, 16⟩
/-- NXP_CTRL.REPLAY_LIMIT (R357). -/
def F.NXP_CTRL_REPLAY_LIMIT : FRef := ⟨.nxp, 0x100, 15, 12⟩
/-- NXP_CTRL.ACK_FLITS (R357). -/
def F.NXP_CTRL_ACK_FLITS : FRef := ⟨.nxp, 0x100, 7, 0⟩
/-- NXP_STATUS.ROLE (R358). -/
def F.NXP_STATUS_ROLE : FRef := ⟨.nxp, 0x104, 31, 30⟩
/-- NXP_STATUS.NAK_PENDING (R358). -/
def F.NXP_STATUS_NAK_PENDING : FRef := ⟨.nxp, 0x104, 28, 28⟩
/-- NXP_STATUS.TX_NEXT_SEQ (R358). -/
def F.NXP_STATUS_TX_NEXT_SEQ : FRef := ⟨.nxp, 0x104, 27, 16⟩
/-- NXP_STATUS.RX_EXPECT_SEQ (R358). -/
def F.NXP_STATUS_RX_EXPECT_SEQ : FRef := ⟨.nxp, 0x104, 11, 0⟩
/-- NXP_PARTNER.RSP_AVAIL (R358). -/
def F.NXP_PARTNER_RSP_AVAIL : FRef := ⟨.nxp, 0x108, 31, 16⟩
/-- NXP_PARTNER.MGMT_AVAIL (R358). -/
def F.NXP_PARTNER_MGMT_AVAIL : FRef := ⟨.nxp, 0x108, 15, 0⟩
/-- NXP_CR_PROFILE.OUTSTANDING (R149). -/
def F.NXP_CR_PROFILE_OUTSTANDING : FRef := ⟨.nxp, 0x400, 25, 16⟩
/-- NXP_CR_PROFILE.REQ_SLOTS (R149). -/
def F.NXP_CR_PROFILE_REQ_SLOTS : FRef := ⟨.nxp, 0x400, 9, 0⟩
/-- NXP_CR_MAP.PROF7 (R150). -/
def F.NXP_CR_MAP_PROF7 : FRef := ⟨.nxp, 0x440, 31, 28⟩
/-- NXP_CR_MAP.PROF6 (R150). -/
def F.NXP_CR_MAP_PROF6 : FRef := ⟨.nxp, 0x440, 27, 24⟩
/-- NXP_CR_MAP.PROF5 (R150). -/
def F.NXP_CR_MAP_PROF5 : FRef := ⟨.nxp, 0x440, 23, 20⟩
/-- NXP_CR_MAP.PROF4 (R150). -/
def F.NXP_CR_MAP_PROF4 : FRef := ⟨.nxp, 0x440, 19, 16⟩
/-- NXP_CR_MAP.PROF3 (R150). -/
def F.NXP_CR_MAP_PROF3 : FRef := ⟨.nxp, 0x440, 15, 12⟩
/-- NXP_CR_MAP.PROF2 (R150). -/
def F.NXP_CR_MAP_PROF2 : FRef := ⟨.nxp, 0x440, 11, 8⟩
/-- NXP_CR_MAP.PROF1 (R150). -/
def F.NXP_CR_MAP_PROF1 : FRef := ⟨.nxp, 0x440, 7, 4⟩
/-- NXP_CR_MAP.PROF0 (R150). -/
def F.NXP_CR_MAP_PROF0 : FRef := ⟨.nxp, 0x440, 3, 0⟩
/-- NXP_CR_VC.MGMT_GRANT (R151). -/
def F.NXP_CR_VC_MGMT_GRANT : FRef := ⟨.nxp, 0x640, 8, 0⟩
/-- NXL_PAGE_ERR.PORT_HELD (R336). -/
def F.NXL_PAGE_ERR_PORT_HELD : FRef := ⟨.nxl, 0x10, 7, 7⟩
/-- NXL_PAGE_ERR.STUFF_OVERRUN (R336). -/
def F.NXL_PAGE_ERR_STUFF_OVERRUN : FRef := ⟨.nxl, 0x10, 6, 6⟩
/-- NXL_PAGE_ERR.SLIP (R336). -/
def F.NXL_PAGE_ERR_SLIP : FRef := ⟨.nxl, 0x10, 5, 5⟩
/-- NXL_PAGE_ERR.FALSE_WAKE (R336). -/
def F.NXL_PAGE_ERR_FALSE_WAKE : FRef := ⟨.nxl, 0x10, 4, 4⟩
/-- NXL_PAGE_ERR.UNFREEZE (R336). -/
def F.NXL_PAGE_ERR_UNFREEZE : FRef := ⟨.nxl, 0x10, 3, 3⟩
/-- NXL_PAGE_ERR.FALLBACK_A (R336). -/
def F.NXL_PAGE_ERR_FALLBACK_A : FRef := ⟨.nxl, 0x10, 2, 2⟩
/-- NXL_PAGE_ERR.LANE_ORDER (R336). -/
def F.NXL_PAGE_ERR_LANE_ORDER : FRef := ⟨.nxl, 0x10, 1, 1⟩
/-- NXL_PAGE_ERR.TRAIN_FAIL (R336). -/
def F.NXL_PAGE_ERR_TRAIN_FAIL : FRef := ⟨.nxl, 0x10, 0, 0⟩
/-- NXL_CTRL.RESTART (R332). -/
def F.NXL_CTRL_RESTART : FRef := ⟨.nxl, 0x100, 31, 31⟩
/-- NXL_CTRL.TEST_EN (R332). -/
def F.NXL_CTRL_TEST_EN : FRef := ⟨.nxl, 0x100, 30, 30⟩
/-- NXL_CTRL.ALLOW_B (R332). -/
def F.NXL_CTRL_ALLOW_B : FRef := ⟨.nxl, 0x100, 29, 29⟩
/-- NXL_CTRL.BI_EN (R332). -/
def F.NXL_CTRL_BI_EN : FRef := ⟨.nxl, 0x100, 28, 28⟩
/-- NXL_CTRL.MAX_TRIES (R332). -/
def F.NXL_CTRL_MAX_TRIES : FRef := ⟨.nxl, 0x100, 27, 24⟩
/-- NXL_CTRL.INIT_PRESET_A (R332). -/
def F.NXL_CTRL_INIT_PRESET_A : FRef := ⟨.nxl, 0x100, 23, 21⟩
/-- NXL_CTRL.INIT_PRESET_B (R332). -/
def F.NXL_CTRL_INIT_PRESET_B : FRef := ⟨.nxl, 0x100, 20, 18⟩
/-- NXL_CTRL.EYE_MIN (R332). -/
def F.NXL_CTRL_EYE_MIN : FRef := ⟨.nxl, 0x100, 15, 8⟩
/-- NXL_CTRL.BI_IDLE (R332). -/
def F.NXL_CTRL_BI_IDLE : FRef := ⟨.nxl, 0x100, 7, 0⟩
/-- NXL_STATUS.STATE (R333). -/
def F.NXL_STATUS_STATE : FRef := ⟨.nxl, 0x104, 31, 28⟩
/-- NXL_STATUS.HELD (R333). -/
def F.NXL_STATUS_HELD : FRef := ⟨.nxl, 0x104, 27, 27⟩
/-- NXL_STATUS.FRAMING (R333). -/
def F.NXL_STATUS_FRAMING : FRef := ⟨.nxl, 0x104, 26, 26⟩
/-- NXL_STATUS.REVERSED (R333). -/
def F.NXL_STATUS_REVERSED : FRef := ⟨.nxl, 0x104, 25, 25⟩
/-- NXL_STATUS.TRAIN_PHASE (R333). -/
def F.NXL_STATUS_TRAIN_PHASE : FRef := ⟨.nxl, 0x104, 24, 24⟩
/-- NXL_STATUS.POLARITY (R333). -/
def F.NXL_STATUS_POLARITY : FRef := ⟨.nxl, 0x104, 23, 16⟩
/-- NXL_STATUS.TX_BI (R333). -/
def F.NXL_STATUS_TX_BI : FRef := ⟨.nxl, 0x104, 15, 15⟩
/-- NXL_STATUS.RX_BI (R333). -/
def F.NXL_STATUS_RX_BI : FRef := ⟨.nxl, 0x104, 14, 14⟩
/-- NXL_STATUS.TRIES (R333). -/
def F.NXL_STATUS_TRIES : FRef := ⟨.nxl, 0x104, 11, 8⟩
/-- NXL_STATUS.FROZEN (R333). -/
def F.NXL_STATUS_FROZEN : FRef := ⟨.nxl, 0x104, 7, 0⟩
/-- NXL_LANE_SEL.LANE (R334). -/
def F.NXL_LANE_SEL_LANE : FRef := ⟨.nxl, 0x108, 2, 0⟩
/-- NXL_LANE_FIR.LAST_PRESET (R334). -/
def F.NXL_LANE_FIR_LAST_PRESET : FRef := ⟨.nxl, 0x110, 31, 29⟩
/-- NXL_LANE_FIR.MAIN (R334). -/
def F.NXL_LANE_FIR_MAIN : FRef := ⟨.nxl, 0x110, 21, 16⟩
/-- NXL_LANE_FIR.POST (R334). -/
def F.NXL_LANE_FIR_POST : FRef := ⟨.nxl, 0x110, 12, 8⟩
/-- NXL_LANE_FIR.PRE (R334). -/
def F.NXL_LANE_FIR_PRE : FRef := ⟨.nxl, 0x110, 3, 0⟩
/-- NXL_LANE_RX.CTLE (R334). -/
def F.NXL_LANE_RX_CTLE : FRef := ⟨.nxl, 0x114, 31, 28⟩
/-- NXL_LANE_RX.VGA (R334). -/
def F.NXL_LANE_RX_VGA : FRef := ⟨.nxl, 0x114, 27, 20⟩
/-- NXL_LANE_RX.DFE1 (R334). -/
def F.NXL_LANE_RX_DFE1 : FRef := ⟨.nxl, 0x114, 17, 12⟩
/-- NXL_LANE_RX.DFE2 (R334). -/
def F.NXL_LANE_RX_DFE2 : FRef := ⟨.nxl, 0x114, 11, 6⟩
/-- NXL_LANE_RX.DFE3 (R334). -/
def F.NXL_LANE_RX_DFE3 : FRef := ⟨.nxl, 0x114, 5, 0⟩
/-- NXL_LANE_EYE.EYE_HIGH (R334). -/
def F.NXL_LANE_EYE_EYE_HIGH : FRef := ⟨.nxl, 0x118, 23, 16⟩
/-- NXL_LANE_EYE.EYE_MID (R334). -/
def F.NXL_LANE_EYE_EYE_MID : FRef := ⟨.nxl, 0x118, 15, 8⟩
/-- NXL_LANE_EYE.EYE_LOW (R334). -/
def F.NXL_LANE_EYE_EYE_LOW : FRef := ⟨.nxl, 0x118, 7, 0⟩
/-- NXL_LANE_DEC.ITER_PEAK (R334). -/
def F.NXL_LANE_DEC_ITER_PEAK : FRef := ⟨.nxl, 0x11C, 7, 4⟩
/-- NXL_LANE_DEC.ITER_LAST (R334). -/
def F.NXL_LANE_DEC_ITER_LAST : FRef := ⟨.nxl, 0x11C, 3, 0⟩
/-- NXL_TEST.PATTERN (R335). -/
def F.NXL_TEST_PATTERN : FRef := ⟨.nxl, 0x140, 31, 30⟩
/-- NXL_TEST.GEN_EN (R335). -/
def F.NXL_TEST_GEN_EN : FRef := ⟨.nxl, 0x140, 29, 29⟩
/-- NXL_TEST.CHK_EN (R335). -/
def F.NXL_TEST_CHK_EN : FRef := ⟨.nxl, 0x140, 28, 28⟩
/-- NXL_TEST.LOOPBACK (R335). -/
def F.NXL_TEST_LOOPBACK : FRef := ⟨.nxl, 0x140, 27, 26⟩
/-- NXL_TEST.TEST_RATE (R335). -/
def F.NXL_TEST_TEST_RATE : FRef := ⟨.nxl, 0x140, 25, 25⟩
/-- NXL_TEST.LANES (R335). -/
def F.NXL_TEST_LANES : FRef := ⟨.nxl, 0x140, 23, 16⟩
/-- NXL_INJ.GO (R335). -/
def F.NXL_INJ_GO : FRef := ⟨.nxl, 0x144, 31, 31⟩
/-- NXL_INJ.MODE (R335). -/
def F.NXL_INJ_MODE : FRef := ⟨.nxl, 0x144, 30, 29⟩
/-- NXL_INJ.RATE_EXP (R335). -/
def F.NXL_INJ_RATE_EXP : FRef := ⟨.nxl, 0x144, 28, 24⟩
/-- NXL_INJ.BURST_LEN (R335). -/
def F.NXL_INJ_BURST_LEN : FRef := ⟨.nxl, 0x144, 23, 16⟩
/-- NXL_INJ.LANES (R335). -/
def F.NXL_INJ_LANES : FRef := ⟨.nxl, 0x144, 15, 8⟩
/-- NXL_TEST_STATUS.INJ_BUSY (R335). -/
def F.NXL_TEST_STATUS_INJ_BUSY : FRef := ⟨.nxl, 0x148, 31, 31⟩
/-- NXL_TEST_STATUS.LOCKED (R335). -/
def F.NXL_TEST_STATUS_LOCKED : FRef := ⟨.nxl, 0x148, 7, 0⟩
/-- CTL_PAGE_ERR.PAUSE_DEBT (R265). -/
def F.CTL_PAGE_ERR_PAUSE_DEBT : FRef := ⟨.ctl, 0x10, 3, 3⟩
/-- CTL_PAGE_ERR.ACT_TRK_UE (R265). -/
def F.CTL_PAGE_ERR_ACT_TRK_UE : FRef := ⟨.ctl, 0x10, 2, 2⟩
/-- CTL_PAGE_ERR.TRK_FAIL (R265). -/
def F.CTL_PAGE_ERR_TRK_FAIL : FRef := ⟨.ctl, 0x10, 1, 1⟩
/-- CTL_PAGE_ERR.TRK_MARGIN (R265). -/
def F.CTL_PAGE_ERR_TRK_MARGIN : FRef := ⟨.ctl, 0x10, 0, 0⟩
/-- CTL_CTRL.TRK_EN (R255). -/
def F.CTL_CTRL_TRK_EN : FRef := ⟨.ctl, 0x100, 16, 16⟩
/-- CTL_CTRL.PD_EN (R255). -/
def F.CTL_CTRL_PD_EN : FRef := ⟨.ctl, 0x100, 8, 8⟩
/-- CTL_CTRL.PD_IDLE (R255). -/
def F.CTL_CTRL_PD_IDLE : FRef := ⟨.ctl, 0x100, 7, 0⟩
/-- CTL_SCHED.URGENT_SLOTS (R256). -/
def F.CTL_SCHED_URGENT_SLOTS : FRef := ⟨.ctl, 0x104, 31, 24⟩
/-- CTL_SCHED.WR_HIGH (R256). -/
def F.CTL_SCHED_WR_HIGH : FRef := ⟨.ctl, 0x104, 13, 8⟩
/-- CTL_SCHED.WR_LOW (R256). -/
def F.CTL_SCHED_WR_LOW : FRef := ⟨.ctl, 0x104, 5, 0⟩
/-- CTL_REF_STATUS.MAX_DEBT (R257). -/
def F.CTL_REF_STATUS_MAX_DEBT : FRef := ⟨.ctl, 0x108, 19, 16⟩
/-- CTL_REF_STATUS.SUSPECT (R257). -/
def F.CTL_REF_STATUS_SUSPECT : FRef := ⟨.ctl, 0x108, 11, 8⟩
/-- CTL_REF_STATUS.INTERVAL (R257). -/
def F.CTL_REF_STATUS_INTERVAL : FRef := ⟨.ctl, 0x108, 7, 0⟩
/-- CTL_ACT_CFG.ACT_THRESH (R257). -/
def F.CTL_ACT_CFG_ACT_THRESH : FRef := ⟨.ctl, 0x110, 15, 0⟩
/-- CTL_TRN_CTRL.GO (R258). -/
def F.CTL_TRN_CTRL_GO : FRef := ⟨.ctl, 0x140, 31, 31⟩
/-- CTL_TRN_CTRL.ABORT (R258). -/
def F.CTL_TRN_CTRL_ABORT : FRef := ⟨.ctl, 0x140, 30, 30⟩
/-- CTL_TRN_CTRL.PAUSE_EN (R258). -/
def F.CTL_TRN_CTRL_PAUSE_EN : FRef := ⟨.ctl, 0x140, 29, 29⟩
/-- CTL_TRN_CTRL.PAUSE (R258). -/
def F.CTL_TRN_CTRL_PAUSE : FRef := ⟨.ctl, 0x140, 28, 28⟩
/-- CTL_TRN_CTRL.PC (R258). -/
def F.CTL_TRN_CTRL_PC : FRef := ⟨.ctl, 0x140, 24, 24⟩
/-- CTL_TRN_CTRL.MODE (R258). -/
def F.CTL_TRN_CTRL_MODE : FRef := ⟨.ctl, 0x140, 21, 20⟩
/-- CTL_TRN_CTRL.TARGET (R258). -/
def F.CTL_TRN_CTRL_TARGET : FRef := ⟨.ctl, 0x140, 19, 19⟩
/-- CTL_TRN_CTRL.SWEEP_PARAM (R258). -/
def F.CTL_TRN_CTRL_SWEEP_PARAM : FRef := ⟨.ctl, 0x140, 17, 16⟩
/-- CTL_TRN_CTRL.BURSTS (R258). -/
def F.CTL_TRN_CTRL_BURSTS : FRef := ⟨.ctl, 0x140, 15, 0⟩
/-- CTL_TRN_PAT.PATTERN (R259). -/
def F.CTL_TRN_PAT_PATTERN : FRef := ⟨.ctl, 0x144, 2, 0⟩
/-- CTL_TRN_USER_LO.PAT (R259). -/
def F.CTL_TRN_USER_LO_PAT : FRef := ⟨.ctl, 0x148, 31, 0⟩
/-- CTL_TRN_USER_HI.PAT (R259). -/
def F.CTL_TRN_USER_HI_PAT : FRef := ⟨.ctl, 0x14C, 31, 0⟩
/-- CTL_TRN_SWEEP.END (R260). -/
def F.CTL_TRN_SWEEP_END : FRef := ⟨.ctl, 0x150, 30, 24⟩
/-- CTL_TRN_SWEEP.START (R260). -/
def F.CTL_TRN_SWEEP_START : FRef := ⟨.ctl, 0x150, 22, 16⟩
/-- CTL_TRN_SWEEP.STEP (R260). -/
def F.CTL_TRN_SWEEP_STEP : FRef := ⟨.ctl, 0x150, 6, 0⟩
/-- CTL_TRN_STATUS.BUSY (R261). -/
def F.CTL_TRN_STATUS_BUSY : FRef := ⟨.ctl, 0x154, 31, 31⟩
/-- CTL_TRN_STATUS.DONE (R261). -/
def F.CTL_TRN_STATUS_DONE : FRef := ⟨.ctl, 0x154, 30, 30⟩
/-- CTL_TRN_STATUS.REJECTED (R261). -/
def F.CTL_TRN_STATUS_REJECTED : FRef := ⟨.ctl, 0x154, 29, 29⟩
/-- CTL_TRN_STATUS.ABORTED (R261). -/
def F.CTL_TRN_STATUS_ABORTED : FRef := ⟨.ctl, 0x154, 28, 28⟩
/-- CTL_TRN_STATUS.FAIL_VALID (R261). -/
def F.CTL_TRN_STATUS_FAIL_VALID : FRef := ⟨.ctl, 0x154, 27, 27⟩
/-- CTL_TRN_STATUS.FAIL_BURST (R261). -/
def F.CTL_TRN_STATUS_FAIL_BURST : FRef := ⟨.ctl, 0x154, 15, 0⟩
/-- CTL_TRN_FAIL_LO.MASK (R261). -/
def F.CTL_TRN_FAIL_LO_MASK : FRef := ⟨.ctl, 0x158, 31, 0⟩
/-- CTL_TRN_FAIL_HI.MASK (R261). -/
def F.CTL_TRN_FAIL_HI_MASK : FRef := ⟨.ctl, 0x15C, 3, 0⟩
/-- CTL_TRN_SEL.PIN (R262). -/
def F.CTL_TRN_SEL_PIN : FRef := ⟨.ctl, 0x160, 5, 0⟩
/-- CTL_TRN_ERRCNT.ERRORS (R262). -/
def F.CTL_TRN_ERRCNT_ERRORS : FRef := ⟨.ctl, 0x164, 15, 0⟩
/-- CTL_TRN_MAP.PASS (R262). -/
def F.CTL_TRN_MAP_PASS : FRef := ⟨.ctl, 0x170, 31, 0⟩
/-- CTL_DLY_SEL.PC (R263). -/
def F.CTL_DLY_SEL_PC : FRef := ⟨.ctl, 0x180, 6, 6⟩
/-- CTL_DLY_SEL.PIN (R263). -/
def F.CTL_DLY_SEL_PIN : FRef := ⟨.ctl, 0x180, 5, 0⟩
/-- CTL_DLY.RD_VREF (R263). -/
def F.CTL_DLY_RD_VREF : FRef := ⟨.ctl, 0x184, 21, 16⟩
/-- CTL_DLY.WR_DLY (R263). -/
def F.CTL_DLY_WR_DLY : FRef := ⟨.ctl, 0x184, 14, 8⟩
/-- CTL_DLY.RD_DLY (R263). -/
def F.CTL_DLY_RD_DLY : FRef := ⟨.ctl, 0x184, 6, 0⟩
/-- CTL_TRK.TRK_DELTA (R264). -/
def F.CTL_TRK_TRK_DELTA : FRef := ⟨.ctl, 0x190, 27, 24⟩
/-- CTL_TRK.TRK_FRAMES (R264). -/
def F.CTL_TRK_TRK_FRAMES : FRef := ⟨.ctl, 0x190, 23, 0⟩
/-- NDU_PAGE_ERR.ACC_OVF (R202). -/
def F.NDU_PAGE_ERR_ACC_OVF : FRef := ⟨.ndu, 0x10, 1, 1⟩
/-- NDU_PAGE_ERR.POISON_RESULT (R202). -/
def F.NDU_PAGE_ERR_POISON_RESULT : FRef := ⟨.ndu, 0x10, 0, 0⟩
/-- NDU_CTRL.ACC_SPILL_ALL (R200). -/
def F.NDU_CTRL_ACC_SPILL_ALL : FRef := ⟨.ndu, 0x100, 0, 0⟩
/-- NDU_ACC_CFG.ACC_LIMIT (R201). -/
def F.NDU_ACC_CFG_ACC_LIMIT : FRef := ⟨.ndu, 0x104, 13, 0⟩
/-- NDU_ACC_STATUS.ACC_RESIDENT (R201). -/
def F.NDU_ACC_STATUS_ACC_RESIDENT : FRef := ⟨.ndu, 0x108, 13, 0⟩
/-- GTH_PAGE_ERR.IDX_POISON (R206). -/
def F.GTH_PAGE_ERR_IDX_POISON : FRef := ⟨.gth, 0x10, 1, 1⟩
/-- GTH_PAGE_ERR.ELEM_FAIL (R206). -/
def F.GTH_PAGE_ERR_ELEM_FAIL : FRef := ⟨.gth, 0x10, 0, 0⟩
/-- GTH_STATUS.ELEM_QUEUED (R204). -/
def F.GTH_STATUS_ELEM_QUEUED : FRef := ⟨.gth, 0x100, 26, 16⟩
/-- GTH_STATUS.ACTIVE (R204). -/
def F.GTH_STATUS_ACTIVE : FRef := ⟨.gth, 0x100, 4, 0⟩
/-- GTH_ACCR_BASE_LO.BASE_31_12 (R205). -/
def F.GTH_ACCR_BASE_LO_BASE_31_12 : FRef := ⟨.gth, 0x200, 31, 12⟩
/-- GTH_ACCR_BASE_HI.BASE_39_32 (R205). -/
def F.GTH_ACCR_BASE_HI_BASE_39_32 : FRef := ⟨.gth, 0x204, 7, 0⟩
/-- GTH_ACCR_SIZE.TILES (R205). -/
def F.GTH_ACCR_SIZE_TILES : FRef := ⟨.gth, 0x208, 27, 0⟩
/-- GTH_ACCR_CFG.EN (R205). -/
def F.GTH_ACCR_CFG_EN : FRef := ⟨.gth, 0x20C, 31, 31⟩
/-- GTH_ACCR_CFG.WBASE (R205). -/
def F.GTH_ACCR_CFG_WBASE : FRef := ⟨.gth, 0x20C, 7, 0⟩
/-- LABEL_W0.RES (R152). -/
def F.LABEL_W0_RES : FRef := ⟨.label, 0x0, 18, 8⟩
/-- LABEL_W0.OVF_CLASS (R152). -/
def F.LABEL_W0_OVF_CLASS : FRef := ⟨.label, 0x0, 7, 4⟩
/-- LABEL_W0.CLASS (R152). -/
def F.LABEL_W0_CLASS : FRef := ⟨.label, 0x0, 3, 0⟩
/-- LABEL_W1.BURST (R152). -/
def F.LABEL_W1_BURST : FRef := ⟨.label, 0x4, 31, 16⟩
/-- LABEL_W1.RATE (R152). -/
def F.LABEL_W1_RATE : FRef := ⟨.label, 0x4, 15, 0⟩
/-- LABEL_W2.DEF_DL_SLOT (R152). -/
def F.LABEL_W2_DEF_DL_SLOT : FRef := ⟨.label, 0x8, 18, 8⟩
/-- LABEL_W2.DEF_DL_FRAMES (R152). -/
def F.LABEL_W2_DEF_DL_FRAMES : FRef := ⟨.label, 0x8, 7, 0⟩

end Sys2Proof.Machine
end

