-- ==== Sys2Proof/Machine/Ops.lean ====
section
/-! DEFINITION. The named operations over sparse maps, memory, registers, counters, stacks, ports and the package
ring that every meaning is written with. -/

namespace Sys2Proof.Machine

/-- What a meaning answers. -/
abbrev Out := Host.Outcome State Fault Refusal

/-! ### Bits -/

/-- Bits [hi:lo] of a number. -/
def bits (n hi lo : Nat) : Nat := (n >>> lo) % 2 ^ (hi + 1 - lo)

/-- Bit i of a number. -/
def bitAt (n i : Nat) : Bool := n.testBit i

/-- A number with bits [hi:lo] replaced. -/
def putBits (n hi lo v : Nat) : Nat :=
  n - (bits n hi lo <<< lo) + ((v % 2 ^ (hi + 1 - lo)) <<< lo)

/-- 1 for true. -/
def b2n (b : Bool) : Nat := if b then 1 else 0

/-- A number as the two's-complement value of w bits. -/
def toSigned (w n : Nat) : Int := if n % 2 ^ w < 2 ^ (w - 1) then (n % 2 ^ w : Nat) else (n % 2 ^ w : Nat) - (2 ^ w : Nat)

/-- A two's-complement value as a number of w bits. -/
def ofSigned (w : Nat) (x : Int) : Nat := (x % (2 ^ w : Nat)).toNat

/-- Addition that stops at a bound (R82, R453). -/
def satAdd (m a b : Nat) : Nat := min m (a + b)

/-- The numbers 0 to n − 1 for which p holds. -/
def pick (n : Nat) (p : Nat → Bool) : List Nat := (List.range n).filter p

/-! ### Sparse maps: keys strictly rising -/

/-- Entry of a key. -/
def mfind {α : Type} : SMap α → Nat → Option α
  | [], _ => none
  | (j, v) :: m, k => if j = k then some v else mfind m k

/-- Value of a key, with what an unlisted key reads as. -/
def mget {α : Type} (m : SMap α) (k : Nat) (d : α) : α := (mfind m k).getD d

/-- Lists a key with a value. -/
def mset {α : Type} : SMap α → Nat → α → SMap α
  | [], k, v => [(k, v)]
  | (j, w) :: m, k, v => if k < j then (k, v) :: (j, w) :: m else if k = j then (k, v) :: m else (j, w) :: mset m k v

/-- Removes a key. -/
def mdel {α : Type} : SMap α → Nat → SMap α
  | [], _ => []
  | (j, w) :: m, k => if j = k then mdel m k else (j, w) :: mdel m k

/-- Writes a key canonically: a value equal to what an unlisted key reads as is not listed. -/
def mput {α : Type} [DecidableEq α] (m : SMap α) (k : Nat) (v d : α) : SMap α :=
  if v = d then mdel m k else mset m k v

/-! ### Memory -/

/-- Sparse byte storage in its canonical form: addresses strictly rising, no byte of 0 listed. -/
abbrev Memory := List Host.Cell

/-- The canonical form, from a lower bound on the first address. -/
def Memory.wfFrom : Nat → Memory → Bool
  | _, [] => true
  | lo, (a, b) :: m => decide (lo ≤ a) && decide (b ≠ 0) && Memory.wfFrom (a + 1) m

/-- The canonical form. (DESIGN CHOICE, notes/assumptions/9.md) -/
def Memory.wf (m : Memory) : Bool := Memory.wfFrom 0 m

/-- Reads one byte: a byte that nothing has written reads as 0 (DESIGN CHOICE, notes/assumptions/9.md). -/
def memRd (m : Memory) (a : Nat) : Byte := mget m a 0

/-- Writes one byte. (DESIGN CHOICE, notes/assumptions/9.md) -/
def memWr (m : Memory) (a : Nat) (b : Byte) : Memory := mput m a b 0

/-- Writes consecutive bytes. -/
def memWrs (m : Memory) (a : Nat) : List Byte → Memory
  | [] => m
  | b :: bs => memWrs (memWr m a b) (a + 1) bs

/-- Reads n consecutive bytes. -/
def memRds (m : Memory) (a n : Nat) : List Byte := (List.range n).map (fun i => memRd m (a + i))

/-- Bytes of a number, least significant first (R9). -/
def bytesOf (n v : Nat) : List Byte := (List.range n).map (fun i => BitVec.ofNat 8 (v >>> (8 * i)))

/-- The number with these bytes, least significant first (R9). -/
def ofBytes : List Byte → Nat
  | [] => 0
  | b :: bs => b.toNat + 256 * ofBytes bs

/-- Byte i of a word (R9). -/
def wordByte (w : Word) (i : Nat) : Byte := w.extractLsb' (8 * i) 8

/-- Bytes [hi:lo] of a word as a number. -/
def wordNum (w : Word) (lo n : Nat) : Nat := bits w.toNat (8 * (lo + n) - 1) (8 * lo)

/-- A word with n bytes from lo replaced. -/
def wordSet (w : Word) (lo n v : Nat) : Word := BitVec.ofNat 256 (putBits w.toNat (8 * (lo + n) - 1) (8 * lo) v)

/-! ### Stacks, ports and free values -/

/-- Stack count N. -/
def State.n (s : State) : Nat := s.part.stks

/-- Stack k. -/
def State.stk (s : State) (k : Nat) : Stack := s.stks.getD k (Stack.reset s.part.dies)

/-- Changes stack k. -/
def State.modStk (s : State) (k : Nat) (f : Stack → Stack) : State := { s with stks := s.stks.modify k f }

/-- Port p. -/
def State.prt (s : State) (p : Nat) : Port := s.ports.getD p Port.reset

/-- Changes port p. -/
def State.modPort (s : State) (p : Nat) (f : Port → Port) : State := { s with ports := s.ports.modify p f }

/-- Channel c of a stack. -/
def Stack.ch (x : Stack) (c : Nat) : Chan := x.chans.getD c Chan.reset

/-- Changes a channel. -/
def Stack.modCh (x : Stack) (c : Nat) (f : Chan → Chan) : Stack := { x with chans := x.chans.modify c f }

/-- Pseudo-channel i of a channel. -/
def Chan.pc (x : Chan) (i : Nat) : PChan := x.pcs.getD i PChan.reset

/-- Changes a pseudo-channel. -/
def Chan.modPc (x : Chan) (i : Nat) (f : PChan → PChan) : Chan := { x with pcs := x.pcs.modify i f }

/-- Changes channel c of stack k. -/
def State.modCh (s : State) (k c : Nat) (f : Chan → Chan) : State := s.modStk k (·.modCh c f)

/-- Changes pseudo-channel i of channel c of stack k. -/
def State.modPc (s : State) (k c i : Nat) (f : PChan → PChan) : State := s.modCh k c (·.modPc i f)

/-- Changes the Registrar of stack k. -/
def State.modRg (s : State) (k : Nat) (f : Registrar → Registrar) : State :=
  s.modStk k (fun x => { x with rg := f x.rg })

/-- Applies f for each index below n. -/
def forN (n : Nat) (s : State) (f : State → Nat → State) : State := (List.range n).foldl f s

/-- Applies f for every stack. -/
def forStacks (s : State) (f : State → Nat → State) : State := forN s.n s f

/-- Draws the next free value (DESIGN CHOICE, notes/assumptions/1.md). -/
def State.draw (s : State) : Nat × State := (Config.freeNat s.free, { s with free := s.free + 1 })

/-- Frame counter of stack k (R52). -/
def State.frame (s : State) (k : Nat) : Nat := (s.stk k).tm.frame

/-- Local ticks of stack k (R43). -/
def State.now (s : State) (k : Nat) : Nat := (s.stk k).tm.ticks

/-- A stack in SAFE (R461), its base die under reset (R484), or stopped by a logic scan (R507). -/
def State.inSafe (s : State) (k : Nat) : Bool := (s.stk k).mode == .safe

/-- The base die of stack k is under reset. -/
def State.inReset (s : State) (k : Nat) : Bool := (s.stk k).rst

/-- Stack k cannot serve: requests to it complete with STACK_RESET (R24, R385, R463). -/
def State.unreach (s : State) (k : Nat) : Bool :=
  s.inSafe k || s.inReset k || (s.stk k).scanned || (s.stk k).clk.recovering || s.halt.isSome

/-- Stack k is in MAINTENANCE or has accepted a request for it (R24). -/
def State.inMaint (s : State) (k : Nat) : Bool :=
  (s.stk k).mode == .maintenance || (s.stk k).mode == .maintPending

/-- EXTEST, CLAMP or HIGHZ is loaded in a TAP: the sideband outputs follow its boundary register, and ALIVE stops (R507). -/
def State.tapHolds (s : State) : Bool := s.taps.any (fun t => t.ir == 3 || t.ir == 4 || t.ir == 5)

/-! ### Registers -/

/-- The register specification that covers a live offset. -/
def specAt (pg : Page) (off : Nat) : Option RegSpec :=
  pg.regs.find? (fun r =>
    if r.count ≤ 1 then r.off == off
    else decide (r.off ≤ off) && (off - r.off) % r.stride == 0 && decide ((off - r.off) / r.stride < r.count))

/-- Bit positions set in a mask. -/
def maskOf (l : List Nat) : Nat := l.foldl (fun m i => m ||| 2 ^ i) 0

/-- Reset value of mask n (R73). -/
def maskReset (part : Part) (n : Nat) : Nat :=
  let hi := part.dies == 16
  let w := match part.stks with | 8 => 40 | 4 => 39 | _ => 38
  let sh := if hi then [(22, 35), (23, 36)] else []
  let st := if hi then [(24, 37), (25, 38), (26, 39)] else [(22, 35), (23, 36), (24, 37)]
  let cnt := match part.stks with | 8 => 3 | 4 => 2 | _ => 1
  match n with
  | 0 => maskOf [10, 12] | 1 => maskOf [11, 13] | 2 => maskOf [20, 33] | 3 => maskOf [21, 34]
  | 4 => if hi then maskOf [(sh.getD 0 (0, 0)).1, (sh.getD 0 (0, 0)).2] else 2 ^ (w - 2)
  | 5 => if hi then maskOf [(sh.getD 1 (0, 0)).1, (sh.getD 1 (0, 0)).2] else 2 ^ (w - 1)
  | 6 => maskOf [14, 27] | 7 => maskOf [15, 28] | 8 => maskOf [16, 29] | 9 => maskOf [17, 30]
  | 10 => maskOf [18, 31] | 11 => maskOf [19, 32]
  | 12 | 13 | 14 => if n - 12 < cnt then maskOf [(st.getD (n - 12) (0, 0)).1, (st.getD (n - 12) (0, 0)).2] else 0
  | _ => 0

/-- Reset value of a register at a live offset: its fields' reset values (R12), the masks of R73, route entry 0 of
R374. -/
def resetLive (part : Part) (pg : Page) (off : Nat) : Nat :=
  match pg with
  | .adm => if 0x100 ≤ off ∧ off < 0x178 then
      (if off % 8 = 0 then maskReset part ((off - 0x100) / 8) % 2 ^ 32 else maskReset part ((off - 0x100) / 8) >>> 32)
    else 0
  | _ =>
    if pg = .rte ∧ off = 0x100 then 2 ^ 31 + 2 ^ 30
    else match specAt pg off with
      | some r => r.flds.foldl (fun a f => a + (f.rst <<< f.lo)) 0
      | none => 0

/-- Reset value at any offset; the staged image equals the live values (R87). -/
def resetAt (part : Part) (pg : Page) (off : Nat) : Nat :=
  if 0x800 ≤ off ∧ off < 0xF00 then resetLive part pg (off - 0x700) else resetLive part pg off

/-- Key of a register in its window: page index × 0x1000 + offset. -/
def regKey (pg : Page) (i off : Nat) : Nat := pg.index i * 0x1000 + off

/-- Page of a window key. -/
def keyPage (pkg : Bool) (key : Nat) : Option (Page × Nat) := if pkg then pkgPageAt (key / 4096) else stkPageAt (key / 4096)

/-- Stored value of a register in stack k (a package page: in that stack's copy). -/
def State.raw (s : State) (k : Nat) (pg : Page) (i off : Nat) : Nat :=
  let m := if pg.isPkg then (s.stk k).pkgRegs else (s.stk k).regs
  (mget m (regKey pg i off) (BitVec.ofNat 32 (resetAt s.part pg off))).toNat

/-- Stores a register value in stack k. -/
def State.setRaw (s : State) (k : Nat) (pg : Page) (i off v : Nat) : State :=
  let d := BitVec.ofNat 32 (resetAt s.part pg off)
  s.modStk k (fun x =>
    if pg.isPkg then { x with pkgRegs := mput x.pkgRegs (regKey pg i off) (BitVec.ofNat 32 v) d }
    else { x with regs := mput x.regs (regKey pg i off) (BitVec.ofNat 32 v) d })

/-- The staged image of a field (R79). -/
def FRef.staged (f : FRef) : FRef := { f with off := f.off + 0x700 }

/-- A field of an array register, n bytes further. -/
def FRef.plus (f : FRef) (n : Nat) : FRef := { f with off := f.off + n }

/-- Reads a field of page instance i of stack k. -/
def State.fld (s : State) (k i : Nat) (f : FRef) : Nat := bits (s.raw k f.page i f.off) f.hi f.lo

/-- A field of an SCB register as it is in force (R298). (DEDUCED, notes/assumptions/49.md) -/
def State.scbFld (s : State) (k : Nat) (f : FRef) : Nat :=
  bits (mget (s.stk k).scb (regKey f.page 0 f.off) (BitVec.ofNat 32 (resetAt s.part f.page f.off))).toNat f.hi f.lo

/-- A one-bit field. -/
def State.flag (s : State) (k i : Nat) (f : FRef) : Bool := s.fld k i f == 1

/-- Writes a field of page instance i of stack k. -/
def State.setFld (s : State) (k i : Nat) (f : FRef) (v : Nat) : State :=
  s.setRaw k f.page i f.off (putBits (s.raw k f.page i f.off) f.hi f.lo v)

/-- Writes several fields. -/
def State.setFlds (s : State) (k i : Nat) (l : List (FRef × Nat)) : State :=
  l.foldl (fun s fv => s.setFld k i fv.1 fv.2) s

/-- Writes a field in every stack (package pages and package-wide fields, R17, R70). -/
def State.setAll (s : State) (f : FRef) (v : Nat) : State := forStacks s (fun s k => s.setFld k 0 f v)

/-- Word w of label L, live or staged (R89, R152). -/
def Stack.label (x : Stack) (staged : Bool) (l w : Nat) : Nat :=
  (mget (if staged then x.stLabels else x.labels) (4 * l + w)
    (BitVec.ofNat 32 (resetLive .ax8h16 .label (4 * w)))).toNat

/-- Stores a word of a label. -/
def Stack.setLabel (x : Stack) (staged : Bool) (l w v : Nat) : Stack :=
  let d := BitVec.ofNat 32 (resetLive .ax8h16 .label (4 * w))
  if staged then { x with stLabels := mput x.stLabels (4 * l + w) (BitVec.ofNat 32 v) d }
  else { x with labels := mput x.labels (4 * l + w) (BitVec.ofNat 32 v) d }

/-- A field of a live label entry. -/
def State.labelFld (s : State) (k l : Nat) (f : FRef) : Nat := bits ((s.stk k).label false l (f.off / 4)) f.hi f.lo

/-! ### Counters (R79, R82) -/

/-- Largest counter value (R82). -/
def cntMax : Nat := 2 ^ 64 - 1

/-- Value of counter c of a page. -/
def State.cntVal (s : State) (k : Nat) (pg : Page) (i c : Nat) : Nat :=
  mget (if pg.isPkg then s.pkgCnt else (s.stk k).cnt) (regKey pg i (0xF00 + 8 * c)) 0

/-- Sets counter c of a page. -/
def State.setCnt (s : State) (k : Nat) (pg : Page) (i c v : Nat) : State :=
  let key := regKey pg i (0xF00 + 8 * c)
  if pg.isPkg then { s with pkgCnt := mput s.pkgCnt key v 0 }
  else s.modStk k (fun x => { x with cnt := mput x.cnt key v 0 })

/-- COUNTER_FREEZE stops a page's counters; TIC ignores it (R55). -/
def State.frozen (s : State) (k : Nat) (pg : Page) (i : Nat) : Bool := pg != .tic && bitAt (s.raw k pg i 8) 0

/-- Adds n events to counter c of a page, saturating (R82). -/
def State.count (s : State) (k : Nat) (pg : Page) (i c n : Nat) : State :=
  if s.frozen k pg i then s else s.setCnt k pg i c (satAdd cntMax (s.cntVal k pg i c) n)

/-! ### The package ring (R15, R22, R25, R511) -/

/-- Ring link l joins UP of stack l to DOWN of stack (l + 1) mod N; it is in service unless it has failed. -/
def State.linkOk (s : State) (l : Nat) : Bool := !(s.stk l).upFailed && !(s.stk ((l + 1) % s.n)).downFailed

/-- The links of a path of n hops UP from stack a. -/
def linksUp (n a : Nat) : Nat → List Nat
  | 0 => []
  | h + 1 => a % n :: linksUp n (a + 1) h

/-- The links of a path from a to b in one direction; DOWN from a to b uses the links UP from b to a. -/
def ringPath (n a b : Nat) (up : Bool) : List Nat :=
  if up then linksUp n a ((b + n - a) % n) else linksUp n b ((a + n - b) % n)

/-- The direction of R22. -/
def ringUp (n a b reqId : Nat) : Bool :=
  let d := (b + n - a) % n
  if 2 * d < n then true else if 2 * d > n then false else reqId % 2 == 0

/-- The path a message takes: the direction of R22, or the other way where that path holds a failed link (R25). -/
def State.path (s : State) (a b reqId : Nat) : List Nat :=
  if a = b then [] else
  let p := ringPath s.n a b (ringUp s.n a b reqId)
  if p.all s.linkOk then p else ringPath s.n a b (!ringUp s.n a b reqId)

/-- Stack a can reach stack b over the ring (R511). -/
def State.reach (s : State) (a b : Nat) : Bool :=
  a == b || (ringPath s.n a b true).all s.linkOk || (ringPath s.n a b false).all s.linkOk

/-- Messages cross the ring, which is off in OFF and in RETAIN (R21). -/
def State.ringOn (s : State) : Bool := s.mode != .off && s.mode != .retain

/-- A message of stack a comes to stack b: in a itself, or over a ring that is on and joins them (R21, R511). -/
def State.ringTo (s : State) (a b : Nat) : Bool := a == b || (s.ringOn && s.reach a b)

/-- RING_TX of stack k counts a message sent from k to j (R34), at the stack where it originates; one that only passes through a
stack's router is not counted there (DESIGN CHOICE, notes/assumptions/69.md). -/
def State.ringTx (s : State) (k j : Nat) : State := if k = j then s else s.count k .stk 0 2 1

/-! ### Access sources -/

/-- CMT_RESULT.SOURCE code of an access source (R100). -/
def Source.code : Source → Nat
  | .port p => p
  | .pmbus => 32
  | .docent k => 33 + k

/-- The stack whose port, PMBus agent or Docent receives the access (R17, R18, R88). -/
def State.srcStack (s : State) : Source → Nat
  | .port p => p / 4
  | .pmbus => s.agg
  | .docent k => k

/-- Source is the Docent of stack k (R88). -/
def Source.isDocent (k : Nat) : Source → Bool
  | .docent j => j == k
  | _ => false

/-- The window of stack k takes an access: the package is powered, the stack exists (R75), and its base die is neither
under reset (R76) nor stopped by a logic scan (R507). -/
def State.winOk (s : State) (k : Nat) : Bool := s.mode != .off && decide (k < s.n) && !s.inReset k && !(s.stk k).scanned

end Sys2Proof.Machine
end

