-- ==== Sys2Proof/Machine/Flags.lean ====
section
/-! DEFINITION. Flags: PAGE_ERR bits, PAGE_STATUS events, interrupt messages and the reports that blocks raise at the
Registrar's intake (R83 to R85, R128, R449 to R453, R510). -/

namespace Sys2Proof.Machine

/-- Adds an interrupt event: an event with the IRQ_KIND, SOURCE and DETAIL of a pending message is coalesced into it;
up to 64 messages are pending; beyond that the oldest message of its kind counts it (R128). Where none of the 64 is of its kind
the event is dropped: the spec names no message for it (DESIGN CHOICE, notes/assumptions/74.md). -/
def addIrq (l : List Irq) (e : Irq) : List Irq :=
  if l.any (fun x => x.kind == e.kind && x.source == e.source && x.detail == e.detail) then
    l.map (fun x => if x.kind == e.kind && x.source == e.source && x.detail == e.detail
      then { x with count := satAdd 255 x.count 1 } else x)
  else if l.length < 64 then l ++ [e]
  else match l.findIdx? (fun x => x.kind == e.kind) with
    | some i => l.modify i (fun x => { x with count := satAdd 255 x.count 1 })
    | none => l

/-- Queues an interrupt message with a frame (R128). -/
def State.irqAt (s : State) (frame kind source detail : Nat) : State :=
  { s with irqs := addIrq s.irqs { kind := kind, count := 1, source := BitVec.ofNat 32 source,
                                   detail := BitVec.ofNat 32 detail, frame := frame % 65536 } }

/-- Queues an interrupt message with the frame of stack k (R128). -/
def State.irq (s : State) (k kind source detail : Nat) : State := s.irqAt (s.frame k) kind source detail

/-- Management address of a page offset (R75). -/
def pageAddr (pg : Page) (k i off : Nat) : Nat :=
  (if pg.isPkg then 0 else 0x100000 * (k + 1)) + regKey pg i off

/-- PAGE_STATUS bit 16 + n goes from 0 to 1: an interrupt message if PAGE_IRQ_EN bit n is 1 (R85). -/
def State.event (s : State) (k : Nat) (pg : Page) (i n : Nat) : State :=
  if bitAt (s.raw k pg i 0x18) n then s.irq k 0x00 (pageAddr pg k i 0x0C) n else s

/-- Sets a PAGE_STATUS state bit 16 + n, with the event of R85 on its rise. -/
def State.statusBit (s : State) (k : Nat) (pg : Page) (i n : Nat) (v : Bool) : State :=
  let old := bitAt (s.raw k pg i 0x0C) (16 + n)
  let s' := s.setRaw k pg i 0x0C (putBits (s.raw k pg i 0x0C) (16 + n) (16 + n) (b2n v))
  if v && !old then s'.event k pg i n else s'

/-- Current level of a kind in stack k's copy of the kind table (R452). -/
def State.level (s : State) (k : Nat) (x : Kind) : Nat := mget (s.stk k).rg.levels x.code x.lvl

/-- SOURCE of a report (R449). -/
def sourceOf (k : Nat) (pkg : Bool) (sub idx : Nat) : BitVec 16 :=
  BitVec.ofNat 16 (k * 2 ^ 13 + b2n pkg * 2 ^ 12 + (sub % 16) * 2 ^ 8 + idx)

/-- A producer's report meets the intake: a producer that keeps a report waiting, passed over by an intake cycle, adds to its
tally, up to 15; beyond that, or with another kind, the report is lost and the tally is marked saturated. Any other report is
one of the cycle to come (R453). (DEDUCED, notes/assumptions/59.md) -/
def addWaiting : List Waiting → Waiting → List Waiting
  | [], w => [w]
  | x :: l, w =>
    if x.kept = true ∧ x.source = w.source then
      (if x.kind = w.kind ∧ x.tally < 15 then { x with tally := x.tally + 1 } else { x with saturated := true }) :: l
    else x :: addWaiting l w

/-- Raises a report of a kind: its PAGE_ERR bit sets (a package page's bit in every copy at the next tick, R510), and
unless R84's mask keeps it, the report waits at the intake of stack k. -/
def State.reportSev (s : State) (k : Nat) (x : Kind) (sev i sub addr : Nat) : State :=
  let idx := x.page.index i
  let hasBit := decide (x.bit < 24)
  let masked := hasBit && bitAt (s.raw k x.page i 0x14) x.bit && decide (s.level k x ≤ 1)
  let s1 := if !hasBit then s
    else if x.page.isPkg then { s with errPend := s.errPend ++ [(k, idx, x.bit)] }
    else s.setRaw k x.page i 0x10 (putBits (s.raw k x.page i 0x10) x.bit x.bit 1)
  if masked then s1 else
  let w : Waiting :=
    { source := sourceOf k x.page.isPkg sub idx, kind := x.code, sev := sev, addr := BitVec.ofNat 48 addr,
      frame := s.frame k % 65536, tally := 0, saturated := false, kept := false,
      bit := if hasBit then some (b2n x.page.isPkg * 256 + idx, x.bit) else none }
  s1.modRg k (fun r => { r with waiting := addWaiting r.waiting w })

/-- Raises a report with the kind's own severity. -/
def State.report (s : State) (k : Nat) (x : Kind) (i sub addr : Nat) : State := s.reportSev k x x.sev i sub addr

/-- ERR_PENDING of a page (R83). -/
def State.errPending (s : State) (k : Nat) (pg : Page) (i : Nat) : Bool :=
  s.raw k pg i 0x10 &&& (0xFFFFFFFF ^^^ s.raw k pg i 0x14) != 0

end Sys2Proof.Machine
end

