-- ==== Sys2Proof/Machine/Operands.lean ====
section
/-! DEFINITION. Every operand form: package offsets through the ADM masks (R61 to R74), message headers (R106, R114,
R127), opcodes and their form checks (R107, R108, R179 to R181, R191, R192), labels and classes (R152 to R154),
route-table fields (R365, R375). -/

namespace Sys2Proof.Machine

/-! ### Address decomposition -/

/-- Where a word lies: the fields of R64. -/
structure Loc where
  stack : Nat
  ch    : Nat
  pc    : Nat
  bg    : Nat
  bank  : Nat
  sid   : Nat
  row   : Nat
  col   : Nat
  deriving DecidableEq, Repr

/-- Width W of a part (R62). -/
def Part.width : Part → Nat
  | .ax8h16 | .ax8h12 => 40
  | .ax4h16 | .ax4h12 => 39
  | .ax2h16 | .ax2h12 => 38

/-- SID count of a part (R3). -/
def Part.sids (p : Part) : Nat := if p.dies = 16 then 4 else 3

/-- User capacity in bytes: backed offsets are below it (R62). -/
def Part.capacity (p : Part) : Nat := 2 ^ (p.width - 2) * p.sids

/-- Mask n of stack k's ADM page, live or staged (R71, R72). -/
def State.mask (s : State) (k : Nat) (staged : Bool) (n : Nat) : Nat :=
  let o := (if staged then 0x800 else 0x100) + 8 * n
  bits (s.raw k .adm 0 o) 31 10 * 2 ^ 10 + bits (s.raw k .adm 0 (o + 4)) 7 0 * 2 ^ 32

/-- XOR of the bits of a number, w bits wide (R65). -/
def parity (w n : Nat) : Nat := (List.range w).foldl (fun a i => a ^^^ ((n >>> i) % 2)) 0

/-- The 15 masks of a stack. -/
def State.masks (s : State) (k : Nat) (staged : Bool) : List Nat := (List.range 15).map (s.mask k staged)

/-- Decomposition of a package offset with a mask set (R64, R65). -/
def decompose (ms : List Nat) (o : Nat) : Loc :=
  let f := fun n => parity 40 (o &&& ms.getD n 0)
  { stack := f 12 + 2 * f 13 + 4 * f 14,
    ch := f 7 + 2 * f 8 + 4 * f 9 + 8 * f 10 + 16 * f 11,
    pc := f 6, bg := f 2 + 2 * f 3, bank := f 0 + 2 * f 1, sid := f 4 + 2 * f 5,
    row := bits o 26 12, col := bits o 9 5 }

/-- Decomposition with the live masks of stack k. -/
def State.locOf (s : State) (k o : Nat) : Loc := decompose (s.masks k false) o

/-- An offset that is backed (R62). -/
def State.backed (s : State) (o : Nat) : Bool := decide (o < s.part.capacity)

/-- Tile index within a stack: one row index in the four banks of a bank group (R66). -/
def Loc.tile (l : Loc) : Nat := ((((l.ch * 2 + l.pc) * 4 + l.bg) * 4 + l.sid) * 32768) + l.row

/-- Tiles per stack. -/
def tilesPerStack : Nat := 32 * 2 * 4 * 4 * 32768

/-- The offset bit positions F of R67. -/
def colsF (p : Part) : List Nat := [10, 11] ++ (List.range (p.width - 27)).map (· + 27)

/-- Masks that the part requires to be zero (R68). -/
def zeroMasks (p : Part) : List Nat := match p.stks with | 8 => [] | 4 => [14] | _ => [13, 14]

/-- Masks that R67 calls active. -/
def activeMasks (p : Part) : List Nat := pick 15 (fun n => !(zeroMasks p).contains n)

/-- One column of the procedure of R67: pivot search, swap and elimination. -/
def elimStep (rows : List Nat) (col : Nat) : Option (List Nat) :=
  match (List.range rows.length).find? (fun r => decide (col ≤ r) && bitAt (rows.getD r 0) col) with
  | none => none
  | some r =>
    let a := rows.getD r 0
    let sw := (rows.set r (rows.getD col 0)).set col a
    some ((List.range sw.length).map (fun q =>
      let x := sw.getD q 0
      if q ≠ col ∧ bitAt x col then x ^^^ a else x))

/-- The procedure of R67 over columns col to col + n − 1: the column without a pivot, or the reduced rows. -/
def elim : Nat → Nat → List Nat → Nat ⊕ List Nat
  | 0, _, rows => .inr rows
  | n + 1, col, rows =>
    match elimStep rows col with
    | none => .inl col
    | some rows' => elim n (col + 1) rows'

/-- A mask restricted to the columns F, packed into |F| bits (R67). -/
def packF (p : Part) (m : Nat) : Nat :=
  ((colsF p).zipIdx).foldl (fun a ci => a + (b2n (bitAt m ci.1) <<< ci.2)) 0

/-- Value of mask-formed bit n at a location. -/
def Loc.bit (l : Loc) (n : Nat) : Nat :=
  match n with
  | 0 => bits l.bank 0 0 | 1 => bits l.bank 1 1 | 2 => bits l.bg 0 0 | 3 => bits l.bg 1 1
  | 4 => bits l.sid 0 0 | 5 => bits l.sid 1 1 | 6 => l.pc
  | 7 => bits l.ch 0 0 | 8 => bits l.ch 1 1 | 9 => bits l.ch 2 2 | 10 => bits l.ch 3 3 | 11 => bits l.ch 4 4
  | 12 => bits l.stack 0 0 | 13 => bits l.stack 1 1 | _ => bits l.stack 2 2

/-- The package offset of a location: the inverse of the one-to-one map of R67, by the same elimination with the
location's bits as right-hand sides. -/
def State.offsetOf (s : State) (k : Nat) (l : Loc) : Nat :=
  let fixed := l.row * 2 ^ 12 + l.col * 2 ^ 5
  let cs := colsF s.part
  let rows := (activeMasks s.part).map (fun n =>
    let m := s.mask k false n
    packF s.part m + ((l.bit n ^^^ parity 40 (m &&& fixed)) <<< cs.length))
  match elim cs.length 0 rows with
  | .inl _ => fixed
  | .inr rs => fixed + ((cs.zipIdx).foldl (fun a ci => a + (bits (rs.getD ci.2 0) cs.length cs.length <<< ci.1)) 0)

/-- The location of bank b, column 0 of a tile of stack k. -/
def locOfTile (k t b c : Nat) : Loc :=
  let r := t / 32768
  { stack := k, row := t % 32768, sid := r % 4, bg := (r / 4) % 4, pc := (r / 16) % 2, ch := r / 32, bank := b, col := c }

/-- Package offset of the base of a tile of stack k. -/
def State.tileBase (s : State) (k t : Nat) : Nat := s.offsetOf k (locOfTile k t 0 0) / 4096 * 4096

/-- The tiles [base, base + n) of the package that lie in stack k, as tile indices, with their numbers in the span. -/
def State.spanTiles (s : State) (k base n : Nat) : List Nat :=
  (List.range n).filterMap (fun i =>
    let l := s.locOf k (base * 4096 + i * 4096)
    if l.stack = k ∧ s.backed (base * 4096 + i * 4096) then some l.tile else none)

/-! ### Opcodes -/

/-- Opcodes whose posted form this is, as the acknowledged form (R109, R179). -/
def ackForm (op : Nat) : Nat := if op = 0x03 then 0x02 else if 0x40 ≤ op ∧ op ≤ 0x5E then op - 0x20 else op

/-- Acknowledged near-data opcodes that run in an NDU and have a posted form (R179). -/
def isAtomic (op : Nat) : Bool := decide (0x20 ≤ op ∧ op ≤ 0x2C) || decide (0x30 ≤ op ∧ op ≤ 0x3E)

/-- A posted form: WRITE_POSTED or that of an assigned near-data operation (R108, R179). -/
def isPosted (op : Nat) : Bool := op == 0x03 || (decide (0x40 ≤ op) && isAtomic (op - 0x20))

/-- Single-word near-data operations, in acknowledged form. -/
def isSingle (op : Nat) : Bool := isAtomic op || op == 0x68 || op == 0x69

/-- Descriptor operations. -/
def isDesc (op : Nat) : Bool := decide (0x60 ≤ op ∧ op ≤ 0x64)

/-- READ, WRITE, WRITE_POSTED, WRITE_MASKED. -/
def isRw (op : Nat) : Bool := decide (1 ≤ op ∧ op ≤ 4)

/-- Opcodes assigned on REQ and FWD (R108, R179). -/
def isMemOp (op : Nat) : Bool := isRw op || op == 0x08 || op == 0x09 || isSingle (ackForm op) || isDesc op

/-- Valid on the virtual channel (R104, R108, R109, R179). -/
def validOn (vc : Vc) (op : Nat) : Bool :=
  match vc with
  | .req => isMemOp op
  | .fwd => isMemOp op && !isPosted op && op != 0x08
  | _ => false

/-- Data words that follow the header of a request (R105, R108, R180). -/
def dataWords (op len : Nat) : Nat :=
  if op = 0x02 ∨ op = 0x03 ∨ op = 0x60 then len
  else if op = 0x04 ∨ isAtomic (ackForm op) ∨ (0x61 ≤ op ∧ op ≤ 0x64) then 1 else 0

/-- Operand size of an atomic in bytes; REPRO_ADD, FOLD and FOLD_CLEAR use 0 (R181). -/
def opSize (op : Nat) : Nat :=
  let a := ackForm op
  if a ≤ 0x2C then 4 else if a ≤ 0x3C then 8 else if a = 0x3D then 16 else 0

/-- Bytes [lo, lo + n) of PARAM, numbered from header byte 18. -/
def Req.parNum (r : Req) (lo n : Nat) : Nat := bits r.param.toNat (8 * (lo + n) - 1) (8 * lo)

/-- Package offset of a request. -/
def Req.off (r : Req) : Nat := r.addr.toNat % 2 ^ 40

/-- ELEM of a single-word operation (R181). -/
def Req.elem (r : Req) : Nat := bits r.param.toNat 4 0

/-- The descriptor word of a descriptor operation. -/
def Req.word0 (r : Req) : Word := (r.data.getD 0 (0, false)).1

/-- ESIZE in bytes (R192). -/
def esize (w : Word) : Nat := 4 * 2 ^ bits (wordNum w 2 1) 1 0

/-- Bytes [lo, hi) of a word are 0. -/
def zeroFrom (w : Word) (lo hi : Nat) : Bool := bits w.toNat (8 * hi - 1) (8 * lo) == 0 || decide (hi ≤ lo)

/-- The descriptor rules of R192. -/
def descOk (op : Nat) (off : Nat) (w : Word) : Bool :=
  let cnt := wordNum w 0 2
  let okCnt := decide (1 ≤ cnt ∧ cnt ≤ 4096)
  match op with
  | 0x61 =>
    let iw := bits (wordNum w 2 1) 2 2
    okCnt && bits (wordNum w 2 1) 7 3 == 0 && zeroFrom w 3 8 && zeroFrom w 13 32 &&
      wordNum w 8 5 % (if iw = 0 then 4 else 8) == 0
  | 0x62 =>
    okCnt && bits (wordNum w 2 1) 7 2 == 0 && zeroFrom w 3 4 && zeroFrom w 8 32 && wordNum w 4 4 % esize w == 0
  | 0x63 =>
    okCnt && bits (wordNum w 2 1) 7 2 == 0 && zeroFrom w 3 4 && zeroFrom w 17 32 &&
      wordNum w 4 4 % esize w == 0 && wordNum w 8 4 % esize w == 0 && wordNum w 12 5 % esize w == 0
  | 0x64 =>
    let n := 32 * (cnt + 1)
    let d := wordNum w 4 5
    zeroFrom w 2 4 && zeroFrom w 9 32 && d % 32 == 0 && (decide (d + n ≤ off) || decide (off + n ≤ d))
  | _ => true

/-- The form checks of R107, R180, R181, R191 and R192: true when the request passes all of them. A request on a
virtual channel that its port's role refuses fails its form (R363). (DEDUCED, notes/assumptions/38.md) -/
def Req.formOk (r : Req) : Bool :=
  let o := r.off
  let a := ackForm r.op
  let roleOk := match r.vc with | .req => r.role == 1 | .fwd => r.role == 2 | _ => false
  validOn r.vc r.op && roleOk && !r.rsvd &&
  (if r.op = 0x08 then r.param == 0
   else if isRw r.op then
     o % 32 == 0 && decide (1 ≤ r.len ∧ r.len ≤ 8) && (r.op != 0x04 || r.len == 1) &&
     decide (o % 256 + 32 * r.len ≤ 256) && (if r.op = 0x04 then r.parNum 4 10 == 0 else r.param == 0)
   else if r.op = 0x09 then
     o % 4096 == 0 && decide (1 ≤ r.parNum 0 4) && decide (o / 4096 + r.parNum 0 4 ≤ 2 ^ 28) && r.parNum 4 10 == 0
   else if isSingle a then
     o % 32 == 0 && r.len == 1 && bits r.param.toNat 7 5 == 0 && r.parNum 1 13 == 0 &&
     (if opSize r.op = 0 then r.elem == 0 else r.elem % opSize r.op == 0)
   else if r.op = 0x60 then
     o % 32 == 0 && decide (1 ≤ r.len ∧ r.len ≤ 8) && decide (bits r.param.toNat 2 0 ≤ 3) &&
     bits r.param.toNat 7 3 == 0 && r.parNum 1 13 == 0
   else
     o % 32 == 0 && r.len == 1 && r.param == 0 && descOk r.op o r.word0)

/-- Package offsets that a request touches as a span of bytes, for R63: start and length. -/
def Req.span (r : Req) : Nat × Nat :=
  if isRw r.op then (r.off, 32 * r.len)
  else if r.op = 0x09 then (r.off, 4096 * r.parNum 0 4)
  else if r.op = 0x60 then (r.off, 0)
  else if isDesc r.op then (r.off, 0) else (r.off, 32)

/-- Pair words of a SCATTER_ACC: operand size (R191). -/
def scatterSize (eop : Nat) : Nat := if eop % 2 = 0 then 4 else 8

/-- Bytes of index list that a GATHER reads (R192). -/
def Req.idxSpan (r : Req) : Nat × Nat :=
  let w := r.word0
  (wordNum w 8 5, wordNum w 0 2 * (if bits (wordNum w 2 1) 2 2 = 0 then 4 else 8))

/-- The whole-request offset check of R63: every byte backed; for PKG_COPY both ranges, for GATHER the index list
(R193). (DEDUCED, notes/assumptions/39.md) -/
def State.reqBacked (s : State) (r : Req) : Bool :=
  let cap := s.part.capacity
  let w := r.word0
  match r.op with
  | 0x64 => decide (r.off + 32 * (wordNum w 0 2 + 1) ≤ cap) && decide (wordNum w 4 5 + 32 * (wordNum w 0 2 + 1) ≤ cap)
  | 0x61 => decide (r.off < cap) && decide (r.idxSpan.1 + r.idxSpan.2 ≤ cap)
  | _ => decide (r.off < cap) && decide (r.span.1 + r.span.2 ≤ cap)

/-- Token-bucket cost in words (R160, R197). -/
def Req.cost (r : Req) : Nat :=
  if r.op = 0x08 then 0 else if r.op = 0x04 ∨ r.op = 0x09 then 1
  else if isRw r.op ∨ r.op = 0x60 then r.len else if isDesc r.op then 8 else 1

/-- Flit slots a request occupies (R129). -/
def Req.slots (r : Req) : Nat := 1 + r.data.length

/-- Two requests of a context touch a common word (R119, R124, R196). -/
def touchCommon (a b : Req) : Bool :=
  a.port == b.port && a.reqId == b.reqId && !isDesc a.op && !isDesc b.op && a.op != 0x08 && b.op != 0x08 &&
  decide (a.span.1 < b.span.1 + b.span.2) && decide (b.span.1 < a.span.1 + a.span.2)

/-! ### Headers -/

/-- The header of R106, parsed. The port, virtual channel, role and arrival facts are the caller's. -/
def reqOfHeader (h : Word) (vc : Vc) (port role rid : Nat) (data : List (Word × Bool)) : Req :=
  { rid := rid, port := port, vc := vc, role := role, op := wordNum h 0 1, reqId := bits (wordNum h 2 2) 9 0,
    tag := bits (wordNum h 4 2) 11 0, len := bits (wordNum h 4 2) 15 12, label := bits (wordNum h 6 2) 11 0,
    addr := BitVec.ofNat 48 (wordNum h 8 6), dlValid := bitAt (wordNum h 1 1) 7, dlFrame := wordNum h 14 2,
    dlSlot := bits (wordNum h 16 2) 10 0, poisonIn := bitAt (wordNum h 1 1) 6, hops := bits (wordNum h 1 1) 5 4,
    param := BitVec.ofNat 112 (wordNum h 18 14),
    rsvd := bits (wordNum h 1 1) 3 0 != 0 || bits (wordNum h 2 2) 15 10 != 0 || bits (wordNum h 6 2) 15 12 != 0 ||
            bits (wordNum h 16 2) 15 11 != 0,
    data := data, cls := 4, ovf := 4, dlTicks := 0, dlOff := 0, wait := 0, aged := false,
    admWait := 0, home := 0 }

/-- The header of a request as sent on FWD (R106, R368). -/
def headerOfReq (r : Req) : Word :=
  BitVec.ofNat 256 (r.op + (b2n r.dlValid * 128 + b2n r.poisonIn * 64 + r.hops * 16) * 2 ^ 8 + r.reqId * 2 ^ 16 +
    (r.tag + r.len * 2 ^ 12) * 2 ^ 32 + r.label * 2 ^ 48 + r.addr.toNat * 2 ^ 64 + r.dlFrame * 2 ^ 112 +
    r.dlSlot * 2 ^ 128 + r.param.toNat * 2 ^ 144)

/-- POISON_MAP of data words (R114). -/
def poisonMap (l : List (Word × Bool)) : Nat := (l.zipIdx).foldl (fun a x => a + (b2n x.1.2 <<< x.2)) 0

/-- Header of a response (R114). `flag` bit 0 of POISON_MAP for an inline poisoned result (R199). -/
def headerOfResp (r : Resp) (flag : Bool) : Word :=
  BitVec.ofNat 256 (r.op + (r.status + b2n r.posted * 16) * 2 ^ 8 + r.reqId * 2 ^ 16 +
    (r.tag + r.data.length * 2 ^ 12) * 2 ^ 32 + (poisonMap r.data ||| b2n flag) * 2 ^ 48 + r.opStatus * 2 ^ 56 +
    r.addr.toNat * 2 ^ 64 + r.doneFrame * 2 ^ 112 + r.inline.toNat * 2 ^ 128)

/-- A response header, parsed (R114). -/
def respOfHeader (h : Word) (port rid : Nat) (data : List Word) : Resp :=
  { rid := rid, port := port, vc := .rsp, op := wordNum h 0 1, posted := bitAt (wordNum h 1 1) 4,
    status := bits (wordNum h 1 1) 3 0, reqId := bits (wordNum h 2 2) 9 0, tag := bits (wordNum h 4 2) 11 0,
    data := (data.zipIdx).map (fun x => (x.1, bitAt (wordNum h 6 1) x.2)), opStatus := wordNum h 7 1,
    addr := BitVec.ofNat 48 (wordNum h 8 6), doneFrame := wordNum h 14 2, inline := BitVec.ofNat 128 (wordNum h 16 16) }

/-- Status codes (R116). -/
def stOk : Nat := 0
/-- POISON. -/
def stPoison : Nat := 1
/-- RETIRED. -/
def stRetired : Nat := 2
/-- NO_ROUTE. -/
def stNoRoute : Nat := 3
/-- ADMIT_HOLD. -/
def stAdmitHold : Nat := 4
/-- TIMEOUT. -/
def stTimeout : Nat := 5
/-- STACK_RESET. -/
def stStackReset : Nat := 6
/-- UNSUPPORTED. -/
def stUnsupported : Nat := 7

/-- A response to a request with a status and no data (R114, R115). (DEDUCED, notes/assumptions/40.md) -/
def respTo (r : Req) (status done : Nat) : Resp :=
  { rid := r.rid, port := r.port, vc := if r.vc = .mgmt then .mgmt else .rsp, op := r.op, posted := isPosted r.op,
    status := status, reqId := r.reqId, tag := r.tag, data := [], opStatus := 0, addr := r.addr,
    doneFrame := done % 65536, inline := 0 }

/-! ### Classes and routes -/

/-- A guaranteed class G0 to G3 (R152). -/
def isGuar (c : Nat) : Bool := decide (c < 4)

/-- Code of an OVF_CLASS field as a class code: B0 to B11, 12 to 15 act as B11 (R152). -/
def ovfCode (v : Nat) : Nat := 4 + min v 11

/-- ROLE of port p in stack k's copy of RTE (R363, R375). (DEDUCED, notes/assumptions/38.md) (DEDUCED, notes/assumptions/52.md) -/
def State.role (s : State) (k p : Nat) : Nat := bits (s.raw k .rte 0 (0x580 + 4 * (p / 8))) (4 * (p % 8) + 1) (4 * (p % 8))

/-- MARK of port p: true is DOWN (R364). -/
def State.markDown (s : State) (k p : Nat) : Bool := bitAt (s.raw k .rte 0 (0x580 + 4 * (p / 8))) (4 * (p % 8) + 2)

/-- Route-table entry i, in stack k's copy (R365). -/
def State.route (s : State) (k i : Nat) : Nat := s.raw k .rte 0 (0x100 + 4 * i)

/-- System stack ID of stack k (R6, R361). -/
def State.sysId (s : State) (k : Nat) : Nat :=
  s.fld k 0 F.RTE_SELF_DOMAIN * 2 ^ 11 + s.fld k 0 F.RTE_SELF_PACKAGE * 2 ^ 3 + k

/-- The port that supplies the reference, in package numbering (R40, R400). -/
def State.refPort (s : State) : Nat := s.ref.port

end Sys2Proof.Machine
end

