-- ==== Sys2Proof/Machine/Codes.lean ====
section
/-! DEFINITION. The codes: GF(2^8), the word code RS(36,32) and its light decoder (R267 to R269), the page code
RS(136,128) with its errors-and-erasures decoder (R272, R273), CRCs and SHA-256. -/

namespace Sys2Proof.Machine

/-! ### GF(2^8) of R267 -/

/-- Product in GF(2^8) modulo x^8 + x^4 + x^3 + x^2 + 1. -/
def gmul (a b : Nat) : Nat :=
  ((List.range 8).foldl (fun (acc : Nat × Nat) i =>
    (if b.testBit i then acc.1 ^^^ acc.2 else acc.1,
     let d := 2 * acc.2
     if 256 ≤ d then (d ^^^ 0x11D) else d)) (0, a)).1

/-- Power of α = 2. -/
def gpow : Nat → Nat
  | 0 => 1
  | n + 1 => gmul (gpow n) 2

/-- α^n by squaring of the exponent modulo 255. -/
def alpha (n : Nat) : Nat :=
  let e := n % 255
  ((List.range 8).foldl (fun (acc : Nat × Nat) i =>
    (if e.testBit i then gmul acc.1 acc.2 else acc.1, gmul acc.2 acc.2)) (1, 2)).1

/-- Inverse: a^254. -/
def ginv (a : Nat) : Nat :=
  ((List.range 8).foldl (fun (acc : Nat × Nat) i =>
    (if Nat.testBit 254 i then gmul acc.1 acc.2 else acc.1, gmul acc.2 acc.2)) (1, a)).1

/-- Value of a polynomial, lowest coefficient first. -/
def peval (p : List Nat) (x : Nat) : Nat := p.foldr (fun c a => gmul a x ^^^ c) 0

/-- Sum of polynomials. -/
def padd : List Nat → List Nat → List Nat
  | [], q => q
  | p, [] => p
  | a :: p, b :: q => (a ^^^ b) :: padd p q

/-- Product of polynomials. -/
def pmul (p q : List Nat) : List Nat := p.foldr (fun a acc => padd (q.map (gmul a)) (0 :: acc)) []

/-- The product of (x + α^k) for k below n. -/
def rsGen (n : Nat) : List Nat := (List.range n).foldl (fun g k => pmul g [alpha k, 1]) [1]

/-- One division step: the register, lowest first, takes the next data symbol. -/
def rsStep (g : List Nat) (r : List Nat) (d : Nat) : List Nat :=
  let fb := d ^^^ r.getLastD 0
  List.zipWith (fun a c => a ^^^ gmul fb c) (0 :: r.dropLast) g

/-- Check symbols k_0 … k_(n−1) of data symbols b_0, b_1, … (R267, R272). -/
def rsCheck (n : Nat) (b : List Nat) : List Nat :=
  b.reverse.foldl (rsStep ((rsGen n).take n)) (List.replicate n 0)

/-- Syndromes S_0 … S_(n−1) of a codeword, lowest coefficient first. -/
def rsSynd (n : Nat) (c : List Nat) : List Nat := (List.range n).map (fun k => peval c (alpha k))

/-! ### The word code -/

/-- Data bytes of a word as symbols. -/
def wordSyms (w : Word) : List Nat := (List.range 32).map (fun i => (wordByte w i).toNat)

/-- The word with these symbols. -/
def wordOfSyms (l : List Nat) : Word := BitVec.ofNat 256 (ofBytes (l.map (BitVec.ofNat 8)))

/-- The 36 stored bytes of a word: data bytes, then check bytes (R267). -/
def encodeWord (w : Word) : List Byte := (wordSyms w ++ rsCheck 4 (wordSyms w)).map (BitVec.ofNat 8)

/-- Data of the poison marker (R269). -/
def markerData : Word := wordOfSyms ((List.range 32).map (fun i => 0x96 ^^^ i))

/-- The 36 bytes of the poison marker (R269). -/
def marker : List Byte :=
  (wordSyms markerData ++ List.zipWith (· ^^^ ·) (rsCheck 4 (wordSyms markerData)) [0x3B, 0xC5, 0x6E, 0x91]).map
    (BitVec.ofNat 8)

/-- Outcome of the light decoder (R268); `corrected` names the symbol: 0 to 31 data byte (pin DQ), 32 to 35 check
byte (pin CB). -/
inductive WordDec where
  | clean (w : Word)
  | corrected (w : Word) (sym : Nat)
  | uncorrectable
  | poisoned
  deriving DecidableEq, Repr

/-- Codeword coefficients of 36 stored bytes, lowest first: check bytes, then data bytes (R267). -/
def codeword (bs : List Byte) : List Nat := (bs.drop 32 ++ bs.take 32).map BitVec.toNat

/-- The position and value of the single-symbol error that a syndrome matches (R268). -/
def singleError (s : List Nat) : Option (Nat × Nat) :=
  let s0 := s.getD 0 0
  if s0 = 0 then none else
  ((List.range 36).find? (fun p => s == (List.range 4).map (fun k => gmul s0 (alpha (k * p))))).map (fun p => (p, s0))

/-- The light decoder: the marker is compared before decoding (R268, R269). (DEDUCED, notes/assumptions/46.md) -/
def decodeWord (bs : List Byte) : WordDec :=
  if bs = marker then .poisoned else
  let c := codeword bs
  let s := rsSynd 4 c
  if s.all (· == 0) then .clean (wordOfSyms (c.drop 4)) else
  match singleError s with
  | some (p, e) => .corrected (wordOfSyms ((c.modify p (· ^^^ e)).drop 4)) (if p < 4 then 32 + p else p - 4)
  | none => .uncorrectable

/-! ### The page code -/

/-- Parity words of the 128 words of a tile (R272). -/
def pageParity (ws : List Word) : List Word :=
  let lanes := (List.range 32).map (fun i => rsCheck 8 (ws.map (fun w => (wordByte w i).toNat)))
  (List.range 8).map (fun j => wordOfSyms (lanes.map (fun l => l.getD j 0)))

/-- Berlekamp–Massey state: locator, previous locator, length, shift, previous discrepancy. -/
structure Bm where
  c : List Nat
  b : List Nat
  len : Nat
  m : Nat
  bd : Nat

/-- One Berlekamp–Massey step on syndrome sequence u at index n. -/
def bmStep (u : List Nat) (x : Bm) (n : Nat) : Bm :=
  let d := (List.range (x.len + 1)).foldl (fun a i => a ^^^ gmul (x.c.getD i 0) (if i ≤ n then u.getD (n - i) 0 else 0)) 0
  if d = 0 then { x with m := x.m + 1 } else
  let c' := padd x.c (List.replicate x.m 0 ++ x.b.map (gmul (gmul d (ginv x.bd))))
  if 2 * x.len ≤ n then { c := c', b := x.c, len := n + 1 - x.len, m := 1, bd := d }
  else { x with c := c', m := x.m + 1 }

/-- Formal derivative in characteristic 2. -/
def pderiv (p : List Nat) : List Nat := (p.drop 1).zipIdx.map (fun ci => if ci.2 % 2 = 0 then ci.1 else 0)

/-- Errors-and-erasures decoding of one lane of RS(136,128), within 2t + e ≤ 8, t at most `tmax`: the corrected
codeword, or none (R273, R287). -/
def laneDecode (c : List Nat) (er : List Nat) (tmax : Nat) : Option (List Nat) :=
  let e := er.length
  if 8 < e then none else
  let c0 := er.foldl (fun c p => c.set p 0) c
  let s := rsSynd 8 c0
  let gam := er.foldl (fun g p => pmul g [1, alpha p]) [1]
  let t := (pmul s gam).take 8
  let u := t.drop e
  let bm := (List.range (8 - e)).foldl (bmStep u) { c := [1], b := [1], len := 0, m := 1, bd := 1 }
  if (8 - e) < 2 * bm.len ∨ tmax < bm.len then none else
  let psi := pmul (bm.c.take (bm.len + 1)) gam
  let om := (pmul s psi).take 8
  let pos := pick 136 (fun p => peval psi (alpha (255 - p % 255)) == 0)
  if pos.length ≠ bm.len + e then none else
  let d := pderiv psi
  let fix := pos.foldl (fun c p =>
    let xi := alpha (255 - p % 255)
    let v := gmul (alpha p) (gmul (peval om xi) (ginv (peval d xi)))
    c.modify p (· ^^^ v)) c0
  if (rsSynd 8 fix).all (· == 0) then some fix else none

/-- Lane i of a tile: parity symbols p_0 … p_7, then data symbols d_0 … d_127 (R272). -/
def laneOf (ws ps : List Word) (i : Nat) : List Nat := (ps ++ ws).map (fun w => (wordByte w i).toNat)

/-- Every lane decoded with erasures (positions 0 to 7 parity, 8 to 135 data): data words and parity words, or none if
a lane fails (R273). -/
def pageDecode (ws ps : List Word) (er : List Nat) (tmax : Nat) : Option (List Word × List Word) :=
  let lanes := (List.range 32).map (fun i => laneDecode (laneOf ws ps i) er tmax)
  if lanes.any Option.isNone then none else
  let ls := lanes.map (·.getD [])
  let col := fun j => wordOfSyms (ls.map (fun l => l.getD j 0))
  some ((List.range 128).map (fun j => col (j + 8)), (List.range 8).map col)

/-- Every lane's syndrome is zero (R287). -/
def pageClean (ws ps : List Word) : Bool := (List.range 32).all (fun i => (rsSynd 8 (laneOf ws ps i)).all (· == 0))

/-! ### CRCs -/

/-- Bits of bytes, least significant bit of each byte first. -/
def bitsLsb (bs : List Byte) : List Bool := bs.flatMap (fun b => (List.range 8).map (fun i => b.toNat.testBit i))

/-- Bits of bytes, most significant bit of each byte first. -/
def bitsMsb (bs : List Byte) : List Bool := bs.flatMap (fun b => (List.range 8).map (fun i => b.toNat.testBit (7 - i)))

/-- A CRC register of w bits that shifts left, over bits in the order given. -/
def crcShl (w poly init : Nat) (l : List Bool) : Nat :=
  l.foldl (fun r b =>
    let top := r.testBit (w - 1) ^^ b
    let r' := (2 * r) % 2 ^ w
    if top then r' ^^^ poly else r') init

/-- A CRC register that shifts right (reflected polynomial). -/
def crcShr (rpoly init : Nat) (l : List Bool) : Nat :=
  l.foldl (fun r b => if r.testBit 0 ^^ b then (r / 2) ^^^ rpoly else r / 2) init

/-- CRC-32 of IEEE 802.3: reflected, initial value and final inversion all ones. -/
def crc32 (bs : List Byte) : Nat := crcShr 0xEDB88320 0xFFFFFFFF (bitsLsb bs) ^^^ 0xFFFFFFFF

/-! ### SHA-256 -/

/-- The largest r with r^k at most x, whose bits below b are still open. -/
def rootBelow (k x : Nat) : Nat → Nat → Nat
  | 0, r => r
  | b + 1, r => rootBelow k x b (if (r + 2 ^ b) ^ k ≤ x then r + 2 ^ b else r)

/-- The first 32 bits of the fraction of the k-th root of a number below 2^9 (FIPS 180-4, sections 4.2.2 and 5.3.3). -/
def rootFraction (k n : Nat) : Nat := rootBelow k (n * 2 ^ (32 * k)) 37 0 % 2 ^ 32

/-- The first 64 primes, 2 to 311: no number up to 17 divides them but themselves. -/
def shaPrimes : List Nat :=
  ((List.range 312).drop 2).filter (fun n => [2, 3, 5, 7, 11, 13, 17].all (fun d => n == d || n % d != 0))

/-- The round constants: fractions of the cube roots of the first 64 primes. -/
def shaRoundConsts : List Nat := shaPrimes.map (rootFraction 3)

/-- The initial hash value: fractions of the square roots of the first eight primes. -/
def shaStart : List Nat := (shaPrimes.take 8).map (rootFraction 2)

/-- Addition modulo 2^32. -/
def add32 (a b : Nat) : Nat := (a + b) % 2 ^ 32

/-- Rotation right of 32 bits. -/
def rotr (n x : Nat) : Nat := (x >>> n) ||| ((x <<< (32 - n)) % 2 ^ 32)

/-- Message schedule, newest first, n further words. -/
def shaSched : Nat → List Nat → List Nat
  | 0, w => w
  | n + 1, w =>
    let a := w.getD 14 0
    let b := w.getD 1 0
    let s0 := rotr 7 a ^^^ rotr 18 a ^^^ (a >>> 3)
    let s1 := rotr 17 b ^^^ rotr 19 b ^^^ (b >>> 10)
    shaSched n (add32 (add32 (w.getD 15 0) s0) (add32 (w.getD 6 0) s1) :: w)

/-- One round. -/
def shaRound (v : List Nat) (kw : Nat × Nat) : List Nat :=
  let g := fun i => v.getD i 0
  let s1 := rotr 6 (g 4) ^^^ rotr 11 (g 4) ^^^ rotr 25 (g 4)
  let ch := (g 4 &&& g 5) ^^^ ((g 4 ^^^ 0xFFFFFFFF) &&& g 6)
  let t1 := add32 (add32 (add32 (g 7) s1) (add32 ch kw.1)) kw.2
  let s0 := rotr 2 (g 0) ^^^ rotr 13 (g 0) ^^^ rotr 22 (g 0)
  let mj := (g 0 &&& g 1) ^^^ (g 0 &&& g 2) ^^^ (g 1 &&& g 2)
  [add32 t1 (add32 s0 mj), g 0, g 1, g 2, add32 (g 3) t1, g 4, g 5, g 6]

/-- One 64-byte block, as 16 big-endian words. -/
def shaBlock (h : List Nat) (ws : List Nat) : List Nat :=
  let w := (shaSched 48 ws.reverse).reverse
  List.zipWith add32 h ((shaRoundConsts.zip w).foldl shaRound h)

/-- Big-endian number of bytes. -/
def ofBytesBe (bs : List Byte) : Nat := bs.foldl (fun a b => a * 256 + b.toNat) 0

/-- Lists of n items, fuel for the length. -/
def chunks {α : Type} (n : Nat) : Nat → List α → List (List α)
  | 0, _ => []
  | f + 1, l => if l.isEmpty then [] else l.take n :: chunks n f (l.drop n)

/-- SHA-256 digest as eight 32-bit words. -/
def sha256 (bs : List Byte) : List Nat :=
  let pad := (119 - bs.length % 64) % 64
  let m := bs ++ [0x80] ++ List.replicate pad 0 ++ (bytesOf 8 (8 * bs.length)).reverse
  ((chunks 64 m.length m).map (fun b => (chunks 4 64 b).map ofBytesBe)).foldl shaBlock shaStart

end Sys2Proof.Machine
end

