-- ==== Sys2Proof/Machine/Banks.lean ====
section
/-! DEFINITION. The slots of a pseudo-channel's frame and its banks: capacities of a frame (R36, R44, R45, R47), the shares of
the background window (R48 to R50), budgets (R156, R157), bus turnarounds and row switches (R234, R238), activations and their
counts (R244 to R246), and the weighted round of the best-effort classes (R158). -/

namespace Sys2Proof.Machine

/-! ### Capacities -/

/-- Slots per frame of a P-level (R36). -/
def levelSlots (l : Nat) : Nat := match l with | 0 => 1600 | 1 => 1280 | 2 => 1024 | _ => 640

/-- Background window of a P-level and tier (R44). -/
def windowSlots (l tier : Nat) : Nat :=
  match tier, l with
  | 0, 0 => 96 | 0, 1 => 77 | 0, 2 => 61 | 0, _ => 38
  | 1, 0 => 160 | 1, 1 => 128 | 1, 2 => 102 | 1, _ => 64
  | _, 0 => 288 | _, 1 => 230 | _, 2 => 184 | _, _ => 115

/-- Turnaround reserve of a P-level (R44). -/
def turnSlots (l : Nat) : Nat := match l with | 0 => 160 | 1 => 128 | 2 => 102 | _ => 64

/-- Guaranteeable capacity of a P-level and tier (R45). -/
def guarSlots (l tier : Nat) : Nat := levelSlots l - windowSlots l tier - turnSlots l

/-- Guaranteeable capacity of stack k in the frame in progress: halved at T3 (R47). -/
def State.guarNow (s : State) (k : Nat) : Nat :=
  let t := (s.stk k).tm
  if t.halved then guarSlots s.runLevel t.tier / 2 else guarSlots s.runLevel t.tier

/-- Background window of stack k in the frame in progress (R44, R47). -/
def State.windowNow (s : State) (k : Nat) : Nat :=
  let t := (s.stk k).tm
  if t.halved then windowSlots s.runLevel t.tier / 2 else windowSlots s.runLevel t.tier

/-- Turnaround reserve of stack k in the frame in progress (R44, R47). -/
def State.turnNow (s : State) (k : Nat) : Nat :=
  if (s.stk k).tm.halved then turnSlots s.runLevel / 2 else turnSlots s.runLevel

/-- Slots of a frame of stack k: the core divider doubles at T3 (R391). -/
def State.slotsNow (s : State) (k : Nat) : Nat :=
  if (s.stk k).tm.halved then levelSlots s.runLevel / 2 else levelSlots s.runLevel

/-! ### Banks -/

/-- Bank number of a location in its pseudo-channel: SID, bank group, bank. -/
def Loc.bankIx (l : Loc) : Nat := l.sid * 16 + l.bg * 4 + l.bank

/-- A bank of a pseudo-channel. -/
def PChan.bank (p : PChan) (b : Nat) : Bank := mget p.banks b Bank.reset

/-- Changes a bank. -/
def PChan.modBank (p : PChan) (b : Nat) (f : Bank → Bank) : PChan := { p with banks := mput p.banks b (f (p.bank b)) Bank.reset }

/-- Banks of a pseudo-channel (R240). -/
def Part.banks (p : Part) : Nat := 16 * p.sids

/-- Pseudo-channel i of channel c of stack k. -/
def State.pcOf (s : State) (k c i : Nat) : PChan := ((s.stk k).ch c).pc i

/-- Window slots of a refresh: 2, or 1 at P3 (R235). -/
def State.refCost (s : State) : Nat := if s.runLevel = 3 then 1 else 2

/-- Every bank precharged (R248, R249). -/
def PChan.precharge (p : PChan) : PChan := { p with banks := p.banks.map (fun e => (e.1, { e.2 with openRow := none })) }

/-- A pseudo-channel leaves power-down; in IDLE it stays in it but for the work itself (R248). -/
def State.wakePc (s : State) (p : PChan) : PChan := { p with powerDown := p.powerDown && s.mode == .idle }

/-! ### The background window -/

/-- Share of a lower activity of the window in a tier, in slots at P0 (R48): 2 thermal actions, 3 targeted refresh, 4 scrub and
page sealing, 5 retraining and calibration, 6 telemetry sampling. -/
def shareP0 (tier act : Nat) : Nat :=
  match act, tier with
  | 2, 0 | 2, 1 => 4 | 2, _ => 8
  | 3, 0 => 16 | 3, 1 => 32 | 3, _ => 64
  | 4, 0 => 24 | 4, 1 => 28 | 4, _ => 36
  | 5, 0 => 8 | 5, 1 => 12 | 5, _ => 16
  | 6, _ => 4
  | _, _ => 0

/-- Share of an activity in the frame in progress: scaled to the frame's slots and rounded down; forced refresh, activity 1, has
the rest of the window (R48). At T3 the shares shrink with the frame's slots (DEDUCED, notes/assumptions/82.md). -/
def State.share (s : State) (k act : Nat) : Nat :=
  let sc := fun a => shareP0 (s.stk k).tm.tier a * s.slotsNow k / 1600
  if act = 1 then s.windowNow k - ([2, 3, 4, 5, 6].map sc).sum else sc act

/-- Window slots that an activity has used in the frame. -/
def PChan.winUsed (p : PChan) (act : Nat) : Nat := mget p.win act 0

/-- Window slots used in the frame. -/
def PChan.winTotal (p : PChan) : Nat := (p.win.map (·.2)).sum

/-- Slots that forced refresh owes a pseudo-channel: every bank with D of 4 or more down to D of 3 (R242). -/
def State.forcedOwed (s : State) (p : PChan) : Nat :=
  s.refCost * (p.banks.map (fun e => if 4 ≤ e.2.debt then (e.2.debt - 3).toNat else 0)).sum

/-- n more slots of an activity fit the window where each lower activity m uses `lower m`: for every activity up to it, the slots
of that activity and the lower ones stay within their shares, because an activity may take what lower ones leave (R49). -/
def State.hall (s : State) (k : Nat) (p : PChan) (act n : Nat) (lower : Nat → Nat) : Bool :=
  ([1, 2, 3, 4, 5, 6].filter (fun j => decide (j ≤ act))).all (fun j =>
    let ms := [1, 2, 3, 4, 5, 6].filter (fun m => decide (j ≤ m))
    decide ((ms.map (fun m => if act < m then lower m else p.winUsed m)).sum + n ≤ (ms.map (s.share k)).sum))

/-- n slots of an activity fit the window of the frame: up to its share, or also beyond it into shares that no lower activity with
work of its own claims; while forced refresh owes more than its share, the others wait (R49, R235). -/
def State.windowFits (s : State) (k : Nat) (p : PChan) (claims : Nat → Bool) (act n : Nat) : Bool :=
  (act == 1 || decide (p.winUsed 1 + s.forcedOwed p ≤ s.share k 1)) &&
  s.hall k p act n p.winUsed &&
  (decide (p.winUsed act + n ≤ s.share k act) ||
    s.hall k p act n (fun m => if claims m then max (p.winUsed m) (s.share k m) else p.winUsed m))

/-- Window slots that an activity can have now, at most n. -/
def State.windowLeft (s : State) (k : Nat) (p : PChan) (claims : Nat → Bool) (act n : Nat) : Nat :=
  ((List.range n).filter (fun i => s.windowFits k p claims act (i + 1))).length

/-- Uses n window slots for an activity. -/
def PChan.useWindow (p : PChan) (act n : Nat) : PChan := { p with win := mput p.win act (p.winUsed act + n) 0 }

/-- Lower activities that still owe slots of work begun. -/
def PChan.owes (p : PChan) (m : Nat) : Bool := decide (0 < mget p.owed m 0)

/-- Hands out what fits of the slots that an activity owes; the rest waits for the next frame (R49). -/
def State.payWindow (s : State) (k : Nat) (p : PChan) (act : Nat) : PChan :=
  let o := mget p.owed act 0
  let n := s.windowLeft k p p.owes act o
  { p.useWindow act n with owed := mput p.owed act (o - n) 0 }

/-- Work of n slots of an activity: what fits the frame's window now, the rest in the frames that follow, or after a pause (R49,
R254). -/
def State.workWindow (s : State) (k ch pc act n : Nat) : State :=
  s.modPc k ch pc (fun p =>
    let q := { s.wakePc p with owed := mput p.owed act (mget p.owed act 0 + n) 0 }
    if p.paused then q else s.payWindow k q act)

/-- The earlier work of an activity is done, so that it may begin more (R49). -/
def State.windowFree (s : State) (k ch pc act : Nat) : Bool := !(s.pcOf k ch pc).owes act

/-! ### The slots outside the window -/

/-- On whose behalf words move: class, overflow class, label, request, and whether it is the sealer or scrub, whose
slots come from the background window (R48). -/
structure Who where
  cls   : Nat
  ovf   : Nat
  label : Nat
  /-- the request whose entry the words belong to; none for work that no entry accounts for. -/
  rid   : Option Nat
  bg    : Bool
  /-- a write-back of a VIT_OP (R219). -/
  op    : Bool := false
  deriving DecidableEq, Repr

/-- The requester of a request. -/
def Req.who (r : Req) : Who := { cls := r.cls, ovf := r.ovf, label := r.label, rid := some r.rid, bg := false }

/-- The sealer or scrub. -/
def Who.sealer : Who := { cls := 0, ovf := 4, label := 0, rid := none, bg := true }

/-- Write-backs of a VIT_OP, in its flush class (R219). -/
def State.flushWho (s : State) (k : Nat) : Who :=
  let c := ovfCode (s.fld k 0 F.VIT_CTRL_FLUSH_CLASS)
  { cls := c, ovf := c, label := 0, rid := none, bg := false, op := true }

/-- Slots of a frame that no window, reserve or granted budget holds. -/
def State.looseSlots (s : State) (k : Nat) : Nat :=
  s.slotsNow k - s.windowNow k - s.turnNow k - ((s.stk k).budget.foldl (· + ·) 0)

/-- Key of turnaround slots beyond the reserve that the loose slots pay (R238). -/
def looseKey : Nat := 16

/-- Budget of a class that is left on a pseudo-channel (R156, R157). -/
def State.budgetLeft (s : State) (k : Nat) (p : PChan) (c : Nat) : Nat :=
  (s.stk k).budget.getD c 0 - mget p.forcedTaken c 0 - mget p.used c 0

/-- Slots of the frame not used yet (R36, R155). -/
def State.slotsLeft (s : State) (k : Nat) (p : PChan) : Nat :=
  s.slotsNow k - (p.carry + p.winTotal + p.turnUsed + (p.used.map (·.2)).sum)

/-- One more slot under a class code. -/
def PChan.useSlots (p : PChan) (c n : Nat) : PChan := { p with used := mput p.used c (mget p.used c 0 + n) 0 }

/-- The slots of a turnaround or a bubble: the reserve first; beyond it the loose slots, and where a guaranteed request has none
of these left, its class's budget (R238). -/
def State.chargeTurn (s : State) (k : Nat) (p : PChan) (w : Who) (n : Nat) : PChan :=
  let a := min n (s.turnNow k - p.turnUsed)
  let p1 := { p with turnUsed := p.turnUsed + a }
  if n - a = 0 then p1
  else if isGuar w.cls && !w.bg && decide (s.looseSlots k < mget p.used looseKey 0 + (n - a)) then p1.useSlots w.cls (n - a)
  else p1.useSlots looseKey (n - a)

/-- Slots of a turnaround on to a write or a read (R234). -/
def turnCost (l : Nat) (toWrite : Bool) : Nat :=
  if toWrite then (match l with | 0 | 1 => 4 | 2 => 3 | _ => 2) else (match l with | 0 => 6 | 1 => 5 | 2 => 4 | _ => 3)

/-- Channel-clock cycles that a precharge or an activation takes with its command path (R234). -/
def rowCycles (l : Nat) : Nat := match l with | 0 => 23 | 1 => 20 | 2 => 18 | _ => 15

/-- A word's direction on the bus of a pseudo-channel: a change of direction is a turnaround, charged and counted (R238, R266). -/
def busTurn (s : State) (k ch pc : Nat) (w : Who) (wr : Bool) : State :=
  match (s.pcOf k ch pc).lastWrite with
  | none => s.modPc k ch pc (fun p => { p with lastWrite := some wr })
  | some d =>
    if d = wr then s else
    (s.modPc k ch pc (fun p => { s.chargeTurn k p w (turnCost s.runLevel wr) with lastWrite := some wr })).count k .ctl ch 5 1

/-! ### Activations -/

/-- The tracker table after an activation of a row, with the row's new count if it is tracked (R244). -/
def trackRow (b : Bank) (row : Nat) : Bank × Option Nat :=
  match b.track.find? (fun e => e.1 == row) with
  | some e => ({ b with track := b.track.map (fun f => if f.1 = row then (f.1, f.2 + 1) else f) }, some (e.2 + 1))
  | none =>
    if b.track.length < 256 ∧ b.spill = 0 then ({ b with track := b.track ++ [(row, 1)] }, some 1)
    else match b.track.findIdx? (fun e => e.2 == b.spill) with
      | some i => ({ b with track := b.track.set i (row, b.spill + 1) }, some (b.spill + 1))
      | none => ({ b with spill := b.spill + 1 }, none)

/-- Physical place of a row: the spare that a repair redirects it to (R245, R290). (DEDUCED, notes/assumptions/47.md) -/
def Stack.physOf (x : Stack) (ch pc bank row : Nat) : Nat :=
  match x.doc.spares.find? (fun e => e.take 4 == [ch, pc, bank / 16, (bank / 4) % 4] && e.getD 5 9 == bank % 4 && e.getD 6 0 == row) with
  | some e => 32768 + e.getD 4 0
  | none => row

/-- Rows r − 2 to r + 2 except r, as far as they exist; 16 spare rows follow the 32,768 (R245). (DEDUCED, notes/assumptions/47.md) -/
def adjacentRows (r : Nat) : List Nat :=
  (if 2 ≤ r then [r - 2] else []) ++ (if 1 ≤ r then [r - 1] else []) ++ ([r + 1, r + 2].filter (fun a => decide (a < 32784)))

/-- ACT_THRESH in force (R246). -/
def State.actThresh (s : State) (k ch : Nat) : Nat := max 2600 (s.fld k ch F.CTL_ACT_CFG_ACT_THRESH)

/-- An activation opens a row of a bank and counts; at a multiple of ACT_THRESH a targeted refresh is queued (R244, R245). -/
def activate (s : State) (k ch pc bank row : Nat) : State :=
  let s0 := (s.modPc k ch pc s.wakePc).count k .ctl ch 0 1
  let t := trackRow ((s0.pcOf k ch pc).bank bank) row
  let s1 := s0.modPc k ch pc (fun p => p.modBank bank (fun _ => { t.1 with openRow := some row, acts := t.1.acts + 1 }))
  match t.2 with
  | some n => if n % s.actThresh k ch = 0 then
      s1.modPc k ch pc (fun p => { p with targeted := p.targeted ++ [
        ({ bank := bank, rows := adjacentRows ((s.stk k).physOf ch pc bank row), age := 0, promoted := false } : Targeted)] })
    else s1
  | none => s1

/-- The row of a word is open before the word moves: else the bank precharges the row that it holds and activates this one, and
the bubble that the switch leaves on the data bus is charged to the reserve (R234, R236, R238). The bubble's length is a position
inside the frame: a free value up to the time of the switch (DESIGN CHOICE, notes/assumptions/12.md). -/
def openRow (s : State) (k : Nat) (l : Loc) (w : Who) : State :=
  let b := (s.pcOf k l.ch l.pc).bank l.bankIx
  if b.openRow = some l.row then s else
  let d := s.draw
  let cyc := if b.openRow.isSome then 2 * rowCycles s.runLevel else rowCycles s.runLevel
  activate (d.2.modPc k l.ch l.pc (fun p => s.chargeTurn k p w (d.1 % (cyc + 1)))) k l.ch l.pc l.bankIx l.row

/-! ### One word -/

/-- Key of best-effort slots left idle (R417). -/
def idleKey : Nat := 17

/-- Of the slots that best-effort is given every fourth stays idle at T1 and every second at T2, counted from the first of them in the
stage (R417, R427). -/
def beSlot (s : State) (k ch pc c : Nat) : State :=
  let m := match (s.stk k).th.stage with | 1 => 4 | 2 => 2 | _ => 0
  let n := (s.pcOf k ch pc).bePhase + 1
  if m ≤ n ∧ m ≠ 0 then
    (s.modPc k ch pc (fun p => { (p.useSlots idleKey 1).useSlots c 1 with bePhase := 1 })).count k .thm 0 6 1
  else s.modPc k ch pc (fun p => { p.useSlots c 1 with bePhase := if m = 0 then 0 else n })

/-- The slot of one word: charged to its class's budget, or served in the overflow class (R157). A request with such a word is
no longer within its reservation. Words of the sealer and of scrub are work of the window (R48). -/
def takeSlot (s : State) (k ch pc : Nat) (w : Who) : State :=
  if w.bg then s.workWindow k ch pc 4 1 else
  let s := s.modPc k ch pc (fun p => { s.wakePc p with quiet := 0 })
  if isGuar w.cls then
    let s := s.modPc k ch pc (fun p => { p with asked := if p.asked.contains w.cls then p.asked else w.cls :: p.asked })
    if 0 < s.budgetLeft k (s.pcOf k ch pc) w.cls then s.modPc k ch pc (fun p => p.useSlots w.cls 1)
    else
      let s1 := beSlot s k ch pc w.ovf
      let s2 := s1.modStk k (fun x => { x with
        table := x.table.map (fun e => if some e.req.rid = w.rid then { e with inRes := false } else e) })
      s2.count k .sch 0 8 1
  else beSlot s k ch pc w.cls

/-- One word between the dies and the controller: its row is opened, the bus turns to its direction, and it takes its slot
(R157, R234, R238). -/
def charge1 (s : State) (k : Nat) (l : Loc) (w : Who) (wr : Bool) : State :=
  takeSlot (busTurn (openRow s k l w) k l.ch l.pc w wr) k l.ch l.pc w

/-! ### Write-backs -/

/-- Pending requests of stack k's table whose first word is in a bank; descriptors and RANGE_ZERO use no bank queue of their own
(R178). -/
def State.bankReqs (s : State) (k ch pc b : Nat) : List Req :=
  (((s.stk k).table.filter (fun e => e.done.isNone && e.gth.isNone && !isDesc e.req.op && e.req.op != 0x09)).map Entry.req).filter
    (fun r => let l := s.locOf k r.off; l.ch == ch && l.pc == pc && l.bankIx == b)

/-- A word that the slice or the NDU writes to the dies. A write-back of a best-effort class waits in its bank's queue for a drain
(R237); a guaranteed one, and the sealer's, is issued at once. The dies hold the data from then on, since no read passes the write
(R122; DESIGN CHOICE, notes/assumptions/11.md). -/
def postWrite (s : State) (k : Nat) (l : Loc) (w : Who) : State :=
  if w.bg || isGuar w.cls then charge1 s k l w true else
  s.modPc k l.ch l.pc (fun p => { p with wbq := p.wbq ++ [
    { bank := l.bankIx, row := l.row, cls := w.cls, label := w.label, wait := 0, op := w.op,
      older := (s.bankReqs k l.ch l.pc l.bankIx).map Req.rid }] })

/-- The place of a write-back. -/
def Wb.loc (y : Wb) (k ch pc : Nat) : Loc :=
  { stack := k, ch := ch, pc := pc, bg := (y.bank / 4) % 4, bank := y.bank % 4, sid := y.bank / 16, row := y.row, col := 0 }

/-- On whose behalf a write-back moves (R211, R219). -/
def Wb.who (y : Wb) : Who := { cls := y.cls, ovf := y.cls, label := y.label, rid := none, bg := false, op := y.op }

/-- A write-back is issued to the dies. -/
def issueWb (s : State) (k ch pc : Nat) (y : Wb) : State :=
  charge1 (s.modPc k ch pc (fun p => { p with wbq := p.wbq.erase y })) k (y.loc k ch pc) y.who true

/-! ### The weighted round of the best-effort classes -/

/-- BWEIGHT of class code c (R158, R173). -/
def State.weight (s : State) (k c : Nat) : Nat :=
  let j := c - 4
  bits (s.raw k .sch 0 (0x120 + 4 * (j / 4))) (8 * (j % 4) + 7) (8 * (j % 4))

/-- Classes with something waiting that still have service left in the round (R158): in a round each of them is served as many
times as its weight says. -/
def wrrLeft (wt : Nat → Nat) (served : SMap Nat) (waiting : List Nat) : List Nat :=
  waiting.filter (fun c => decide (mget served c 0 < wt c))

/-- Classes that may be served now: one with service left in the round, any waiting class of weight above 0 when the round is
over, and one of weight 0 only when no other waits (R158). The order within a round is open (DESIGN CHOICE,
notes/assumptions/13.md). -/
def wrrOpen (wt : Nat → Nat) (served : SMap Nat) (waiting : List Nat) : List Nat :=
  let live := waiting.filter (fun c => wt c != 0)
  if live.isEmpty then waiting else if (wrrLeft wt served live).isEmpty then live else wrrLeft wt served live

/-- The round after one service of class c: a new round begins when no waiting class has service left in the old one (R158). -/
def wrrServe (wt : Nat → Nat) (served : SMap Nat) (waiting : List Nat) (c : Nat) : SMap Nat :=
  let old := if (wrrLeft wt served waiting).isEmpty then [] else served
  if wt c = 0 then old else mput old c (mget old c 0 + 1) 0

/-! ### The service area (R3, R4) -/

/-- Bytes of a channel's share of the service area (R3, R4). -/
def Part.shareBytes (p : Part) : Nat := if p.dies = 16 then 0x2000000 else 0x1800000

/-- Bytes of a stack's service area: one share per channel (R3, R4). -/
def Part.serviceBytes (p : Part) : Nat := 32 * p.shareBytes

/-- Share offset of a channel's stripe of the save image, and its size (R4, R487). -/
def saveStripe : Nat × Nat := (0x1000000, 0x80000)

/-- Share offset of the training row of a pseudo-channel, 1 KiB, at the start of the training scratch (R4). -/
def trainingRow (pc : Nat) : Nat := 0x1080000 + 0x400 * pc

/-- Share offset of place i of the telemetry ring (R4). -/
def ringPlace (i : Nat) : Nat := 0x1100000 + 16 * (i % 65536)

/-- Bytes of the save image: tile-state map, Docent SRAM, the two window images, open lists (R487). -/
def Part.saveBytes (p : Part) : Nat := (if p.dies = 16 then 0x800000 else 0x600000) + 0x40000 + 0x100000 + 0x100000 + 0x80000

/-- Usable channels that the save image needs: 22, or 18 on a 12-high stack (R485, R487). -/
def Part.saveNeeds (p : Part) : Nat := (p.saveBytes + saveStripe.2 - 1) / saveStripe.2

end Sys2Proof.Machine
end

