-- ==== Sys2Proof/Machine/Store.lean ====
section
/-! DEFINITION. Stored words: words in the memory dies with the word code, rebuilds by the page code (R268 to R274), fault
events (R288, R289), the tile-state map and open list (R275, R276, R281, R286), and the Vitrine slices (R208 to R216). The words
of one request move in the one command that serves it (DESIGN CHOICE, notes/assumptions/11.md). -/

namespace Sys2Proof.Machine

/-! ### Words in the dies -/

/-- The row in which a bank row is found: a repaired row's spare (R290) stands at 32768 + index. -/
def Stack.physRow (x : Stack) (l : Loc) : Nat :=
  match x.doc.spares.find? (fun e => e.getD 0 0 == l.ch && e.getD 1 0 == l.pc && e.getD 2 0 == l.sid &&
      e.getD 3 0 == l.bg && e.getD 5 0 == l.bank && e.getD 6 0 == l.row) with
  | some e => 32768 + e.getD 4 0
  | none => l.row

/-- First byte of a stored word: 34 words of 36 bytes per row, columns 32 and 33 the row extension (R267, R271). -/
def State.dieAddr (s : State) (k : Nat) (l : Loc) : Nat :=
  let row := (s.stk k).physRow l
  let bank := if row < 32768 then l.bank else 0
  (((((((k * 32 + l.ch) * 2 + l.pc) * 4 + l.sid) * 4 + l.bg) * 4 + bank) * 65536 + row) * 34 + l.col) * 36

/-- The 36 stored bytes of a word. (DESIGN CHOICE, notes/assumptions/9.md) -/
def State.dieBytes (s : State) (k : Nat) (l : Loc) : List Byte := memRds s.dies (s.dieAddr k l) 36

/-- Stores 36 bytes. -/
def State.setDie (s : State) (k : Nat) (l : Loc) (bs : List Byte) : State :=
  { s with dies := memWrs s.dies (s.dieAddr k l) bs }

/-- Stores a word with fresh check bits, or the poison marker (R125). -/
def State.putDie (s : State) (k : Nat) (l : Loc) (w : Word) (poison : Bool) : State :=
  s.setDie k l (if poison then marker else encodeWord w)

/-! ### Fault events (R288, R289) -/

/-- Frames in the unit of the SCB windows. -/
def unitFrames : Nat := 3125

/-- Key of a bank row. -/
def Loc.rowKey (l : Loc) : Nat := ((((l.ch * 2 + l.pc) * 4 + l.sid) * 4 + l.bg) * 4 + l.bank) * 32768 + l.row

/-- A count after one more event at tick t: restarted when its window has passed (R289). -/
def Evt.hit (e : Evt) (t win : Nat) : Evt :=
  if win < t - e.opened then { e with count := 1, opened := t } else { e with count := e.count + 1 }

/-- A row event (R288, R289). -/
def rowEvent (s : State) (k : Nat) (l : Loc) (addr : Nat) : State :=
  let x := s.stk k
  let t := x.tm.ticks
  let win := unitFrames * max 1 (s.scbFld k F.SCB_ROW_WINDOW_WINDOW)
  let th := max 1 (s.scbFld k F.SCB_THRESH_ROW_THRESH)
  let e := match x.rowEvts.find? (fun e => e.key == l.rowKey) with
    | some e => e.hit t win
    | none => { key := l.rowKey, count := 1, opened := t }
  let others := x.rowEvts.filter (fun e => e.key != l.rowKey)
  let oldest := others.foldl (fun m e => min m e.opened) t
  let room := if others.length < 256 then others
    else match others.findIdx? (fun e => e.opened == oldest) with
      | some i => others.eraseIdx i
      | none => others.drop 1
  if th ≤ e.count then
    (s.modStk k (fun x => { x with rowEvts := others })).report k K.SCB_LASTING_ROW 0 l.pc addr
  else s.modStk k (fun x => { x with rowEvts := room ++ [e] })

/-- A lane event on pin `pin` of a pseudo-channel (R288, R289). -/
def laneEvent (s : State) (k : Nat) (l : Loc) (pin addr : Nat) : State :=
  let x := s.stk k
  let t := x.tm.ticks
  let key := (l.ch * 2 + l.pc) * 36 + pin
  let win := unitFrames * max 1 (s.scbFld k F.SCB_LANE_WINDOW_WINDOW)
  let th := max 1 (s.scbFld k F.SCB_THRESH_LANE_THRESH)
  let e := match mfind x.laneEvts key with
    | some e => e.hit t win
    | none => { key := key, count := 1, opened := t }
  if th ≤ e.count then
    (s.modStk k (fun x => { x with laneEvts := mdel x.laneEvts key })).report k K.SCB_LASTING_LANE 0 l.pc addr
  else s.modStk k (fun x => { x with laneEvts := mset x.laneEvts key e })

/-- ADDR of a report about a word; a parity word carries its tile's base with bit 47 and its number (R449). -/
def State.wordAddr (s : State) (k : Nat) (l : Loc) : Nat :=
  if l.col < 32 then s.offsetOf k l
  else
    let base := s.tileBase k l.tile
    let q := ((List.range 4).find? (fun q => (s.locOf k (base + 1024 * q)).bank == l.bank)).getD 0
    2 ^ 47 + base + (2 * q + (l.col - 32))

/-- A corrected word: stored with fresh check bits, counted and reported, one row and one lane event (R268, R270, R288). -/
def fixWord (s : State) (k : Nat) (l : Loc) (w : Word) (sym : Nat) : State :=
  let a := s.wordAddr k l
  let s2 := ((s.putDie k l w false).count k .scb 0 0 1).report k K.SCB_WORD_CE 0 l.pc a
  laneEvent (rowEvent s2 k l a) k l sym a

/-- A corrected word whose write-back takes a slot of the scrub-and-sealing share (R270). -/
def correct (s : State) (k : Nat) (l : Loc) (w : Word) (sym : Nat) : State :=
  (fixWord s k l w sym).workWindow k l.ch l.pc 4 1

/-- A word poisoned at detection (R273): the marker is stored, counted and reported once (R126). (DEDUCED, notes/assumptions/46.md) -/
def poisonDie (s : State) (k : Nat) (l : Loc) : State :=
  ((s.setDie k l marker).count k .scb 0 2 1).report k K.SCB_WORD_POISON 0 l.pc (s.wordAddr k l)

/-! ### Vitrine lines (R208 to R216) -/

/-- Whether a line is the line of a location. -/
def Line.isAt (x : Line) (l : Loc) (parity : Bool) : Bool :=
  x.ch == l.ch && x.sid == l.sid && x.pc == l.pc && x.bg == l.bg && x.bank == l.bank && x.row == l.row &&
  x.line == l.col / 8 && x.parity == parity

/-- The line of a location, if the slice holds it. -/
def Stack.line (x : Stack) (l : Loc) (parity : Bool) : Option Line := x.lines.find? (·.isAt l parity)

/-- Set index (R209). -/
def setIndex (l : Loc) (line : Nat) : Nat :=
  ((((l.sid * 2 + l.pc) * 4 + l.bg) * 4 + l.bank) * 4 + line) ^^^ (l.row % 512)

/-- Set index of a line. -/
def Line.set (x : Line) : Nat :=
  ((((x.sid * 2 + x.pc) * 4 + x.bg) * 4 + x.bank) * 4 + x.line) ^^^ (x.row % 512)

/-- Location of sector i of a line. -/
def Line.loc (x : Line) (k i : Nat) : Loc :=
  { stack := k, ch := x.ch, pc := x.pc, bg := x.bg, bank := x.bank, sid := x.sid, row := x.row, col := x.line * 8 + i }

/-- Sector i of a line. -/
def Line.sector (x : Line) (i : Nat) : Word := x.data.extractLsb' (256 * i) 256

/-- A line with one bit of a sector map changed. -/
def setBit8 (m : BitVec 8) (i : Nat) (b : Bool) : BitVec 8 := if b then m ||| (1#8 <<< i) else m &&& ~~~(1#8 <<< i)

/-- A line with sector i replaced: valid, and dirty or clean. -/
def Line.put (x : Line) (i : Nat) (w : Word) (poison dirty : Bool) : Line :=
  { x with data := (x.data &&& ~~~((BitVec.allOnes 256).zeroExtend 2048 <<< (256 * i))) ||| (w.zeroExtend 2048 <<< (256 * i)),
           valid := setBit8 x.valid i true, dirty := setBit8 x.dirty i dirty, poison := setBit8 x.poison i poison }

/-- Replaces the line of a location. -/
def State.modLine (s : State) (k : Nat) (l : Loc) (parity : Bool) (f : Line → Line) : State :=
  s.modStk k (fun x => { x with lines := x.lines.map (fun y => if y.isAt l parity then f y else y) })

/-- Lines of the set of a location in its slice. -/
def Stack.setLines (x : Stack) (l : Loc) : List Line :=
  x.lines.filter (fun y => y.ch == l.ch && y.set == setIndex l (l.col / 8))

/-- PIN_WAYS (R225). -/
def State.pinWays (s : State) (k : Nat) : Nat := min 8 (s.fld k 0 F.VIT_CTRL_PIN_WAYS)

/-- CAPj of class Bj (R226). -/
def State.wayCap (s : State) (k j : Nat) : Nat :=
  min 16 (bits (s.raw k .vit 0 (0x110 + 4 * (j / 4))) (8 * (j % 4) + 4) (8 * (j % 4)))

/-- Where an allocation may go: `none` for an invalid way, else the eligible lines (R213). -/
def eligible (s : State) (k : Nat) (l : Loc) (w : Who) : Bool × List Line :=
  let set := (s.stk k).setLines l
  let unp := set.filter (fun y => !y.pin)
  let own := fun c => set.filter (fun y => !y.parity && y.cls == c)
  let be := set.filter (fun y => !y.parity && decide (4 ≤ y.cls))
  let hasInvalid := decide (set.length < 16)
  if w.bg || isGuar w.cls then (hasInvalid, unp)
  else if s.wayCap k (w.cls - 4) ≤ (own w.cls).length then (false, (own w.cls).filter (fun y => !y.pin))
  else if min 16 (s.fld k 0 F.VIT_BECAP_BE_WAYS) ≤ be.length then (false, be.filter (fun y => !y.pin))
  else (hasInvalid, unp)

/-- Writes back the dirty sectors of a line, with fresh check bits or the marker, one slot each; they become clean (R211). -/
def writeBack (s : State) (k : Nat) (y : Line) (w : Who) : State :=
  let secs := pick 8 (fun i => y.dirty.getLsbD i)
  let base := if y.parity then none else some y
  let s1 := secs.foldl (fun s i =>
    let l := match base with
      | some y => y.loc k i
      | none =>
        let b := s.tileBase k (y.loc k 0).tile
        let q := s.locOf k (b + 1024 * (i / 2))
        { q with col := 32 + i % 2 }
    postWrite (s.putDie k l (y.sector i) (y.poison.getLsbD i)) k l w) s
  let s2 := s1.count k .vit 0 2 secs.length
  s2.modStk k (fun x => { x with lines := x.lines.map (fun z => if z = y then { z with dirty := 0 } else z) })

/-- Records a use of a way (R208). (DESIGN CHOICE, notes/assumptions/5.md) -/
def touch (s : State) (k : Nat) (l : Loc) (way : Nat) : State :=
  let i := setIndex l (l.col / 8)
  s.modCh k l.ch (fun c => { c with plru := mput c.plru i (Config.plruTouch (mget c.plru i 0) way) 0 })

/-- Allocates a line for a location, evicting if needed (R211, R213, R214); none when no way is eligible. (DESIGN CHOICE, notes/assumptions/5.md) -/
def alloc (s : State) (k : Nat) (l : Loc) (parity pin : Bool) (w : Who) : Option State :=
  if ((s.stk k).ch l.ch).viUnusable then none else
  let el := eligible s k l w
  let set := (s.stk k).setLines l
  let victim : Option Line := if el.1 || el.2.isEmpty then none else
    let i := setIndex l (l.col / 8)
    el.2[Config.plruVictim (mget ((s.stk k).ch l.ch).plru i 0) el.2.length % el.2.length]?
  let way : Option Nat := if el.1 then (List.range 16).find? (fun v => !set.any (fun y => y.way == v))
    else victim.map Line.way
  match way with
  | none => none
  | some v =>
    let s1 := match victim with
      | some y =>
        let s' := writeBack s k y w
        s'.modStk k (fun x => { x with lines := x.lines.filter (fun z =>
          !(z.ch == y.ch && z.set == y.set && z.way == y.way)) })
      | none => s
    let y : Line :=
      { ch := l.ch, sid := l.sid, pc := l.pc, bg := l.bg, bank := l.bank, row := l.row, line := l.col / 8,
        parity := parity, way := v, valid := 0, dirty := 0, poison := 0, data := 0, pin := pin, label := w.label,
        cls := if w.bg then 0 else w.cls }
    some (touch (s1.modStk k (fun x => { x with lines := x.lines ++ [y] })) k l v)

/-! ### Tiles -/

/-- State of a tile. -/
def Stack.tileSt (x : Stack) (t : Nat) : TileState := mget x.tiles t .invalid

/-- Sets the state of a tile. -/
def State.setTile (s : State) (k t : Nat) (st : TileState) : State :=
  s.modStk k (fun x => { x with tiles := mput x.tiles t st .invalid })

/-- Channel of a tile. -/
def tileCh (t : Nat) : Nat := t / 32768 / 32

/-- Pseudo-channel number of a tile in its stack. -/
def tilePc (t : Nat) : Nat := t / 32768 / 16

/-- Locations of the 128 words of a tile, in tile order (R271). -/
def State.tileLocs (s : State) (k t : Nat) : List Loc :=
  let b := s.tileBase k t
  (List.range 128).map (fun w => s.locOf k (b + 32 * w))

/-- Locations of the 8 parity words of a tile (R271). -/
def State.parLocs (s : State) (k t : Nat) : List Loc :=
  let b := s.tileBase k t
  (List.range 8).map (fun j => { s.locOf k (b + 1024 * (j / 2)) with col := 32 + j % 2 })

/-- Where the slice holds the parity line of a tile: the bank of quarter 0, LINE 0 (R209). -/
def State.parLineLoc (s : State) (k t : Nat) : Loc := { s.locOf k (s.tileBase k t) with col := 0 }

/-- Open-list entries of a channel. -/
def Stack.listed (x : Stack) (c : Nat) : Nat := (x.openList.filter (fun e => tileCh e.tile == c)).length

/-- A tile turns OPEN or is written while OPEN: it takes a free open-list entry, or stays unlisted with OVERFLOW; a
write to a listed tile updates LAST_WRITE (R281, R286). -/
def listOpen (s : State) (k t : Nat) (turns : Bool) : State :=
  let x := s.stk k
  let now := x.tm.ticks
  if x.openList.any (fun e => e.tile == t) then
    s.modStk k (fun x => { x with openList := x.openList.map (fun e => if e.tile = t then { e with last := now } else e) })
  else if !turns then s
  else if x.listed (tileCh t) < 1024 then
    s.modStk k (fun x => { x with openList := x.openList ++ [{ tile := t, since := now, last := now }] })
  else ((s.modStk k (fun x => { x with overflow := true })).count k .scb 0 7 1).report k K.SCB_OPEN_OVERFLOW 0 0
    (s.tileBase k t)

/-- Pins the parity line of a tile that turns OPEN, if the set has a pin free (R215, R216). -/
def pinParity (s : State) (k t : Nat) (w : Who) : State :=
  let l := s.parLineLoc k t
  let x := s.stk k
  if (x.ch l.ch).viUnusable then s else
  if s.pinWays k ≤ ((x.setLines l).filter Line.pin).length then s.count k .vit 0 4 1 else
  if (x.line l true).isSome then s.modLine k l true (fun y => { y with pin := true })
  else match alloc s k l true true w with
    | some s' => s'
    | none => s

/-- A tile turns OPEN (R275, R281, R215). -/
def turnOpen (s : State) (k t : Nat) (w : Who) : State := pinParity (listOpen (s.setTile k t .opened) k t true) k t w

/-- A write aborts a normal seal of its tile (R283); SEALS_ABORTED counts normal seals (R301). -/
def abortSeal (s : State) (k t : Nat) : State :=
  if (s.stk k).seals.any (fun e => e.tile == t && !e.forced) then
    (s.modStk k (fun x => { x with seals := x.seals.filter (fun e => e.tile != t) })).count k .scb 0 4 1
  else s

/-- A forced seal of the tile holds its writes (R284). -/
def Stack.sealHolds (x : Stack) (t : Nat) : Bool := x.seals.any (fun e => e.tile == t && e.forced)

/-- A write is accepted to a tile that is not RETIRED: the first write queues fill writes of zeros for the 128 words of an INVALID
tile, charged to the writer's class (R276); a SEALED tile turns OPEN; an OPEN tile's entry is updated; a normal seal aborts (R283). -/
def noteWrite (s : State) (k t : Nat) (w : Who) : State :=
  match (s.stk k).tileSt t with
  | .invalid =>
    let ls := s.tileLocs k t
    let s1 := turnOpen s k t w
    let s2 := ls.foldl (fun s l => postWrite (s.putDie k l 0 false) k l w) s1
    s2.count k .tsm 0 0 1
  | .sealed => turnOpen s k t w
  | .opened => listOpen (abortSeal s k t) k t false
  | .retired => s

/-! ### Reads from the dies -/

/-- A word for a rebuild: a dirty sector as the slice holds it, none for one that the dies hold (R212, R273). -/
def rebuildSource (s : State) (k t : Nat) (j : Nat) (l : Loc) : Option WordDec :=
  let hit := if j < 8 then ((s.stk k).line (s.parLineLoc k t) true).map (fun y => (y, j))
    else ((s.stk k).line l false).map (fun y => (y, l.col % 8))
  match hit with
  | some (y, i) =>
    if !(y.valid.getLsbD i && y.dirty.getLsbD i) then none
    else if y.poison.getLsbD i then some .poisoned else some (.clean (y.sector i))
  | none => none

/-- One symbol position of the 36 in which two byte strings differ. -/
def diffSyms (a b : List Byte) : List Nat := pick 36 (fun i => a.getD i 0 != b.getD i 0)

/-- The rebuild of a SEALED tile by the page code (R273, R274, R288); `trig` is the triggering word. Its reads and write-backs,
those of corrected words included, are charged to the requester, as the example of R274 has them (DEDUCED,
notes/assumptions/46.md). -/
def rebuild (s : State) (k t : Nat) (trig : Loc) (w : Who) : State :=
  let locs := s.parLocs k t ++ s.tileLocs k t
  let read : List (Loc × List Byte × WordDec) := (locs.zipIdx).map (fun lj =>
    match rebuildSource s k t lj.2 lj.1 with
    | some d => (lj.1, s.dieBytes k lj.1, d)
    | none => (lj.1, s.dieBytes k lj.1, decodeWord (s.dieBytes k lj.1)))
  let val := fun (d : WordDec) => match d with
    | .clean v => v | .corrected v _ => v | .poisoned => markerData | .uncorrectable => 0
  let er := pick 136 (fun j => (read.map (fun r => r.2.2)).getD j (.clean 0) == WordDec.uncorrectable)
  let die := (locs.zipIdx).filter (fun lj => (rebuildSource s k t lj.2 lj.1).isNone && lj.1 != trig)
  let s1 := die.foldl (fun s lj => charge1 s k lj.1 w false) s
  let vals := read.map (fun r => val r.2.2)
  match pageDecode (vals.drop 8) (vals.take 8) er 4 with
  | some (ws, ps) =>
    let s2 := read.foldl (fun s r => match r.2.2 with
      | .corrected v y => charge1 (fixWord s k r.1 v y) k r.1 w true
      | _ => s) s1
    let new := ps ++ ws
    let chg := pick 136 (fun j => er.contains j || new.getD j 0 != vals.getD j 0)
    let s3 := chg.foldl (fun s j =>
      match read[j]? with
      | none => s
      | some (l, old, _) =>
        let nw := new.getD j 0
        let nb := if nw = markerData then marker else encodeWord nw
        let a := s.wordAddr k l
        let s' := charge1 (s.setDie k l nb) k l w true
        (diffSyms old nb).foldl (fun s p => laneEvent s k l p a) (rowEvent s' k l a)) s2
    (s3.count k .scb 0 1 1).report k K.SCB_WORD_REBUILT 0 trig.pc (s.wordAddr k trig)
  | none =>
    let s2 := read.foldl (fun s r => match r.2.2 with | .corrected v y => correct s k r.1 v y | _ => s) s1
    let s3 := er.foldl (fun s j => match read[j]? with | some (l, _, _) => poisonDie s k l | none => s) s2
    turnOpen s3 k t w

/-- Reads one word from the dies for a request, fill, seal or scrub, with the outcomes of R268 and R273. (DEDUCED, notes/assumptions/46.md) -/
def fetch (s : State) (k : Nat) (l : Loc) (w : Who) : (Word × Bool) × State :=
  let s0 := charge1 s k l w false
  match decodeWord (s0.dieBytes k l) with
  | .clean v => ((v, false), s0)
  | .corrected v y => ((v, false), correct s0 k l v y)
  | .poisoned => ((0, true), s0)
  | .uncorrectable =>
    let s1 := if (s0.stk k).tileSt l.tile = .sealed then rebuild s0 k l.tile l w else poisonDie s0 k l
    match decodeWord (s1.dieBytes k l) with
    | .clean v => ((v, false), s1)
    | .corrected v _ => ((v, false), s1)
    | _ => ((0, true), s1)

/-! ### Accesses through the slice -/

/-- A use of the way that holds the line of a location (R208). -/
def useLine (s : State) (k : Nat) (l : Loc) : State :=
  match (s.stk k).line l false with
  | some y => touch s k l y.way
  | none => s

/-- A hit is a use of the way, and by a guaranteed request takes the owner record (R214). -/
def hitLine (s : State) (k : Nat) (l : Loc) (w : Who) : State :=
  let s1 := useLine s k l
  if isGuar w.cls ∧ w.bg = false then s1.modLine k l false (fun y => { y with label := w.label, cls := w.cls }) else s1

/-- The sector of a location if the slice holds it valid. -/
def Stack.sectorAt (x : Stack) (l : Loc) : Option (Word × Bool) :=
  match x.line l false with
  | some y => if y.valid.getLsbD (l.col % 8) then some (y.sector (l.col % 8), y.poison.getLsbD (l.col % 8)) else none
  | none => none

/-- A word from the dies that fills its sector where the slice holds the line (R210). -/
def fillSector (s : State) (k : Nat) (l : Loc) (w : Who) : (Word × Bool) × State :=
  let r := fetch s k l w
  (r.1, r.2.modLine k l false (fun y => y.put (l.col % 8) r.1.1 r.1.2 false))

/-- One lookup of the locations of a request, all of one line (R210, R233): hit, miss with allocation if the line is
absent, or bypass. The Boolean says whether the line is present afterwards. -/
def lookup (s : State) (k : Nat) (ls : List Loc) (w : Who) : State × Bool :=
  match ls with
  | [] => (s, false)
  | l :: _ =>
    if ((s.stk k).ch l.ch).viUnusable then (s.count k .vit 0 3 1, false)
    else if ls.all (fun l => ((s.stk k).sectorAt l).isSome) then (hitLine (s.count k .vit 0 0 1) k l w, true)
    else if ((s.stk k).line l false).isSome then (useLine (s.count k .vit 0 1 1) k l, true)
    else match alloc s k l false false w with
      | some s' => (s'.count k .vit 0 1 1, true)
      | none => (s.count k .vit 0 3 1, false)

/-- Reads one word after a lookup: the slice's sector, filled if missing, or the dies on a bypass. -/
def readAfter (s : State) (k : Nat) (present : Bool) (l : Loc) (w : Who) : (Word × Bool) × State :=
  match (s.stk k).sectorAt l with
  | some v => (v, s)
  | none => if present then fillSector s k l w else fetch s k l w

/-- Writes one word after a lookup: a dirty sector, or through to the dies (R210, R213). -/
def writeAfter (s : State) (k : Nat) (present : Bool) (l : Loc) (v : Word) (poison : Bool) (w : Who) : State :=
  if present then s.modLine k l false (fun y => y.put (l.col % 8) v poison true)
  else charge1 (s.putDie k l v poison) k l w true

/-- Reads the words of one line: an INVALID tile reads zeros without a lookup (R115). -/
def readWords (s : State) (k : Nat) (ls : List Loc) (w : Who) : List (Word × Bool) × State :=
  match ls with
  | [] => ([], s)
  | l :: _ =>
    if (s.stk k).tileSt l.tile = .invalid then (ls.map (fun _ => (0, false)), s) else
    let lk := lookup s k ls w
    ls.foldl (fun acc l =>
      let r := readAfter acc.2 k lk.2 l w
      (acc.1 ++ [(if r.1.2 then 0 else r.1.1, r.1.2)], r.2)) ([], lk.1)

/-- Writes the words of one line; a first write that bypasses the slice gives its words to the fill writes, which take its slots
already (R210, R276). -/
def writeWords (s : State) (k : Nat) (ls : List Loc) (vs : List (Word × Bool)) (w : Who) : State :=
  match ls with
  | [] => s
  | l :: _ =>
    let s1 := noteWrite s k l.tile w
    let lk := lookup s1 k ls w
    let fill := (s.stk k).tileSt l.tile == .invalid && !lk.2
    (ls.zip vs).foldl (fun s lv =>
      if fill then s.putDie k lv.1 lv.2.1 lv.2.2 else writeAfter s k lk.2 lv.1 lv.2.1 lv.2.2 w) lk.1

/-- A read-modify-write of one word in the NDU (R177, R210): f answers the new word, its poison bit and a result, or
no write. A tile that the write turns OPEN may evict the word's own line for its parity line; the result then goes through to the
dies (R213). -/
def rmw {α : Type} (s : State) (k : Nat) (l : Loc) (w : Who) (f : Word × Bool → Option (Word × Bool) × α) : α × State :=
  if (s.stk k).tileSt l.tile = .invalid then
    let r := f (0, false)
    match r.1 with
    | none => (r.2, s)
    | some v => (r.2, writeWords s k [l] [v] w)
  else
    let lk := lookup s k [l] w
    let rd := readAfter lk.1 k lk.2 l w
    let r := f rd.1
    match r.1 with
    | none => (r.2, rd.2)
    | some v =>
      let s1 := noteWrite rd.2 k l.tile w
      (r.2, writeAfter s1 k ((s1.stk k).line l false).isSome l v.1 v.2 w)

/-- Drops the lines of a tile without write-back; with `parity`, the parity line too. -/
def dropLines (s : State) (k t : Nat) (parity : Bool) : State :=
  s.modStk k (fun x => { x with lines := x.lines.filter (fun y => !((y.loc k 0).tile == t && (parity || !y.parity))) })

/-- Drops the resident accumulators of a tile without writing them back (R190). -/
def dropAccs (s : State) (k t : Nat) : State :=
  s.modCh k (tileCh t) (fun c => { c with accs := c.accs.filter (fun a => a.1 != t) })

/-- Removes a tile's open-list entry. -/
def unlist (s : State) (k t : Nat) : State :=
  s.modStk k (fun x => { x with openList := x.openList.filter (fun e => e.tile != t) })

/-- A seal of the tile, normal or forced, is aborted by a change of state (R277). -/
def dropSeal (s : State) (k t : Nat) : State :=
  (abortSeal s k t).modStk k (fun x => { x with seals := x.seals.filter (fun e => e.tile != t) })

end Sys2Proof.Machine
end

