-- ==== Sys2Proof/Machine/Arith.lean ====
section
/-! DEFINITION. The arithmetic of near-data operations: integer atomics (R182), IEEE 754 addition, minimum and maximum
(R183), OP_STATUS (R184), 192-bit accumulators (R185 to R189). -/

namespace Sys2Proof.Machine

/-! ### OP_STATUS bits (R184) -/

/-- CMP_FAIL. -/
def opCmpFail : Nat := 0x01
/-- FP_INVALID. -/
def opInvalid : Nat := 0x02
/-- FP_OVERFLOW. -/
def opOverflow : Nat := 0x04
/-- FP_INEXACT. -/
def opInexact : Nat := 0x08
/-- FP_UNDERFLOW. -/
def opUnderflow : Nat := 0x10
/-- ACC_OVF. -/
def opAccOvf : Nat := 0x20
/-- ACC_INEXACT. -/
def opAccInexact : Nat := 0x40
/-- ELEM_FAIL. -/
def opElemFail : Nat := 0x80

/-! ### Floating point -/

/-- A binary format: exponent bits and fraction bits. -/
structure Fmt where
  eb : Nat
  mb : Nat
  deriving DecidableEq, Repr

/-- binary32. -/
def fp32 : Fmt := ⟨8, 23⟩
/-- binary64. -/
def fp64 : Fmt := ⟨11, 52⟩

/-- Sign, exponent and fraction of an encoding. -/
def Fmt.sign (f : Fmt) (x : Nat) : Bool := x.testBit (f.eb + f.mb)
/-- Biased exponent. -/
def Fmt.ex (f : Fmt) (x : Nat) : Nat := (x >>> f.mb) % 2 ^ f.eb
/-- Fraction. -/
def Fmt.fr (f : Fmt) (x : Nat) : Nat := x % 2 ^ f.mb
/-- Exponent bias. -/
def Fmt.bias (f : Fmt) : Nat := 2 ^ (f.eb - 1) - 1
/-- NaN. -/
def Fmt.isNan (f : Fmt) (x : Nat) : Bool := f.ex x == 2 ^ f.eb - 1 && f.fr x != 0
/-- Signalling NaN: the quiet bit is 0. -/
def Fmt.isSnan (f : Fmt) (x : Nat) : Bool := f.isNan x && !x.testBit (f.mb - 1)
/-- Infinity. -/
def Fmt.isInf (f : Fmt) (x : Nat) : Bool := f.ex x == 2 ^ f.eb - 1 && f.fr x == 0
/-- The canonical quiet NaN (R183). -/
def Fmt.qnan (f : Fmt) : Nat := (2 ^ f.eb - 1) * 2 ^ f.mb + 2 ^ (f.mb - 1)
/-- Infinity with a sign. -/
def Fmt.inf (f : Fmt) (neg : Bool) : Nat := b2n neg * 2 ^ (f.eb + f.mb) + (2 ^ f.eb - 1) * 2 ^ f.mb
/-- Zero with a sign. -/
def Fmt.zero (f : Fmt) (neg : Bool) : Nat := b2n neg * 2 ^ (f.eb + f.mb)
/-- Exponent of the least significant bit of subnormals. -/
def Fmt.qmin (f : Fmt) : Int := 1 - f.bias - f.mb

/-- A finite value as a signed integer times a power of two. -/
def Fmt.val (f : Fmt) (x : Nat) : Int × Int :=
  let m : Int := if f.ex x = 0 then f.fr x else f.fr x + 2 ^ f.mb
  let e : Int := f.qmin + (max (f.ex x) 1 : Nat) - 1
  (if f.sign x then -m else m, e)

/-- m × 2^e rounded to a multiple of 2^q, to nearest with ties to even; the multiple and whether it was inexact. -/
def roundAt (m : Nat) (e q : Int) : Nat × Bool :=
  if q ≤ e then (m * 2 ^ (e - q).toNat, false)
  else
    let sh := (q - e).toNat
    let hi := m >>> sh
    let rem := m % 2 ^ sh
    let half := 2 ^ (sh - 1)
    (if half < rem ∨ (rem = half ∧ hi % 2 = 1) then hi + 1 else hi, rem != 0)

/-- Rounds a magnitude m × 2^e into the format: encoding and OP_STATUS bits. Tininess is detected after rounding
(R183). (DEDUCED, notes/assumptions/43.md) -/
def Fmt.round (f : Fmt) (neg : Bool) (m : Nat) (e : Int) : Nat × Nat :=
  if m = 0 then (f.zero neg, 0) else
  let top : Int := m.log2 + e
  let free := roundAt m e (top - f.mb)
  let topR : Int := if free.1 = 2 ^ (f.mb + 1) then top + 1 else top
  let tiny := decide (topR < 1 - (f.bias : Int))
  let q := max (top - f.mb) f.qmin
  let r := roundAt m e q
  let mm := if r.1 = 2 ^ (f.mb + 1) then 2 ^ f.mb else r.1
  let qq := if r.1 = 2 ^ (f.mb + 1) then q + 1 else q
  let biased := if mm < 2 ^ f.mb then 0 else (qq - f.qmin + 1).toNat
  if 2 ^ f.eb - 1 ≤ biased then (f.inf neg, opOverflow ||| opInexact)
  else
    let body := if biased = 0 then mm else biased * 2 ^ f.mb + (mm - 2 ^ f.mb)
    (f.zero neg + body, (if r.2 then opInexact else 0) ||| (if r.2 && tiny then opUnderflow else 0))

/-- FADD (R183). -/
def Fmt.add (f : Fmt) (a b : Nat) : Nat × Nat :=
  let inv := if f.isSnan a || f.isSnan b then opInvalid else 0
  if f.isNan a || f.isNan b then (f.qnan, inv)
  else if f.isInf a && f.isInf b then (if f.sign a = f.sign b then (a, 0) else (f.qnan, opInvalid))
  else if f.isInf a then (a, 0)
  else if f.isInf b then (b, 0)
  else
    let x := f.val a
    let y := f.val b
    let e := min x.2 y.2
    let z := x.1 * 2 ^ (x.2 - e).toNat + y.1 * 2 ^ (y.2 - e).toNat
    if z = 0 then (f.zero (f.sign a && f.sign b), 0) else f.round (decide (z < 0)) z.natAbs e

/-- Order key of a number, −0 below +0 (R183). -/
def Fmt.key (f : Fmt) (x : Nat) : Int :=
  let m : Int := (x % 2 ^ (f.eb + f.mb) : Nat)
  if f.sign x then -1 - m else m

/-- FMIN and FMAX as minimumNumber and maximumNumber (R183). -/
def Fmt.minmax (f : Fmt) (isMax : Bool) (a b : Nat) : Nat × Nat :=
  let inv := if f.isSnan a || f.isSnan b then opInvalid else 0
  if f.isNan a && f.isNan b then (f.qnan, inv)
  else if f.isNan a then (b, inv)
  else if f.isNan b then (a, inv)
  else if (decide (f.key a ≤ f.key b)) != isMax then (a, inv) else (b, inv)

/-! ### Integer and floating-point atomics on one word -/

/-- The ten integer operations in R179's order on n-byte operands: result, or none where CAS fails. `a` is the operand
(compare value), `b` the swap value. -/
def intOp (i n m a b : Nat) : Option Nat :=
  let w := 8 * n
  match i with
  | 0 => some ((m + a) % 2 ^ w)
  | 1 => some (m &&& a)
  | 2 => some (m ||| a)
  | 3 => some (m ^^^ a)
  | 4 => some (if toSigned w a < toSigned w m then a else m)
  | 5 => some (if toSigned w m < toSigned w a then a else m)
  | 6 => some (min m a)
  | 7 => some (max m a)
  | 8 => some a
  | _ => if m = a then some b else none

/-- An atomic on a word: the new word or none, the fetched value M, OP_STATUS (R181, R182, R183). The opcode is the
acknowledged form. -/
def atomic (op elem : Nat) (opw w : Word) : Option Word × Nat × Nat :=
  let n := opSize op
  let m := wordNum w elem n
  let i := op % 16
  if op = 0x3D then
    if m = wordNum opw 0 16 then (some (wordSet w elem 16 (wordNum opw 16 16)), m, 0) else (none, m, opCmpFail)
  else if i ≤ 9 then
    match intOp i n m (wordNum opw 0 n) (wordNum opw 8 n) with
    | some v => (some (wordSet w elem n v), m, 0)
    | none => (none, m, opCmpFail)
  else
    let f := if n = 4 then fp32 else fp64
    let a := wordNum opw 0 n
    let r := if i = 0xA then f.add m a else f.minmax (i == 0xC) m a
    (some (wordSet w elem n r.1), m, r.2)

/-! ### Accumulators (R185 to R189) -/

/-- INIT of an accumulator word. -/
def accInit (w : Word) : Bool := bitAt (wordNum w 25 1) 7

/-- An accumulator word: ACC, WBASE, FLAGS, and reserved bytes 0. -/
def accWord (a wbase flags : Nat) : Word := BitVec.ofNat 256 (a % 2 ^ 192 + wbase * 2 ^ 192 + flags * 2 ^ 200)

/-- L of a window base (R185). -/
def accL (wbase : Nat) : Int := 8 * wbase - 1080

/-- A word initialised from its region if INIT is 0 (R187). -/
def accFresh (region : Nat) (w : Word) : Word := if accInit w then w else accWord 0 region 0x80

/-- REPRO_ADD on an initialised accumulator: new word and OP_STATUS (R188). (DEDUCED, notes/assumptions/43.md) -/
def reproStep (w : Word) (x : Nat) : Word × Nat :=
  let a := wordNum w 0 24
  let wb := wordNum w 24 1
  let fl := wordNum w 25 1
  let inv := if fp64.isSnan x then opInvalid else 0
  if fp64.isNan x || fp64.isInf x then (accWord a wb (fl ||| 1), opAccOvf ||| inv) else
  let v := fp64.val x
  if v.1 = 0 then (w, 0) else
  let l := accL wb
  let top : Int := (v.1.natAbs.log2 : Nat) + v.2
  if l + 160 ≤ top then (accWord a wb (fl ||| 1), opAccOvf) else
  let r := roundAt v.1.natAbs v.2 l
  let q : Int := if v.1 < 0 then -(r.1 : Int) else r.1
  let a' := ofSigned 192 ((a : Int) + q)
  (accWord a' wb (if r.2 then fl ||| 2 else fl), if r.2 then opAccInexact else 0)

/-- FOLD of a word: result, FLAGS byte, OP_STATUS (R189). A word with INIT 0 is taken as fresh: A 0 and FLAGS with INIT alone
(R187). (DEDUCED, notes/assumptions/43.md) -/
def foldVal (w : Word) : Nat × Nat × Nat :=
  let fl := wordNum w 25 1
  if !accInit w then (0, 0x80, 0) else
  let st := (if bitAt fl 1 then opAccInexact else 0) ||| (if bitAt fl 0 then opAccOvf else 0)
  if bitAt fl 0 then (fp64.qnan, fl, st) else
  let a := toSigned 192 (wordNum w 0 24)
  if a = 0 then (0, fl, st) else
  let r := fp64.round (decide (a < 0)) a.natAbs (accL (wordNum w 24 1))
  (r.1, fl, st ||| r.2)

/-- FOLD_CLEAR's word: A 0, OVF and INEXACT clear, WBASE and INIT kept (R189). -/
def foldCleared (w : Word) : Option Word :=
  if accInit w then some (accWord 0 (wordNum w 24 1) 0x80) else none

/-- The accumulator region of a package offset among stack k's GTH_ACCRn: its WBASE, lowest n first (R186, R205). -/
def State.accRegion (s : State) (k off : Nat) : Option Nat :=
  ((List.range 8).find? (fun n =>
    let o := 16 * n
    let base := s.fld k 0 (F.GTH_ACCR_BASE_LO_BASE_31_12.plus o) * 2 ^ 12 +
      s.fld k 0 (F.GTH_ACCR_BASE_HI_BASE_39_32.plus o) * 2 ^ 32
    s.flag k 0 (F.GTH_ACCR_CFG_EN.plus o) && decide (base ≤ off) &&
      decide (off < base + 4096 * s.fld k 0 (F.GTH_ACCR_SIZE_TILES.plus o)))).map
    (fun n => s.fld k 0 (F.GTH_ACCR_CFG_WBASE.plus (16 * n)))

/-- Number of a word within its tile's row group, for the resident list. -/
def Loc.accKey (l : Loc) : Nat × Nat := (l.tile, l.bank * 32 + l.col)

/-- Location of a resident accumulator. -/
def accLoc (k : Nat) (a : Nat × Nat) : Loc := locOfTile k a.1 (a.2 / 32) (a.2 % 32)

/-- Two accumulators stand in one line. -/
def accSameLine (a b : Nat × Nat) : Bool := a.1 == b.1 && a.2 / 8 == b.2 / 8

/-- Spills one resident accumulator: an ordinary write with fresh check bits that marks the tile OPEN; its line is
unpinned once no accumulator of it is resident (R190, R215). A forced seal of the tile holds the write, and the word stays
resident (R284; DEDUCED, notes/assumptions/43.md). -/
def spillAcc (s : State) (k : Nat) (a : Nat × Nat) (w : Who) : State :=
  let l := accLoc k a
  if (s.stk k).sealHolds l.tile then s else
  let s1 := s.modCh k l.ch (fun c => { c with accs := c.accs.filter (· != a) })
  let s2 := match (s1.stk k).sectorAt l with
    | some (v, p) =>
      let s' := noteWrite s1 k l.tile w
      (postWrite (s'.putDie k l v p) k l w).modLine k l false
        (fun y => { y with dirty := setBit8 y.dirty (l.col % 8) false })
    | none => s1
  let s3 := if ((s2.stk k).ch l.ch).accs.any (accSameLine a) then s2
    else s2.modLine k l false (fun y => { y with pin := false })
  s3.count k .ndu l.ch 4 1

/-- Spills every resident accumulator of a channel's slice (R200). -/
def spillAll (s : State) (k ch : Nat) (w : Who) : State :=
  ((s.stk k).ch ch).accs.foldl (fun s a => spillAcc s k a w) s

/-- ACC_LIMIT (R201). -/
def State.accLimit (s : State) (k ch : Nat) : Nat := min 8192 (s.fld k ch F.NDU_ACC_CFG_ACC_LIMIT)

/-- The residents of the set of a location whose line is pinned for accumulators, least recently used first. -/
def accLinesOfSet (s : State) (k : Nat) (l : Loc) : List (Nat × Nat) :=
  ((s.stk k).ch l.ch).accs.filter (fun a => setIndex (accLoc k a) ((accLoc k a).col / 8) == setIndex l (l.col / 8))

/-- The least recently used line of a list of accumulators, least recently used first: the one whose latest use is oldest. -/
def lruAccLine : List (Nat × Nat) → Option (Nat × Nat)
  | [] => none
  | a :: r => if r.any (accSameLine a) then lruAccLine r else some a

/-- Spills the least recently used accumulator line of the set of a location (R216). -/
def spillAccLine (s : State) (k : Nat) (l : Loc) (w : Who) : State :=
  match lruAccLine (accLinesOfSet s k l) with
  | some a => ((accLinesOfSet s k l).filter (accSameLine a)).foldl (fun s b => spillAcc s k b w) s
  | none => s

/-- The set of a location has a pin free (R215). -/
def State.pinFree (s : State) (k : Nat) (l : Loc) : Bool :=
  decide ((((s.stk k).setLines l).filter Line.pin).length < s.pinWays k)

/-- Spills accumulator lines of the set of a location until a pin is free: as often as the set has ways (R216). -/
def freePin (s : State) (k : Nat) (l : Loc) (w : Who) : State :=
  (List.range 16).foldl (fun s _ => if s.pinFree k l then s else spillAccLine s k l w) s

/-- Makes a word resident, its line pinned (R190, R215). -/
def makeResident (s : State) (k : Nat) (l : Loc) : State :=
  (s.modLine k l false (fun y => { y with pin := true })).modCh k l.ch (fun c => { c with accs := c.accs ++ [l.accKey] })

/-- Spills the least recently used accumulators of a slice down to ACC_LIMIT (R190, R201). -/
def accTrim (s : State) (k ch : Nat) (w : Who) : State :=
  let a := ((s.stk k).ch ch).accs
  (a.take (a.length - s.accLimit k ch)).foldl (fun s a => spillAcc s k a w) s

/-- After an accumulator operation: residency, pinning and spills (R190, R201, R215, R216, R224). -/
def accSettle (s : State) (k : Nat) (l : Loc) (w : Who) : State :=
  let key := l.accKey
  match (s.stk k).line l false with
  | none => s.count k .ndu l.ch 4 1
  | some y =>
    let s1 :=
      if ((s.stk k).ch l.ch).accs.contains key then
        s.modCh k l.ch (fun c => { c with accs := c.accs.filter (· != key) ++ [key] })
      else if y.pin || s.pinFree k l then makeResident s k l
      else
        let s0 := freePin (s.count k .vit 0 4 1) k l w
        if ((s0.stk k).line l false).isNone then s0.count k .ndu l.ch 4 1
        else if s0.pinFree k l then makeResident s0 k l
        else spillAcc (s0.modCh k l.ch (fun c => { c with accs := c.accs ++ [key] })) k key w
    accTrim s1 k l.ch w

end Sys2Proof.Machine
end

