-- ==== Sys2Proof/Machine/Order.lean ====
section
/-! DEFINITION. The order of service: deadlines and ages at a port, in the admission queue and on a pseudo-channel (R138, R143,
R155, R158), which requests move words of a bank (R210, R239), in-order service of a bank (R122), drains of writes (R237), and the
pick among the candidates of a pseudo-channel (R236). -/

namespace Sys2Proof.Machine

/-! ### Deadlines, ages and classes -/

/-- Deadline as an order key: local ticks, then slot. -/
def Req.due (r : Req) : Int := r.dlTicks * 2048 + r.dlOff

/-- Request a must go before request b among heads of a port: guaranteed heads by deadline, then aged ones oldest first,
then best-effort ones by deadline within a class (R138). -/
def before (a b : Req) : Bool :=
  if isGuar a.cls then (if isGuar b.cls then decide (a.due < b.due) else true)
  else if isGuar b.cls then false
  else if a.aged then (if b.aged then decide (b.wait < a.wait) else true)
  else if b.aged then false
  else a.cls == b.cls && decide (a.due < b.due)

/-- As `before`, with guaranteed classes in class order first (R143). -/
def beforeTable (a b : Req) : Bool :=
  if isGuar a.cls && isGuar b.cls then decide (a.cls < b.cls) || (a.cls == b.cls && decide (a.due < b.due)) else before a b

/-- Best-effort requests that are not aged take turns by class (R158). -/
def Req.turns (r : Req) : Bool := !isGuar r.cls && !r.aged

/-- Classes that take turns among some requests. -/
def turnClasses (l : List Req) : List Nat := (l.filter Req.turns).map Req.cls

/-- The requests that may go next: none must go before them, and a best-effort class only when the weighted round lets it
(R138, R143, R158). -/
def frontier (wt : Nat → Nat) (served : SMap Nat) (lt : Req → Req → Bool) (l : List Req) : List Req :=
  (l.filter (fun a => !l.any (fun b => lt b a))).filter (fun a =>
    !a.turns || (wrrOpen wt served (turnClasses l)).contains a.cls)

/-- The round after request r has gone next among l (R158). -/
def roundAfter (wt : Nat → Nat) (served : SMap Nat) (l : List Req) (r : Req) : SMap Nat :=
  if r.turns then wrrServe wt served (turnClasses l) r.cls else served

/-! ### Bank queues -/

/-- The slice takes a line without a word from the dies: it holds the line, or has a way for it (R210, R213). -/
def State.sliceTakes (s : State) (k : Nat) (l : Loc) (w : Who) : Bool :=
  !((s.stk k).ch l.ch).viUnusable &&
  (((s.stk k).line l false).isSome || (let e := eligible s k l w; e.1 || !e.2.isEmpty))

/-- Locations of the LEN words of a request. -/
def State.reqLocs (s : State) (k : Nat) (r : Req) : List Loc :=
  (List.range r.len).map (fun i => s.locOf k (r.off + 32 * i))

/-- A request moves words between its bank and the controller: a read, fill or NDU read whose sectors the slice does not hold, or
a write for which the slice has no way (R115, R210, R213). An INVALID tile is read without the dies (R115, R199). -/
def State.bankBound (s : State) (k : Nat) (r : Req) : Bool :=
  let l := s.locOf k r.off
  let st := (s.stk k).tileSt l.tile
  if st = .retired ∨ (st = .invalid ∧ r.op = 0x01) then false
  else if st = .invalid ∨ r.op = 0x02 ∨ r.op = 0x03 then !s.sliceTakes k l r.who
  else !(s.reqLocs k r).all (fun l => ((s.stk k).sectorAt l).isSome)

/-- Requests that read memory in the sense of R122: reads, fills and NDU reads. -/
def readsMem (op : Nat) : Bool := op == 0x01 || op == 0x04 || isSingle (ackForm op)

/-- Writes that wait for drains (R237). -/
def isWrite (op : Nat) : Bool := op == 0x02 || op == 0x03 || op == 0x04

/-- The queue of a bank: the first 16 requests of the request table that move its words; the others wait in their entries (R239).
Write-backs take no place of the 16, since R276 queues 32 fill writes in a bank at once (DEDUCED, notes/assumptions/76.md). -/
def State.bankQueue (s : State) (k ch pc b : Nat) : List Req := ((s.bankReqs k ch pc b).filter (s.bankBound k)).take 16

/-- Row of a request. -/
def State.rowOf (s : State) (k : Nat) (r : Req) : Nat := (s.locOf k r.off).row

/-- Two requests of a queue, the first a pending write that entered it earlier and the second a read of the same row: the match of
R122. -/
def State.rowMatch (s : State) (k : Nat) : List Req → Bool
  | [] => false
  | w :: q => (isWrite w.op && q.any (fun r => readsMem r.op && s.rowOf k r == s.rowOf k w)) || s.rowMatch k q

/-- A read of a bank's queue matches an earlier pending write or write-back (R122). -/
def State.mustSwitch (s : State) (k ch pc b : Nat) : Bool :=
  let q := s.bankQueue k ch pc b
  s.rowMatch k q || ((s.pcOf k ch pc).wbq.filter (fun y => y.bank == b)).any (fun y =>
    q.any (fun r => readsMem r.op && s.rowOf k r == y.row && !y.older.contains r.rid))

/-- Writes of a bank that were pending when it switched to in-order service and are pending still (R122). -/
def State.episode (s : State) (k ch pc b : Nat) : List Nat :=
  (((s.pcOf k ch pc).bank b).inOrder).filter (fun i => (s.bankQueue k ch pc b).any (fun r => r.rid == i && isWrite r.op))

/-- The bank is in in-order service (R122). -/
def State.inOrderNow (s : State) (k ch pc b : Nat) : Bool := !(s.episode k ch pc b).isEmpty || s.mustSwitch k ch pc b

/-- The bank's queue switches to in-order service, and the episode is counted; a second match during an episode is no new one. An
episode ends once every write that was pending at the switch has been issued (R122, R266). -/
def noteOrder (s : State) (k ch pc b : Nat) : State :=
  let e := s.episode k ch pc b
  if e.isEmpty && s.mustSwitch k ch pc b then
    (s.modPc k ch pc (fun p => p.modBank b (fun x => { x with
      inOrder := ((s.bankQueue k ch pc b).filter (fun r => isWrite r.op)).map Req.rid }))).count k .ctl ch 4 1
  else if e = ((s.pcOf k ch pc).bank b).inOrder then s
  else s.modPc k ch pc (fun p => p.modBank b (fun x => { x with inOrder := e }))

/-! ### Drains -/

/-- WR_HIGH. -/
def State.wrHigh (s : State) (k ch : Nat) : Nat := s.fld k ch F.CTL_SCHED_WR_HIGH

/-- WR_LOW: a value at or above WR_HIGH acts as WR_HIGH − 1 (R256). -/
def State.wrLow (s : State) (k ch : Nat) : Nat :=
  if s.wrHigh k ch ≤ s.fld k ch F.CTL_SCHED_WR_LOW then s.wrHigh k ch - 1 else s.fld k ch F.CTL_SCHED_WR_LOW

/-- Requests in the bank queues of a pseudo-channel. -/
def State.queued (s : State) (k ch pc : Nat) : List Req :=
  (List.range s.part.banks).flatMap (s.bankQueue k ch pc)

/-- Pending writes of a pseudo-channel (R237). -/
def State.pendingWrites (s : State) (k ch pc : Nat) : Nat :=
  (s.pcOf k ch pc).wbq.length + ((s.queued k ch pc).filter (fun r => isWrite r.op)).length

/-- A drain is on: one that was on ends at WR_LOW pending writes; one begins at WR_HIGH, unless the frame's turnaround reserve is
spent (R237, R238). -/
def State.drainOn (s : State) (k ch pc : Nat) : Bool :=
  let p := s.pcOf k ch pc
  let n := s.pendingWrites k ch pc
  if p.drain && decide (s.wrLow k ch < n) then true
  else decide (s.wrHigh k ch ≤ n) && decide (0 < n) && decide (p.turnUsed < s.turnNow k)

/-! ### The pick -/

/-- An earlier request of the context that touches a common word is pending (R119). A RANGE_ZERO of any stack counts: its span
reaches every stack (R124). (DESIGN CHOICE, notes/assumptions/11.md) -/
def State.blocked (s : State) (k : Nat) (r : Req) : Bool :=
  let holds := fun (q : Req) => decide (q.rid < r.rid) && touchCommon q r
  (s.stk k).table.any (fun e => e.done.isNone && holds e.req) || ((s.stk k).admQ ++ s.transit).any holds ||
  s.stks.any (fun x => x.table.any (fun e => (e.req.op == 0x09 || r.op == 0x09) && e.done.isNone && holds e.req) ||
    x.admQ.any (fun q => (q.op == 0x09 || r.op == 0x09) && holds q))

/-- The channel serves requests: not unusable, not in self-refresh, not paused, and the tracking pass that an exit from
self-refresh needs has run (R224, R249, R254). -/
def State.chanServes (s : State) (k ch pc : Nat) : Bool :=
  let c := (s.stk k).ch ch
  !c.unusable && !(c.pc pc).selfRefresh && !(c.pc pc).paused && !(c.pc pc).trkDue

/-- A request as its pseudo-channel sees it: one whose class has no budget left is best-effort in its overflow class (R155,
R157). -/
def State.seenOn (s : State) (k : Nat) (p : PChan) (r : Req) : Req :=
  if isGuar r.cls && s.budgetLeft k p r.cls == 0 then { r with cls := r.ovf } else r

/-- Candidates of a pseudo-channel: entries of the bank queues that R119, a forced seal, in-order service and the drains let
through (R119, R122, R236, R237, R284). -/
def State.candidates (s : State) (k ch pc : Nat) : List Req :=
  let drain := s.drainOn k ch pc
  (List.range s.part.banks).flatMap (fun b =>
    let q := s.bankQueue k ch pc b
    let ord := !q.isEmpty && s.inOrderNow k ch pc b
    (if ord then q.take 1 else q).filter (fun r =>
      !s.blocked k r && (r.op == 0x01 || !(s.stk k).sealHolds (s.locOf k r.off).tile) &&
      (!isWrite r.op || drain || ord || isGuar r.cls || r.aged)))

/-- The row of a request is open (R236). -/
def State.rowHit (s : State) (k : Nat) (r : Req) : Bool :=
  let l := s.locOf k r.off
  ((s.pcOf k l.ch l.pc).bank l.bankIx).openRow == some l.row

/-- Slack of a request at a slot of the frame in progress: slots to its deadline, less those that its words need; an overdue
request has none (R236). -/
def State.slack (s : State) (k pos : Nat) (r : Req) : Nat :=
  (r.dlTicks * s.slotsNow k + (r.dlOff * s.slotsNow k / 1600 : Nat) - pos - r.len).toNat

/-- A request needs an activate and its slack has fallen below URGENT_SLOTS (R236). -/
def State.urgent (s : State) (k pos : Nat) (r : Req) : Bool :=
  !s.rowHit k r && decide (s.slack k pos r < s.fld k (s.locOf k r.off).ch F.CTL_SCHED_URGENT_SLOTS)

/-- Earlier deadline, ties to the lower class (R155). -/
def Req.ahead (a b : Req) : Bool := decide (a.due < b.due) || (a.due == b.due && decide (a.cls < b.cls))

/-- The controller may pick r from a group: the earliest deadline among row hits and urgent requests, or where no request hits an
open row, the earliest deadline (R236). The slot inside the frame at which it picks is open: at least the slots used have passed,
at most the frame; a request is picked at some slot of that range (DESIGN CHOICE, notes/assumptions/12.md). -/
def State.picks (s : State) (k : Nat) (g : List Req) (r : Req) : Bool :=
  let l := s.locOf k r.off
  let pos := if s.rowHit k r then s.slotsNow k - s.slotsLeft k (s.pcOf k l.ch l.pc) else s.slotsNow k
  let h := if g.any (s.rowHit k) then g.filter (fun q => s.rowHit k q || s.urgent k pos q) else g
  h.any (fun q => q.rid == r.rid) && !h.any (fun q => q.ahead r)

/-- The group that R155 selects among the candidates c: guaranteed requests with budget left, else aged ones, oldest first, else
the requests of a class whose turn it is. For a request outside them it is empty. -/
def State.groupOf (s : State) (k : Nat) (p : PChan) (c : List Req) (r : Req) : List Req :=
  let v := c.map (s.seenOn k p)
  let me := s.seenOn k p r
  if v.any (fun q => isGuar q.cls) then (if isGuar me.cls then v.filter (fun q => isGuar q.cls) else [])
  else if v.any Req.aged then (if me.aged then v.filter (fun q => q.aged && decide (me.wait ≤ q.wait)) else [])
  else if (wrrOpen (s.weight k) p.wrr (turnClasses v)).contains me.cls then v.filter (fun q => q.cls == me.cls) else []

/-- Request r is the next of its pseudo-channel: it is a candidate, a slot of the frame is left, and R155, R158 and R236 pick
it. An aged request goes by age alone. -/
def State.isNext (s : State) (k : Nat) (r : Req) : Bool :=
  let l := s.locOf k r.off
  let p := s.pcOf k l.ch l.pc
  let c := s.candidates k l.ch l.pc
  let g := s.groupOf k p c r
  let me := s.seenOn k p r
  c.any (fun q => q.rid == r.rid) && decide (0 < s.slotsLeft k p) &&
  (if !isGuar me.cls && me.aged then !g.isEmpty && !g.any (fun q => decide (me.wait < q.wait)) else s.picks k g me)

/-! ### Around a service -/

/-- Before a bank-bound request is served: the write-backs that wait in a bank in in-order service are issued first, the drain is
noted, and the round of the classes goes on (R122, R158, R237). -/
def beginBank (s : State) (k : Nat) (r : Req) : State :=
  let l := s.locOf k r.off
  let b := l.bankIx
  let on := s.drainOn k l.ch l.pc
  let p := s.pcOf k l.ch l.pc
  let v := (s.candidates k l.ch l.pc).map (s.seenOn k p)
  let wrr := if v.any (fun q => !q.turns) then p.wrr else roundAfter (s.weight k) p.wrr v (s.seenOn k p r)
  let s1 := noteOrder s k l.ch l.pc b
  let s2 := s1.modPc k l.ch l.pc (fun p => { p with drain := on, wrr := wrr })
  if s.inOrderNow k l.ch l.pc b then
    (p.wbq.filter (fun y => y.bank == b)).foldl (fun s y => issueWb s k l.ch l.pc y) s2
  else s2

/-- After a bank-bound request has been served: the bank's queue and the drain are looked at anew (R122, R237). -/
def endBank (s : State) (k : Nat) (r : Req) : State :=
  let l := s.locOf k r.off
  let s1 := noteOrder s k l.ch l.pc l.bankIx
  s1.modPc k l.ch l.pc (fun p => { p with drain := s1.drainOn k l.ch l.pc })

/-! ### Write-backs at the end of a frame -/

/-- The write-back that goes next: the oldest aged one; in a drain, one of a class whose turn it is, those of a VIT_OP after the
others of their class and in the order in which they were produced (R158, R219, R237). -/
def State.nextWb (s : State) (k ch pc : Nat) : Option Wb :=
  let p := s.pcOf k ch pc
  match p.wbq.find? (fun y => decide (64 ≤ y.wait)) with
  | some y => some y
  | none =>
    if !s.drainOn k ch pc then none else
    let op := wrrOpen (s.weight k) p.wrr (p.wbq.map Wb.cls)
    match p.wbq.find? (fun y => op.contains y.cls && !y.op) with
    | some y => some y
    | none => p.wbq.find? (fun y => op.contains y.cls)

/-- The slots of the frame that no request has used go to the write-backs that wait (R155, R219, R237). -/
def drainWbs (n : Nat) (s : State) (k ch pc : Nat) : State :=
  forN n s (fun s _ =>
    if s.slotsLeft k (s.pcOf k ch pc) = 0 then s else
    match s.nextWb k ch pc with
    | none => s
    | some y =>
      let s1 := s.modPc k ch pc (fun p => { p with
        drain := s.drainOn k ch pc,
        wrr := if 64 ≤ y.wait then p.wrr else wrrServe (s.weight k) p.wrr (p.wbq.map Wb.cls) y.cls })
      issueWb s1 k ch pc y)

/-- The write-backs of a pseudo-channel at the end of a frame. -/
def endFrameWbs (s : State) (k ch pc : Nat) : State :=
  let n := (s.pcOf k ch pc).wbq.length
  if n = 0 || !s.chanServes k ch pc then s else
  let s1 := drainWbs n s k ch pc
  s1.modPc k ch pc (fun p => { p with drain := s1.drainOn k ch pc })

end Sys2Proof.Machine
end

