-- ==== Sys2Proof/Machine/Serve.lean ====
section
/-! DEFINITION. Serving a request-table entry: which request may run now (R119, R155, R236, R284), how one completes (R109, R115,
R117, R132, R140), late misses (R166, R168, R198), and the effects of READ, WRITE, WRITE_MASKED, single-word near-data
operations (R108, R177 to R190, R199), descriptors (R191 to R195) and RANGE_ZERO (R109, R124). -/

namespace Sys2Proof.Machine

/-- A request-table entry. -/
def State.entry (s : State) (k rid : Nat) : Option Entry := (s.stk k).table.find? (fun e => e.req.rid == rid)

/-- Changes an entry. -/
def State.modEntry (s : State) (k rid : Nat) (f : Entry → Entry) : State :=
  s.modStk k (fun x => { x with table := x.table.map (fun e => if e.req.rid = rid then f e else e) })

/-- Frees an entry. -/
def State.dropEntry (s : State) (k rid : Nat) : State :=
  s.modStk k (fun x => { x with table := x.table.filter (fun e => e.req.rid != rid) })

/-- An outstanding request of a context ends (R132); one from before a link reset is no longer counted (R354). -/
def State.endOutst (s : State) (p reqId rid : Nat) : State :=
  s.modPort p (fun x => if rid < x.dropBelow then x else { x with outst := mput x.outst reqId (mget x.outst reqId 0 - 1) 0 })

/-- The package executes requests (R27, R28); in RETAIN entry, released requests complete for 20 µs, 15 whole frames
(R394). -/
def State.serving (s : State) : Bool :=
  s.mode == .active || s.mode == .idle || (s.mode == .enteringRetain && decide (s.now s.agg ≤ s.retainAt + 15))

/-- A request may run now: its stack serves, it is not held behind another, its channel serves, no forced seal holds its writes, and
where it moves words of a bank it is the next of its pseudo-channel (R119, R155, R236, R284). -/
def State.servable (s : State) (k : Nat) (r : Req) : Bool :=
  let l := s.locOf k r.off
  s.serving && !s.unreach k && !s.blocked k r &&
  (isDesc r.op || r.op == 0x09 || (s.chanServes k l.ch l.pc && (r.op == 0x01 || !(s.stk k).sealHolds l.tile) &&
    (!s.bankBound k r || s.isNext k r)))

/-- A completion is after its deadline, in local ticks and slot offset (R166). Within the deadline's own frame the slot of
completion is a free value: the model keeps no time inside a frame (DESIGN CHOICE, notes/assumptions/12.md). -/
def isLate (s : State) (r : Req) : Bool × State :=
  if r.dlTicks < 0 then (true, s) else if 0 < r.dlTicks then (false, s)
  else
    let d := s.draw
    (decide (r.dlOff < d.1 % 1600), d.2)

/-- Late-miss accounting of a guaranteed request that completes, with whatever status (R166, R168, R198). (DEDUCED, notes/assumptions/40.md) -/
def lateCheck (s : State) (k : Nat) (e : Entry) : State :=
  let r := e.req
  if !isGuar r.cls ∨ r.op = 0x08 then s else
  let t := isLate s r
  if !t.1 then t.2 else
  if e.inRes && !isDesc r.op then
    let l := s.locOf k r.off
    let s1 := t.2.report k K.SCH_MISS_LATE 0 l.pc r.off
    { s1 with miss := s1.miss ++ [{ late := true, stack := k, ch := l.ch, pc := l.pc, cls := r.cls,
                                    frame := s.frame k % 65536, label := r.label }] }
  else t.2.count k .sch 0 9 1

/-- Completes a request with its responses: a posted operation that completes with OK frees its entry; any other waits
for RSP egress, a posted failure being reported (R109, R132, R140). (DEDUCED, notes/assumptions/40.md) -/
def finish (s : State) (k : Nat) (r : Req) (rs : List Resp) : State :=
  let st := (rs.headD (respTo r 0 0)).status
  if isPosted r.op then
    let s1 := match s.entry k r.rid with | some e => lateCheck s k e | none => s
    let s2 := s1.endOutst r.port r.reqId r.rid
    if st = stOk then s2.dropEntry k r.rid
    else (s2.modEntry k r.rid (fun e => { e with done := some rs })).report k K.STK_POSTED_FAIL 0 0 r.off
  else s.modEntry k r.rid (fun e => { e with done := some rs })

/-- Completes with a status and nothing else. -/
def finishSt (s : State) (k : Nat) (r : Req) (st : Nat) : State := finish s k r [respTo r st (s.frame k)]

/-- Runs f on the entry of a request with one of the opcodes, if the entry is there, not completed, and may run; a request that moves
words of a bank does so in the order of the bank's queue (R122, R236, R237). -/
def serve (s : State) (k rid : Nat) (ops : List Nat) (f : State → Req → State) : State :=
  match s.entry k rid with
  | some e =>
    if ops.contains e.req.op && e.done.isNone && e.gth.isNone && s.servable k e.req then
      (if s.bankBound k e.req then endBank (f (beginBank s k e.req) e.req) k e.req else f s e.req)
    else s
  | none => s

/-! ### Errors of the slice's SRAM (R221) -/

/-- Resident accumulators of a line. -/
def lineAccs (s : State) (k : Nat) (y : Line) : List (Nat × Nat) :=
  ((s.stk k).ch y.ch).accs.filter (fun a => y.isAt (accLoc k a) false)

/-- Drops one line and its accumulators without write-back (R217). -/
def dropLine (s : State) (k : Nat) (y : Line) : State :=
  let as := lineAccs s k y
  (s.modCh k y.ch (fun c => { c with accs := c.accs.filter (fun a => !as.contains a) })).modStk k
    (fun x => { x with lines := x.lines.filter (fun z => !z.isAt (y.loc k 0) y.parity) })

/-- A correction of Vitrine SRAM (R221). -/
def vitCorrect (s : State) (k ch : Nat) : State := (s.count k .vit 0 5 1).report k K.VIT_SRAM_CE 0 ch 0

/-- An uncorrectable Vitrine SRAM error with a severity (R221). -/
def vitUe (s : State) (k ch sev : Nat) : State := s.reportSev k K.VIT_SRAM_UE sev 0 ch 0

/-- An error that a scrub read or a lookup finds in a line (R221). -/
def vitError (s : State) (k : Nat) (y : Line) (e : SramErr) : State :=
  match e with
  | .single => vitCorrect s k y.ch
  | .data i =>
    if y.dirty.getLsbD i then
      vitUe (s.modLine k (y.loc k 0) y.parity (fun y => { y with poison := setBit8 y.poison i true })) k y.ch 2
    else if y.parity then
      vitUe (s.modLine k (y.loc k 0) true (fun y => { y with valid := setBit8 y.valid i false })) k y.ch 1
    else if y.valid.getLsbD i then
      vitUe (fillSector (s.modLine k (y.loc k 0) false (fun y => { y with valid := setBit8 y.valid i false })) k (y.loc k i)
        Who.sealer).2 k y.ch 1
    else vitUe s k y.ch 1
  | .tag => if y.dirty = 0 then vitUe (dropLine s k y) k y.ch 1 else s.report k K.VIT_TAG_UE 0 y.ch 0
  | .owner => if y.dirty = 0 then vitUe (dropLine s k y) k y.ch 1
      else vitUe (dropLine (writeBack s k y Who.sealer) k y) k y.ch 1

/-- The lookup of a request finds an SRAM error in the slice: in the line of the request, or where the slice does not hold it, in
another word of the set, which is corrected (R221). -/
def lookupError (s : State) (k : Nat) (r : Req) (err : Option SramErr) : State :=
  let l := s.locOf k r.off
  match err, (s.stk k).line l false with
  | some e, some y => vitError s k y e
  | some .single, none => vitCorrect s k l.ch
  | _, _ => s

/-- The error leaves the data of the line where no lookup finds them: the stack enters SAFE (R221). -/
def State.tagLost (s : State) (k : Nat) (r : Req) (err : Option SramErr) : Bool :=
  err == some .tag && (match (s.stk k).line (s.locOf k r.off) false with | some y => y.dirty != 0 | none => false)

/-- A request whose lookup meets an SRAM error: the error is handled first; the request is not served where its line's data are
lost (R221). A READ of an INVALID tile and a request to a RETIRED one look nothing up (R115, R116). -/
def withError (s : State) (k : Nat) (r : Req) (err : Option SramErr) (f : State → Req → State) : State :=
  let st := (s.stk k).tileSt (s.locOf k r.off).tile
  if st = .retired ∨ (st = .invalid ∧ r.op = 0x01) then f s r
  else if s.tagLost k r err then lookupError s k r err else f (lookupError s k r err) r

/-- The tile of a request is RETIRED. -/
def State.isRetired (s : State) (k : Nat) (r : Req) : Bool := (s.stk k).tileSt (s.locOf k r.off).tile == .retired

/-- READ (R115, R126). -/
def doRead (s : State) (k : Nat) (r : Req) : State :=
  if s.isRetired k r then finishSt s k r stRetired else
  let rd := readWords s k (s.reqLocs k r) r.who
  let st := if rd.1.any (·.2) then stPoison else stOk
  finish rd.2 k r [{ respTo r st (s.frame k) with data := rd.1 }]

/-- WRITE and WRITE_POSTED (R108, R126). -/
def doWrite (s : State) (k : Nat) (r : Req) : State :=
  if s.isRetired k r then finishSt s k r stRetired else
  let vs := r.data.map (fun d => if r.poisonIn || d.2 then (0, true) else d)
  finishSt (writeWords s k (s.reqLocs k r) vs r.who) k r stOk

/-- The enabled bytes of a word (R108). -/
def mergeBytes (be : Nat) (old new : Word) : Word :=
  BitVec.ofNat 256 (ofBytes ((List.range 32).map (fun i => if bitAt be i then wordByte new i else wordByte old i)))

/-- WRITE_MASKED: a write of one word with every byte enabled; a read of it with none; otherwise enabled bytes are
merged, and a poisoned word stays poisoned (R108, R126). -/
def doWriteMasked (s : State) (k : Nat) (r : Req) : State :=
  if s.isRetired k r then finishSt s k r stRetired else
  let be := r.parNum 0 4
  let new := (r.data.getD 0 (0, false)).1
  let l := s.locOf k r.off
  if be = 2 ^ 32 - 1 then finishSt (writeWords s k [l] [(new, false)] r.who) k r stOk else
  let x := rmw s k l r.who (fun m => (if be = 0 then none else some (mergeBytes be m.1 new, m.2), m.2))
  finishSt x.2 k r (if x.1 then stPoison else stOk)

/-- Which NDU counter an operation adds to (R203). -/
def nduCounter (op : Nat) : Nat :=
  let a := ackForm op
  if a = 0x68 ∨ a = 0x69 then 3 else if a = 0x3E then 2
  else if a = 0x3D then 0 else if a % 16 ≤ 9 then 0 else 1

/-- Another request to the word of r is pending, so that one may have waited for the other: how long the NDU was busy is open
(R177, R203; DESIGN CHOICE, notes/assumptions/67.md). -/
def serialWait (s : State) (k : Nat) (r : Req) : State :=
  let l := s.locOf k r.off
  if (s.bankReqs k l.ch l.pc l.bankIx).any (fun q => q.rid != r.rid && decide (s.locOf k q.off = l)) then
    (let d := s.draw; d.2.count k .ndu l.ch 5 (d.1 % 2))
  else s

/-- A single-word near-data operation: region rule (R186), poison and tile states (R199), then the operation in the NDU
(R177, R182, R183, R188, R189), the response's INLINE and OP_STATUS. An unusable NDU answers UNSUPPORTED (R480). (DEDUCED, notes/assumptions/40.md) -/
def doSingle (s : State) (k : Nat) (r : Req) : State :=
  if s.isRetired k r then finishSt s k r stRetired else
  let a := ackForm r.op
  let isAcc := decide (a = 0x3E ∨ a = 0x68 ∨ a = 0x69)
  let region := s.accRegion k r.off
  let l := s.locOf k r.off
  if isAcc != region.isSome || ((s.stk k).ch l.ch).nduUnusable then finishSt s k r stUnsupported else
  let ow := r.data.getD 0 (0, false)
  if ow.2 then
    let s1 := (writeWords s k [l] [(0, true)] r.who).report k K.NDU_POISON_RESULT l.ch l.pc r.off
    finishSt s1 k r stOk
  else
  let f := fun (m : Word × Bool) =>
    if m.2 then (none, (none : Option (Nat × Nat)))
    else if a = 0x3E then
      let x := reproStep (accFresh (region.getD 0) m.1) (wordNum ow.1 0 8)
      (some (x.1, false), some (0, x.2))
    else if a = 0x68 ∨ a = 0x69 then
      let x := foldVal m.1
      ((if a = 0x69 then (foldCleared m.1).map (fun v => (v, false)) else none), some (x.1 + x.2.1 * 2 ^ 64, x.2.2))
    else
      let x := atomic a r.elem ow.1 m.1
      (x.1.map (fun v => (v, false)), some (x.2.1, x.2.2))
  let x := rmw s k l r.who f
  match x.1 with
  | none =>
    let s1 := x.2.report k K.NDU_POISON_RESULT l.ch l.pc r.off
    finish s1 k r [{ respTo r stPoison (s.frame k) with data := [], inline := 0 }]
  | some (inl, op) =>
    let s1 := serialWait (x.2.count k .ndu l.ch (nduCounter r.op) 1) k r
    let s2 := if a = 0x3E ∧ op &&& opAccOvf ≠ 0 then s1.report k K.NDU_ACC_OVF l.ch l.pc r.off else s1
    let s3 := if isAcc ∧ (s2.stk k).tileSt l.tile ≠ .invalid then accSettle s2 k l r.who else s2
    finish s3 k r [{ respTo r stOk (s.frame k) with opStatus := op, inline := BitVec.ofNat 128 inl }]

/-! ### Descriptors -/

/-- A request of the descriptor's class acting on a stack: its words are no part of a reservation (R178, R198). -/
def reqElem (r : Req) : Who := { r.who with rid := none }

/-- The element's package offset is in range, backed, on a stack that serves and that the descriptor's stack reaches, outside
RETIRED tiles and accumulator regions (R193, R511). -/
def State.elemOk (s : State) (k : Nat) (off : Int) : Bool :=
  if off < 0 ∨ 2 ^ 40 ≤ off then false else
  let o := off.toNat
  if !s.backed o then false else
  let l := s.locOf 0 o
  !s.unreach l.stack && s.reach k l.stack && (s.stk l.stack).tileSt l.tile != .retired && (s.accRegion l.stack o).isNone

/-- The pseudo-channel of an element that does not fail takes its access now: a pause or a pending tracking pass holds it (R249,
R254). -/
def State.elemServes (s : State) (k : Nat) (off : Option Int) : Bool :=
  match off with
  | some o => !s.elemOk k o || (let l := s.locOf 0 o.toNat; s.chanServes l.stack l.ch l.pc)
  | none => true

/-- An element access goes to stack j: counted, over the ring where j is another stack; `back` sends its answer (R34, R178,
R207). -/
def elemSent (s : State) (k j : Nat) : State :=
  let s1 := ((s.ringTx k j).ringTx j k).count k .gth 0 1 1
  if j = k then s1 else s1.count k .gth 0 3 1

/-- Reads the n bytes at an offset for an element: value, or a failure with its poison flag (R193). (DEDUCED, notes/assumptions/44.md) -/
def elemRead (s : State) (k : Nat) (r : Req) (off : Option Int) (n : Nat) : (Option Nat × Bool) × State :=
  match off with
  | none => ((none, true), s)
  | some o =>
    if !s.elemOk k o then ((none, false), s) else
    let a := o.toNat
    let l := s.locOf 0 a
    let rd := readWords (elemSent s k l.stack) l.stack [l] (reqElem r)
    match rd.1 with
    | (v, false) :: _ => ((some (wordNum v (a % 32) n), false), rd.2)
    | _ => ((none, true), rd.2)

/-- Updates the n bytes at an offset for an element; f gives the new value and OP_STATUS. (DEDUCED, notes/assumptions/44.md) -/
def elemWrite (s : State) (k : Nat) (r : Req) (off : Option Int) (n : Nat) (f : Nat → Nat × Nat) :
    (Bool × Bool × Nat) × State :=
  match off with
  | none => ((false, true, 0), s)
  | some o =>
    if !s.elemOk k o then ((false, false, 0), s) else
    let a := o.toNat
    let l := s.locOf 0 a
    let j := l.stack
    let s1 := elemSent s k j
    if n = 32 then ((true, false, 0), writeWords s1 j [l] [(BitVec.ofNat 256 (f 0).1, false)] (reqElem r)) else
    let x := rmw s1 j l (reqElem r) (fun m =>
      if m.2 then (none, none) else
      let v := f (wordNum m.1 (a % 32) n)
      (some (wordSet m.1 (a % 32) n v.1, false), some v.2))
    match x.1 with
    | some op => ((true, false, op), x.2)
    | none => ((false, true, 0), x.2)

/-- Reads one index word of a GATHER (R192, R193); a poisoned one is reported (R206). An index word is no element (R207). -/
def readIndexWord (s : State) (k : Nat) (r : Req) (o : Nat) : Option Word × State :=
  let l := s.locOf 0 o
  let rd := readWords ((s.ringTx k l.stack).ringTx l.stack k) l.stack [l] (reqElem r)
  match rd.1 with
  | (v, false) :: _ => (some v, rd.2)
  | _ => (none, rd.2.report k K.GTH_IDX_POISON 0 0 o)

/-- The index words of a list of n bytes from an offset, from the word at `base` on. -/
def readIndexWords (s : State) (k : Nat) (r : Req) (off n : Nat) : List (Option Word) × State :=
  let base := off / 32
  (List.range (if n = 0 then 0 else (off + n - 1) / 32 + 1 - base)).foldl (fun acc i =>
    let x := readIndexWord acc.2 k r (32 * (base + i))
    (acc.1 ++ [x.1], x.2)) ([], s)

/-- The elements of a descriptor, and the state after its index words have been read (R191, R192). -/
def buildElems (s : State) (k : Nat) (r : Req) : List Elem × State :=
  let w := r.word0
  let off : Int := r.off
  match r.op with
  | 0x60 =>
    let n := scatterSize (bits r.param.toNat 2 0)
    let per := if n = 4 then 4 else 2
    let es := ((r.data.zipIdx).map (fun wi => (List.range per).map (fun j =>
      let b := j * (32 / per)
      ({ idx := wi.2 * per + j,
         src := if wi.1.2 then none else some (off + (wordNum wi.1.1 b 4 : Int) * n),
         dst := none, value := BitVec.ofNat 128 (wordNum wi.1.1 (b + if n = 4 then 4 else 8) n) } : Elem)))).flatten
    (es, s)
  | 0x61 =>
    let iw := if bits (wordNum w 2 1) 2 2 = 0 then 4 else 8
    let at_ := wordNum w 8 5
    let ws := readIndexWords s k r at_ (iw * wordNum w 0 2)
    ((List.range (wordNum w 0 2)).map (fun i =>
      let a := at_ + i * iw
      { idx := i, src := (ws.1.getD (a / 32 - at_ / 32) none).map (fun v => off + (wordNum v (a % 32) iw : Int) * esize w),
        dst := none, value := 0 }), ws.2)
  | 0x62 =>
    ((List.range (wordNum w 0 2)).map (fun i =>
      { idx := i, src := some (off + i * toSigned 32 (wordNum w 4 4)), dst := none, value := 0 }), s)
  | 0x63 =>
    ((List.range (wordNum w 0 2)).map (fun i =>
      { idx := i, src := some (off + i * toSigned 32 (wordNum w 4 4)),
        dst := some ((wordNum w 12 5 : Int) + i * toSigned 32 (wordNum w 8 4)), value := 0 }), s)
  | _ =>
    ((List.range (wordNum w 0 2 + 1)).map (fun i =>
      { idx := i, src := some (off + 32 * i), dst := some ((wordNum w 4 5 : Int) + 32 * i), value := 0 }), s)

/-- An element failed: counted and reported (R193, R206). -/
def elemFailed (s : State) (k : Nat) (off : Option Int) : State :=
  (s.count k .gth 0 2 1).report k K.GTH_ELEM_FAIL 0 0 ((off.getD 0).toNat)

/-- The NDU of an element's channel is marked unusable (R480). -/
def State.elemNduBad (s : State) (k : Nat) (off : Option Int) : Bool :=
  match off with
  | some o => s.elemOk k o && (let l := s.locOf 0 o.toNat; ((s.stk l.stack).ch l.ch).nduUnusable)
  | none => false

/-- One element access (R178, R191 to R193). -/
def doElem (s : State) (k : Nat) (r : Req) (g : Gth) (e : Elem) : Gth × State :=
  let w := r.word0
  let fail := fun (g : Gth) (s : State) (poison : Bool) =>
    ({ g with fails := g.fails ++ [e.idx], poisoned := g.poisoned || poison, opStatus := g.opStatus ||| opElemFail,
              results := g.results ++ [(0, true, poison)] }, elemFailed s k e.src)
  match r.op with
  | 0x60 =>
    let eop := bits r.param.toNat 2 0
    let n := scatterSize eop
    if s.elemNduBad k e.src then fail g s false else
    let x := elemWrite s k r e.src n (fun m =>
      if eop < 2 then ((m + e.value.toNat) % 2 ^ (8 * n), 0) else (if n = 4 then fp32 else fp64).add m e.value.toNat)
    if x.1.1 then ({ g with opStatus := g.opStatus ||| x.1.2.2 }, x.2) else fail g x.2 x.1.2.1
  | 0x61 | 0x62 =>
    let x := elemRead s k r e.src (esize w)
    match x.1.1 with
    | some v => ({ g with results := g.results ++ [(BitVec.ofNat 256 v, false, false)] }, x.2)
    | none => fail g x.2 x.1.2
  | _ =>
    let n := if r.op = 0x63 then esize w else 32
    let x := elemRead s k r e.src n
    match x.1.1 with
    | none => fail g x.2 x.1.2
    | some v =>
      let y := elemWrite x.2 k r e.dst n (fun _ => (v, 0))
      if y.1.1 then (g, y.2) else fail g y.2 y.1.2.1

/-- Descriptors of stack k that wait for a context. -/
def State.waitingDescs (s : State) (k : Nat) : List Req :=
  ((s.stk k).table.filter (fun e => isDesc e.req.op && e.done.isNone && e.gth.isNone)).map Entry.req

/-- Descriptors of stack k that hold a context. -/
def State.busyGth (s : State) (k : Nat) : Nat :=
  ((s.stk k).table.filter (fun e => e.gth.isSome && e.done.isNone)).length

/-- A waiting descriptor may take a context: one of the 16 is free, and none must be taken before it in the order of R143 (R178). -/
def State.descNext (s : State) (k : Nat) (r : Req) : Bool :=
  s.serving && !s.unreach k && decide (s.busyGth k < 16) &&
  (frontier (s.weight k) (s.stk k).wrr beforeTable (s.waitingDescs k)).any (fun q => q.rid == r.rid)

/-- A descriptor takes a free context and its elements queue (R178). (DEDUCED, notes/assumptions/39.md) -/
def startDesc (s : State) (k rid : Nat) : State :=
  match s.entry k rid with
  | some e =>
    if isDesc e.req.op && e.done.isNone && e.gth.isNone && s.descNext k e.req then
      let b := buildElems s k e.req
      (b.2.modEntry k rid (fun e => { e with
        gth := some { todo := b.1, results := [], fails := [], poisoned := false, opStatus := 0 } })).modStk k
        (fun x => { x with wrr := roundAfter (s.weight k) x.wrr (s.waitingDescs k) e.req })
    else s
  | none => s

/-- The accesses of an element may go now. -/
def State.elemMoves (s : State) (k : Nat) (x : Elem) : Bool := s.elemServes k x.src && s.elemServes k x.dst

/-- The next element access of a descriptor (R178); a pause holds it (R254). -/
def stepDesc (s : State) (k rid : Nat) : State :=
  match s.entry k rid with
  | some e =>
    match e.gth with
    | some g =>
      match g.todo with
      | x :: rest =>
        if s.serving && !s.unreach k && s.elemMoves k x then
          let y := doElem s k e.req { g with todo := rest } x
          y.2.modEntry k rid (fun e => { e with gth := some y.1 })
        else s
      | [] => s
    | none => s
  | none => s

/-- Bytes of gathered elements packed in index order. -/
def packElems (n : Nat) (l : List (BitVec 256 × Bool × Bool)) : List Byte := l.flatMap (fun x => bytesOf n x.1.toNat)

/-- The sequence of responses of a gather (R194). (DEDUCED, notes/assumptions/44.md) -/
def gatherResps (r : Req) (g : Gth) (status done : Nat) : List Resp :=
  let n := esize r.word0
  let per := 256 / n
  let groups := chunks per g.results.length g.results
  (groups.zipIdx).map (fun gi =>
    let bs := packElems n gi.1
    let words := (chunks 32 8 bs).map (fun c => BitVec.ofNat 256 (ofBytes c))
    let pw := fun j => ((gi.1.drop (j * (32 / n))).take (32 / n)).any (fun x => x.2.2)
    let map := (gi.1.zipIdx).foldl (fun a x => a + (b2n x.1.2.1 <<< x.2)) 0
    { respTo r status done with
      data := (words.zipIdx).map (fun wj => (wj.1, pw wj.2)), opStatus := g.opStatus,
      inline := BitVec.ofNat 128 (gi.2 + (if gi.2 + 1 = groups.length then 2 ^ 16 else 0) + map * 2 ^ 32) })

/-- Completes a descriptor: performs the elements still queued, then answers (R191, R194, R195). -/
def finishDesc (s : State) (k rid : Nat) (op : Nat) : State :=
  match s.entry k rid with
  | some e =>
    match e.gth with
    | some g =>
      if e.req.op = op && e.done.isNone && s.serving && !s.unreach k && g.todo.all (s.elemMoves k) then
        let r := e.req
        let x := g.todo.foldl (fun (acc : Gth × State) el => doElem acc.2 k r acc.1 el) ({ g with todo := [] }, s)
        let g' := x.1
        let st := if g'.poisoned then stPoison else stOk
        let s1 := (x.2.modEntry k rid (fun e => { e with gth := some g', inRes := false })).count k .gth 0 0 1
        let one := { respTo r st (s.frame k) with opStatus := g'.opStatus }
        let rs := match op with
          | 0x60 => [{ one with inline := BitVec.ofNat 128 (maskOf g'.fails) }]
          | 0x61 | 0x62 => gatherResps r g' st (s.frame k)
          | _ => [{ one with inline := BitVec.ofNat 128 (g'.fails.length +
                    (g'.fails.headD 0xFFFFFFFF) * 2 ^ 32) }]
        finish s1 k r rs
      else s
    | none => s
  | none => s

/-! ### RANGE_ZERO -/

/-- A tile lies in the span of n tiles from a package offset. -/
def State.tileIn (s : State) (k t base n : Nat) : Bool :=
  let o := s.tileBase k t
  decide (base ≤ o) && decide (o < base + 4096 * n)

/-- Stack j clears its tiles of a span: INVALID, lines and accumulators dropped, seals aborted; RETIRED tiles stay and
are counted (R109, R277, R297). Tiles that are INVALID already are unchanged. (DEDUCED, notes/assumptions/45.md) -/
def zeroTiles (s : State) (j base n : Nat) : Nat × State :=
  let ts := ((s.stk j).tiles.map (·.1)).filter (fun t => s.tileIn j t base n)
  ts.foldl (fun acc t =>
    let s1 := dropLines (dropAccs acc.2 j t) j t true
    match (s1.stk j).tileSt t with
    | .retired => (acc.1 + 1, s1)
    | .invalid => (acc.1, s1)
    | _ => (acc.1, ((unlist (dropSeal s1 j t) j t).setTile j t .invalid).count j .tsm 0 1 1)) (0, s)

/-- A stack whose tiles a span can reach. -/
def State.spanStacks (s : State) : List Nat := List.range s.n

/-- RANGE_ZERO at stack j. -/
def doRangeZero (s : State) (k rid j : Nat) : State :=
  match s.entry k rid with
  | some e =>
    if e.req.op = 0x09 && e.done.isNone && s.servable k e.req && decide (j < s.n) && !e.rzDone.contains j && !s.unreach j &&
        s.reach k j then
      let z := zeroTiles ((s.ringTx k j).ringTx j k) j e.req.off (e.req.parNum 0 4)
      z.2.modEntry k rid (fun e => { e with rzDone := e.rzDone ++ [j], rzSkip := e.rzSkip + z.1 })
    else s
  | none => s

/-- The response once every stack has cleared its tiles (R109). (DEDUCED, notes/assumptions/41.md) -/
def doRangeZeroDone (s : State) (k rid : Nat) : State :=
  match s.entry k rid with
  | some e =>
    let out := fun j => s.unreach j || !s.reach k j
    if e.req.op = 0x09 && e.done.isNone && !s.unreach k && (List.range s.n).all (fun j => e.rzDone.contains j || out j) then
      if (List.range s.n).all e.rzDone.contains then
        finish s k e.req [{ respTo e.req stOk (s.frame k) with inline := BitVec.ofNat 128 (e.rzSkip % 2 ^ 32) }]
      else finishSt s k e.req stStackReset
    else s
  | none => s

end Sys2Proof.Machine
end

