-- ==== Sys2Proof/Machine/Cache.lean ====
section
/-! DEFINITION. The commands of the Vitrine: VIT_OP operations (R217 to R219, R229, R230) and SRAM protection and scrub
(R221, R222). -/

namespace Sys2Proof.Machine

/-- A tile lies in the range of VIT_OP_BASE and VIT_OP_TILES (R218). -/
def vitInRange (s : State) (k t : Nat) : Bool :=
  let base := s.fld k 0 F.VIT_OP_BASE_LO_BASE_31_12 * 2 ^ 12 + s.fld k 0 F.VIT_OP_BASE_HI_BASE_39_32 * 2 ^ 32
  let o := s.tileBase k t
  decide (base ≤ o) && decide (o < base + 4096 * s.fld k 0 F.VIT_OP_TILES_TILES)

/-- Lines that a VIT_OP with this value selects: never parity lines (R217, R218). -/
def vitSelects (s : State) (k v : Nat) (y : Line) : Bool :=
  !y.parity &&
  (match bits v 27 26 with
   | 0 => true
   | 1 => vitInRange s k (y.loc k 0).tile
   | _ => y.label == bits v 11 0)

/-- Writes back one selected line and spills its accumulators (R217). -/
def flushLine (s : State) (k : Nat) (w : Who) (y : Line) : State :=
  let s1 := (lineAccs s k y).foldl (fun s a => spillAcc s k a w) s
  match (s1.stk k).line (y.loc k 0) false with
  | some z => writeBack s1 k z w
  | none => s1

/-- The lines that an operation selects, in the order of its walk: the 512 sets of every slice, set by set (R219). -/
def vitWalk (s : State) (k v : Nat) : List Line :=
  let sel := ((s.stk k).lines).filter (vitSelects s k v)
  (List.range 512).flatMap (fun i => sel.filter (fun y => y.set == i))

/-- A write of VIT_OP (R217, R229, R230): its fields take their values; a GO while BUSY or with a reserved code is rejected. The
write-backs of an operation queue in the order of the walk (R219). -/
def writeVitOp (s : State) (k v : Nat) : State :=
  let s0 := s.setFlds k 0 [(F.VIT_OP_ACTION, bits v 29 28), (F.VIT_OP_SCOPE, bits v 27 26), (F.VIT_OP_LABEL, bits v 11 0)]
  if !bitAt v 31 then s0
  else if s.flag k 0 F.VIT_OP_STATUS_BUSY || bits v 29 28 == 3 || bits v 27 26 == 3 then s0.setFld k 0 F.VIT_OP_STATUS_REJECTED 1
  else
    let sel := vitWalk s0 k v
    let act := bits v 29 28
    let s1 := if act = 1 then s0 else sel.foldl (fun s y => flushLine s k (s0.flushWho k) y) s0
    let s2 := if act = 0 then s1 else sel.foldl (fun s y => dropLine s k y) s1
    s2.setFlds k 0 [(F.VIT_OP_STATUS_BUSY, 1), (F.VIT_OP_STATUS_DONE, 0), (F.VIT_OP_STATUS_REJECTED, 0),
      (F.VIT_OP_STATUS_LINES, sel.length)]

/-- A VIT_OP command: a write of VIT_OP with GO 1 and its ACTION. (DEDUCED, notes/assumptions/45.md) -/
def vitOp (s : State) (k act v : Nat) : State :=
  if s.winOk k && bitAt v 31 && bits v 29 28 == act then writeVitOp s k v else s

/-- VIT_OP FLUSH (R217). -/
def execVitFlush (_src : Source) (k : Nat) (v : Reg32) (s : State) : Out := .next (vitOp s k 0 v.toNat)

/-- VIT_OP INVALIDATE (R217). -/
def execVitInvalidate (_src : Source) (k : Nat) (v : Reg32) (s : State) : Out := .next (vitOp s k 1 v.toNat)

/-- VIT_OP FLUSH_INV (R217). -/
def execVitFlushInv (_src : Source) (k : Nat) (v : Reg32) (s : State) : Out := .next (vitOp s k 2 v.toNat)

/-- Write-backs of a VIT_OP still wait on stack k (R219). -/
def State.opWaits (s : State) (k : Nat) : Bool := (s.stk k).chans.any (fun c => c.pcs.any (fun p => p.wbq.any Wb.op))

/-- The last write-back of an operation has been performed: DONE, and OP_DONE pulses (R219). (DEDUCED, notes/assumptions/45.md) -/
def execVitOpDone (k : Nat) (s : State) : Out :=
  .next (if s.flag k 0 F.VIT_OP_STATUS_BUSY && !s.opWaits k then
    (s.setFlds k 0 [(F.VIT_OP_STATUS_BUSY, 0), (F.VIT_OP_STATUS_DONE, 1)]).event k .vit 0 0 else s)

/-- SRAM words of a slice that a scrub pass reads, counted as lines (R208, R222). -/
def vitScrubPass : Nat := 8192

/-- SCRUB_FRAMES (R228). -/
def State.vitPeriod (s : State) (k : Nat) : Nat := max 1024 (s.fld k 0 F.VIT_SCRUB_SCRUB_FRAMES)

/-- One line read in the scrub pass of a slice; the read of the last one completes the pass (R222). -/
def Stack.vitScrubbed (x : Stack) (ch line : Nat) : Stack :=
  let m := x.vitScrubSeen.getD ch 0 ||| 2 ^ line
  if m = 2 ^ vitScrubPass - 1 then
    { x with vitScrubSeen := x.vitScrubSeen.set ch 0, vitScrubStart := x.vitScrubStart.set ch x.tm.ticks }
  else { x with vitScrubSeen := x.vitScrubSeen.set ch m }

/-- A scrub read of one SRAM word: slice ch, line set × 16 + way (R221, R222). -/
def execVitSramScrub (k ch line : Nat) (err : Option SramErr) (s : State) : Out :=
  .next (if !s.flag k 0 F.VIT_CTRL_SCRUB_EN || s.unreach k || !s.serving || decide (32 ≤ ch) || decide (vitScrubPass ≤ line) then s else
    let s1 := match err, (s.stk k).lines.find? (fun y => y.ch == ch && y.set == line / 16 && y.way == line % 16) with
      | some e, some y => vitError s k y e
      | some .single, none => vitCorrect s k ch
      | _, _ => s
    s1.modStk k (fun x => x.vitScrubbed ch line))

/-- Slices whose scrub pass has outrun its period (R222). -/
def State.vitLate (s : State) (k : Nat) : List Nat :=
  pick 32 (fun ch => decide (s.vitPeriod k ≤ s.now k - (s.stk k).vitScrubStart.getD ch 0))

/-- A scrub pass that has not completed at the end of its period is logged and continues (R222). -/
def execVitScrubLate (k : Nat) (s : State) : Out :=
  .next (if s.flag k 0 F.VIT_CTRL_SCRUB_EN && !(s.vitLate k).isEmpty then
      (s.modStk k (fun x => { x with vitScrubStart := (s.vitLate k).foldl (fun l ch => l.set ch x.tm.ticks) x.vitScrubStart })).report
        k K.VIT_SCRUB_LATE 0 0 0
    else s)

end Sys2Proof.Machine
end

