-- ==== Sys2Proof/Machine/Coding.lean ====
section
/-! DEFINITION. The line coding of a Nimnex lane: Gray mapping (R303), alignment markers (R304, R305), blocks (R306), the
scrambler (R307), the LDPC code (R310), stuffing and pads (R312, R313), test patterns (R328) and injected errors (R329), and the
period trailer's words (R347). Lines are lists of levels 0 to 3, first symbol first. -/

namespace Sys2Proof.Machine

/-! ### Levels -/

/-- The level of a pair of bits, the first bit the more significant (R303). -/
def grayLevel (hi lo : Bool) : Nat :=
  match hi, lo with
  | false, false => 0
  | false, true => 1
  | true, true => 2
  | true, false => 3

/-- The pair of bits of a level (R303). -/
def levelBits (l : Nat) : List Bool :=
  match l with
  | 0 => [false, false]
  | 1 => [false, true]
  | 2 => [true, true]
  | _ => [true, false]

/-- Lane bits as levels, in consecutive pairs (R303). -/
def graySymbols : List Bool → List Nat
  | a :: b :: l => grayLevel a b :: graySymbols l
  | _ => []

/-- A level as an inverted lane carries it (R319). -/
def invertLevel (l : Nat) : Nat := 3 - l

/-- A line symbol hit by an injected error (R329). -/
def injectedLevel (l : Nat) : Nat := if l = 3 then 2 else l + 1

/-- Bits 0 to n − 1 of a number, bit 0 first. -/
def lowBits (n v : Nat) : List Bool := (List.range n).map (fun i => v.testBit i)

/-- The number with these bits, bit 0 first. -/
def ofBits : List Bool → Nat
  | [] => 0
  | b :: l => b2n b + 2 * ofBits l

/-! ### Markers -/

/-- The comma of R304, symbols 0 to 39. -/
def comma : List Nat :=
  [3, 0, 3, 1, 0, 3, 2, 0, 3, 0, 1, 3, 0, 2, 3, 0, 3, 1, 2, 0, 3, 0, 2, 1, 3, 0, 3, 2, 0, 1, 3, 0, 1, 2, 3, 0, 3, 0, 2, 3]

/-- Information bit i of a marker: the pair (0, 3) is 0, (3, 0) is 1 (R304). -/
def markerBit (l : List Nat) (i : Nat) : Option Bool :=
  match l.getD (40 + 2 * i) 9, l.getD (41 + 2 * i) 9 with
  | 0, 3 => some false
  | 3, 0 => some true
  | _, _ => none

/-- The information bits of a marker, if its comma matches, its end symbols are 2 and 1, and its parity is odd (R304,
R305). -/
def markerInfo (l : List Nat) : Option Nat :=
  let bs := (List.range 11).map (markerBit l)
  if l.length = 64 ∧ l.take 40 = comma ∧ l.drop 62 = [2, 1] ∧ bs.all (·.isSome) then
    let v := (bs.zipIdx).foldl (fun a x => a + b2n (x.1.getD false) * 2 ^ x.2) 0
    if (bs.filter (· == some true)).length % 2 = 1 then some v else none
  else none

/-- A bit as the pair of levels that markers and framing-B trailers send (R304, R347). -/
def pairSymbols (b : Bool) : List Nat := if b then [3, 0] else [0, 3]

/-- A marker sent with these fields (R304, R305). -/
def markerSymbols (lane framing kind seq : Nat) : List Nat :=
  let v := lane % 8 + (framing % 2) * 8 + (kind % 4) * 16 + (seq % 16) * 64
  let ones := ((List.range 10).filter (bitAt v)).length
  let w := v + (if ones % 2 = 0 then 1024 else 0)
  comma ++ (List.range 11).flatMap (fun i => pairSymbols (bitAt w i)) ++ [2, 1]

/-! ### Scrambler and blocks -/

/-- Scrambles bits: s(n) = d(n) xor s(n−39) xor s(n−58); bit i of the state is s(n−1−i) (R307). -/
def scramble : BitVec 58 → List Bool → List Bool × BitVec 58
  | st, [] => ([], st)
  | st, d :: l =>
    let b := d ^^ st.getLsbD 38 ^^ st.getLsbD 57
    let r := scramble ((st <<< 1) ||| (if b then 1 else 0)) l
    (b :: r.1, r.2)

/-- Recovers scrambled bits: d(n) = s(n) xor s(n−39) xor s(n−58) (R307). -/
def descramble : BitVec 58 → List Bool → List Bool × BitVec 58
  | st, [] => ([], st)
  | st, b :: l =>
    let d := b ^^ st.getLsbD 38 ^^ st.getLsbD 57
    let r := descramble ((st <<< 1) ||| (if b then 1 else 0)) l
    (d :: r.1, r.2)

/-- The symbol of a block's header, its two bits in the order R306 writes them. (DEDUCED, notes/assumptions/50.md) -/
def headerSymbol (h : Nat) : Nat := grayLevel (bitAt h 1) (bitAt h 0)

/-- The 33 symbols of a block with header h and 64 payload bits as they are sent (R306). -/
def blockSymbols (h : Nat) (payload : List Bool) : List Nat := headerSymbol h :: graySymbols payload

/-- A block with its payload scrambled, and the scrambler's next state (R306, R307). -/
def scrambledBlock (st : BitVec 58) (h v : Nat) : List Nat × BitVec 58 :=
  let r := scramble st (lowBits 64 v)
  (blockSymbols h r.1, r.2)

/-- A received block's header and descrambled payload, with the descrambler's next state; the header is bits [1:0], the payload
bits [65:2] (R306, R307). -/
def readBlock (st : BitVec 58) (b : BitVec 66) : (Nat × Nat) × BitVec 58 :=
  let r := descramble st (lowBits 64 (b.toNat / 4))
  ((b.toNat % 4, ofBits r.1), r.2)

/-! ### LDPC code -/

/-- Column block j of a codeword. -/
def ldpcBlock (c : BitVec 2048) (j : Nat) : BitVec 64 := c.extractLsb' (64 * j) 64

/-- A circulant of shift m applied to a block: row r reads column (r + m) mod 64 (R310). -/
def circ (m : Nat) (u : BitVec 64) : BitVec 64 := u.rotateRight (m % 64)

/-- The sums of column blocks 0 to 29 in the two row blocks (R310). -/
def ldpcSums (c : BitVec 2048) : BitVec 64 × BitVec 64 :=
  (List.range 30).foldl (fun a j => (a.1 ^^^ circ j (ldpcBlock c j), a.2 ^^^ circ (3 * j) (ldpcBlock c j))) (0, 0)

/-- The parity check H · c = 0 (R310). -/
def ldpcOk (c : BitVec 2048) : Bool :=
  let a := ldpcSums c
  a.1 ^^^ ldpcBlock c 30 == 0 && a.2 ^^^ circ 1 (ldpcBlock c 30) ^^^ ldpcBlock c 31 == 0

/-- The codeword of 1,920 information bits (R310). -/
def ldpcEncode (u : BitVec 1920) : BitVec 2048 :=
  let c : BitVec 2048 := u.zeroExtend 2048
  let a := ldpcSums c
  let p1 := a.2 ^^^ circ 1 a.1
  c ||| (a.1.zeroExtend 2048 <<< 1920) ||| (p1.zeroExtend 2048 <<< 1984)

/-- Hard decisions of soft values: a negative value is a 1. -/
def hardBits (soft : List Int) : BitVec 2048 :=
  BitVec.ofNat 2048 ((soft.zipIdx).foldl (fun a x => if x.1 < 0 then a ||| 2 ^ x.2 else a) 0)

/-- Bits that differ between two words. -/
def bitDiff (n a b : Nat) : Nat := ((List.range n).filter (fun i => (a ^^^ b).testBit i)).length

/-- The decoder: a word that satisfies H takes 0 iterations; otherwise its output and iteration count are those of
Config.ldpcDecode, at most 8 (R311, DESIGN CHOICE, notes/assumptions/6.md). -/
def ldpcDecode (soft : List Int) : BitVec 2048 × Nat :=
  let h := hardBits soft
  if ldpcOk h then (h, 0) else ((Config.ldpcDecode soft).1, min 8 (max 1 (Config.ldpcDecode soft).2))

/-! ### Stuffing and pads -/

/-- A count of identical symbols: the level last seen and how often in a row. -/
abbrev RunCount := Nat × Nat

/-- The count after one more symbol. -/
def RunCount.step (c : RunCount) (x : Nat) : RunCount := if c.1 = x ∧ 0 < c.2 then (x, c.2 + 1) else (x, 1)

/-- The stuff symbol after a run of a level (R312). -/
def stuffLevel (x : Nat) : Nat := if x < 2 then 3 else 0

/-- The transmitter's stuffing: after 11 identical codeword symbols a stuff symbol, and a new count (R312). Answers the line, the
count, and the number of stuff symbols. -/
def stuff : RunCount → List Nat → List Nat × RunCount × Nat
  | c, [] => ([], c, 0)
  | c, x :: l =>
    let c' := c.step x
    if c'.2 = 11 then
      let r := stuff (0, 0) l
      (x :: stuffLevel x :: r.1, r.2.1, r.2.2 + 1)
    else
      let r := stuff c' l
      (x :: r.1, r.2)

/-- The receiver's counting: the symbol after 11 identical ones is removed, whatever its level (R312). Symbols come with their soft
values. -/
def destuff {α : Type} : RunCount → List (Nat × α) → List (Nat × α) × RunCount
  | c, [] => ([], c)
  | c, x :: l =>
    if c.2 = 11 then destuff (0, 0) l
    else
      let r := destuff (c.step x.1) l
      (x :: r.1, r.2)

/-- n pad symbols, alternating 0 and 3, starting with 0 (R313). -/
def padSymbols (n : Nat) : List Nat := (List.range n).map (fun i => if i % 2 = 0 then 0 else 3)

/-- A trailer word on a framing-B lane: 112 symbols (R347). -/
def trailerSymbols (w : BitVec 56) : List Nat := (lowBits 56 w.toNat).flatMap pairSymbols

/-- The CRC-32 of a period trailer over OS0 to OS6 (R347). -/
def trailerCrc (ws : List (BitVec 56)) : Nat := crc32 ((ws.take 7).flatMap (fun w => bytesOf 7 w.toNat))

/-- A period trailer with START_SEQ and EVENT (R347). -/
def trailer (start event : Nat) : List (BitVec 56) :=
  let ws : List (BitVec 56) := BitVec.ofNat 56 (start % 4096 + event * 2 ^ 16) :: List.replicate 6 0
  ws ++ [BitVec.ofNat 56 (trailerCrc ws)]

/-! ### Units -/

/-- Unit j of a flit: 64 bits of its slot j / 4 (R338). -/
def flitUnit (ws : List Word) (j : Nat) : BitVec 64 := (ws.getD (j / 4) 0).extractLsb' (64 * (j % 4)) 64

/-- The four units of a flit that a lane carries, if the flit's first unit goes to lane b (R338). -/
def laneUnits (ws : List Word) (b lane : Nat) : List (BitVec 64) :=
  (List.range 4).map (fun i => flitUnit ws ((lane + 8 - b % 8) % 8 + 8 * i))

/-- The flit of 32 units, unit 0 first (R338). -/
def flitOfUnits (us : List (BitVec 64)) : List Word :=
  (List.range 8).map (fun k => BitVec.ofNat 256 ((List.range 4).foldl (fun a i => a + (us.getD (4 * k + i) 0).toNat * 2 ^ (64 * i)) 0))

/-- Bytes of a list of flits, first flit, first slot, byte 0 first. -/
def flitBytes (fs : List (List Word)) : List Byte := (fs.flatMap id).flatMap (fun w => (List.range 32).map (wordByte w))

/-- Payload of control block i of a framing-A group with CRC c: TYPE 0x1E, index, CRC-32 (R339). -/
def groupTrailer (i c : Nat) : Nat := 0x1E + i * 2 ^ 8 + c * 2 ^ 16

/-- Payload of a framing-A trailer block: TYPE 0x2D and a trailer word (R347). -/
def trailerPayload (w : BitVec 56) : Nat := 0x2D + w.toNat * 2 ^ 8

/-! ### Test patterns -/

/-- The next bit of PRBS13 (x^13 + x^12 + x^2 + x + 1) or PRBS31 (x^31 + x^28 + 1); bit i of the register is the bit sent i + 1 bits
ago (R328). -/
def prbsBit (q13 : Bool) (r : Nat) : Bool :=
  if q13 then r.testBit 12 ^^ r.testBit 11 ^^ r.testBit 1 ^^ r.testBit 0 else r.testBit 30 ^^ r.testBit 27

/-- The register after a bit. -/
def prbsPush (q13 : Bool) (r : Nat) (b : Bool) : Nat := (2 * r + b2n b) % 2 ^ (if q13 then 13 else 31)

/-- The next symbol of a generator, and its register (R328). -/
def prbsSymbol (q13 : Bool) (r : Nat) : Nat × Nat :=
  let a := prbsBit q13 r
  let r1 := prbsPush q13 r a
  let b := prbsBit q13 r1
  (grayLevel a b, prbsPush q13 r1 b)

/-- n symbols of a generator, and its register. -/
def prbsRun (q13 : Bool) : Nat → Nat → List Nat × Nat
  | 0, r => ([], r)
  | n + 1, r =>
    let x := prbsSymbol q13 r
    let y := prbsRun q13 n x.2
    (x.1 :: y.1, y.2)

/-- A checker: its register, the error-free symbols in a row before it locks, whether it is locked, and the symbols checked and in
error (R328). -/
structure Checker where
  reg    : Nat
  run    : Nat
  locked : Bool
  seen   : Nat
  errors : Nat

/-- A checker takes a symbol: before it locks its register follows the received bits; 64 error-free symbols lock it, and it then
runs by itself and counts (R328). (DESIGN CHOICE, notes/assumptions/78.md) -/
def Checker.step (q13 : Bool) (c : Checker) (x : Nat) : Checker :=
  let e := prbsSymbol q13 c.reg
  if c.locked then { c with reg := e.2, seen := c.seen + 1, errors := c.errors + b2n (e.1 != x) }
  else
    let run := if c.reg ≠ 0 ∧ e.1 = x then c.run + 1 else 0
    { c with reg := (levelBits x).foldl (prbsPush q13) c.reg, run := run, locked := decide (64 ≤ run) }

/-! ### Injected errors -/

/-- Errors on a line: `left` symbols at once, and one symbol in every `rate`, the counter c running on (R329). Answers the line, the
symbols of a single or burst injection still to hit, and the counter. (DESIGN CHOICE, notes/assumptions/78.md) -/
def injectLine (rate : Option Nat) : Nat → Nat → List Nat → List Nat × Nat × Nat
  | left, c, [] => ([], left, c)
  | left, c, x :: l =>
    let due := match rate with | some m => decide (m ≤ c + 1) | none => false
    let r := injectLine rate (left - 1) (if due then 0 else c + 1) l
    ((if due || decide (0 < left) then injectedLevel x else x) :: r.1, r.2)

end Sys2Proof.Machine
end

