-- ==== Sys2Proof/Machine/Flow.lean ====
section
/-! DEFINITION. The request path outside the serving stack's engines: arrival at a port (R112, R113, R132), release from
ingress with the form check, the bucket, the route and the offset check (R107, R136, R138, R366, R63), the admission
queue and the request table (R139 to R144), FENCE (R121), responses (R119, R140), forwarding (R368 to R370), late
responses (R117), response stalls (R147). -/

namespace Sys2Proof.Machine

/-! ### Buckets, credits, arrival -/

/-- RATE of a label in stack k's label table (R152). -/
def State.rate (s : State) (k l : Nat) : Nat := s.labelFld k l F.LABEL_W1_RATE

/-- A full bucket, in eighths of a word (R159). -/
def State.bucketFull (s : State) (k l : Nat) : Int := 8 * (max 8 (s.labelFld k l F.LABEL_W1_BURST) : Nat)

/-- Count of a label's bucket at a port; an unlisted bucket is full. -/
def State.bucket (s : State) (p l : Nat) : Int := mget (s.prt p).buckets l (s.bucketFull (p / 4) l)

/-- The bucket lets the head of a context leave (R159). -/
def State.bucketAllows (s : State) (p : Nat) (r : Req) : Bool :=
  r.op == 0x08 || s.rate (p / 4) r.label == 0 || decide (0 < s.bucket p r.label)

/-- Takes the cost of a request from its bucket; the count may fall as low as −64 (R159). -/
def State.spend (s : State) (p : Nat) (r : Req) : State :=
  if r.op = 0x08 ∨ s.rate (p / 4) r.label = 0 then s else
  s.modPort p (fun x => { x with
    buckets := mput x.buckets r.label (max (-64) (s.bucket p r.label - 8 * r.cost)) (s.bucketFull (p / 4) r.label) })

/-- Credit profile of a context (R149, R150). -/
def State.profile (s : State) (p ctx : Nat) : Nat :=
  bits (s.raw (p / 4) .nxp (p % 4) (0x440 + 4 * (ctx / 8))) (4 * (ctx % 8) + 3) (4 * (ctx % 8))

/-- REQ_SLOTS granted to a context (R130, R149). -/
def State.reqSlots (s : State) (p ctx : Nat) : Nat := bits (s.raw (p / 4) .nxp (p % 4) (0x400 + 4 * s.profile p ctx)) 9 0

/-- OUTSTANDING of a context (R132, R149). -/
def State.outLimit (s : State) (p ctx : Nat) : Nat := bits (s.raw (p / 4) .nxp (p % 4) (0x400 + 4 * s.profile p ctx)) 25 16

/-- Credits that the sender holds for a context; unlisted: its grant (R130). (DEDUCED, notes/assumptions/42.md) -/
def State.credits (s : State) (p ctx : Nat) : Int := mget (s.prt p).ctxCred ctx (s.reqSlots p ctx)

/-- Class, overflow class and deadline of a request, fixed once on arrival (R112, R113, R154, R52). A default deadline
slot of 2,047 takes the slot offset of arrival, a free value (DESIGN CHOICE, notes/assumptions/12.md). -/
def lookLabel (s : State) (p : Nat) (r : Req) : Req × State :=
  let k := p / 4
  let cls := s.labelFld k r.label F.LABEL_W0_CLASS
  let ovf := ovfCode (s.labelFld k r.label F.LABEL_W0_OVF_CLASS)
  let d := (r.dlFrame + 65536 - s.frame k % 65536) % 65536
  let slot := s.labelFld k r.label F.LABEL_W2_DEF_DL_SLOT
  let dr := if r.dlValid = false ∧ slot = 2047 then s.draw else (0, s)
  let off := if r.dlValid then min 1599 r.dlSlot else if slot = 2047 then dr.1 % 1600 else min 1599 slot
  let ticks : Int := if r.dlValid then (if d < 32768 then d else (d : Int) - 65536)
    else s.labelFld k r.label F.LABEL_W2_DEF_DL_FRAMES
  ({ r with cls := cls, ovf := ovf, dlTicks := ticks, dlOff := off }, dr.2)

/-- A request enters a port's ingress buffer: it takes its credits and is outstanding (R130, R132). (DEDUCED, notes/assumptions/52.md) -/
def arrive (s : State) (p : Nat) (r : Req) : State :=
  let x := lookLabel s p { r with rid := s.nextRid }
  let c := x.2.credits p r.reqId
  let s1 := { x.2 with nextRid := s.nextRid + 1 }.modPort p (fun y => { y with
    ingress := y.ingress ++ [x.1], ctxCred := mput y.ctxCred r.reqId (c - r.slots) (s.reqSlots p r.reqId),
    outst := mput y.outst r.reqId (mget y.outst r.reqId 0 + 1) 0 })
  let s2 := { s1 with idleFrames := 0 }
  if r.vc = .fwd then s2.count (p / 4) .rte 0 1 1 else s2

/-- A request leaves ingress: its credits return to the sender by LCRD (R131), unless the context holds its new grant
already (R134). -/
def leaveIngress (s : State) (p : Nat) (r : Req) : State :=
  let c := s.credits p r.reqId
  let grant : Int := s.reqSlots p r.reqId
  let back := min (r.slots : Int) (grant - c)
  s.modPort p (fun x => { x with
    ingress := x.ingress.filter (fun q => q.rid != r.rid),
    ctxCred := if 0 < back then mput x.ctxCred r.reqId (c + back) grant else x.ctxCred,
    lcrdOut := if 0 < back then x.lcrdOut ++ [(r.reqId, back.toNat)] else x.lcrdOut })

/-! ### RSP egress -/

/-- Flit slots of a response. -/
def Resp.slots (r : Resp) : Nat := 1 + r.data.length

/-- Flit slots held in RSP egress. -/
def Port.rspUsed (x : Port) : Nat := (x.rspOut.map Resp.slots).sum

/-- RSP egress of a port has room for n flit slots, with nothing waiting for it (R129, R140). -/
def State.rspRoom (s : State) (p n : Nat) : Bool :=
  let x := s.prt p
  x.rspWait.isEmpty && decide (x.rspUsed + n ≤ 4096)

/-- A response enters RSP egress of its port, or waits while that is full (R129, R133); one of a request from before a link reset
is discarded there (R354). -/
def pushRsp (s : State) (r : Resp) : State :=
  let room := s.rspRoom r.port r.slots
  s.modPort r.port (fun x =>
    if r.rid < x.dropBelow then x
    else if room then { x with rspOut := x.rspOut ++ [r] } else { x with rspWait := x.rspWait ++ [r] })

/-- Responses that wait enter RSP egress in their order as it frees flit slots (R133). -/
def settleRsp (x : Port) : Port :=
  x.rspWait.foldl (fun (y : Port) r =>
    match y.rspWait with
    | w :: rest => if w = r ∧ y.rspUsed + w.slots ≤ 4096 then { y with rspOut := y.rspOut ++ [w], rspWait := rest } else y
    | [] => y) x

/-- A request ends at its arrival port with a status; it needs room in RSP egress for an acknowledged request or a
posted failure. None while there is no room. -/
def endAtPort (s : State) (r : Req) (st : Nat) : Option State :=
  let k := r.port / 4
  if !s.rspRoom r.port 1 then none else
  let s1 := pushRsp s (respTo r st (s.frame k))
  some (if isPosted r.op then (s1.endOutst r.port r.reqId r.rid).report k K.STK_POSTED_FAIL 0 0 r.off else s1)

/-- A response that comes after its request has ended with TIMEOUT is discarded and logged by the arrival stack (R117). -/
def lateRsp (s : State) (k rid : Nat) : State :=
  { s with timedOut := s.timedOut.filter (· != rid) }.report k K.STK_LATE_RSP 0 0 0

/-- Stack k ends a request with a status: the response crosses the ring to the arrival port, and waits in k while it cannot (R20, R21,
R140). One with no path back is discarded (R511), as is one whose request has ended with TIMEOUT (R117). -/
def endFrom (s : State) (k : Nat) (r : Req) (st : Nat) : Option State :=
  let a := r.port / 4
  if !s.reach k a then some { s with timedOut := s.timedOut.filter (· != r.rid) }
  else if k != a && !s.ringOn then none
  else if s.timedOut.contains r.rid then some ((lateRsp s a r.rid).ringTx k a)
  else (endAtPort s r st).map (fun s => s.ringTx k a)

/-! ### Release from ingress -/

/-- Head of a context in a port's ingress. -/
def Port.head (x : Port) (ctx : Nat) : Option Req := x.ingress.find? (fun r => r.reqId == ctx)

/-- Heads of all contexts. -/
def Port.heads (x : Port) : List Req :=
  (x.ingress.foldl (fun (acc : List Nat × List Req) r =>
    if acc.1.contains r.reqId then acc else (r.reqId :: acc.1, acc.2 ++ [r])) ([], [])).2

/-- A FENCE of the context has not been answered (R121). -/
def Port.fenced (x : Port) (ctx : Nat) : Bool := x.fences.any (fun r => r.reqId == ctx)

/-- The outstanding limit lets the head leave (R132). -/
def State.outAllows (s : State) (p : Nat) (r : Req) : Bool :=
  let x := s.prt p
  let waiting := (x.ingress.filter (fun q => q.reqId == r.reqId)).length
  decide (mget x.outst r.reqId 0 - waiting + 1 ≤ s.outLimit p r.reqId)

/-- What the route table says of a request at its arrival stack (R366). -/
inductive Route where
  | noEntry | localPkg | hops | upDown | wait
  | forward (q : Nat)
  deriving DecidableEq, Repr

/-- A port is in ACTIVE (R318). -/
def State.portActive (s : State) (q : Nat) : Bool := (s.prt q).lstate == .active

/-- Ports of a group, ascending (R365, R367). -/
def State.groupPorts (s : State) (k g : Nat) : List Nat :=
  pick (4 * s.n) (fun q => bitAt (s.raw k .rte 0 (0x500 + 4 * g)) q)

/-- The route of a request (R366, R367). -/
def State.routeOf (s : State) (r : Req) : Route :=
  let k := r.port / 4
  let e := s.route k (r.addr.toNat / 2 ^ 40)
  let g := s.groupPorts k (bits e 4 0)
  let act := g.filter s.portActive
  if !bitAt e 31 then .noEntry
  else if bitAt e 30 then .localPkg
  else if 3 < r.hops + bits e 29 28 then .hops
  else if r.vc = .fwd ∧ s.markDown k r.port = false ∧ (g.head?.map (s.markDown k)) = some false then .upDown
  else if act.isEmpty then .wait
  else
    let a := r.addr.toNat
    .forward (act.getD ((bits a 19 12 ^^^ bits a 27 20 ^^^ (r.reqId % 256)) % act.length) 0)

/-- Room in the admission-queue partition for a request (R139). -/
def State.admRoom (s : State) (k : Nat) (r : Req) : Bool :=
  let src := r.port / 4
  let inQ := (((s.stk k).admQ ++ s.transit.filter (fun q => q.home == k)).filter (fun q => q.port / 4 == src)).length
  decide (inQ < (if isGuar r.cls || r.aged then 512 else 448))

/-- Data words of the response of an acknowledged request, for the reservation of R136: at most 8. -/
def respWords (r : Req) : Nat :=
  if r.op = 0x01 then r.len else if r.op = 0x61 ∨ r.op = 0x62 then 8 else 0

/-- Downstream context of a forwarded request (R368). -/
def downCtx (r : Req) : Nat := (r.reqId ^^^ (r.port * 32)) % 1024

/-- A free forward record index of a port (R368). An index whose record ended with TIMEOUT is taken again only when no other is
free, the oldest first, so that a response that still comes finds no record (R117; DESIGN CHOICE, notes/assumptions/80.md). -/
def freeRec (x : Port) : Option Nat :=
  if 4096 ≤ x.fwdRecs.length then none
  else match (List.range (x.fwdRecs.length + x.staleRecs.length + 1)).find? (fun i =>
      decide (i < 4096) && !x.fwdRecs.any (fun f => f.idx == i) && !x.staleRecs.contains i) with
    | some i => some i
    | none => x.staleRecs.head?

/-- Flit slots that a record's responses hold in RSP ingress beyond its reservation (R137). -/
def Port.recExtra (x : Port) (f : FwdRec) : Nat :=
  ((x.rspIn.filter (fun r => r.tag == f.idx)).map Resp.slots).sum - (1 + respWords f.req)

/-- Flit slots of RSP ingress taken: the reservations, what responses hold beyond them, and responses without a record (R129,
R136). -/
def Port.rspInUsed (x : Port) : Nat :=
  x.rspInRsv + (x.fwdRecs.map x.recExtra).sum +
  ((x.rspIn.filter (fun r => !x.fwdRecs.any (fun f => f.idx == r.tag))).map Resp.slots).sum

/-- The forwarding conditions of R136 and R368 on port q: a record, the peer's credits, FWD egress, RSP ingress. -/
def State.fwdRoom (s : State) (q : Nat) (r : Req) : Bool :=
  let x := s.prt q
  (freeRec x).isSome && decide (r.slots ≤ mget x.peerCred (downCtx r) 0) &&
  decide ((x.fwdOut.map (fun m => 1 + m.data.length)).sum + r.slots ≤ 4096) &&
  decide (x.rspInUsed + 1 + respWords r ≤ 4096)

/-- Forwards a request on port q (R368). -/
def forwardOn (s : State) (q : Nat) (r : Req) : State :=
  let x := s.prt q
  match freeRec x with
  | none => s
  | some i =>
    let out := { r with op := ackForm r.op, reqId := downCtx r, tag := i, hops := r.hops + 1 }
    let s1 := s.modPort q (fun x => { x with
      fwdRecs := x.fwdRecs ++ [{ idx := i, req := r, age := 0, posted := isPosted r.op }],
      staleRecs := x.staleRecs.filter (· != i),
      peerCred := mset x.peerCred (downCtx r) (mget x.peerCred (downCtx r) 0 - r.slots),
      rspInRsv := x.rspInRsv + 1 + respWords r,
      fwdOut := x.fwdOut ++ [{ header := headerOfReq out, data := r.data }] })
    ((s1.ringTx (r.port / 4) (q / 4))).count (r.port / 4) .rte 0 0 1

/-- The head can leave now: bucket, outstanding limit and room at its destination (R132, R136); a request that ends at the port
needs room for its response. After HALT no bucket and no destination holds it: it ends at the port (R463). -/
def State.canLeave (s : State) (p : Nat) (r : Req) : Bool :=
  r.op != 0x08 && !(s.prt p).fenced r.reqId && s.outAllows p r &&
  (if !r.formOk || s.halt.isSome then s.rspRoom p 1
   else s.bucketAllows p r &&
    (match s.routeOf r with
     | .localPkg =>
       let home := (s.locOf (p / 4) r.off).stack
       if !s.reqBacked r || s.unreach home || !s.reach (p / 4) home then s.rspRoom p 1 else s.admRoom home r
     | .forward q => if !s.reach (p / 4) (q / 4) then s.rspRoom p 1 else s.fwdRoom q r
     | .wait => false
     | _ => s.rspRoom p 1))

/-- Among best-effort heads of one class with equal deadlines contexts take turns: places until a context's next turn (R138). -/
def State.turnAway (s : State) (p : Nat) (r : Req) : Nat :=
  (r.reqId + 1023 - mget (s.prt p).rrCtx r.cls 1023) % 1024

/-- The well-formed heads of a port that can leave. -/
def State.readyHeads (s : State) (p : Nat) : List Req :=
  (s.prt p).heads.filter (fun q => q.formOk && s.canLeave p q)

/-- The head is one that may leave next (R138, R158). -/
def State.isTurn (s : State) (p : Nat) (r : Req) : Bool :=
  let f := frontier (s.weight (p / 4)) (s.prt p).wrr before (s.readyHeads p)
  f.any (fun q => q.rid == r.rid) &&
  (!r.turns || !f.any (fun q => q.turns && q.cls == r.cls && q.due == r.due && decide (s.turnAway p q < s.turnAway p r)))

/-- The turns after a head has left (R138, R158). -/
def passTurn (s : State) (p : Nat) (r : Req) : State :=
  let l := s.readyHeads p
  s.modPort p (fun x => if r.turns then
    { x with wrr := roundAfter (s.weight (p / 4)) x.wrr l r, rrCtx := mset x.rrCtx r.cls r.reqId } else x)

/-- Ends a request at its port after it leaves ingress. -/
def leaveWith (s : State) (p : Nat) (r : Req) (st : Nat) : State :=
  match endAtPort (leaveIngress s p r) r st with
  | some s' => s'
  | none => s

/-- A request that ends with NO_ROUTE by R366: counted and reported in the arrival stack. -/
def noRoute (s : State) (p : Nat) (r : Req) (x : Kind) : State :=
  let s1 := (leaveWith s p r stNoRoute).count (p / 4) .rte 0 2 1
  (if x = K.RTE_UPDOWN then s1.count (p / 4) .rte 0 3 1 else s1).report (p / 4) x 0 0 r.addr.toNat

/-- Releases a head (R19 steps 3 to 5, R107, R117, R136, R366). After HALT whatever would be sent on ends with STACK_RESET
(R463). -/
def release (s : State) (p : Nat) (r : Req) : State :=
  let k := p / 4
  if !r.formOk then leaveWith s p r stUnsupported else
  let s0 := if s.halt.isSome then s else (passTurn s p r).spend p r
  match s.routeOf r with
  | .noEntry => noRoute s0 p r K.RTE_NO_ENTRY
  | .hops => noRoute s0 p r K.RTE_HOPS
  | .upDown => noRoute s0 p r K.RTE_UPDOWN
  | .wait => if s.halt.isSome then leaveWith s0 p r stStackReset else s
  | .localPkg =>
    if !s.reqBacked r then (leaveWith s0 p r stNoRoute).report k K.STK_ROUTE_UNBACKED 0 0 r.addr.toNat else
    let home := (s.locOf k r.off).stack
    if s.unreach home || !s.reach k home then leaveWith s0 p r stStackReset else
    let s1 := leaveIngress s0 p r
    { s1 with transit := s1.transit ++ [{ r with home := home }] }.ringTx k home
  | .forward q =>
    if s.halt.isSome || !s.reach k (q / 4) then leaveWith s0 p r stStackReset else forwardOn (leaveIngress s0 p r) q r

/-- INGRESS_RELEASE: the head of a context leaves when it can and no other head that can must go first (R136, R138). A malformed one
ends at the port (R107). After HALT every request ends there (R463). (DEDUCED, notes/assumptions/38.md) (DEDUCED, notes/assumptions/39.md) -/
def execIngressRelease (p ctx : Nat) (s : State) : Out :=
  .next (match (s.prt p).head ctx with
    | none => s
    | some r =>
      if (s.mode != .active && s.halt.isNone) || !s.canLeave p r || s.inReset (p / 4) then s
      else if !r.formOk || s.isTurn p r then release s p r
      else s)

/-! ### FENCE -/

/-- Earlier requests of the context are still in progress (R121). -/
def State.earlierPending (s : State) (f : Req) : Bool :=
  let same := fun (r : Req) => r.port == f.port && r.reqId == f.reqId && decide (r.rid < f.rid)
  s.transit.any same || s.stks.any (fun x => x.admQ.any same || x.table.any (fun e => same e.req)) ||
  s.ports.any (fun x => x.fwdRecs.any (fun r => same r.req))

/-- FENCE: it leaves ingress and holds the later requests of its context (R121); a form failure ends it (R107). -/
def execFence (p ctx : Nat) (s : State) : Out :=
  .next (match (s.prt p).head ctx with
    | none => s
    | some r =>
      if r.op != 0x08 || (s.prt p).fenced ctx || (s.mode != .active && s.halt.isNone) || s.inReset (p / 4) || !s.outAllows p r then s
      else if !r.formOk then (if s.rspRoom p 1 then leaveWith s p r stUnsupported else s)
      else if s.halt.isSome then (if s.rspRoom p 1 then leaveWith s p r stStackReset else s)
      else (leaveIngress s p r).modPort p (fun x => { x with fences := x.fences ++ [r] }))

/-- FENCE_COMPLETE: every earlier request has completed and its response is in egress; the FENCE response follows
(R121). -/
def execFenceComplete (p ctx : Nat) (s : State) : Out :=
  .next (match (s.prt p).fences.find? (fun r => r.reqId == ctx) with
    | none => s
    | some f =>
      if s.earlierPending f || !s.rspRoom p 1 then s
      else pushRsp (s.modPort p (fun x => { x with fences := x.fences.filter (fun r => r.rid != f.rid) }))
        (respTo f stOk (s.frame (p / 4))))

/-! ### Admission queue and request table -/

/-- A request that left its ingress buffer before r goes ahead of it on the same ring path: requests of a guaranteed class pass the
others, and each group keeps its order (R22, R23). (DEDUCED, notes/assumptions/70.md) -/
def State.ringBehind (s : State) (r : Req) : Bool :=
  let k := r.port / 4
  k != r.home && (s.transit.takeWhile (fun q => q.rid != r.rid)).any (fun q =>
    q.port / 4 == k && q.home == r.home && s.path k q.home q.reqId == s.path k r.home r.reqId && (isGuar q.cls || !isGuar r.cls))

/-- A released request reaches its serving stack: STACK_RESET or ADMIT_HOLD, or a place in the partition (R24, R139). The ring brings
it, in its order, unless it is off (R21, R23). -/
def execAdmissionQueueEntry (k rid : Nat) (s : State) : Out :=
  .next (match s.transit.find? (fun r => r.rid == rid && r.home == k) with
    | none => s
    | some r =>
      let s1 := { s with transit := s.transit.filter (fun q => q.rid != rid) }
      if (r.port / 4 != k && !s.ringOn) || s.ringBehind r then s
      else if s.unreach k then (endFrom s1 k r stStackReset).getD s
      else if s.inMaint k then ((endFrom s1 k r stAdmitHold).map (fun s => s.count k .stk 0 1 1)).getD s
      else s1.modStk k (fun x => { x with admQ := x.admQ ++ [r] }))

/-- The table's occupancy and per-context rules allow the request (R140, R141). -/
def Stack.admits (x : Stack) (r : Req) : Bool :=
  let n := x.table.length
  if isGuar r.cls then decide (n < 8192)
  else decide (n < (if r.aged then 7680 else 7168)) &&
    (decide (n ≤ 6144) ||
      decide ((x.table.filter (fun e => e.req.port == r.port && e.req.reqId == r.reqId)).length < 16))

/-- REQUEST_TABLE_ALLOCATE: the queue fills a free entry in the order of R143, passing over requests that R140 or R141
forbids; a request that its bank's queue takes ends power-down (R248). Which of several that this order leaves equal goes first is a free value (DESIGN CHOICE, notes/assumptions/13.md). -/
def execRequestTableAllocate (k : Nat) (s : State) : Out :=
  .next (let x := s.stk k
    if !s.serving || s.unreach k || s.inMaint k then s else
    let may := x.admQ.filter x.admits
    let can := frontier (s.weight k) x.wrr beforeTable may
    let d := if 1 < can.length then s.draw else (0, s)
    match can[d.1 % can.length]? with
    | none => s
    | some r =>
      let e : Entry := { req := r, inRes := !isDesc r.op, done := none, rzDone := [], rzSkip := 0, gth := none, seen := 0 }
      let l := s.locOf k r.off
      let s0 := if isDesc r.op || r.op == 0x09 || !s.bankBound k r then d.2 else d.2.modPc k l.ch l.pc s.wakePc
      (s0.modStk k (fun x => { x with
        admQ := x.admQ.filter (fun q => q.rid != r.rid), table := x.table ++ [e],
        wrr := roundAfter (s.weight k) x.wrr may r })).count k .stk 0 0 1)

/-- REQUEST_AGED: 64 frames have passed since the bucket last allowed it (R142). -/
def execRequestAged (rid : Nat) (s : State) : Out :=
  .next (let f := fun (r : Req) => if r.rid = rid ∧ 64 ≤ r.wait then { r with aged := true } else r
    { s with
      transit := s.transit.map f,
      ports := s.ports.map (fun p => { p with ingress := p.ingress.map f }),
      stks := s.stks.map (fun x => { x with
        admQ := x.admQ.map f, table := x.table.map (fun e => { e with req := f e.req }) }) })

/-- ADMIT_TIMEOUT: 2,048 frames in the admission queue end the request with ADMIT_HOLD (R144). -/
def execAdmitTimeout (k rid : Nat) (s : State) : Out :=
  .next (match (s.stk k).admQ.find? (fun r => r.rid == rid) with
    | none => s
    | some r =>
      if r.admWait < 2048 then s else
      match endFrom (s.modStk k (fun x => { x with admQ := x.admQ.filter (fun q => q.rid != rid) })) k r stAdmitHold with
      | some s' => (s'.count k .stk 0 1 1).report k K.STK_ADMIT_TIMEOUT 0 0 r.off
      | none => s)

/-- An earlier completed request of the context that touches a common word has not answered yet (R119); a RANGE_ZERO of any stack
counts (R124). -/
def State.respBlocked (s : State) (k : Nat) (r : Req) : Bool :=
  let holds := fun (e : Entry) => decide (e.req.rid < r.rid) && touchCommon e.req r
  (s.stk k).table.any holds || s.stks.any (fun x => x.table.any (fun e => (e.req.op == 0x09 || r.op == 0x09) && holds e))

/-- RESPONSE_TO_EGRESS: the next response of a completed request moves into RSP egress of its arrival port; the last
one frees the entry (R119, R133, R140). With no path back it is discarded (R511). -/
def execResponseToEgress (k rid : Nat) (s : State) : Out :=
  .next (match s.entry k rid with
    | none => s
    | some e =>
      match e.done with
      | none => s
      | some [] => s.dropEntry k rid
      | some (r :: rest) =>
        let a := r.port / 4
        if !s.reach k a then { s.dropEntry k rid with timedOut := s.timedOut.filter (· != rid) }
        else if s.timedOut.contains rid || s.respBlocked k e.req || !s.rspRoom r.port r.slots || (k != a && !s.ringOn) then s
        else
          let s1 := (pushRsp s r).ringTx k a
          if rest.isEmpty then (if isPosted e.req.op then s1 else lateCheck s1 k e).dropEntry k rid
          else s1.modEntry k rid (fun e => { e with done := some rest }))

/-- RSP_STALL: 8,192 frames with responses waiting and no RSP credit (R147). -/
def execRspStall (p : Nat) (s : State) : Out :=
  .next (if decide (8192 ≤ (s.prt p).rspStallFrames) && !(s.prt p).rspStalled then
    ((s.modPort p (fun x => { x with rspStalled := true })).statusBit (p / 4) .nxp (p % 4) 0 true).report (p / 4)
      K.NXP_RSP_STALL (p % 4) 0 0 else s)

/-! ### Responses of forwarded requests -/

/-- Frees a forward record and its reservation. -/
def dropRec (s : State) (q : Nat) (f : FwdRec) : State :=
  s.modPort q (fun x => { x with
    fwdRecs := x.fwdRecs.filter (fun g => g.idx != f.idx), rspInRsv := x.rspInRsv - (1 + respWords f.req) })

/-- Takes the head of RSP ingress; its flit slots return to the peer as RSP credits (R349). -/
def popRspIn (s : State) (p : Nat) : State :=
  s.modPort p (fun x => match x.rspIn with
    | r :: rest => { x with rspIn := rest, rspRet := x.rspRet + r.slots }
    | [] => x)

/-- The response for the original requester (R369). -/
def restore (f : FwdRec) (r : Resp) : Resp :=
  { r with rid := f.req.rid, port := f.req.port, op := f.req.op, posted := f.posted, reqId := f.req.reqId, tag := f.req.tag }

/-- LAST of a sequence of gather responses; every other response, and one that ends a gather with a status of no sequence, is its own
last (R132, R194, R369). -/
def isLast (r : Resp) : Bool :=
  !(r.op == 0x61 || r.op == 0x62) || r.inline.getLsbD 16 || !(r.status == stOk || r.status == stPoison)

/-- FORWARD_RESPONSE: the response at the head of RSP ingress finds its record and goes back on the arrival port, or is
absorbed (R109, R369). -/
def execForwardResponse (p : Nat) (s : State) : Out :=
  .next (match (s.prt p).rspIn with
    | [] => s
    | r :: _ =>
      match (s.prt p).fwdRecs.find? (fun f => f.idx == r.tag) with
      | none => s
      | some f =>
        let out := restore f r
        if f.posted && r.status == stOk then
          (dropRec (popRspIn s p) p f).endOutst f.req.port f.req.reqId f.req.rid
        else if !s.reach (p / 4) (f.req.port / 4) then dropRec (popRspIn s p) p f
        else if !s.rspRoom f.req.port out.slots || (p / 4 != f.req.port / 4 && !s.ringOn) then s
        else
          let s1 := (pushRsp (popRspIn s p) out).ringTx (p / 4) (f.req.port / 4)
          let s2 := if isLast r then dropRec s1 p f else s1.modPort p (fun x => { x with
            fwdRecs := x.fwdRecs.map (fun g => if g.idx = f.idx then { g with age := 0 } else g) })
          if f.posted then (s2.endOutst f.req.port f.req.reqId f.req.rid).report (f.req.port / 4) K.STK_POSTED_FAIL 0 0 f.req.off
          else s2)

/-- Ends the request of a forward record with TIMEOUT; a response to it may still come (R117, R370). -/
def timeoutRec (s : State) (q : Nat) (f : FwdRec) : State :=
  let r := f.req
  let s0 := (dropRec s q f).modPort q (fun x => { x with staleRecs := x.staleRecs.filter (· != f.idx) ++ [f.idx] })
  let s1 := pushRsp s0 (respTo r stTimeout (s.frame (r.port / 4)))
  if f.posted then (s1.endOutst r.port r.reqId r.rid).report (r.port / 4) K.STK_POSTED_FAIL 0 0 r.off else s1

/-- FWD_TIMEOUT: a record without a response for 8,192 frames (R370). -/
def execFwdTimeout (p rec : Nat) (s : State) : Out :=
  .next (match (s.prt p).fwdRecs.find? (fun f => f.idx == rec) with
    | none => s
    | some f =>
      if f.age < 8192 then s
      else ((timeoutRec s p f).count (p / 4) .rte 0 4 1).report (p / 4) K.RTE_FWD_TIMEOUT 0 0 f.req.addr.toNat)

/-- LATE_RSP: a response whose request has already ended with TIMEOUT is discarded and logged by the arrival stack: one
that a serving stack holds for a request lost with a ring link, or one in RSP ingress without a record (R25, R117). -/
def execLateRsp (p rid : Nat) (s : State) : Out :=
  .next (if s.timedOut.contains rid then
      match (List.range s.n).find? (fun k => match s.entry k rid with | some e => e.done.isSome | none => false) with
      | some k => (lateRsp s (p / 4) rid).dropEntry k rid
      | none => s
    else match (s.prt p).rspIn with
      | r :: _ =>
        if (s.prt p).fwdRecs.any (fun f => f.idx == r.tag) then s
        else ((popRspIn s p).modPort p (fun x => { x with
          staleRecs := if isLast r then x.staleRecs.filter (· != r.tag) else x.staleRecs })).report (p / 4) K.STK_LATE_RSP 0 0 0
      | [] => s)

/-! ### Interrupt messages -/

/-- The header of an interrupt message (R128). -/
def irqHeader (e : Irq) : Word :=
  BitVec.ofNat 256 (0x88 + e.kind * 2 ^ 8 + e.count * 2 ^ 16 + e.source.toNat * 2 ^ 32 + e.detail.toNat * 2 ^ 64 +
    e.frame * 2 ^ 96)

/-- IRQ: the oldest pending message is sent on the MGMT channel of the port that supplies the reference, or waits while
that port has no MGMT credit (R128). -/
def execIrq (s : State) : Out :=
  .next (match s.irqs with
    | [] => s
    | e :: rest =>
      let p := s.refPort
      if (s.prt p).mgmtAvail = 0 then s
      else { s with irqs := rest }.modPort p (fun x => { x with
        mgmtAvail := x.mgmtAvail - 1, mgmtRaw := x.mgmtRaw ++ [[irqHeader e]] }))

/-- An IRQ or TELEMETRY message from the partner: discarded, its credits returned, NX_PROTOCOL logged (R104, R355). Its
length is one flit slot for IRQ, and for TELEMETRY one plus the count in bytes 4 to 5. On REQ and FWD its credits return to the
context that bytes 2 to 3 [9:0] name, where requests carry REQ_ID (DESIGN CHOICE, notes/assumptions/77.md). -/
def inboundIrq (s : State) (p : Nat) (vc : Vc) (header : Word) : State :=
  let n := if wordNum header 0 1 = 0x89 then 1 + bits (wordNum header 4 2) 15 12 else 1
  (s.modPort p (fun x => match vc with
    | .mgmt => { x with mgmtCred := x.mgmtCred - n, mgmtRet := x.mgmtRet + n }
    | .rsp => { x with rspRet := x.rspRet + n }
    | _ => { x with lcrdOut := x.lcrdOut ++ [(bits (wordNum header 2 2) 9 0, n)] })).report (p / 4) K.NXP_PROTOCOL (p % 4) 0 0

/-- INBOUND_IRQ_TELEMETRY (R104). -/
def execInboundIrqTelemetry (p : Nat) (header : Word) (s : State) : Out :=
  .next (if wordNum header 0 1 ≠ 0x88 ∧ wordNum header 0 1 ≠ 0x89 then s else inboundIrq s p (s.prt p).rxVc header)

end Sys2Proof.Machine
end

