-- ==== Sys2Proof/Machine/Registrar.lean ====
section
/-! DEFINITION. The Registrar: intake and decision (R453, R454, R457 to R460), entry into SAFE (R461), HALT (R463), the log
and mirror rings (R455, R456), the kind table (R452, R473), ALIVE (R469) and telemetry (R470). -/

namespace Sys2Proof.Machine

/-- The Registrar, PLL_FIX domain, runs: the package is powered and neither in RETAIN nor LOST, and the stack's base die
is not under reset. -/
def State.regRuns (s : State) (k : Nat) : Bool :=
  decide (k < s.n) && s.mode != .off && s.mode != .retain && s.mode != .lost && !s.inReset k

/-! ### SAFE and HALT -/

/-- A self-test stops without restore at HALT (R490). -/
def stopTest (s : State) (k : Nat) : State :=
  if (s.stk k).bst.phase = 0 then s else
  (s.modStk k (fun x => { x with bst := { x.bst with phase := 0, cancelPend := false, saveValid := false, saveAt := [], saveTiles := [] } })).setFlds k 0
    [(F.BST_STATUS_BUSY, 0), (F.BST_STATUS_PHASE, 0)]

/-- At HALT Docent begins to write the Archive over any earlier one (R464, R468). (DEDUCED, notes/assumptions/60.md) -/
def startArchive (s : State) (k : Nat) : State :=
  (s.setFlds k 0 [(F.REG_ARCH_STATUS_VALID, 0), (F.REG_ARCH_STATUS_WRITING, 1), (F.REG_ARCH_STATUS_WRITTEN, 0)]).statusBit k .reg 0 0 false

/-- Step 1 of R461: the stack is SAFE, with its cause. A stack already in SAFE keeps its cause unless HALT overwrites it
(R463); one that is about to leave SAFE enters it again. -/
def enterSafe (s : State) (k kind source : Nat) (byHalt : Bool) : State :=
  let s := if byHalt then startArchive (stopTest s k) k else s
  let cause := fun (s : State) => s.setFlds k 0 [(F.REG_SAFE_STATUS_SAFE, 1), (F.REG_SAFE_STATUS_CAUSE_KIND, kind),
    (F.REG_SAFE_STATUS_CAUSE_SRC, source)]
  if s.inSafe k && (s.stk k).stkNext.isNone then
    (if byHalt then (cause s).setFld k 0 F.REG_SAFE_STATUS_BY_HALT 1 else s)
  else
    let s1 := (cause s).setFld k 0 F.REG_SAFE_STATUS_BY_HALT (b2n byHalt)
    (s1.modStk k (fun x => { x with mode := .safe, safeEntry := true, stkNext := none })).count k .reg 0 4 1

/-- Ends with STACK_RESET every request of the request table that has not completed, and every request of the admission
queue (R461 step 2). (DEDUCED, notes/assumptions/41.md) -/
def endRequests (s : State) (k : Nat) : State :=
  let s1 := ((s.stk k).table.filter (fun e => e.done.isNone)).foldl (fun s e => finishSt s k e.req stStackReset) s
  let q := (s1.stk k).admQ
  let s2 := s1.modStk k (fun x => { x with admQ := [], table := x.table ++ q.map (fun r =>
    ({ req := r, inRes := false, done := none, rzDone := [], rzSkip := 0, gth := none, seen := 0 } : Entry)) })
  q.foldl (fun s r => finishSt s k r stStackReset) s2

/-- Every usable and unusable channel's dies of a stack enter or leave self-refresh, every bank precharged (R249). -/
def setSelfRefresh (s : State) (k : Nat) (v : Bool) : State :=
  s.modStk k (fun x => { x with chans := x.chans.map (fun c => { c with
    pcs := c.pcs.map (fun p => { p.precharge with selfRefresh := v || c.unusable }) }) })

/-- A seal in progress aborts, a forced one too: its tile stays OPEN (R283). -/
def abortSeals (s : State) (k : Nat) : State := (s.stk k).seals.foldl (fun s e => dropSeal s k e.tile) s

/-- Step 2 of R461: requests end, background work stops, the memory dies enter self-refresh; after a memory-rail fault the
memory rails then go off (R412). (DEDUCED, notes/assumptions/60.md) -/
def safeStep2 (s : State) (k : Nat) : State :=
  if !(s.stk k).safeEntry then s else
  let s1 := setSelfRefresh (abortSeals (endRequests s k) k) k true
  s1.modStk k (fun x => { x with
    safeEntry := false, pw := (if x.pw.memFault then { x.pw with railsRun := false } else x.pw) })

/-- The stack that an aborted COMMIT names: the lowest that has not acknowledged before tick T − 1; 0 before APPLY was sent and once
every stack has (R97, R100). Of several the spec names none (DESIGN CHOICE, notes/assumptions/75.md). -/
def State.unacked (s : State) : Nat :=
  if s.commit.phase == .checking then 0
  else ((List.range s.n).find? (fun k => !s.commit.acked.contains k)).getD 0

/-- ABORT is sent: a stack that it does not reach, or that is under reset, holds neither CONFIRM nor ABORT (R92 step 5, R97). -/
def sendAbort (s : State) : State :=
  let got := if s.commit.phase == .checking then [] else (List.range s.n).filter (fun k => s.reach s.agg k && !s.inReset k)
  let s1 := if s.commit.phase == .checking then s else forStacks s (fun s k => s.ringTx s.agg k)
  let lost := if s.commit.phase == .prepared then s.commit.acked.filter (fun k => !got.contains k && !s.inReset k) else []
  { s1 with
    commit := { s.commit with phase := .aborted, failStack := s.unacked, got := got }
    splitDue := s.splitDue ++ lost.map (fun k => (s.commit.target, k)) }

/-- A COMMIT that has not reached tick T − 1 ends ABORTED (R97, R463). -/
def abortCommit (s : State) : State :=
  let c := s.commit
  let open_ := c.phase == .checking || c.phase == .prepared || (c.phase == .confirmed && decide (s.now s.agg + 1 < c.target))
  if open_ then sendAbort s else s

/-- A HALT decided on stack k (R463). Further HALT decisions restart nothing. -/
def startHalt (s : State) (k kind source : Nat) : State :=
  match s.halt with
  | some _ => s
  | none =>
    let s1 := forStacks s (fun s j => s.ringTx k j)
    enterSafe (abortCommit { s1 with halt := some { kind := kind, source := BitVec.ofNat 16 source, got := [k], record := none } })
      k kind source true

/-- HALT_BROADCAST: a stack that receives HALT enters SAFE with BY_HALT and the cause (R463); the deciding stack has sent it to each
(R34). -/
def execHaltBroadcast (k : Nat) (s : State) : Out :=
  .next (match s.halt with
    | none => s
    | some h =>
      if h.got.contains k || !decide (k < s.n) then s
      else enterSafe { s with halt := some { h with got := h.got ++ [k] } } k h.kind h.source.toNat true)

/-! ### Intake -/

/-- Block type of a kind (R450). -/
def kindBlock (kind : Nat) : Nat := kind / 32

/-- Pending bit of a class (R460). -/
def State.pend (s : State) (k b sev : Nat) : Bool := bitAt (s.raw k .reg 0 (0x120 + 4 * sev)) b

/-- Decided level and escalation of a report (R458, R459). -/
def State.decision (s : State) (k : Nat) (w : Waiting) : Nat × Bool :=
  let base := match kindOf w.kind with | some x => s.level k x | none => 0
  let b := kindBlock w.kind
  let esc := (base == 1 || base == 2) && s.pend k b w.sev && !bitAt (s.raw k .reg 0 0x130) b
  (if esc then base + 1 else base, esc)

/-- Latches FIRST, or sets FIRST_OVF (R457). -/
def latchFirst (s : State) (k : Nat) (w : Waiting) (lvl : Nat) : State :=
  if s.flag k 0 F.REG_FIRST_VALID then s.setFld k 0 F.REG_FIRST_OVF 1
  else s.setFlds k 0 [(F.REG_FIRST_VALID, 1), (F.REG_FIRST_OVF, 0), (F.REG_FIRST_LEVEL, lvl), (F.REG_FIRST_SEVERITY, w.sev),
    (F.REG_FIRST_KIND, w.kind), (F.REG_FIRST_SOURCE, w.source.toNat), (F.REG_FIRST_ADDR_ADDR_31_0, w.addr.toNat % 2 ^ 32),
    (F.REG_FIRST_FRAME_FRAME, w.frame), (F.REG_FIRST_FRAME_ADDR_47_32, w.addr.toNat / 2 ^ 32)]

/-- Adds reports to the per-kind counter, REPORTS and the telemetry count of their severity (R453, R470, R476). -/
def countReports (s : State) (k : Nat) (w : Waiting) : State :=
  let n := 1 + w.tally
  (s.modRg k (fun r => { r with
    kcnt := mput r.kcnt w.kind (satAdd 65535 (mget r.kcnt w.kind 0) n) 0,
    telCnt := r.telCnt.modify w.sev (fun c => satAdd (if w.sev < 2 then 65535 else 255) c n) })).count k .reg 0 0 n

/-- Marks the PAGE_ERR bit of a report decided FENCE or HALT (R462). -/
def markBit (s : State) (k : Nat) (w : Waiting) : State :=
  match w.bit with
  | some (pg, b) => s.modRg k (fun r => { r with marks := mput r.marks pg (mget r.marks pg 0#32 ||| (1#32 <<< b)) 0#32 })
  | none => s

/-- The reaction of a decided level (R458): pending bit, FIRST, interrupt; FENCE enters SAFE; HALT halts. -/
def react (s : State) (k : Nat) (w : Waiting) (lvl : Nat) : State :=
  if lvl = 0 then s else
  let off := 0x120 + 4 * w.sev
  let s1 := s.setRaw k .reg 0 off (s.raw k .reg 0 off ||| 2 ^ kindBlock w.kind)
  let s2 := (latchFirst s1 k w lvl).irq k 0x01 (pageAddr .reg k 0 0) (w.source.toNat * 2 ^ 12 + w.kind * 4 + w.sev)
  if lvl = 1 then s2 else
  let s3 := (markBit s2 k w).modRg k (fun r => { r with fenceNow := true })
  if lvl = 2 then enterSafe s3 k w.kind w.source.toNat false else startHalt s3 k w.kind w.source.toNat

/-- Takes one report: counting, decision, escalation count, reaction; a saturated tally is flagged (R453). -/
def takeReport (acc : List (Waiting × Nat × Bool) × State) (k : Nat) (w : Waiting) : List (Waiting × Nat × Bool) × State :=
  let d := acc.2.decision k w
  let s1 := countReports acc.2 k w
  let s2 := react (if d.2 then s1.count k .reg 0 3 1 else s1) k w d.1
  let s3 := if w.saturated then (s2.setFld k 0 F.REG_STATUS_OVERFLOW 1).report k K.REG_OVERFLOW 0 0 0 else s2
  (acc.1 ++ [(w, d.1, d.2)], s3)

/-- A record of a decided report (R455); SEQ is given when it is written. -/
def recOf (s : State) (k : Nat) (w : Waiting) (lvl : Nat) (esc : Bool) : Rec :=
  { source := w.source, kind := w.kind, sev := w.sev, level := lvl, esc := esc, addr := w.addr, frame := w.frame,
    sysId := s.sysId k, seq := ((s.stk k).rg.seq + (s.stk k).rg.fifo.length) % 65536 }

/-- A decided report meets the FIFO: 60 places for LOG and NOTIFY, 64 for FENCE and HALT; without a place it is dropped.
REG_OVERFLOW takes no place (R454). -/
def intoFifo (s : State) (k : Nat) (d : Waiting × Nat × Bool) : State :=
  if d.1.kind = K.REG_OVERFLOW.code then s else
  let rec_ := recOf s k d.1 d.2.1 d.2.2
  let s0 := match s.halt with
    | some h => if d.2.1 = 3 ∧ h.record = none ∧ h.source = d.1.source ∧ h.kind = d.1.kind
        then { s with halt := some { h with record := some rec_ } } else s
    | none => s
  if (s0.stk k).rg.fifo.length < (if d.2.1 < 2 then 60 else 64) then s0.modRg k (fun r => { r with fifo := r.fifo ++ [rec_] })
  else
    let s1 := (s0.setFld k 0 F.REG_STATUS_OVERFLOW 1).count k .reg 0 2 1
    (s1.modRg k (fun r => { r with telDrop := satAdd 65535 r.telDrop 1 })).report k K.REG_OVERFLOW 0 0 0

/-- Inserts by decided level, highest first, then lowest SOURCE (R454). -/
def insertDecided (d : Waiting × Nat × Bool) : List (Waiting × Nat × Bool) → List (Waiting × Nat × Bool)
  | [] => [d]
  | e :: l =>
    if e.2.1 < d.2.1 ∨ (e.2.1 = d.2.1 ∧ d.1.source.toNat < e.1.source.toNat) then d :: e :: l else e :: insertDecided d l

/-- Waiting reports in intake order: current level of the kind, HALT first; then order of waiting (R453). -/
def takeOrder (s : State) (k : Nat) (l : List Waiting) : List Waiting :=
  let lv := fun (w : Waiting) => match kindOf w.kind with | some x => s.level k x | none => 0
  [3, 2, 1, 0].flatMap (fun v => l.filter (fun w => lv w == v))

/-- One cycle of the intake: at most 8 reports; the producers of the others keep them waiting (R453, R454). (DEDUCED, notes/assumptions/59.md) -/
def intakeCycle (s : State) (k : Nat) : State :=
  let batch := (takeOrder s k (s.stk k).rg.waiting).take 8
  let s0 := s.modRg k (fun r => { r with waiting := (batch.foldl List.erase r.waiting).map (fun w => { w with kept := true }), fenceNow := false })
  let t := batch.foldl (fun acc w => takeReport acc k w) ([], s0)
  (t.1.foldr insertDecided []).foldl (fun s d => intoFifo s k d) t.2

/-- A report that a block raises (R449): its kind must be defined and belong to the page named. A stuff overrun is counted with
it (R313). -/
def raiseNew (s : State) (k : Nat) (r : NewReport) : State :=
  match kindOf r.kind, keyPage r.pkgPage (r.page * 4096) with
  | some x, some pg =>
    if x.page ≠ pg.1 then s else
    let s1 := if x = K.NXL_STUFF_OVERRUN then s.count k .nxl pg.2 29 1 else s
    s1.reportSev k x r.sev pg.2 r.sub r.addr.toNat
  | _, _ => s

/-- Orders reports raised in one cycle by SOURCE (R453). -/
def insertNew (r : NewReport) : List NewReport → List NewReport
  | [] => [r]
  | e :: l =>
    let key := fun (r : NewReport) => b2n r.pkgPage * 4096 + r.sub * 256 + r.page
    if key r < key e then r :: e :: l else e :: insertNew r l

/-- FAULT_REPORT: the reports of one fixed-clock cycle reach the intake, which takes up to 8 (R453). (DEDUCED, notes/assumptions/59.md) -/
def execFaultReport (k : Nat) (new : List NewReport) (s : State) : Out :=
  .next (if s.regRuns k then intakeCycle ((new.foldr insertNew []).foldl (fun s r => raiseNew s k r) s) k else s)

/-! ### Log and mirror -/

/-- LOG_RECORD_WRITE: the FIFO drains one record into the log ring; a record overwritten before it was mirrored is
counted and reported (R454 to R456). -/
def execLogRecordWrite (k : Nat) (s : State) : Out :=
  .next (if !s.regRuns k then s else
    match (s.stk k).rg.fifo with
    | [] => s.modRg k (fun r => { r with fenceNow := false })
    | e :: rest =>
      let r := (s.stk k).rg
      let w := { e with seq := r.seq, sysId := s.sysId k }
      let old := mfind r.log r.logNext
      let lost := match old with | some o => r.toMirror.contains o | none => false
      let s1 := s.modRg k (fun r => { r with
        fifo := rest, log := mset r.log r.logNext w, logNext := (r.logNext + 1) % 4096, seq := (r.seq + 1) % 65536,
        toMirror := (if lost then r.toMirror.filter (fun x => some x != old) else r.toMirror) ++ [w], fenceNow := false })
      let s2 := s1.count k .reg 0 1 1
      if lost then (s2.count k .reg 0 5 1).report k K.REG_MIRROR_LOST 0 0 0 else s2)

/-- MIRROR_RECORD: the oldest record not yet mirrored enters the aggregator's mirror ring of 16,384 records; one for an
aggregator out of reach is counted in MIRROR_LOST (R456, R511). (DEDUCED, notes/assumptions/60.md) -/
def execMirrorRecord (k : Nat) (s : State) : Out :=
  .next (if !s.regRuns k || !s.aggChosen || s.inReset s.agg then s else
    match (s.stk k).rg.toMirror with
    | [] => s
    | e :: rest =>
      let s1 := s.modRg k (fun r => { r with toMirror := rest })
      if !s.reach k s.agg then s1.count k .reg 0 5 1
      else (s1.modRg s.agg (fun r => { r with mirror := mset r.mirror r.mirNext e, mirNext := (r.mirNext + 1) % 16384 })).ringTx
        k s.agg)

/-- Bytes of a record as four words (R455). -/
def Rec.word (r : Rec) (w : Nat) : Nat :=
  match w with
  | 0 => r.source.toNat + (r.kind * 64 + r.sev * 16 + r.level * 4 + b2n r.esc * 2) * 2 ^ 16
  | 1 => r.addr.toNat % 2 ^ 32
  | 2 => r.addr.toNat / 2 ^ 32 + r.frame * 2 ^ 16
  | _ => r.sysId + r.seq * 2 ^ 16

/-- Copies a record, or zeros for a place not yet written, into four data registers (R473). -/
def copyRec (s : State) (k off : Nat) (r : Option Rec) : State :=
  (List.range 4).foldl (fun s w => s.setRaw k .reg 0 (off + 4 * w) (match r with | some r => r.word w | none => 0)) s

/-! ### Register writes of the REG page -/

/-- A write of REG_CTRL (R471). -/
def writeRegCtrl (s : State) (k v : Nat) : State :=
  let s1 := s.setFld k 0 F.REG_CTRL_TELEM_EN (bits v 0 0)
  let s2 := if bitAt v 30 then s1.modRg k (fun r => { r with kcnt := [] }) else s1
  if bitAt v 31 then s2.report k K.REG_FORCED_HALT 0 0 0 else s2

/-- FORCE_HALT: a write of REG_CTRL with FORCE_HALT 1 (R471). -/
def execForceHalt (_src : Source) (k : Nat) (v : Reg32) (s : State) : Out :=
  .next (if s.winOk k && bitAt v.toNat 31 then writeRegCtrl s k v.toNat else s)

/-- KCNT_CLEAR: a write of REG_CTRL with KCNT_CLEAR 1 (R471). -/
def execKcntClear (_src : Source) (k : Nat) (v : Reg32) (s : State) : Out :=
  .next (if s.winOk k && bitAt v.toNat 30 then writeRegCtrl s k v.toNat else s)

/-- A write of REG_FIRST: 1 to VALID clears VALID and OVF (R457). -/
def writeFirst (s : State) (k v : Nat) : State :=
  if bitAt v 31 then s.setFlds k 0 [(F.REG_FIRST_VALID, 0), (F.REG_FIRST_OVF, 0)] else s

/-- FIRST_CLEAR (R457). -/
def execFirstClear (_src : Source) (k : Nat) (v : Reg32) (s : State) : Out :=
  .next (if s.winOk k then writeFirst s k v.toNat else s)

/-- A write of REG_PENDs: 1 acknowledges a class (R460). -/
def writePend (s : State) (k sev v : Nat) : State :=
  let off := 0x120 + 4 * sev
  s.setRaw k .reg 0 off (s.raw k .reg 0 off &&& (0xFFFFFFFF ^^^ v))

/-- PEND_ACKNOWLEDGE (R460). -/
def execPendAcknowledge (_src : Source) (k sev : Nat) (v : Reg32) (s : State) : Out :=
  .next (if s.winOk k && decide (sev < 4) then writePend s k sev v.toNat else s)

/-- A write of REG_KIND_CFG: the level of the kind that stack k selects, in every stack; never below a default of FENCE
or HALT, and only for a defined kind (R452). -/
def writeKindCfg (s : State) (k v : Nat) : State :=
  match kindOf (s.fld k 0 F.REG_KIND_SEL_KIND) with
  | some x =>
    let l := bits v 1 0
    if 2 ≤ x.lvl ∧ l < x.lvl then s
    else forStacks s (fun s j => if s.reach k j then s.modRg j (fun r => { r with levels := mput r.levels x.code l x.lvl }) else s)
  | none => s

/-- KIND_CFG_WRITE (R452). -/
def execKindCfgWrite (_src : Source) (k : Nat) (v : Reg32) (s : State) : Out :=
  .next (if s.winOk k then writeKindCfg s k v.toNat else s)

/-- A write of REG_LOG_RD_IDX copies the record (R473). -/
def writeLogIdx (s : State) (k v : Nat) : State :=
  copyRec (s.setFld k 0 F.REG_LOG_RD_IDX_INDEX (bits v 11 0)) k 0x158 (mfind (s.stk k).rg.log (bits v 11 0))

/-- LOG_RD_IDX_WRITE (R473). -/
def execLogRdIdxWrite (_src : Source) (k : Nat) (v : Reg32) (s : State) : Out :=
  .next (if s.winOk k then writeLogIdx s k v.toNat else s)

/-- A write of REG_MIR_RD_IDX copies the mirror record; the registers read 0 in any window but the aggregator's (R473). -/
def writeMirIdx (s : State) (k v : Nat) : State :=
  copyRec (s.setFld k 0 F.REG_MIR_RD_IDX_INDEX (bits v 13 0)) k 0x178 (mfind (s.stk k).rg.mirror (bits v 13 0))

/-- MIR_RD_IDX_WRITE (R473). -/
def execMirRdIdxWrite (_src : Source) (k : Nat) (v : Reg32) (s : State) : Out :=
  .next (if s.winOk k then writeMirIdx s k v.toNat else s)

/-! ### Archive access (R468, R474) -/

/-- Word offset that an access source holds in REG_ARCH_ADDR. -/
def State.archOffset (s : State) (k : Nat) (src : Source) : Nat := mget (s.stk k).rg.archAddr (Source.code src) 0

/-- A write of REG_ARCH_ADDR: each source keeps its own (R474). -/
def writeArchAddr (s : State) (k : Nat) (src : Source) (v : Nat) : State :=
  s.modRg k (fun r => { r with archAddr := mput r.archAddr (Source.code src) (bits v 23 2) 0 })

/-- Word offsets of the Archive sections whose entry layout the spec does not give: from the request table to Docent's SRAM,
and in the subset the thermal history (R465, R467). (DESIGN CHOICE, notes/assumptions/14.md) -/
def archOpaque (sub : Bool) (w : Nat) : Bool :=
  let b := 4 * w
  if sub then decide (0x47800 ≤ b ∧ b < 0x67800) else decide (0x212000 ≤ b ∧ b < 0x352000)

/-- The Archive word at an offset: what Docent wrote, a free value where the layout is not given (DESIGN CHOICE, notes/assumptions/14.md). -/
def State.archWord (s : State) (k w : Nat) : Nat :=
  let r := (s.stk k).rg
  if s.flag k 0 F.REG_ARCH_STATUS_VALID && archOpaque (s.flag k 0 F.REG_ARCH_STATUS_SUBSET) w
  then Config.freeNat (r.archFree + w) % 2 ^ 32 else (mget r.archWords w 0#32).toNat

/-- A read of REG_ARCH_DATA returns the word at OFFSET and advances it (R474). -/
def readArchData (s : State) (k : Nat) (src : Source) : Nat × State :=
  let o := s.archOffset k src
  (s.archWord k o, s.modRg k (fun r => { r with archAddr := mput r.archAddr (Source.code src) ((o + 1) % 2 ^ 22) 0 }))

/-- ARCH_DATA_READ (R474). -/
def execArchDataRead (src : Source) (k : Nat) (s : State) : Out :=
  .next (if s.winOk k then
    let r := readArchData s k src
    { r.2 with mgmtOut := (BitVec.ofNat 32 r.1, stOk) } else { s with mgmtOut := (0, stStackReset) })

/-- A write of REG_ARCH_CTRL: DISCARD clears VALID and overwrites the Archive (R468, R474). -/
def writeArchCtrl (s : State) (k v : Nat) : State :=
  if bitAt v 31 then
    ((s.modRg k (fun r => { r with archWords := [] })).setFld k 0 F.REG_ARCH_STATUS_VALID 0).statusBit k .reg 0 0 false
  else s

/-- ARCH_DISCARD (R468). -/
def execArchDiscard (_src : Source) (k : Nat) (v : Reg32) (s : State) : Out :=
  .next (if s.winOk k then writeArchCtrl s k v.toNat else s)

/-! ### ALIVE and telemetry -/

/-- ALIVE_TOGGLE: in ACTIVE and IDLE at each 512th tick of the aggregator; in RETAIN and LOST after 512 estimated frames;
held at HALT, low before the first tick (R469). (DEDUCED, notes/assumptions/54.md) -/
def execAliveToggle (s : State) : Out :=
  .next (if s.halt.isSome || s.tapHolds then s
    else if s.mode = .active ∨ s.mode = .idle ∨ s.mode = .enteringRetain then
      (if 512 ≤ s.now s.agg - s.aliveLast then
        { s with pins := { s.pins with alive := !s.pins.alive }, aliveLast := s.now s.agg } else s)
    else if s.mode = .retain ∨ s.mode = .lost ∨ s.mode = .leavingRetain then
      { s with pins := { s.pins with alive := !s.pins.alive } }
    else s)

/-- Hottest value in use of a stack and its source: 0 base die, d memory die d, 17 lid (R425). -/
def Stack.hottest (x : Stack) : Nat × Int :=
  let b := x.th.baseUse.foldl max (x.th.baseUse.headD 0)
  let m := (x.th.memUse.zipIdx).foldl (fun (a : Nat × Int) e => if a.2 < e.1 then (e.2 + 1, e.1) else a) (0, b)
  if m.2 < x.th.lidUse then (17, x.th.lidUse) else m

/-- Mode code of a stack in a telemetry record (R470) and in STK_STATUS (R32). -/
def State.modeCode (s : State) (k : Nat) : Nat :=
  if s.inReset k then 4 else if s.inSafe k then 3 else if (s.stk k).mode == .maintenance then 2
  else if s.mode == .idle then 1 else 0

/-- The 16-byte telemetry record of a stack (R470). -/
def State.telRecord (s : State) (k : Nat) : Nat :=
  let x := s.stk k
  let c := fun i => x.rg.telCnt.getD i 0
  s.modeCode k + (x.tm.tier + x.th.stage * 4 + b2n (x.th.suspect.any (· == true)) * 32 + b2n s.supplyCap * 64) * 2 ^ 8 +
  ofSigned 16 x.hottest.2 * 2 ^ 16 + (x.pw.pin % 65536) * 2 ^ 32 + c 0 * 2 ^ 48 + c 1 * 2 ^ 64 + c 2 * 2 ^ 80 + c 3 * 2 ^ 88 +
  x.rg.telDrop * 2 ^ 96 + x.rg.seq * 2 ^ 112

/-- A stack's record reaches the aggregator. -/
def State.telCovers (s : State) (k : Nat) : Bool := decide (k < s.n) && s.reach s.agg k

/-- Data word i of a TELEMETRY message: stacks 2i and 2i + 1 (R470). -/
def State.telWord (s : State) (i : Nat) : Word :=
  let r := fun k => if s.telCovers k then s.telRecord k else 0
  BitVec.ofNat 256 (r (2 * i) + r (2 * i + 1) * 2 ^ 128)

/-- A TELEMETRY message: header and 4 data words (R470). (DESIGN CHOICE, notes/assumptions/65.md) -/
def State.telMessage (s : State) : List Word :=
  BitVec.ofNat 256 (0x89 + (s.telSeq % 65536) * 2 ^ 16 + 4 * 2 ^ 44 + (s.frame s.agg % 2 ^ 64) * 2 ^ 64) ::
    (List.range 4).map s.telWord

/-- The lowest usable channel of a stack, whose service area holds the telemetry ring (R4). -/
def Stack.ringCh (x : Stack) : Nat := ((List.range 32).find? (fun c => !(x.ch c).unusable)).getD 0

/-- Docent of a stack keeps its sampled record in the telemetry ring of the lowest usable channel: one word in the telemetry share of
that channel's window (R4, R48). (DESIGN CHOICE, notes/assumptions/65.md) -/
def keepTel (s : State) (k : Nat) : State :=
  let v := BitVec.ofNat 128 (s.telRecord k)
  let s1 := if s.unreach k then s else s.workWindow k (s.stk k).ringCh 0 6 1
  s1.modStk k (fun x => { x with doc := { x.doc with telRing := mset x.doc.telRing (x.ringCh * 65536 + x.doc.telPos) v, telPos := (x.doc.telPos + 1) % 65536 } })

/-- TELEMETRY: every 1,024 frames the aggregator sends a message, or skips it for want of credit (R470); skipped also while
the aggregator's stack is under reset (R484). (DESIGN CHOICE, notes/assumptions/65.md) -/
def execTelemetry (s : State) : Out :=
  .next (if !(s.mode = .active ∨ s.mode = .idle) || !s.aggChosen || !s.flag s.agg 0 F.REG_CTRL_TELEM_EN ||
      decide (s.now s.agg - s.telLast < 1024) then s else
    let s0 := forStacks { s with telLast := s.now s.agg } (fun s k => if s.inReset k then s else keepTel s k)
    let p := s.refPort
    if (s.prt p).mgmtAvail < 5 ∨ s.inReset s.agg then s0.count s.agg .reg 0 7 1 else
    let m := s0.telMessage
    let s1 := { s0 with telSeq := (s0.telSeq + 1) % 65536, lastTel := m }.modPort p (fun x => { x with
      mgmtAvail := x.mgmtAvail - 5, mgmtRaw := x.mgmtRaw ++ [m] })
    (forStacks s1 (fun s k => if s.telCovers k then (s.modRg k (fun r => { r with telCnt := [0, 0, 0, 0], telDrop := 0 })).ringTx
      k s.agg else s)).count s.agg .reg 0 6 1)

end Sys2Proof.Machine
end

