-- ==== Sys2Proof/Machine/Time.lean ====
section
/-! DEFINITION. The time base: TIME_SYNC (R40, R41), the counter comparison (R39), tiers (R46), the running P-level (R390,
R391) and the per-frame capacities (R36, R44, R45, R47). -/

namespace Sys2Proof.Machine

/-! ### TIME_SYNC -/

/-- A TIME_SYNC received on port p with frame number F and edge offset E; `phase` is the number of reference periods from
the last tick to the first reference edge at or after the end of the ordered set (R40 to R42, R54). One with F of 2^64 − 1 whose tick
would be that of F + 1, which no counter holds, is accepted, and the counter stays at its largest value (DESIGN CHOICE,
notes/assumptions/73.md). -/
def recvTimeSync (s : State) (p f e phase : Nat) : State :=
  let k := p / 4
  if !s.flag k 0 F.TIC_CTRL_SYNC_ACCEPT || p != s.refPort || s.mode == .off then s else
  let x := phase + e
  let num := if 200 ≤ x then f else f + 1
  if num ≤ s.frame k ∨ s.sync.isSome then s.report k K.TIC_SYNC_REJECT 0 0 0 else
  let len := if 200 ≤ x then x else x + 200
  let s1 := { s with sync := some (min cntMax num), longFrame := s.longFrame || decide (200 < len) }
  (s1.setCnt 0 .tic 0 1 f).setCnt 0 .tic 0 2 (satAdd cntMax (s.cntVal 0 .tic 0 2) 1)

/-- TIME_SYNC (R41). An edge offset above 199 is a protocol error (R348, R355). -/
def execTimeSync (p : Nat) (f : BitVec 64) (e phase : Nat) (s : State) : Out :=
  .next (if 199 < e then s.report (p / 4) K.NXP_PROTOCOL (p % 4) 0 0 else recvTimeSync s p f.toNat e phase)

/-- FRAME_COUNT_ALIGN: every 1,024 frames the aggregator sends its counter; a stack whose counter differs takes it at the
next tick and sets FRAME_MISMATCH (R39). -/
def execFrameCountAlign (s : State) : Out :=
  .next (if !s.serving || !s.aggChosen || decide (s.now s.agg - s.alignLast < 1024) then s else
    forStacks { s with alignLast := s.now s.agg } (fun s k =>
      if k = s.agg ∨ s.inReset k ∨ !s.reach s.agg k then s else
      let s1 := s.ringTx s.agg k
      if !s1.flag k 0 F.TIC_CTRL_MISMATCH_CHECK_EN || s1.frame k == s1.frame s1.agg then s1
      else (s1.modStk k (fun x => { x with tm := { x.tm with align := true } })).report k K.TIC_FRAME_MISMATCH 0 0 0))

/-! ### Tiers -/

/-- Hottest value in use among the memory dies (R46), in 0.25 °C. -/
def Stack.hotDie (x : Stack) : Int := x.th.memUse.foldl max (x.th.memUse.headD 0)

/-- The tier that a temperature reaches: 85 °C warm, 105 °C hot (R46). -/
def tierOf (t : Int) : Nat := if 420 ≤ t then 2 else if 340 ≤ t then 1 else 0

/-- Entry threshold of a tier. -/
def tierEntry (tier : Nat) : Int := if tier = 2 then 420 else 340

/-- A stack with more than 4 suspect dies is held hot (R416). -/
def Stack.heldHot (x : Stack) : Bool := decide (4 < (x.th.suspect.filter (· == true)).length)

/-- Retention interval of a SID: 0 for 32 ms, 1 for 16 ms, 2 for 8 ms; halved for a suspect die, 8 ms with more than four
(R241, R416). -/
def Stack.sidInterval (x : Stack) (sid : Nat) : Nat :=
  let ds := (List.range 4).map (fun i => 4 * sid + i)
  let hot := ds.foldl (fun m d => max m (tierOf (x.th.memUse.getD d 0))) 0
  if x.heldHot then 2 else if ds.any (fun d => x.th.suspect.getD d false) then min 2 (hot + 1) else hot

/-- Tier that the sensors ask for now. -/
def Stack.wantTier (x : Stack) : Nat := if x.heldHot then 2 else tierOf x.hotDie

/-- Sets a stack's tier. -/
def setTier (s : State) (k tier : Nat) : State :=
  s.modStk k (fun x => { x with tm := { x.tm with tier := tier, tierKnown := true, tierNext := none }, th := { x.th with tierHold := 0 } })

/-- The tier that the next tick brings (R46). -/
def nextTier (s : State) (k tier : Nat) : State := s.modStk k (fun x => { x with tm := { x.tm with tierNext := some tier } })

/-- TIER_UP: the hottest die has reached a higher tier; it rises at the next tick (R46). -/
def execTierUp (k : Nat) (s : State) : Out :=
  .next (let x := s.stk k
    if x.tm.tier < x.wantTier then nextTier s k x.wantTier else s)

/-- TIER_DOWN: 6,250 frames at least 2 °C below the tier's threshold; it falls one step at the next tick (R46). -/
def execTierDown (k : Nat) (s : State) : Out :=
  .next (let x := s.stk k
    if 0 < x.tm.tier ∧ 6250 ≤ x.th.tierHold ∧ x.heldHot = false then nextTier s k (x.tm.tier - 1) else s)

/-! ### Running level -/

/-- Any stack runs on conservative trims (R390). -/
def State.trimCap (s : State) : Bool := s.stks.any (fun x => x.otp.conservative)

/-- Committed P-level. -/
def State.committed (s : State) : Nat := s.fld s.agg 0 F.PKG_PLEVEL_LEVEL

/-- The slowest of the committed level, the supply cap and the trim cap (R390). -/
def State.targetLevel (s : State) : Nat :=
  max s.committed (max (if s.supplyCap then 2 else 0) (if s.trimCap then 3 else 0))

/-- Logic-rail voltage of a level in mV (R390). -/
def levelMv (l : Nat) : Nat := match l with | 0 => 850 | 1 => 780 | 2 => 720 | _ => 650

/-- Sets the running level on every stack, with its logic-rail voltage (R391). -/
def setLevel (s : State) (l : Nat) : State :=
  forStacks { s with runLevel := l, levelNext := none } (fun s k => s.modStk k (fun x => { x with pw := { x.pw with railMv := x.pw.railMv.set 0 (levelMv l) } }))

/-- RUN_LEVEL_CHANGE: the running level becomes the slowest of the three at the next tick, so that no frame mixes two levels (R37,
R390, R391). -/
def execRunLevelChange (level : Nat) (s : State) : Out :=
  .next (if s.serving && level == s.targetLevel && level != s.runLevel then { s with levelNext := some level } else s)

/-- The running level that the tick brings (R37). -/
def tickLevel (s : State) : State := match s.levelNext with | some l => setLevel s l | none => s

end Sys2Proof.Machine
end

