-- ==== Sys2Proof/Machine/Lanes.lean ====
section
/-! DEFINITION. Nimnex lanes (R302 to R337): port states and training, alignment markers, LDPC codewords, scrambling,
framing-A groups' checks, burst idle, test mode and error injection; with the retrain and link reset of R352 and R354. -/

namespace Sys2Proof.Machine

/-! ### Port states -/

/-- A port's lanes can run: the package is in a mode with links, the base die is not under reset, PLL_FIX is locked, and
the port is not marked unusable (R380, R480). -/
def State.portLive (s : State) (p : Nat) : Bool :=
  let k := p / 4
  decide (p < 4 * s.n) && !s.inReset k && !(s.prt p).unusable && !(s.stk k).scanned && (s.stk k).clk.fixPll == 2 && !(s.stk k).clk.recovering && !(s.stk k).bst.shutdown &&
  (s.mode == .starting || s.mode == .active || s.mode == .idle || s.mode == .enteringRetain || s.mode == .leavingRetain)

/-- Sets a port's state with PORT_UP (R318, NXL page). -/
def setPortState (s : State) (p : Nat) (st : LaneState) : State :=
  (s.modPort p (fun x => { x with lstate := st })).statusBit (p / 4) .nxl (p % 4) 0 (st == .active)

/-! ### Transmit lines -/

/-- Changes a lane of a port. -/
def State.modLane (s : State) (p lane : Nat) (f : Lane → Lane) : State :=
  s.modPort p (fun x => { x with lanes := x.lanes.modify lane f })

/-- A lane of a port. -/
def State.lane (s : State) (p lane : Nat) : Lane := (s.prt p).lanes.getD lane Lane.reset

/-- A logical lane's symbols come inverted: the polarity bit of the physical lane that carries it (R319, R333). -/
def Port.inverted (x : Port) (lane : Nat) : Bool := x.polarity.getLsbD (x.physLane.findIdx (· == lane))

/-- The error rate of a lane in MODE 2, in TEST and in ACTIVE: one symbol in every 2^RATE_EXP (R329, R335). -/
def State.injRate (s : State) (p lane : Nat) : Option Nat :=
  let st := (s.prt p).lstate
  if s.fld (p / 4) (p % 4) F.NXL_INJ_MODE == 2 && bitAt (s.fld (p / 4) (p % 4) F.NXL_INJ_LANES) lane && (st == .test || st == .active) then
    some (2 ^ max 10 (s.fld (p / 4) (p % 4) F.NXL_INJ_RATE_EXP))
  else none

/-- A lane sends symbols: injected errors hit them, and they are the last on its line (R329). -/
def Lane.onLine (rate : Option Nat) (l : Lane) (syms : List Nat) : Lane :=
  if syms.isEmpty then l else
  let r := injectLine rate l.injLeft l.injCount syms
  { l with line := r.1, injLeft := r.2.1, injCount := if rate.isSome then r.2.2 else 0 }

/-- Every lane of a port sends what f gives it; INJ_BUSY stands while a single or burst injection is left (R329, R335). -/
def Port.send (rate : Nat → Option Nat) (f : Nat → Lane → Lane × List Nat) (x : Port) : Port :=
  let ls := x.lanes.zipIdx.map (fun e => let r := f e.2 e.1; r.1.onLine (rate e.2) r.2)
  { x with lanes := ls, injBusy := ls.any (fun l => decide (0 < l.injLeft)) }

/-- Every lane of a port sends. -/
def State.sendLanes (s : State) (p : Nat) (f : Nat → Lane → Lane × List Nat) : State := s.modPort p (·.send (s.injRate p) f)

/-- The line of a wake on a lane: 512 symbols of PRBS13Q and two markers of KIND 1 (R324). -/
def wakeLine (b : Bool) (seq lane : Nat) : List Nat :=
  (prbsRun true 512 1).1 ++ markerSymbols lane (b2n b) 1 seq ++ markerSymbols lane (b2n b) 1 (seq + 1)

/-- A parked transmitter wakes; the second marker begins the burst's first period (R324, R327). -/
def wakeTx (s : State) (p : Nat) : State :=
  if !(s.prt p).txParked then s else
  let x := s.prt p
  (s.sendLanes p (fun n l => (l, wakeLine x.framingB (x.txSeq + 1) n))).modPort p (fun x => { x with
    txParked := false, txSeq := (x.txSeq + 2) % 16, idleFlits := 0 })

/-- Pads of a lane in the period that ends (R313). -/
def Lane.pads (l : Lane) : Nat := 1472 - l.txStuffs

/-- The period's trailer is sent: always in framing A; in framing B if every lane has at least 112 pads (R313, R338). (DESIGN
CHOICE, notes/assumptions/79.md) -/
def Port.trailerFits (x : Port) : Bool := !x.framingB || x.lanes.all (fun l => decide (112 ≤ l.pads))

/-- A lane ends a marker period: the trailer's block, or the pads whose last 112 symbols are the trailer; a lane without room for the
trailer sends pads alone. A new count of stuff symbols begins (R313, R347). -/
def Lane.endPeriod (b : Bool) (w : Option (BitVec 56)) (l : Lane) : Lane × List Nat :=
  if b then
    ({ l with txRun := (0, 0), txStuffs := 0 }, match w with
      | some w => padSymbols (l.pads - 112) ++ trailerSymbols w
      | none => padSymbols l.pads)
  else match w with
    | some w =>
      let r := scrambledBlock l.txScram 2 (trailerPayload w)
      ({ l with txScram := r.2 }, r.1)
    | none => (l, [])

/-- A port ends a marker period with a trailer, or without one; another period's marker follows unless the direction parks. -/
def endPeriod (s : State) (p : Nat) (ws : Option (List (BitVec 56))) (more : Bool) : State :=
  let x := s.prt p
  let seq := (x.txSeq + 1) % 16
  (s.sendLanes p (fun n l =>
    let r := l.endPeriod x.framingB (ws.map (·.getD n 0))
    (r.1, r.2 ++ if more then markerSymbols n (b2n x.framingB) 0 seq else []))).modPort p (fun x => { x with
      txSeq := if more then seq else x.txSeq, txBlock := 0 })

/-- A FIR preset: |c(−1)|, |c(+1)| (R316). -/
def firPreset (n : Nat) : Nat × Nat :=
  match n with
  | 0 => (0, 0) | 1 => (0, 4) | 2 => (0, 8) | 3 => (0, 12) | 4 => (4, 0) | 5 => (4, 8) | 6 => (6, 12) | _ => (8, 16)

/-- A lane at the start of a training phase: preset n, no RX_READY run. -/
def Lane.startPhase (x : Lane) (n : Nat) : Lane :=
  { x with pre := (firPreset n).1, post := (firPreset n).2, preset := n, preSts := 0, postSts := 0, rdyRun := 0 }

/-- Every lane starts a phase. -/
def startPhase (s : State) (p n : Nat) : State :=
  s.modPort p (fun x => { x with lanes := x.lanes.map (fun l => l.startPhase n) })

/-- INIT_PRESET_A or INIT_PRESET_B of a port. -/
def State.initPreset (s : State) (p : Nat) (b : Bool) : Nat :=
  s.fld (p / 4) (p % 4) (if b then F.NXL_CTRL_INIT_PRESET_B else F.NXL_CTRL_INIT_PRESET_A)

/-- What resetting a port's link discards (R354): stored flits, sequence state and ingress requests; responses of requests
that have left ingress are discarded at RSP egress; forwarded requests end with TIMEOUT. -/
def linkDrop (s : State) (p : Nat) : State :=
  let recs := (s.prt p).fwdRecs
  let s1 := recs.foldl (fun s f => timeoutRec s p f) s
  s1.modPort p (fun x => { x with
    ingress := [], fences := [], mgmtIn := [], rspIn := [], rspInRsv := 0, fwdOut := [], rspOut := [], rspWait := [], staleRecs := [],
    mgmtOut := [], mgmtRaw := [], ctxCred := [], outst := [], peerCred := [], mgmtCred := 0, rspAvail := 0, mgmtAvail := 0,
    rspGranted := 0, mgmtGranted := 0, rspStallFrames := 0, rspStalled := false, rxExpect := 0, rxPeriodSeq := 0,
    nakPending := false, unacked := 0, parse := none, rxVc := .mgmt, txNext := 0, replay := [], txAcked := 4095,
    nakRx := none, replayFrom := none, replayRun := 0, replayFresh := false, resend := [], noProgress := 0,
    lackDue := false, lcrdOut := [], rspRet := 0, mgmtRet := 0, txEvent := 0, txVc := .mgmt, txQueue := [], fwdSkip := 0,
    resume := false, dropBelow := s.nextRid })

/-- A link reset is counted and logged (R354). (DEDUCED, notes/assumptions/51.md) -/
def logLinkReset (s : State) (p : Nat) : State :=
  (((s.modPort p (fun x => { x with wasActive := false })).statusBit (p / 4) .nxp (p % 4) 0 false).count
    (p / 4) .nxp (p % 4) 7 1).report (p / 4) K.NXP_LINK_RESET (p % 4) 0 0

/-- Resets a port's link (R354). -/
def linkReset (s : State) (p : Nat) : State := logLinkReset (linkDrop s p) p

/-- A port enters DETECT; one that was ACTIVE resets its link (R318, R354). -/
def enterDetect (s : State) (p : Nat) : State :=
  let s1 := if (s.prt p).wasActive then linkReset s p else s
  let s2 := setPortState s1 p .detect
  startPhase (s2.modPort p (fun x => { x with
    framingB := false, phaseB := false, rateBSent := false, resume := false,
    txParked := false, seenTx := false, seenRx := false, partnerResume := false,
    lanes := x.lanes.map (fun l => { l with rx := .running, markRun := 0, noMarker := 0, partnerRateB := 0 }) })) p
    (s2.initPreset p false)

/-- A port enters TEST: a parked transmitter wakes first; the lanes take the FIR values of the last training, or INIT_PRESET_A
(R318, R327, R328). -/
def enterTest (s : State) (p : Nat) : State :=
  let init := s.initPreset p false
  (setPortState (wakeTx s p) p .test).modPort p (fun x => { x with
    lanes := x.lanes.map (fun l =>
      let f := l.fir.getD ((firPreset init).1, (firPreset init).2, init)
      { l with pre := f.1, post := f.2.1, preset := f.2.2, chkLocked := false, chk := 0, chkRun := 0, line := [] }) })

/-- A try ends in failure: TRIES and TRAIN_TRIES count it; at MAX_TRIES the port holds in DETECT (R318, R331). -/
def failTry (s : State) (p : Nat) : State :=
  let k := p / 4
  let i := p % 4
  let s1 := ((enterDetect s p).count k .nxl i 27 1).report k K.NXL_TRAIN_FAIL i 0 0
  let tries := (s1.prt p).tries + 1
  let s2 := s1.modPort p (fun x => { x with tries := tries })
  if max 1 (s2.fld k i F.NXL_CTRL_MAX_TRIES) ≤ tries ∧ (s2.prt p).held = false then
    ((s2.modPort p (fun x => { x with held := true })).statusBit k .nxl i 1 true).report k K.NXL_PORT_HELD i 0 0
  else s2

/-- A port in ACTIVE retrains: TRAIN with the lane map kept, LINK_INIT with RESUME = 1 to follow (R318, R352, R353). -/
def retrain (s : State) (p : Nat) : State :=
  if (s.prt p).lstate != .active then s else
  let k := p / 4
  let i := p % 4
  let s1 := (setPortState (wakeTx s p) p .train).modPort p (fun x => { x with
    resume := true, partnerResume := false, seenTx := false,
    seenRx := false, phaseB := false, rateBSent := false, txEvent := 0,
    lanes := x.lanes.map (fun l => { l with rx := .running, markRun := 0, noMarker := 0, partnerRateB := 0, frozen := false }) })
  ((startPhase s1 p (s1.initPreset p false)).count k .nxp i 6 1).report k K.NXP_RETRAIN i 0 0

/-- A lane begins marker periods: its FIR values are those of this training, its counts start anew, units that wait are dropped. -/
def Lane.startPeriods (l : Lane) : Lane :=
  { l with
    markRun := 0, noMarker := 0, fails := 0, failHeld := false, fir := some (l.pre, l.post, l.preset)
    txUnits := [], txRun := (0, 0), txStuffs := 0, rxRun := (0, 0), rxUnits := [] }

/-- Enters ALIGN with the chosen framing: marker periods begin (R318). -/
def enterAlign (s : State) (p : Nat) (b : Bool) : State :=
  ((setPortState s p .align).modPort p (fun x => { x with
    framingB := b, phaseB := false, rateBSent := false, groupOut := [], txBlock := 0, rxBlock := 0, txSeq := 0
    lanes := x.lanes.map Lane.startPeriods })).sendLanes p (fun n l => (l, markerSymbols n (b2n b) 0 0))

/-- A port in a state runs f, if its lanes can run. -/
def inState (s : State) (p : Nat) (st : LaneState) (f : State → State) : State :=
  if s.portLive p && (s.prt p).lstate == st then f s else s

/-! ### Bring-up -/

/-- LANE_MAP: all 8 receive lanes see 4 training markers; each physical lane's LANE and polarity give the map; an order
other than direct or reversed fails (R318, R319). -/
def execLaneMap (p : Nat) (lanes : List (Nat × Bool)) (s : State) : Out :=
  .next (inState s p .detect (fun s =>
    if (s.prt p).held || lanes.length != 8 then s else
    let order := lanes.map (·.1)
    let pol := (lanes.zipIdx).foldl (fun a x => a + b2n x.1.2 * 2 ^ x.2) 0
    let s1 := (setPortState s p .laneMap).modPort p (fun x => { x with
      polarity := BitVec.ofNat 8 pol, reversed := order == [7, 6, 5, 4, 3, 2, 1, 0], physLane := order })
    if order = [0, 1, 2, 3, 4, 5, 6, 7] ∨ order = [7, 6, 5, 4, 3, 2, 1, 0] then s1
    else failTry (s1.report (p / 4) K.NXL_LANE_ORDER (p % 4) 0 0) p))

/-- LANE_MAP_CONSISTENT: the map held for 16 training frames; TRAIN begins with phase A (R318). -/
def execLaneMapConsistent (p : Nat) (s : State) : Out :=
  .next (inState s p .laneMap (fun s => startPhase ((setPortState s p .train).modPort p (fun x => { x with phaseB := false }))
    p (s.initPreset p false)))

/-- LANE_MAP_TIMEOUT (R318). -/
def execLaneMapTimeout (p : Nat) (s : State) : Out := .next (inState s p .laneMap (fun s => failTry s p))

/-- Eye metric of a lane (R317). -/
def Lane.eye (x : Lane) : Nat := min x.eyeHigh (min x.eyeMid x.eyeLow)

/-- The port's own RX_READY (R321). -/
def State.rxReady (s : State) (p : Nat) : Bool :=
  (s.prt p).lanes.all (fun l => decide (s.fld (p / 4) (p % 4) F.NXL_CTRL_EYE_MIN ≤ l.eye))

/-- A step of a coefficient of magnitude m with limit top: new magnitude and reply (R315, R320). `other` is the other
cursor's magnitude. -/
def firStep (req m top other : Nat) : Nat × Nat :=
  if req = 1 then (if m < top ∧ 32 ≤ 64 - (m + 1) - other then (m + 1, 1) else (m, 2))
  else if req = 2 then (if 0 < m then (m - 1, 1) else (m, 2))
  else (m, 0)

/-- CRC-16 of a training block over payload bits [47:0] (R320). (DESIGN CHOICE, notes/assumptions/15.md) -/
def trainCrc (payload : Nat) : Nat := crcShl 16 0x1021 (Config.trainCrcInit % 65536) ((List.range 48).map (fun i => payload.testBit i))

/-- Applies the partner's coefficient request (R320). -/
def Lane.request (x : Lane) (v : Nat) : Lane :=
  if bitAt v 15 then
    let n := bits v 14 12
    { x with pre := (firPreset n).1, post := (firPreset n).2, preset := n, preSts := 1, postSts := 1 }
  else
    let a := firStep (bits v 9 8) x.pre 12 x.post
    let b := firStep (bits v 11 10) x.post 24 a.1
    { x with pre := a.1, post := b.1, preSts := a.2, postSts := b.2 }

/-- Payload of the training block that a lane sends: its own requests, free; the answers to the partner's; RX_READY, CAP_B and
RATE_B; CHECK (R320, R321). (DESIGN CHOICE, notes/assumptions/78.md) -/
def trainPayload (l : Lane) (ready rateB : Bool) (d : Nat) : Nat :=
  let v := 0x4B + d % 3 * 2 ^ 8 + d / 3 % 3 * 2 ^ 10 + d / 9 % 8 * 2 ^ 12 + d / 72 % 2 * 2 ^ 15 + l.preSts * 2 ^ 16 +
    l.postSts * 2 ^ 18 + b2n ready * 2 ^ 20 + 2 ^ 21 + b2n rateB * 2 ^ 22
  v + trainCrc v * 2 ^ 48

/-- A training frame's 4,096 symbols: a marker of KIND 2, the block, PRBS13Q (R320). -/
def trainLine (lane framing seq payload : Nat) : List Nat :=
  markerSymbols lane framing 2 seq ++ blockSymbols 2 (lowBits 64 payload) ++ (prbsRun true 3999 1).1

/-- A lane sends its next training frame; frames are counted on lane 0 (R305, R320). -/
def sendTraining (s : State) (p lane : Nat) : State :=
  let d := s.draw
  let x := s.prt p
  let seq := (x.txSeq + b2n (lane == 0)) % 16
  (d.2.modPort p (fun x => { x with txSeq := seq })).sendLanes p (fun n l =>
    (l, if n = lane then trainLine lane (b2n x.phaseB) seq (trainPayload l (s.rxReady p) x.rateBSent d.1) else []))

/-- TRAINING_FRAME: the lane's measured settings are stored; a block whose CHECK holds has its request applied and its RX_READY, CAP_B
and RATE_B noted; the next frame sent carries the answer (R320, R321). -/
def execTrainingFrame (p lane : Nat) (payload : BitVec 64) (obs : LaneObs) (s : State) : Out :=
  .next (if !s.portLive p || decide (8 ≤ lane) || !((s.prt p).lstate == .train) then s else
    let v := payload.toNat
    let s1 := s.modPort p (fun x => { x with lanes := x.lanes.modify lane (fun l => { l with
      ctle := obs.ctle, vga := obs.vga, dfe1 := obs.dfe1, dfe2 := obs.dfe2, dfe3 := obs.dfe3, eyeHigh := obs.eyeHigh,
      eyeMid := obs.eyeMid, eyeLow := obs.eyeLow }) })
    if bits v 7 0 ≠ 0x4B ∨ bits v 63 48 ≠ trainCrc v then sendTraining s1 p lane else
    let rdy := s1.rxReady p && bitAt v 20
    sendTraining (s1.modPort p (fun x => { x with lanes := x.lanes.modify lane (fun l =>
      let m := l.request v
      { m with
        rdyRun := (if rdy then l.rdyRun + 1 else 0), partnerCapB := bitAt v 21,
        partnerRateB := (if bitAt v 22 then l.partnerRateB + 1 else 0) }) })) p lane)

/-- Both ends have sent RX_READY in 16 consecutive training frames. -/
def Port.phaseDone (x : Port) : Bool := x.lanes.all (fun l => decide (16 ≤ l.rdyRun))

/-- B_PERMITTED (R321). -/
def State.bPermitted (s : State) (k : Nat) : Bool := !(s.stk k).otp.conservative

/-- Phase B is selected (R321). -/
def State.selectsB (s : State) (p : Nat) : Bool :=
  (s.prt p).lanes.all (·.partnerCapB) && s.flag (p / 4) (p % 4) F.NXL_CTRL_ALLOW_B && s.bPermitted (p / 4)

/-- PHASE_A_DONE: RATE_B follows if phase B is selected, else ALIGN in framing A (R321). -/
def execPhaseADone (p : Nat) (s : State) : Out :=
  .next (inState s p .train (fun s =>
    if (s.prt p).phaseB || (s.prt p).rateBSent || !(s.prt p).phaseDone then s
    else if s.selectsB p then s.modPort p (fun x => { x with rateBSent := true })
    else enterAlign s p false))

/-- PHASE_A_TIMEOUT (R318). (DESIGN CHOICE, notes/assumptions/24.md) -/
def execPhaseATimeout (p : Nat) (s : State) : Out :=
  .next (inState s p .train (fun s => if (s.prt p).phaseB || (s.prt p).rateBSent then s else failTry s p))

/-- PHASE_B_SWITCH: 16 frames after each end has seen RATE_B the transmitters resume at 106.25 GBd with INIT_PRESET_B
(R321). -/
def execPhaseBSwitch (p : Nat) (s : State) : Out :=
  .next (inState s p .train (fun s =>
    if (s.prt p).rateBSent && !(s.prt p).phaseB && (s.prt p).lanes.all (fun l => decide (16 ≤ l.partnerRateB)) then
      startPhase (s.modPort p (fun x => { x with phaseB := true })) p (s.initPreset p true)
    else s))

/-- PHASE_B_DONE: the port uses framing B (R321). -/
def execPhaseBDone (p : Nat) (s : State) : Out :=
  .next (inState s p .train (fun s => if (s.prt p).phaseB && (s.prt p).phaseDone then enterAlign s p true else s))

/-- PHASE_B_TIMEOUT: the port falls back to framing A and logs NX_FALLBACK_A (R318, R321). -/
def execPhaseBTimeout (p : Nat) (s : State) : Out :=
  .next (inState s p .train (fun s =>
    if (s.prt p).phaseB || (s.prt p).rateBSent then
      ((enterAlign s p false).count (p / 4) .nxl (p % 4) 28 1).report (p / 4) K.NXL_FALLBACK_A (p % 4) 0 0
    else s))

/-- ALIGN_DONE: two consecutive markers in place on every lane, deskew done; LINK_INIT begins (R318). -/
def execAlignDone (p : Nat) (s : State) : Out :=
  .next (inState s p .align (fun s =>
    if (s.prt p).lanes.all (fun l => decide (2 ≤ l.markRun)) then
      (setPortState s p .linkInit).modPort p (fun x => { x with seenTx := false, seenRx := false, partnerResume := false })
    else s))

/-- ALIGN_TIMEOUT (R318). -/
def execAlignTimeout (p : Nat) (s : State) : Out := .next (inState s p .align (fun s => failTry s p))

/-! ### NXL_CTRL -/

/-- A write of NXL_CTRL (R332): RESTART clears TRIES and HELD and enters DETECT; TEST_EN enters and leaves TEST. RESTART
has no effect on an unusable port (R480). -/
def writeNxlCtrl (s : State) (k i v : Nat) : State :=
  let p := 4 * k + i
  let was := s.flag k i F.NXL_CTRL_TEST_EN
  let s1 := s.setRaw k .nxl i 0x100 (bits v 30 18 * 2 ^ 18 + bits v 15 0)
  if (s.prt p).unusable then s1 else
  let s2 := if bitAt v 31 then
      ((enterDetect s1 p).modPort p (fun x => { x with tries := 0, held := false })).statusBit k .nxl i 1 false
    else s1
  if bitAt v 30 && !was then
    enterTest s2 p
  else if !bitAt v 30 && was then enterDetect s2 p
  else s2

/-- NXL_RESTART: a write of NXL_CTRL with RESTART 1 (R332). -/
def execNxlRestart (_src : Source) (p : Nat) (v : Reg32) (s : State) : Out :=
  .next (if s.winOk (p / 4) && bitAt v.toNat 31 then writeNxlCtrl s (p / 4) (p % 4) v.toNat else s)

/-- TEST_ENTER: a write of NXL_CTRL that sets TEST_EN (R318). -/
def execTestEnter (_src : Source) (p : Nat) (v : Reg32) (s : State) : Out :=
  .next (if s.winOk (p / 4) && bitAt v.toNat 30 then writeNxlCtrl s (p / 4) (p % 4) v.toNat else s)

/-- TEST_EXIT: a write of NXL_CTRL that clears TEST_EN (R318). -/
def execTestExit (_src : Source) (p : Nat) (v : Reg32) (s : State) : Out :=
  .next (if s.winOk (p / 4) && !bitAt v.toNat 30 then writeNxlCtrl s (p / 4) (p % 4) v.toNat else s)

/-- ALIGNMENT_LOST: a lane has found no marker for four consecutive periods; the port retrains (R314, R352). -/
def execAlignmentLost (p : Nat) (s : State) : Out :=
  .next (inState s p .active (fun s => if (s.prt p).lanes.any (fun l => decide (4 ≤ l.noMarker)) then retrain s p else s))

/-! ### Failures -/

/-- A failure on a lane: the fourth in a row unfreezes its gain, which re-acquires and freezes again; the count is then held
until the next marker (R326). -/
def laneFail (s : State) (p lane : Nat) : State :=
  let l := (s.prt p).lanes.getD lane Lane.reset
  let upd := fun (s : State) (f : Lane → Lane) => s.modPort p (fun x => { x with lanes := x.lanes.modify lane f })
  if l.failHeld then s
  else if l.fails + 1 < 4 then upd s (fun l => { l with fails := l.fails + 1 })
  else ((upd s (fun l => { l with fails := 0, failHeld := true, frozen := true })).count (p / 4) .nxl (p % 4) 26 1).report
    (p / 4) K.NXL_UNFREEZE (p % 4) lane 0

/-! ### Burst idle -/

/-- The transmitter has nothing to send. -/
def Port.quiet (x : Port) : Bool :=
  x.mgmtOut.isEmpty && x.mgmtRaw.isEmpty && x.rspOut.isEmpty && x.fwdOut.isEmpty && x.txQueue.isEmpty && x.resend.isEmpty &&
  x.nakRx.isNone && !x.lackDue && x.lcrdOut.isEmpty && x.rspRet == 0 && x.mgmtRet == 0

/-- The direction parks after END_OF_BURST, which needs the period's trailer (R313, R323, R347). -/
def park (s : State) (p : Nat) : State :=
  let x := s.prt p
  if x.trailerFits then
    let ws := trailer x.txNext 2
    (endPeriod s p (some ws) false).modPort p (fun x => { x with txParked := true, lastTrailer := ws })
  else s

/-- BURST_IDLE_ENTRY: burst idle is permitted and nothing has been to send for BI_IDLE flit times, in IDLE mode at once; END_OF_BURST
is sent and the direction parks (R323). A RETRAIN that waits for the trailer goes first (R348). -/
def execBurstIdleEntry (p : Nat) (s : State) : Out :=
  .next (inState s p .active (fun s =>
    let x := s.prt p
    if (s.mode == .idle || (s.flag (p / 4) (p % 4) F.NXL_CTRL_BI_EN &&
        decide (max 1 (s.fld (p / 4) (p % 4) F.NXL_CTRL_BI_IDLE) ≤ x.idleFlits))) && x.quiet && !x.txParked && x.txEvent == 0 then
      park s p
    else s))

/-- TX_WAKE: a parked transmitter with something to send wakes (R324). -/
def execTxWake (p : Nat) (s : State) : Out :=
  .next (inState s p .active (fun s => if (s.prt p).quiet then s else wakeTx s p))

/-- SQUELCH_ASSERT: a parked receiver starts acquisition (R324). -/
def execSquelchAssert (p lane : Nat) (s : State) : Out :=
  .next (if s.portLive p && (s.lane p lane).rx == .parked then
    s.modLane p lane (fun l => { l with rx := .acquiring, wakeMarks := 0 }) else s)

/-- A lane logs NX_FALSE_WAKE and parks. -/
def falseWake (s : State) (p lane : Nat) : State :=
  ((s.modLane p lane (fun l => { l with rx := .parked, wakeMarks := 0, frozen := false })).count (p / 4) .nxl (p % 4) 24 1).report
    (p / 4) K.NXL_FALSE_WAKE (p % 4) lane 0

/-- SQUELCH_DEASSERT: the gain unfreezes; a qualification in progress is abandoned (R325, R327). -/
def execSquelchDeassert (p lane : Nat) (s : State) : Out :=
  .next (if !s.portLive p || decide (8 ≤ lane) then s
    else if (s.lane p lane).rx == .acquiring then falseWake s p lane
    else s.modLane p lane (fun l => { l with frozen := false }))

/-- NX_FALSE_WAKE: no wake markers within 256 ns of squelch (R324). -/
def execNxFalseWake (p lane : Nat) (s : State) : Out :=
  .next (if s.portLive p && (s.lane p lane).rx == .acquiring then falseWake s p lane else s)

/-! ### Test mode and error injection -/

/-- A write of NXL_INJ (R329, R335): GO in MODE 0 or 1, in TEST and in ACTIVE, makes an injection of one symbol, or of BURST_LEN,
pending on the selected lanes: it hits the next symbols sent. -/
def writeNxlInj (s : State) (k i v : Nat) : State :=
  let p := 4 * k + i
  let s1 := s.setRaw k .nxl i 0x144 (bits v 30 8 * 2 ^ 8)
  let st := (s.prt p).lstate
  if bitAt v 31 && decide (bits v 30 29 < 2) && (st == .test || st == .active) then
    let n := if bits v 30 29 = 0 then 1 else max 1 (bits v 23 16)
    s1.modPort p (fun x =>
      let ls := x.lanes.zipIdx.map (fun e => if bitAt v (8 + e.2) then { e.1 with injLeft := n } else e.1)
      { x with lanes := ls, injBusy := ls.any (fun l => decide (0 < l.injLeft)) })
  else s1

/-- A write of NXL_INJ with a mode. -/
def inject (s : State) (p mode v : Nat) : State :=
  if s.winOk (p / 4) && bits v 30 29 == mode then writeNxlInj s (p / 4) (p % 4) v else s

/-- INJECT_SINGLE (R329). -/
def execInjectSingle (_src : Source) (p : Nat) (v : Reg32) (s : State) : Out := .next (inject s p 0 v.toNat)

/-- INJECT_BURST (R329). -/
def execInjectBurst (_src : Source) (p : Nat) (v : Reg32) (s : State) : Out := .next (inject s p 1 v.toNat)

/-- INJECT_RATE (R329). -/
def execInjectRate (_src : Source) (p : Nat) (v : Reg32) (s : State) : Out := .next (inject s p 2 v.toNat)

/-- A write of NXL_TEST: the checker of a lane that is deselected, or whose pattern changes, or of every lane where CHK_EN is 0, loses
its lock (R328, R335). (DESIGN CHOICE, notes/assumptions/78.md) -/
def writeNxlTest (s : State) (k i v : Nat) : State :=
  let p := 4 * k + i
  let changed := bits v 31 30 != s.fld k i F.NXL_TEST_PATTERN
  (s.setRaw k .nxl i 0x140 (bits v 31 25 * 2 ^ 25 + bits v 23 16 * 2 ^ 16)).modPort p (fun x => { x with
    lanes := x.lanes.zipIdx.map (fun e =>
      if !changed && bitAt v 28 && bitAt v (16 + e.2) then e.1 else { e.1 with chkLocked := false, chk := 0, chkRun := 0 }) })

/-- The test pattern is PRBS13Q; codes 2 and 3 act as PRBS31 (R335). -/
def State.testQ13 (s : State) (p : Nat) : Bool := s.fld (p / 4) (p % 4) F.NXL_TEST_PATTERN == 1

/-- Symbols of a frame in TEST: 68,000, or 136,000 at the framing-B rate, which needs B_PERMITTED (R302, R335). -/
def State.testSymbols (s : State) (p : Nat) : Nat :=
  if s.flag (p / 4) (p % 4) F.NXL_TEST_TEST_RATE && s.bPermitted (p / 4) then 136000 else 68000

/-- A lane's symbols in TEST: what its generator sends, with injected errors, and what its receiver then takes. Near-end loopback gives
the receiver the transmitted symbols and leaves the pins idle; far-end loopback sends the received symbols (R328 to R330). -/
def Lane.testRun (q13 genOn : Bool) (loop : Nat) (rate : Option Nat) (l : Lane) (rx : List Nat) : Lane × List Nat :=
  let g := prbsRun q13 rx.length l.gen
  let out := if loop = 2 then rx else if genOn then g.1 else []
  let m := if genOn && loop != 2 then { l with gen := g.2 } else l
  let sent := m.onLine rate out
  if loop = 1 then ({ sent with line := [] }, if out.isEmpty then [] else sent.line)
  else (if out.isEmpty then { sent with line := [] } else sent, rx)

/-- A lane's checker takes symbols; answers the lane, the symbols checked, and those in error (R328). -/
def Lane.check (q13 : Bool) (l : Lane) (rx : List Nat) : Lane × Nat × Nat :=
  let c := rx.foldl (Checker.step q13) { reg := l.chk, run := l.chkRun, locked := l.chkLocked, seen := 0, errors := 0 }
  ({ l with chk := c.reg, chkRun := c.run, chkLocked := c.locked }, c.seen, c.errors)

/-- CHECKER_LOCK: symbols pass on a selected lane in TEST, up to a frame's: its generator sends, its checker locks after 64 error-free
symbols, and then counts TEST_SYMBOLS and TEST_ERRORS (R328 to R330, R337). -/
def execCheckerLock (p lane : Nat) (symbols : List Nat) (s : State) : Out :=
  .next (inState s p .test (fun s =>
    let k := p / 4
    let i := p % 4
    if decide (8 ≤ lane) || !bitAt (s.fld k i F.NXL_TEST_LANES) lane then s else
    let loop := s.fld k i F.NXL_TEST_LOOPBACK
    let phys := symbols.take (s.testSymbols p)
    let rx := if (s.prt p).inverted lane then phys.map invertLevel else phys
    let r := (s.lane p lane).testRun (s.testQ13 p) (s.flag k i F.NXL_TEST_GEN_EN) loop (s.injRate p lane) rx
    let c := if s.flag k i F.NXL_TEST_CHK_EN then r.1.check (s.testQ13 p) r.2 else (r.1, 0, 0)
    let s1 := s.modPort p (fun x =>
      let ls := x.lanes.set lane c.1
      { x with lanes := ls, injBusy := ls.any (fun l => decide (0 < l.injLeft)) })
    (s1.count k .nxl i 31 c.2.1).count k .nxl i lane c.2.2))

end Sys2Proof.Machine
end

