-- ==== Sys2Proof/Machine/Link.lean ====
section
/-! DEFINITION. The Nimnex link layer (R338 to R360): parsing of flit slots, link control, sequence and replay, period
trailers, credits, LINK_INIT and the retrain triggers. -/

namespace Sys2Proof.Machine

/-! ### Sequence numbers -/

/-- a is at or before b, modulo 4,096 (R343). -/
def seqLe (a b : Nat) : Bool := decide ((b + 4096 - a % 4096) % 4096 < 2048)

/-- A protocol error: ignored and logged (R355). -/
def protocolError (s : State) (p : Nat) : State := s.report (p / 4) K.NXP_PROTOCOL (p % 4) 0 0

/-- A loss at the receiver: everything is discarded, and NAK repeats, until a replay begins (R344). -/
def loseFlit (s : State) (p : Nat) : State :=
  if (s.prt p).nakPending then s
  else (s.modPort p (fun x => { x with nakPending := true, lackDue := true })).count (p / 4) .nxp (p % 4) 3 1

/-! ### Link-control slots -/

/-- Drops stored flits up to n; acknowledgement progress (R342, R345, R352). -/
def ackUpTo (s : State) (p n : Nat) : State :=
  s.modPort p (fun x => if seqLe (x.txAcked + 1) n && !seqLe x.txNext n then
    { x with
      replay := x.replay.filter (fun e => !seqLe e.1 n), resend := x.resend.filter (fun e => !seqLe e.1 n),
      txAcked := n % 4096, noProgress := 0, replayRun := 0, replayFrom := none }
    else x)

/-- LACK (R342, R345, R346). (DEDUCED, notes/assumptions/51.md) -/
def recvLack (s : State) (p : Nat) (w : Word) : State :=
  let x := s.prt p
  let n := bits (wordNum w 2 2) 11 0
  if !bitAt (wordNum w 1 1) 0 then ackUpTo s p n
  else if !(seqLe (x.txAcked + 1) n && seqLe n x.txNext) then protocolError s p
  else if x.replayFresh && x.replayFrom == some n then s
  else (ackUpTo s p ((n + 4095) % 4096)).modPort p (fun x => { x with nakRx := some n, replayRun := (if x.replayFrom = some n
    then x.replayRun else 0) })

/-- Context entry j of an LCRD: REQ_ID and COUNT (R349). -/
def lcrdEntry (w : Word) (j : Nat) : Nat × Nat := (bits (wordNum w (8 + 4 * j) 4) 9 0, bits (wordNum w (8 + 4 * j) 4) 19 10)

/-- LCRD (R349): RSP, MGMT and context credits return; a return beyond the grant is ignored and logged (R355). -/
def recvLcrd (s : State) (p : Nat) (w : Word) : State :=
  let x := s.prt p
  let rsp := wordNum w 2 2
  let mg := wordNum w 4 2
  let s1 := if x.rspGranted < x.rspAvail + rsp then protocolError s p
    else if rsp = 0 then s
    else (s.modPort p (fun x => { x with rspAvail := x.rspAvail + rsp, rspStallFrames := 0, rspStalled := false })).statusBit
      (p / 4) .nxp (p % 4) 0 false
  let s2 := if x.mgmtGranted < x.mgmtAvail + mg then protocolError s1 p
    else s1.modPort p (fun x => { x with mgmtAvail := x.mgmtAvail + mg })
  (List.range 6).foldl (fun s j =>
    let e := lcrdEntry w j
    if e.2 = 0 then s else s.modPort p (fun x => { x with peerCred := mset x.peerCred e.1 (mget x.peerCred e.1 0 + e.2) })) s2

/-- LINIT (R350, R353): SEEN, RESUME, ACK_SEQ and the grants; a grant below 9 ends LINK_INIT; RESUME = 0 after a retrain
resets the link (R354). -/
def recvLinit (s : State) (p : Nat) (w : Word) : State :=
  if (s.prt p).lstate != .linkInit then protocolError s p else
  let seen := bitAt (wordNum w 1 1) 0
  let res := bitAt (wordNum w 1 1) 1
  let s1 := if (s.prt p).resume && !res then linkReset s p else s
  if (s1.prt p).resume && res then
    let s2 := ackUpTo s1 p (bits (wordNum w 2 2) 11 0)
    s2.modPort p (fun x => { x with seenTx := true, seenRx := x.seenRx || seen, partnerResume := true, resend := x.replay })
  else if wordNum w 4 2 < 9 ∨ wordNum w 6 2 < 9 then failTry (protocolError s1 p) p
  else s1.modPort p (fun x => { x with
    seenTx := true, seenRx := x.seenRx || seen, partnerResume := res, rspGranted := wordNum w 4 2, mgmtGranted := wordNum w 6 2 })

/-- Virtual channel of a VCSEL code (R341). -/
def vcOf (n : Nat) : Vc := match n % 4 with | 0 => .req | 1 => .rsp | 2 => .fwd | _ => .mgmt

/-- VCSEL (R341). -/
def recvVcsel (s : State) (p : Nat) (w : Word) : State := s.modPort p (fun x => { x with rxVc := vcOf (bits (wordNum w 1 1) 1 0) })

/-- A link-control slot, in a sequenced flit or, `fill`, in a fill flit (R340, R341, R355). -/
def recvControl (s : State) (p : Nat) (fill : Bool) (w : Word) : State :=
  match wordNum w 0 1 with
  | 0x00 => s
  | 0xF0 => recvLack s p w
  | 0xF1 => if fill then protocolError s p else recvLcrd s p w
  | 0xF2 => recvLinit s p w
  | 0xF3 => if fill then protocolError s p else recvVcsel s p w
  | _ => protocolError s p

/-- The link can take flits. -/
def State.linkUp (s : State) (p : Nat) : Bool :=
  s.portLive p && ((s.prt p).lstate == .active || (s.prt p).lstate == .linkInit)

/-- A link-control slot with a code, received at a message start of an accepted flit. -/
def controlSlot (s : State) (p code : Nat) (w : Word) : State :=
  if s.linkUp p && wordNum w 0 1 == code then recvControl s p false w else s

/-- NOP (R341). -/
def execNop (p : Nat) (slot : Word) (s : State) : Out := .next (controlSlot s p 0x00 slot)

/-- LACK (R342). -/
def execLack (p : Nat) (slot : Word) (s : State) : Out := .next (controlSlot s p 0xF0 slot)

/-- LCRD (R349). -/
def execLcrd (p : Nat) (slot : Word) (s : State) : Out := .next (controlSlot s p 0xF1 slot)

/-- LINIT (R350). -/
def execLinit (p : Nat) (slot : Word) (s : State) : Out := .next (controlSlot s p 0xF2 slot)

/-- VCSEL (R341). -/
def execVcsel (p : Nat) (slot : Word) (s : State) : Out := .next (controlSlot s p 0xF3 slot)

/-! ### Messages -/

/-- Data words that follow a message's header (R105, R108, R114, R470). -/
def messageWords (vc : Vc) (h : Word) : Nat :=
  let op := wordNum h 0 1
  let n := bits (wordNum h 4 2) 15 12
  if op = 0x88 then 0 else if op = 0x89 then n else
  match vc with
  | .rsp => min 8 n
  | _ => dataWords op n

/-- A whole message arrives: a request takes credits of its context, a response enters RSP ingress, a management request
takes MGMT credits (R104, R129, R130, R355). (DEDUCED, notes/assumptions/42.md) -/
def deliver (s : State) (p : Nat) (vc : Vc) (h : Word) (ws : List Word) : State :=
  let op := wordNum h 0 1
  let s0 := { s with idleFrames := 0 }
  let viol := fun (s : State) => (s.count (p / 4) .nxp (p % 4) 8 1).report (p / 4) K.NXP_CREDIT_VIOL (p % 4) 0 0
  if op = 0x88 ∨ op = 0x89 then inboundIrq s0 p vc h else
  match vc with
  | .rsp => s0.modPort p (fun x => { x with rspIn := x.rspIn ++ [respOfHeader h p 0 ws] })
  | .mgmt =>
    if (s0.prt p).mgmtCred < 1 + ws.length then viol s0 else
    let m : MgmtMsg :=
      { op := op, reqId := bits (wordNum h 2 2) 9 0, tag := bits (wordNum h 4 2) 11 0,
        addr := BitVec.ofNat 48 (if op = 0x80 ∨ op = 0x81 then wordNum h 8 4 else wordNum h 8 6),
        maddr := BitVec.ofNat 32 (wordNum h 8 4), wdata := BitVec.ofNat 32 (wordNum h 12 4)
        rsvd := wordNum h 1 1 != 0 || bits (wordNum h 2 2) 15 10 != 0 || bits (wordNum h 4 2) 15 12 != 0 || wordNum h 6 2 != 0 ||
          (op == 0x80 && wordNum h 12 4 != 0) || wordNum h 16 16 != 0
        slots := 1 + ws.length }
    s0.modPort p (fun x => { x with mgmtIn := x.mgmtIn ++ [m], mgmtCred := x.mgmtCred - m.slots })
  | _ =>
    let r := reqOfHeader h vc p (s0.role (p / 4) p) 0 (ws.map (fun w => (w, false)))
    if s0.credits p r.reqId < r.slots then viol s0 else arrive s0 p r

/-- One flit slot of an accepted flit (R340). -/
def recvSlot (s : State) (p : Nat) (w : Word) : State :=
  match (s.prt p).parse with
  | some m =>
    let ws := m.words ++ [w]
    if m.owed ≤ 1 then deliver (s.modPort p (fun x => { x with parse := none })) p m.vc m.header ws
    else s.modPort p (fun x => { x with parse := some { m with words := ws, owed := m.owed - 1 } })
  | none =>
    let op := wordNum w 0 1
    if op = 0 ∨ 0xF0 ≤ op then recvControl s p false w else
    let vc := (s.prt p).rxVc
    let n := messageWords vc w
    if n = 0 then deliver s p vc w [] else s.modPort p (fun x => { x with parse := some { vc := vc, header := w, words := [], owed := n } })

/-- A received flit (R340 to R344): lost, a fill flit, accepted, a duplicate, or out of order. (DEDUCED, notes/assumptions/42.md) -/
def recvFlit (s : State) (p : Nat) (slots : List Word) (lost : Bool) : State :=
  if !s.linkUp p || slots.length != 8 || (s.prt p).nakPending then s else
  if lost then loseFlit s p else
  let x := s.prt p
  let op := wordNum (slots.headD 0) 0 1
  if x.parse.isNone && op == 0xFF then slots.tail.foldl (fun s w => recvControl s p true w) s
  else if op = 0xF2 ∧ x.lstate = .linkInit then slots.foldl (fun s w => recvControl s p true w) s
  else if x.rxPeriodSeq = x.rxExpect then
    let s1 := (s.modPort p (fun x => { x with
      rxExpect := (x.rxExpect + 1) % 4096, rxPeriodSeq := (x.rxPeriodSeq + 1) % 4096, unacked := x.unacked + 1,
      lackDue := x.lackDue || decide (max 1 (s.fld (p / 4) (p % 4) F.NXP_CTRL_ACK_FLITS) ≤ x.unacked + 1) })).count
      (p / 4) .nxp (p % 4) 1 1
    slots.foldl (fun s w => recvSlot s p w) s1
  else if seqLe x.rxPeriodSeq x.rxExpect then
    s.modPort p (fun x => { x with rxPeriodSeq := (x.rxPeriodSeq + 1) % 4096 })
  else loseFlit s p

/-- FLIT (R343). -/
def execFlit (p : Nat) (slots : List Word) (lost : Bool) (s : State) : Out := .next (recvFlit s p slots lost)

/-! ### What the lanes receive -/

/-- ALIGNMENT_MARKER: symbols received where logical lane's marker is expected, and the displacement of the place at which they stand.
A marker out of place within ±2,048 symbols is a slip, which loses a flit (R314, R344); two wake markers qualify a lane (R324);
anything else counts a period without a marker. A parked lane looks for none (R348). -/
def execAlignmentMarker (p lane : Nat) (symbols : List Nat) (displacement : Int) (s : State) : Out :=
  .next (let st := (s.prt p).lstate
    let l := s.lane p lane
    if !s.portLive p || decide (8 ≤ lane) || !(st == .align || st == .linkInit || st == .active) || l.rx == .parked then s else
    let k := p / 4
    let i := p % 4
    let sy := if (s.prt p).inverted lane then symbols.map invertLevel else symbols
    let miss := if l.rx == .acquiring then s else s.modLane p lane (fun l => { l with noMarker := l.noMarker + 1, markRun := 0 })
    match markerInfo sy with
    | none => miss
    | some v =>
      if displacement < -2048 ∨ 2048 < displacement then miss
      else if l.rx == .acquiring then
        (if bits v 5 4 ≠ 1 then s
         else if l.wakeMarks = 0 then s.modLane p lane (fun l => { l with wakeMarks := 1 })
         else (s.modLane p lane (fun l => { l with
           wakeMarks := 0, rx := .running, frozen := true, noMarker := 0, fails := 0, failHeld := false, rxRun := (0, 0) })).count
           k .nxl i 25 1)
      else
        let s1 := s.modLane p lane (fun l => { l with
          noMarker := 0, failHeld := false, rxRun := (0, 0), markRun := if displacement = 0 then l.markRun + 1 else 0 })
        if displacement ≠ 0 ∧ st = .active then
          loseFlit ((s1.count k .nxl i 30 1).report k K.NXL_SLIP i lane 0) p
        else s1)

/-- Flits whose units have come on every lane reach the link layer, lost if a codeword that holds a unit failed (R338, R344). -/
def assemble (p : Nat) : Nat → State → State
  | 0, s => s
  | fuel + 1, s =>
    let ls := (s.prt p).lanes
    if ls.any (fun l => decide (l.rxUnits.length < 4)) then s else
    let us := (List.range 32).map (fun j => ((ls.getD (j % 8) Lane.reset).rxUnits.getD (j / 8) (0, true)))
    let s1 := s.modPort p (fun x => { x with lanes := x.lanes.map (fun l => { l with rxUnits := l.rxUnits.drop 4 }) })
    assemble p fuel (recvFlit s1 p (flitOfUnits (us.map (·.1))) (us.any (·.2)))

/-- A symbol's two soft values as an inverted lane carries it: its first bit changes (R303, R319). -/
def invertSoft (x : Int × Int) : Int × Int := (min 31 (-x.1), x.2)

/-- Consecutive pairs of soft values. -/
def softPairs : List Int → List (Int × Int)
  | a :: b :: l => (a, b) :: softPairs l
  | _ => []

/-- The level of a symbol's hard decisions; a negative soft value is a 1. -/
def softLevel (x : Int × Int) : Nat := grayLevel (decide (x.1 < 0)) (decide (x.2 < 0))

/-- The codeword of a lane's symbols, in 2,048 soft values, with the destuffing count after them: none unless 1,024 symbols are left
(R310, R312). -/
def codewordOf (inv : Bool) (c : RunCount) (soft : List Int) : Option (List Int × RunCount) :=
  let ps := (softPairs soft).map (fun x => if inv then invertSoft x else x)
  let r := destuff c (ps.map (fun x => (softLevel x, x)))
  if r.1.length = 1024 then some (r.1.flatMap (fun x => [x.2.1, x.2.2]), r.2) else none

/-- CODEWORD: the symbols of a codeword, stuff symbols among them, as soft values: destuffing, decoding, the lane's counters and iteration
registers, descrambling; its 30 units go to the link layer, flagged where the codeword failed (R307 to R312, R334, R338). Symbols that
do not make a codeword change nothing. (DESIGN CHOICE, notes/assumptions/6.md) -/
def execCodeword (p lane : Nat) (soft : List Int) (s : State) : Out :=
  .next (if !s.portLive p || !(s.prt p).framingB || decide (8 ≤ lane) ||
      !((s.prt p).lstate == .active || (s.prt p).lstate == .linkInit) then s else
    match codewordOf ((s.prt p).inverted lane) (s.lane p lane).rxRun soft with
    | none => s
    | some (cw, run) =>
      let k := p / 4
      let i := p % 4
      let d := ldpcDecode cw
      let ok := ldpcOk d.1
      let s1 := s.modLane p lane (fun l =>
        let r := descramble l.scramRx (lowBits 1920 d.1.toNat)
        { l with
          iterLast := d.2, iterPeak := max l.iterPeak d.2, rxRun := run, scramRx := r.2
          rxUnits := l.rxUnits ++ (List.range 30).map (fun u => (BitVec.ofNat 64 (ofBits ((r.1.drop (64 * u)).take 64)), !ok)) })
      let s2 := if ok then
          (s1.modLane p lane (fun l => { l with fails := 0 })).count k .nxl i (16 + lane) (bitDiff 2048 d.1.toNat (hardBits cw).toNat)
        else laneFail (s1.count k .nxl i (8 + lane) 1) p lane
      assemble p 8 s2)

/-- The 420 blocks of a framing-A group, dealt to the lanes from lane b on: headers and descrambled payloads, and the descramblers
(R306, R307, R338, R339). -/
def readBlocks (b : Nat) : Nat → List (BitVec 66) → List Lane → List (Nat × Nat) × List Lane
  | _, [], ls => ([], ls)
  | j, x :: l, ls =>
    let n := (b + j) % 8
    let r := readBlock (ls.getD n Lane.reset).scramRx x
    let t := readBlocks b (j + 1) l (ls.modify n (fun z => { z with scramRx := r.2 }))
    (r.1 :: t.1, t.2)

/-- The 13 flits of a group's blocks. -/
def groupFlits (bs : List (Nat × Nat)) : List (List Word) :=
  (List.range 13).map (fun f => flitOfUnits ((List.range 32).map (fun j => BitVec.ofNat 64 (bs.getD (32 * f + j) (0, 0)).2)))

/-- A group is good: every header is valid and in its place, its four trailer blocks are of TYPE 0x1E, in order, agree, and hold the
CRC-32 of its 13 flits (R306, R339). -/
def groupGood (bs : List (Nat × Nat)) : Bool :=
  bs.length == 420 && (bs.take 416).all (fun x => x.1 == 1) && ((bs.drop 416).zipIdx).all (fun x =>
    x.1.1 == 2 && bits x.1.2 7 0 == 0x1E && bits x.1.2 15 8 == x.2 && bits x.1.2 47 16 == crc32 (flitBytes (groupFlits bs)))

/-- FRAMING_A_GROUP: the group's blocks as the lanes receive them; its 13 flits reach the link layer, or are lost; a failed group is a
failure on every lane (R326, R339). (DEDUCED, notes/assumptions/50.md) -/
def execFramingAGroup (p : Nat) (blocks : List (BitVec 66)) (s : State) : Out :=
  .next (if !s.linkUp p || (s.prt p).framingB then s else
    let r := readBlocks (s.prt p).rxBlock 0 blocks (s.prt p).lanes
    let good := groupGood r.1
    let s1 := s.modPort p (fun x => { x with
      rxBlock := (x.rxBlock + 4) % 8
      lanes := if good then r.2.map (fun l => { l with fails := 0 }) else r.2 })
    let s2 := if good then s1 else (List.range 8).foldl (fun s l => laneFail s p l) s1
    (groupFlits r.1).foldl (fun s f => recvFlit s p f (!good)) s2)

/-- LACK_DUE: an accepted flit has not been acknowledged; a LACK is to be sent (R344). -/
def execLackDue (p : Nat) (s : State) : Out :=
  .next (if s.linkUp p && (decide (0 < (s.prt p).unacked) || (s.prt p).nakPending) then
    s.modPort p (fun x => { x with lackDue := true }) else s)

/-! ### Period trailers -/

/-- END_OF_BURST received: every lane parks, its gain unfrozen and its failure count cleared (R323, R325, R327). (DEDUCED, notes/assumptions/50.md) -/
def parkRx (s : State) (p : Nat) : State :=
  s.modPort p (fun x => { x with lanes := x.lanes.map (fun l => { l with rx := .parked, frozen := false, fails := 0, wakeMarks := 0 }) })

/-- The event of a valid trailer (R348). -/
def trailerEvent (s : State) (p : Nat) (ws : List (BitVec 56)) (phase : Nat) : State :=
  let w := fun i => (ws.getD i 0).toNat
  match bits (w 0) 23 16 with
  | 1 => if 199 < bits (w 2) 15 8 then protocolError s p
    else recvTimeSync s p (w 1 + bits (w 2) 7 0 * 2 ^ 56) (bits (w 2) 15 8) phase
  | 2 => parkRx s p
  | 3 => retrain s p
  | _ => s

/-- In framing A the trailer is a block of each lane, which its descrambler takes; the next period's first block goes to lane 0
(R306, R307, R347). -/
def trailerBlocks (s : State) (p : Nat) (ws : List (BitVec 56)) : State :=
  if (s.prt p).framingB then s else
  s.modPort p (fun x => { x with
    rxBlock := 0
    lanes := x.lanes.zipIdx.map (fun e =>
      { e.1 with scramRx := (scrambledBlock e.1.scramRx 2 (trailerPayload (ws.getD e.2 0))).2 }) })

/-- PERIOD_TRAILER: START_SEQ of the next period, and an event; one whose CRC fails is ignored and its period lost (R343 to
R348). -/
def execPeriodTrailer (p : Nat) (words : List (BitVec 56)) (phase : Nat) (s : State) : Out :=
  .next (if !s.linkUp p || words.length != 8 then s else
    let s := trailerBlocks s p words
    if bits (words.getD 7 0).toNat 31 0 ≠ trailerCrc words then
      loseFlit ((s.count (p / 4) .nxp (p % 4) 9 1).report (p / 4) K.NXP_TRAILER_CRC (p % 4) 0 0) p
    else
      let start := bits (words.getD 0 0).toNat 11 0
      let s1 := if seqLe start (s.prt p).rxExpect then s.modPort p (fun x => { x with nakPending := false, rxPeriodSeq := start })
        else loseFlit s p
      trailerEvent s1 p words phase)

/-- PERIOD_TRAILER_SEND: a marker period ends, and the next one's markers follow. START_SEQ is a NAK's SEQ, which starts a replay, or
continues; an event waiting is carried (R345, R347, R348, R352). Where the trailer is left out, START_SEQ, NAK and event wait
(R313, R345). -/
def execPeriodTrailerSend (p : Nat) (s : State) : Out :=
  .next (if !s.linkUp p || (s.prt p).txParked then s else
    let x := s.prt p
    let late := fun (x : Port) => { x with
      noProgress := if x.replay.isEmpty then 0 else x.noProgress + 1
      replayFresh := false }
    if !x.trailerFits then (endPeriod s p none true).modPort p late else
    let start := match x.nakRx with
      | some q => q
      | none => match x.resend with | e :: _ => e.1 | [] => x.txNext
    let ws := trailer start x.txEvent
    let s1 := (endPeriod s p (some ws) true).modPort p (fun x => { late x with lastTrailer := ws, txEvent := 0, nakRx := none })
    let s2 := if x.nakRx.isSome then
        ((s1.modPort p (fun x => { x with
          resend := x.replay, replayRun := (if x.replayFrom = some start then x.replayRun + 1 else 1),
          replayFrom := some start, replayFresh := true })).count (p / 4) .nxp (p % 4) 4 1).report (p / 4) K.NXP_REPLAY (p % 4) 0 0
      else s1
    if x.txEvent = 3 then retrain s2 p else s2)

/-! ### Transmission -/

/-- A LACK slot (R342). -/
def lackSlot (x : Port) : Word :=
  BitVec.ofNat 256 (0xF0 + b2n x.nakPending * 2 ^ 8 + (if x.nakPending then x.rxExpect else (x.rxExpect + 4095) % 4096) * 2 ^ 16)

/-- An LCRD slot with the first six context entries (R349). -/
def lcrdSlot (x : Port) : Word :=
  BitVec.ofNat 256 (0xF1 + (x.rspRet % 65536) * 2 ^ 16 + (x.mgmtRet % 65536) * 2 ^ 32 +
    ((x.lcrdOut.take 6).zipIdx).foldl (fun a e => a + (e.1.1 % 1024 + (e.1.2 % 1024) * 1024) * 2 ^ (64 + 32 * e.2)) 0)

/-- A LINIT slot (R350). -/
def linitSlot (s : State) (p : Nat) : Word :=
  let x := s.prt p
  BitVec.ofNat 256 (0xF2 + (b2n x.seenTx + 2 * b2n x.resume) * 2 ^ 8 + ((x.rxExpect + 4095) % 4096) * 2 ^ 16 +
    (if s.role (p / 4) p = 2 then 4096 else 0) * 2 ^ 32 + s.fld (p / 4) (p % 4) F.NXP_CR_VC_MGMT_GRANT * 2 ^ 48)

/-- A VCSEL slot. -/
def vcselSlot (v : Vc) : Word :=
  BitVec.ofNat 256 (0xF3 + (match v with | .req => 0 | .rsp => 1 | .fwd => 2 | .mgmt => 3) * 2 ^ 8)

/-- Flit slots of a response (R114, R199). -/
def respMessage (r : Resp) : List Word :=
  headerOfResp r (isSingle (ackForm r.op) && r.status == stPoison) :: r.data.map (·.1)

/-- The next message that is ready, its channel, and the state with it taken; a response that leaves frees room for those that wait
for RSP egress (R132, R133, R351). -/
def nextMessage (s : State) (p : Nat) : Option (Vc × List Word × State) :=
  let x := s.prt p
  let fwd := match x.fwdOut with
    | m :: rest => some (Vc.fwd, m.header :: m.data.map (·.1), s.modPort p (fun x => { x with fwdOut := rest }))
    | [] => none
  let rsp := match x.rspOut with
    | r :: rest =>
      if r.slots ≤ x.rspAvail then
        let s1 := s.modPort p (fun x => settleRsp { x with rspOut := rest, rspAvail := x.rspAvail - r.slots })
        some (Vc.rsp, respMessage r, if !r.posted && isLast r then s1.endOutst p r.reqId r.rid else s1)
      else fwd
    | [] => fwd
  if 3 ≤ x.fwdSkip ∧ fwd.isSome then fwd else
  match x.mgmtRaw with
  | m :: rest => some (.mgmt, m, s.modPort p (fun x => { x with mgmtRaw := rest }))
  | [] => match x.mgmtOut with
    | r :: rest => if 1 ≤ x.mgmtAvail then
        some (.mgmt, respMessage r, s.modPort p (fun x => { x with mgmtOut := rest, mgmtAvail := x.mgmtAvail - 1 })) else rsp
    | [] => rsp

/-- An LCRD is owed. -/
def Port.owesCredit (x : Port) : Bool := !x.lcrdOut.isEmpty || x.rspRet != 0 || x.mgmtRet != 0

/-- Fills the slots of a sequenced flit: the message in progress, then link control, then messages. In the last free place
of the replay buffer (`last`) a message starts only if it ends in this flit (R341, R351). -/
def fillSlots (p : Nat) (last : Bool) : Nat → State → List Word → List Word × State
  | 0, s, acc => (acc, s)
  | fuel + 1, s, acc =>
    if 8 ≤ acc.length then (acc, s) else
    let x := s.prt p
    match x.txQueue with
    | w :: rest => fillSlots p last fuel (s.modPort p (fun x => { x with txQueue := rest })) (acc ++ [w])
    | [] =>
      if x.lackDue then
        fillSlots p last fuel (s.modPort p (fun x => { x with lackDue := false, unacked := 0 })) (acc ++ [lackSlot x])
      else if x.owesCredit then
        fillSlots p last fuel (s.modPort p (fun x => { x with
          lcrdOut := x.lcrdOut.drop 6, rspRet := 0, mgmtRet := 0, mgmtCred := x.mgmtCred + x.mgmtRet })) (acc ++ [lcrdSlot x])
      else match nextMessage s p with
        | none => (acc, s)
        | some (vc, ws, s1) =>
          let need := ws.length + (if vc = x.txVc then 0 else 1)
          if last && decide (8 < acc.length + need) then (acc, s)
          else if vc = x.txVc then fillSlots p last fuel (s1.modPort p (fun x => { x with txQueue := ws })) acc
          else fillSlots p last fuel (s.modPort p (fun x => { x with txVc := vc })) (acc ++ [vcselSlot vc])

/-- Pads a flit with NOP slots. -/
def padFlit (l : List Word) : List Word := l ++ List.replicate (8 - l.length) 0

/-- Sends a fill flit, with a LACK if one is due (R341, R344). (DEDUCED, notes/assumptions/51.md) -/
def sendFill (s : State) (p : Nat) : State :=
  let x := s.prt p
  let ws := padFlit ((0xFF : Word) :: (if x.lackDue then [lackSlot x] else []))
  (s.modPort p (fun x => { x with
    txFlit := ws, lackDue := false, unacked := (if x.lackDue then 0 else x.unacked) })).count (p / 4) .nxp (p % 4) 2 1

/-- The next flit of a port, with its numbers and stored copy (R341, R345, R350, R351). -/
def pickFlit (s : State) (p : Nat) : State :=
  let x := s.prt p
  if x.lstate = .linkInit then s.modPort p (fun x => { x with txFlit := padFlit [linitSlot s p] })
  else if x.nakRx.isSome then sendFill s p
  else match x.resend with
    | (_, ws) :: rest => (s.modPort p (fun x => { x with txFlit := ws, resend := rest })).count (p / 4) .nxp (p % 4) 5 1
    | [] =>
      if 512 ≤ x.replay.length then sendFill s p
      else if x.txQueue.isEmpty && !x.owesCredit && (nextMessage s p).isNone then sendFill s p
      else
        let r := fillSlots p (decide (x.replay.length = 511)) 24 s []
        if r.1.isEmpty then sendFill s p else
        let ws := padFlit r.1
        let carried := decide ((r.2.prt p).fwdOut.length < x.fwdOut.length) || (!x.txQueue.isEmpty && x.txVc == .fwd)
        (r.2.modPort p (fun y => { y with
          txFlit := ws, replay := y.replay ++ [(y.txNext, ws)], txNext := (y.txNext + 1) % 4096,
          fwdSkip := if carried || y.fwdOut.isEmpty then 0 else y.fwdSkip + 1 })).count (p / 4) .nxp (p % 4) 0 1

/-- A framing-B lane takes its units of a flit: 30 make a codeword, which is scrambled, encoded, mapped and stuffed (R309 to R312,
R338). -/
def Lane.takeFlitB (ws : List Word) (n : Nat) (l : Lane) : Lane × List Nat :=
  let us := l.txUnits ++ laneUnits ws 0 n
  if us.length < 30 then ({ l with txUnits := us }, []) else
  let r := scramble l.txScram ((us.take 30).flatMap (fun u => lowBits 64 u.toNat))
  let c := ldpcEncode (BitVec.ofNat 1920 (ofBits r.1))
  let t := stuff l.txRun (graySymbols (lowBits 2048 c.toNat))
  ({ l with txUnits := us.drop 30, txScram := r.2, txRun := t.2.1, txStuffs := l.txStuffs + t.2.2 }, t.1)

/-- A framing-A lane sends its blocks of a flit whose first block goes to lane b; after the 13th flit of a group, with CRC c, the four
trailer blocks go to the next four lanes in turn (R306, R338, R339). (DEDUCED, notes/assumptions/50.md) -/
def Lane.takeFlitA (ws : List Word) (b : Nat) (c : Option Nat) (n : Nat) (l : Lane) : Lane × List Nat :=
  let i := (n + 8 - b % 8) % 8
  let data := (laneUnits ws b n).map (fun u => (1, u.toNat))
  let all := match c with | some c => if i < 4 then data ++ [(2, groupTrailer i c)] else data | none => data
  let r := all.foldl (fun (a : List Nat × BitVec 58) e => let z := scrambledBlock a.2 e.1 e.2; (a.1 ++ z.1, z.2)) ([], l.txScram)
  ({ l with txScram := r.2 }, r.1)

/-- The port's flit goes onto its lanes (R309, R338, R339). -/
def Port.putFlit (rate : Nat → Option Nat) (x : Port) : Port :=
  if x.framingB then x.send rate (Lane.takeFlitB x.txFlit) else
  let g := x.groupOut ++ [x.txFlit]
  if g.length < 13 then { x.send rate (Lane.takeFlitA x.txFlit x.txBlock none) with groupOut := g }
  else { x.send rate (Lane.takeFlitA x.txFlit x.txBlock (some (crc32 (flitBytes g)))) with
    groupOut := [], txBlock := (x.txBlock + 4) % 8 }

/-- The port's flit goes onto its lanes; a lane whose period now needs more than 1,472 stuff symbols counts STUFF_OVERRUN, and flit times
with nothing to send are counted (R313, R323). -/
def putFlit (s : State) (p : Nat) (idle : Bool) : State :=
  let s1 := s.modPort p (fun x => { x.putFlit (s.injRate p) with idleFlits := if idle then x.idleFlits + 1 else 0 })
  (pick 8 (fun n => decide ((s.lane p n).txStuffs ≤ 1472 ∧ 1472 < (s1.lane p n).txStuffs))).foldl (fun s n =>
    (s.count (p / 4) .nxl (p % 4) 29 1).report (p / 4) K.NXL_STUFF_OVERRUN (p % 4) n 0) s1

/-- FLIT_TRANSMIT (R341, R345, R350, R351). -/
def execFlitTransmit (p : Nat) (s : State) : Out :=
  .next (if !s.linkUp p || (s.prt p).txParked then s else putFlit (pickFlit s p) p ((s.prt p).quiet && (s.prt p).lstate == .active))

/-! ### LINK_INIT and retrain triggers -/

/-- Contexts with a grant and their credits, as LCRD entries (R350). -/
def State.grants (s : State) (p : Nat) : List (Nat × Nat) :=
  ((List.range 1024).map (fun c => (c, s.reqSlots p c))).filter (fun e => e.2 != 0)

/-- LINK_INIT_COMPLETE: SEEN has been sent and received by both ends; credits are granted unless the link resumes, and the
port enters ACTIVE (R350, R353). -/
def execLinkInitComplete (p : Nat) (s : State) : Out :=
  .next (inState s p .linkInit (fun s =>
    let x := s.prt p
    if !(x.seenTx && x.seenRx) then s else
    let s1 := if x.resume && x.partnerResume then s else s.modPort p (fun x => { x with
      lcrdOut := s.grants p, ctxCred := [], peerCred := [], rspAvail := x.rspGranted, mgmtAvail := x.mgmtGranted,
      mgmtCred := s.fld (p / 4) (p % 4) F.NXP_CR_VC_MGMT_GRANT, rxExpect := 0, rxPeriodSeq := 0, txNext := 0, txAcked := 4095,
      replay := [], resend := [], parse := none, txVc := .mgmt, rxVc := .mgmt })
    (setPortState s1 p .active).modPort p (fun x => { x with
      tries := 0, wasActive := true, resume := false, noProgress := 0, replayRun := 0, replayFrom := none, replayFresh := false })))

/-- NX_INIT_TIMEOUT: LINK_INIT has not completed within 1 ms (R350). -/
def execNxInitTimeout (p : Nat) (s : State) : Out :=
  .next (inState s p .linkInit (fun s => failTry (s.report (p / 4) K.NXP_INIT_TIMEOUT (p % 4) 0 0) p))

/-- REPLAY_LIMIT: that many replays in a row from one START_SEQ (R352, R357). -/
def execReplayLimit (p : Nat) (s : State) : Out :=
  .next (inState s p .active (fun s =>
    if max 1 (s.fld (p / 4) (p % 4) F.NXP_CTRL_REPLAY_LIMIT) ≤ (s.prt p).replayRun then retrain s p else s))

/-- PROGRESS_PERIODS_EXPIRY: that many periods with flits stored and no acknowledgement progress (R352, R357). -/
def execProgressPeriodsExpiry (p : Nat) (s : State) : Out :=
  .next (inState s p .active (fun s =>
    if max 1 (s.fld (p / 4) (p % 4) F.NXP_CTRL_PROGRESS_PERIODS) ≤ (s.prt p).noProgress then retrain s p else s))

/-- A write of NXP_CTRL: RETRAIN sends a RETRAIN event in the next trailer, at which both ends enter TRAIN (R348, R357). -/
def writeNxpCtrl (s : State) (k i v : Nat) : State :=
  let s1 := s.setRaw k .nxp i 0x100 (bits v 23 12 * 2 ^ 12 + bits v 7 0)
  if bitAt v 31 && (s.prt (4 * k + i)).lstate == .active then
    (wakeTx s1 (4 * k + i)).modPort (4 * k + i) (fun x => { x with txEvent := 3 }) else s1

/-- NXP_RETRAIN (R357). (DEDUCED, notes/assumptions/51.md) -/
def execNxpRetrain (_src : Source) (p : Nat) (v : Reg32) (s : State) : Out :=
  .next (if s.winOk (p / 4) && bitAt v.toNat 31 then writeNxpCtrl s (p / 4) (p % 4) v.toNat else s)

end Sys2Proof.Machine
end

