-- ==== Sys2Proof/Machine/Channel.lean ====
section
/-! DEFINITION. Channel control: refresh debt and per-bank refresh (R240 to R243), activation counts and targeted refresh
(R244 to R247), power-down and self-refresh (R248, R249), training operations, tracking passes and retrain pauses (R250 to
R254). -/

namespace Sys2Proof.Machine

/-! ### Banks -/

/-- A pseudo-channel's controller works on its memory dies: not in self-refresh, not paused, not unusable, package running
(R249, R254, R480). -/
def State.pcRuns (s : State) (k c i : Nat) : Bool :=
  let p := s.pcOf k c i
  decide (k < s.n ∧ c < 32 ∧ i < 2) && s.serving && !s.inReset k && !((s.stk k).ch c).unusable && !p.selfRefresh && !p.paused

/-- An element access of a descriptor at a place that `f` accepts. -/
def State.elemAt (s : State) (k : Nat) (f : Loc → Bool) (x : Elem) : Bool :=
  let at_ := fun (o : Option Int) => match o with
    | some v => decide (0 ≤ v) && decide (v.toNat < s.part.capacity) && f (s.locOf k v.toNat)
    | none => false
  at_ x.src || at_ x.dst

/-- Descriptors of any stack with an element access to come at a place that `f` accepts (R178, R191). -/
def State.descsAt (s : State) (k : Nat) (f : Loc → Bool) : List Req :=
  ((s.stks.flatMap Stack.table).filter (fun e => e.done.isNone &&
    (match e.gth with | some g => g.todo.any (s.elemAt k f) | none => false))).map Entry.req

/-- What is pending at a bank: requests of the table, and element accesses of descriptors. -/
def State.atBank (s : State) (k c i b : Nat) : List Req :=
  s.bankReqs k c i b ++ s.descsAt k (fun l => l.stack == k && l.ch == c && l.pc == i && l.bankIx == b)

/-- Guaranteed requests pending at a bank (R51, R242). -/
def State.guarAt (s : State) (k c i b : Nat) : List Nat := ((s.atBank k c i b).filter (fun r => isGuar r.cls)).map Req.rid

/-- The controllers of a stack keep their own refresh: in service and not in SAFE, where the dies refresh themselves (R249). -/
def State.refreshes (s : State) (k : Nat) : Bool := s.serving && !s.inReset k && !s.inSafe k

/-- Refresh phase that a frame adds, in 1/25,000 of a spacing: a frame is 4,096/25,000 of the spacing at 32 ms (R240, R241). -/
def phaseStep (interval : Nat) : Nat := 4096 * 2 ^ interval

/-- Spacings of bank b that fall before the end of the frame in progress: b/n of a spacing after those of bank 0 (R240). -/
def State.spacings (s : State) (k b : Nat) : Nat :=
  ((s.stk k).refPhase.getD (b / 16) 0 + phaseStep ((s.stk k).sidIv.getD (b / 16) 0) - b * 25000 / s.part.banks) / 25000

/-- REFRESH_SPACING: at each spacing of the bank D rises by 1, to at most 8, in a pause too; a refresh that falls due ends
power-down; in self-refresh the dies refresh themselves (R240, R242, R248, R249, R254). (DEDUCED, notes/assumptions/47.md) -/
def execRefreshSpacing (k ch pc bank : Nat) (s : State) : Out :=
  .next (let p := s.pcOf k ch pc
    if s.refreshes k && decide (bank < s.part.banks ∧ ch < 32 ∧ pc < 2) && !p.selfRefresh && !((s.stk k).ch ch).unusable &&
        decide ((p.bank bank).spaced < s.spacings k bank) then
      s.modPc k ch pc (fun p =>
        let q := p.modBank bank (fun b => { b with debt := min 8 (b.debt + 1), spaced := b.spaced + 1 })
        if 1 ≤ (q.bank bank).debt then s.wakePc q else q)
    else s)

/-- What an overrun of n slots takes from the budgets of G3, G2, G1 and G0, after the loose slots (R50). -/
def takeForced (budget : List Nat) (loose n : Nat) : SMap Nat :=
  (([3, 2, 1, 0].foldl (fun (a : Nat × SMap Nat) c =>
    let t := min a.1 (budget.getD c 0)
    (a.1 - t, mput a.2 c t 0)) (n - loose, [])).2)

/-- A forced refresh takes its slots in the window; those that exceed the whole window are taken outside it, which the Registrar
logs once for the frame (R50, R235). -/
def chargeForced (s : State) (k ch pc : Nat) : State :=
  let w := s.windowNow k
  let n := (s.pcOf k ch pc).winTotal + s.refCost
  let s1 := s.modPc k ch pc (fun p => { (s.wakePc p).useWindow 1 s.refCost with
    forcedTaken := if w < n then takeForced (s.stk k).budget (s.looseSlots k) (n - w) else p.forcedTaken })
  if w < n ∧ (s.pcOf k ch pc).winTotal ≤ w then s1.report k K.TIC_FORCED_OVERRUN 0 pc 0 else s1

/-- Slots of an activity's work in the window, whole: the caller has seen that they fit (R235). -/
def chargeWindow (s : State) (k ch pc act n : Nat) : State := s.modPc k ch pc (fun p => (s.wakePc p).useWindow act n)

/-- The bank is precharged and blocked for tRFCpb (R234, R242). -/
def Bank.block (b : Bank) : Bank := { b with openRow := none, refs := b.refs + 1 }

/-- Refreshes 8 rows of a bank: D falls by 1, the pointer steps; the tracker clears when it wraps (R240, R242, R244). -/
def Bank.refresh (b : Bank) (guar : List Nat) : Bank :=
  let b1 := { b.block with debt := b.debt - 1, ptr := (b.ptr + 1) % 4096, waited := guar }
  if b1.ptr = 0 then { b1 with track := [], spill := 0 } else b1

/-- Refreshes of a bank that can begin in one frame: one every tRFCpb, 280 ns of 1,280 ns (R234, R242). -/
def bankRefs : Nat := 5

/-- Activations of a bank that can begin in one frame (R246). -/
def bankActs : Nat := 27

/-- A tracking pass is due on a pseudo-channel (R249, R253). -/
def State.passDue (s : State) (k ch pc : Nat) : Bool :=
  let p := s.pcOf k ch pc
  p.trkDue || (s.flag k ch F.CTL_CTRL_TRK_EN && decide (max 64 (s.fld k ch F.CTL_TRK_TRK_FRAMES) ≤ s.now k - p.trkLast))

/-- Activities of the window with work of their own on a pseudo-channel, which lays claim to their shares (R48, R49). -/
def State.claims (s : State) (k ch pc : Nat) (act : Nat) : Bool :=
  let p := s.pcOf k ch pc
  p.owes act || (act == 3 && !p.targeted.isEmpty) ||
  (act == 4 && (s.stk k).seals.any (fun e => tilePc e.tile == 2 * ch + pc)) ||
  (act == 5 && s.passDue k ch pc)

/-- A forced refresh of a bank: D of 4 or more; where a pending guaranteed request has already waited for one, D of 6 (R242). -/
def State.refForced (s : State) (k ch pc b : Nat) : Bool :=
  let x := (s.pcOf k ch pc).bank b
  decide (4 ≤ x.debt) && (!(s.guarAt k ch pc b).any x.waited.contains || decide (6 ≤ x.debt))

/-- A due refresh of a bank: D from 1 to 3, no pending guaranteed request, room in the window beside what forced refresh is owed;
banks with empty queues come first (R51, R242). -/
def State.refDue (s : State) (k ch pc b : Nat) : Bool :=
  let p := s.pcOf k ch pc
  let free := fun b => decide (1 ≤ (p.bank b).debt) && (s.atBank k ch pc b).isEmpty
  decide (1 ≤ (p.bank b).debt) && (s.guarAt k ch pc b).isEmpty &&
  s.windowFits k p (s.claims k ch pc) 1 (s.refCost + s.forcedOwed p) &&
  ((s.atBank k ch pc b).isEmpty || !(List.range s.part.banks).any free)

/-- A refresh ahead of time: D from −3 to 0, the queue empty, and window slots that no other background work claims, a due refresh
of another bank included (R242). -/
def State.refAhead (s : State) (k ch pc b : Nat) : Bool :=
  let p := s.pcOf k ch pc
  decide (-3 ≤ (p.bank b).debt) && (s.atBank k ch pc b).isEmpty && p.banks.all (fun e => decide (e.2.debt ≤ 0)) &&
  s.hall k p 1 s.refCost (fun m => if s.claims k ch pc m then max (p.winUsed m) (s.share k m) else p.winUsed m)

/-- PER_BANK_REFRESH: forced, due or ahead of time (R242). -/
def execPerBankRefresh (k ch pc bank : Nat) (s : State) : Out :=
  .next (if !s.pcRuns k ch pc || decide (s.part.banks ≤ bank) || decide (bankRefs ≤ ((s.pcOf k ch pc).bank bank).refs) then s else
    let guar := s.guarAt k ch pc bank
    let run := fun (s1 : State) => (s1.modPc k ch pc (fun p => p.modBank bank (fun b => b.refresh guar))).count k .ctl ch 1 1
    if s.refForced k ch pc bank then (run (chargeForced s k ch pc)).count k .ctl ch 2 1
    else if s.refDue k ch pc bank || s.refAhead k ch pc bank then run (chargeWindow s k ch pc 1 s.refCost)
    else s)

/-! ### Activation counts -/

/-- ACTIVATE: the bank precharges the row that it holds, opens this one, and counts; an uncorrectable tracker entry clears the
table (R234, R244, R245, R247). (DEDUCED, notes/assumptions/47.md) -/
def execActivate (k ch pc bank row : Nat) (ue : Bool) (s : State) : Out :=
  .next (if !s.pcRuns k ch pc || decide (s.part.banks ≤ bank) || decide (32768 ≤ row) ||
      decide (bankActs ≤ ((s.pcOf k ch pc).bank bank).acts) then s
    else if ue then
      ((s.modPc k ch pc (fun p => (s.wakePc p).modBank bank (fun b =>
        { b with track := [], spill := 0, openRow := some row, acts := b.acts + 1 }))).count k .ctl ch 0 1).report k K.CTL_ACT_TRK_UE ch pc 0
    else activate s k ch pc bank row)

/-- The targeted refresh that runs next: a promoted one, else the oldest whose bank holds no pending guaranteed request (R51,
R245). -/
def State.nextTargeted (s : State) (k ch pc : Nat) : Option Targeted :=
  let l := (s.pcOf k ch pc).targeted.filter (fun t => decide (((s.pcOf k ch pc).bank t.bank).refs < bankRefs))
  (l.find? (·.promoted)).orElse (fun _ => l.find? (fun t => (s.guarAt k ch pc t.bank).isEmpty))

/-- TARGETED_REFRESH: in its share of the window; a promoted one as a forced refresh (R51, R245). -/
def execTargetedRefresh (k ch pc : Nat) (s : State) : Out :=
  .next (if !s.pcRuns k ch pc then s else
    match s.nextTargeted k ch pc with
    | none => s
    | some t =>
      let run := fun (s1 : State) => (s1.modPc k ch pc (fun p =>
        { p.modBank t.bank Bank.block with targeted := p.targeted.erase t })).count k .ctl ch 3 1
      if t.promoted then run (chargeForced s k ch pc)
      else if s.windowFits k (s.pcOf k ch pc) (s.claims k ch pc) 3 s.refCost then run (chargeWindow s k ch pc 3 s.refCost)
      else s)

/-- TARGETED_REFRESH_PROMOTE: one that has waited 4 frames (R245). -/
def execTargetedRefreshPromote (k ch pc : Nat) (s : State) : Out :=
  .next (s.modPc k ch pc (fun p => { p with
    targeted := p.targeted.map (fun t => if 4 ≤ t.age then { t with promoted := true } else t) }))

/-! ### Power-down and self-refresh -/

/-- The bank queues can have been empty for PD_IDLE channel-clock cycles, 0 acting as 1: a frame without foreground service has
passed, or as many slots of this one are left (R248). -/
def State.idleSpell (s : State) (k ch pc : Nat) : Bool :=
  decide (1 ≤ (s.pcOf k ch pc).quiet) || decide (max 1 (s.fld k ch F.CTL_CTRL_PD_IDLE) ≤ s.slotsLeft k (s.pcOf k ch pc))

/-- POWER_DOWN_ENTRY: in ACTIVE, bank queues empty for PD_IDLE cycles, PD_EN 1; every bank precharges (R248). -/
def execPowerDownEntry (k ch pc : Nat) (s : State) : Out :=
  .next (if s.mode == .active && s.pcRuns k ch pc && !(s.pcOf k ch pc).powerDown && s.flag k ch F.CTL_CTRL_PD_EN &&
      s.idleSpell k ch pc && (s.pcOf k ch pc).wbq.isEmpty && (List.range s.part.banks).all (fun b => (s.atBank k ch pc b).isEmpty) then
    (s.modPc k ch pc (fun p => { p.precharge with powerDown := true })).count k .ctl ch 6 1
  else s)

/-- A bank after self-refresh: precharged, D 0, tracker clear (R249). -/
def Bank.fresh (b : Bank) : Bank :=
  { b with debt := 0, track := [], spill := 0, waited := [], openRow := none, spaced := 0 }

/-- Exit from self-refresh on the usable channels of a stack: D of every bank 0, trackers clear; where the entry was RETAIN or
loss of reference, or the base die was reset, a tracking pass is due (R249, R484). The spacings begin anew. -/
def leaveSelfRefresh (s : State) (k : Nat) (track : Bool) : State :=
  s.modStk k (fun x => { x with refPhase := [0, 0, 0, 0], chans := x.chans.map (fun c => if c.unusable then c else { c with
    pcs := c.pcs.map (fun p => { p with
      selfRefresh := false, trkDue := p.trkDue || track, banks := p.banks.map (fun e => (e.1, e.2.fresh)) }) }) })

/-! ### Delays and tracking -/

/-- CTL_DLY of a pin (R263). -/
def PChan.delay (p : PChan) (pin : Nat) : Nat := (mget p.dly pin 0x204040#32).toNat

/-- Sets CTL_DLY of a pin. -/
def PChan.setDelay (p : PChan) (pin v : Nat) : PChan :=
  { p with dly := mput p.dly pin (BitVec.ofNat 32 (bits v 21 16 * 2 ^ 16 + bits v 14 8 * 2 ^ 8 + bits v 6 0)) 0x204040#32 }

/-- A write of CTL_DLY: at once in MAINTENANCE or a pause, else at the next tick (R252). Pins 36 to 63 do not exist. -/
def writeDly (s : State) (k ch v : Nat) : State :=
  let pc := s.fld k ch F.CTL_DLY_SEL_PC
  let pin := s.fld k ch F.CTL_DLY_SEL_PIN
  if 36 ≤ pin then s
  else if (s.stk k).mode == .maintenance || (s.pcOf k ch pc).paused then s.modPc k ch pc (fun p => p.setDelay pin v)
  else s.modCh k ch (fun c => { c with dlyPend := c.dlyPend ++ [(pc * 64 + pin, BitVec.ofNat 32 v)] })

/-- CTL_DLY_WRITE (R252). -/
def execCtlDlyWrite (_src : Source) (k ch : Nat) (v : Reg32) (s : State) : Out :=
  .next (if s.winOk k && decide (ch < 32) then writeDly s k ch v.toNat else s)

/-- The step that tracking moves a pin's read delay: away from the side that alone fails (R253). -/
def trackStep (r : TrnResult) (pin : Nat) : Int :=
  let m := r.atMinus.getD pin 0
  let z := r.atZero.getD pin 0
  let q := r.atPlus.getD pin 0
  if z ≠ 0 then 0 else if m ≠ 0 ∧ q = 0 then 1 else if q ≠ 0 ∧ m = 0 then -1 else 0

/-- Moves a pin's read delay within its 128 steps. -/
def moveDelay (s : State) (k ch pc pin : Nat) (d : Int) : State :=
  let v := (s.pcOf k ch pc).delay pin
  let n : Int := (bits v 6 0 : Nat) + d
  if d = 0 ∨ n < 0 ∨ 127 < n then s
  else (s.modPc k ch pc (fun p => p.setDelay pin (putBits v 6 0 n.toNat))).count k .ctl ch 7 1

/-- Slots of a tracking pass: 8 words written and read at each of 3 offsets, 48 slots, which is 6 frames of the normal share at
P0 (R48, R253). -/
def passSlots : Nat := 48

/-- A tracking pass of a pseudo-channel with its outcome: TRK_DELTA says where its two outer reads are made (R253). -/
def trackPass (s : State) (k ch pc : Nat) (r : TrnResult) : State :=
  let s1 := (List.range 36).foldl (fun s pin => moveDelay s k ch pc pin (trackStep r pin)) s
  let margin := (List.range 36).any (fun i => r.atZero.getD i 0 == 0 && r.atMinus.getD i 0 != 0 && r.atPlus.getD i 0 != 0)
  let fail := (List.range 36).any (fun i => r.atZero.getD i 0 != 0)
  let s2 := if margin then s1.report k K.CTL_TRK_MARGIN ch pc 0 else s1
  let s3 := if fail then s2.report k K.CTL_TRK_FAIL ch pc 0 else s2
  s3.modPc k ch pc (fun p => { p with trkLast := s.now k, trkDue := false, trnRow := some (6, 0) })

/-- TRACKING_PASS: every TRK_FRAMES local ticks while TRK_EN is 1, or as R249 asks; in the retraining share of the window, over the
frames that this takes (R48, R253). (DEDUCED, notes/assumptions/48.md) -/
def execTrackingPass (k ch pc : Nat) (res : TrnResult) (s : State) : Out :=
  .next (if s.pcRuns k ch pc && s.passDue k ch pc && s.windowFree k ch pc 5 then
      (trackPass s k ch pc res).workWindow k ch pc 5 passSlots
    else s)

/-! ### Training operations -/

/-- Pattern and sweep operations may run (R250). -/
def State.trnAllowed (s : State) (k ch pc : Nat) : Bool :=
  s.mode == .starting || (s.stk k).mode == .maintenance || (s.pcOf k ch pc).paused

/-- The operation that GO starts, as the registers stand (R258 to R260): BURSTS 0 and STEP 0 act as 1, START and END beyond the
parameter's range act as its top step, PATTERN 6 and 7 act as 1. -/
def State.trnRun (s : State) (k ch v : Nat) (r : TrnResult) : TrnRun :=
  let top := if bits v 17 16 = 2 then 63 else 127
  let pat := s.fld k ch F.CTL_TRN_PAT_PATTERN
  { mode := bits v 21 20, pc := bits v 24 24, target := bits v 19 19, param := bits v 17 16, bursts := max 1 (bits v 15 0),
    start := min top (s.fld k ch F.CTL_TRN_SWEEP_START), stop := min top (s.fld k ch F.CTL_TRN_SWEEP_END),
    step := max 1 (s.fld k ch F.CTL_TRN_SWEEP_STEP), pattern := if 6 ≤ pat then 1 else pat,
    user := BitVec.ofNat 64 (s.raw k .ctl ch 0x148 + s.raw k .ctl ch 0x14C * 2 ^ 32), res := r }

/-- TARGET 1 drives the pattern through the training row of the pseudo-channel; TARGET 0 touches no array (R250). -/
def driveRow (s : State) (k ch : Nat) (t : TrnRun) : State :=
  if t.mode < 2 ∧ t.target = 1 then
    s.modPc k ch t.pc (fun p => { p with trnRow := some (t.pattern, if t.pattern = 3 then t.user else 0) })
  else s

/-- A write of CTL_TRN_CTRL (R258): GO, ABORT and PAUSE act only for the stack's Docent; `res` is the outcome of the
operation that GO starts (R250 to R253). -/
def writeTrn (s : State) (src : Source) (k ch v : Nat) (res : Option TrnResult) : State :=
  let doc := Source.isDocent k src
  let pause := if doc then bits v 28 28 else s.fld k ch F.CTL_TRN_CTRL_PAUSE
  let s1 := s.setFlds k ch [(F.CTL_TRN_CTRL_PAUSE_EN, bits v 29 29), (F.CTL_TRN_CTRL_PAUSE, pause), (F.CTL_TRN_CTRL_PC, bits v 24 24),
    (F.CTL_TRN_CTRL_MODE, bits v 21 20), (F.CTL_TRN_CTRL_TARGET, bits v 19 19), (F.CTL_TRN_CTRL_SWEEP_PARAM, bits v 17 16),
    (F.CTL_TRN_CTRL_BURSTS, bits v 15 0)]
  let busy := s.flag k ch F.CTL_TRN_STATUS_BUSY
  let s2 := if doc && bitAt v 30 && busy then
      (s1.modCh k ch (fun c => { c with trnPend := none })).setFlds k ch [(F.CTL_TRN_STATUS_BUSY, 0), (F.CTL_TRN_STATUS_ABORTED, 1)]
    else s1
  match res with
  | none => s2
  | some r =>
    if !(doc && bitAt v 31) then s2 else
    if busy || bits v 21 20 == 3 || bits v 17 16 == 3 || (decide (bits v 21 20 < 2) && !s.trnAllowed k ch (bits v 24 24)) ||
        ((s.stk k).ch ch).unusable then s2.setFld k ch F.CTL_TRN_STATUS_REJECTED 1
    else
      let run := s2.trnRun k ch v r
      (driveRow (s2.modCh k ch (fun c => { c with trnPend := some run })) k ch run).setFlds k ch [(F.CTL_TRN_STATUS_BUSY, 1),
        (F.CTL_TRN_STATUS_DONE, 0), (F.CTL_TRN_STATUS_REJECTED, 0), (F.CTL_TRN_STATUS_ABORTED, 0)]

/-- A training GO with a mode. (DEDUCED, notes/assumptions/48.md) -/
def trnGo (s : State) (src : Source) (k ch mode v : Nat) (res : TrnResult) : State :=
  if s.winOk k && decide (ch < 32) && bitAt v 31 && bits v 21 20 == mode then writeTrn s src k ch v (some res) else s

/-- TRN_PATTERN (R250, R251). -/
def execTrnPattern (src : Source) (k ch : Nat) (v : Reg32) (res : TrnResult) (s : State) : Out :=
  .next (trnGo s src k ch 0 v.toNat res)

/-- TRN_SWEEP (R252). -/
def execTrnSweep (src : Source) (k ch : Nat) (v : Reg32) (res : TrnResult) (s : State) : Out :=
  .next (trnGo s src k ch 1 v.toNat res)

/-- TRN_TRACKING_PASS (R253). -/
def execTrnTrackingPass (src : Source) (k ch : Nat) (v : Reg32) (res : TrnResult) (s : State) : Out :=
  .next (trnGo s src k ch 2 v.toNat res)

/-- TRN_ABORT: a write with ABORT 1 (R258). -/
def execTrnAbort (src : Source) (k ch : Nat) (v : Reg32) (s : State) : Out :=
  .next (if s.winOk k && decide (ch < 32) && bitAt v.toNat 30 then writeTrn s src k ch v.toNat none else s)

/-- Steps of a sweep: START to END in increments of STEP (R252). -/
def TrnRun.steps (t : TrnRun) : List Nat :=
  (List.range 128).filter (fun i => decide (t.start ≤ i ∧ i ≤ t.stop) && (i - t.start) % t.step == 0)

/-- A pin's pass bits: those of the steps that ran (R252, R262). -/
def TrnRun.passes (t : TrnRun) (pin : Nat) : BitVec 128 :=
  BitVec.ofNat 128 (t.steps.foldl (fun a i => a + b2n (bitAt (t.res.passMaps.getD pin 0).toNat i) * 2 ^ i) 0)

/-- A pin's error count in 16 bits: of the pattern, of the three offsets of a tracking pass, or of a sweep, where it is above 0 just
if a step failed (R251 to R253). -/
def TrnRun.errors (t : TrnRun) (pin : Nat) : Nat :=
  min 65535 (match t.mode with
    | 0 => t.res.pinErrors.getD pin 0
    | 1 => if t.steps.all (fun i => bitAt (t.passes pin).toNat i) then 0 else max 1 (t.res.pinErrors.getD pin 0)
    | _ => t.res.atMinus.getD pin 0 + t.res.atZero.getD pin 0 + t.res.atPlus.getD pin 0)

/-- Bursts that the compare engine numbers: of a run, of a sweep step, or the 24 words of a tracking pass. -/
def TrnRun.burstCount (t : TrnRun) : Nat := if t.mode < 2 then t.bursts else 24

/-- Pins with an error. -/
def TrnRun.erring (t : TrnRun) : List Nat := pick 36 (fun i => t.errors i != 0)

/-- Pins of the first failing burst: among those with an error, all of them where the outcome names none (R251). -/
def TrnRun.failPins (t : TrnRun) : Nat :=
  let m := t.erring.filter (fun i => bitAt t.res.failMask.toNat i)
  ((if m.isEmpty then t.erring else m).map (fun i => 2 ^ i)).sum

/-- What the compare engine shows of the last operation: error counts, the first failure, pass bits (R251, R252, R261, R262). -/
def trnResults (s : State) (k ch : Nat) (t : TrnRun) : State :=
  (s.modCh k ch (fun c => { c with
      trnErr := (List.range 36).map t.errors, trnMap := if t.mode = 1 then (List.range 36).map t.passes else [] })).setFlds k ch
    [(F.CTL_TRN_STATUS_FAIL_VALID, b2n (!t.erring.isEmpty)),
     (F.CTL_TRN_STATUS_FAIL_BURST, if t.erring.isEmpty then 0 else min (t.res.firstFail.getD 0) (t.burstCount - 1)),
     (F.CTL_TRN_FAIL_LO_MASK, t.failPins % 2 ^ 32), (F.CTL_TRN_FAIL_HI_MASK, t.failPins / 2 ^ 32)]

/-- TRN_DONE: the results are in place, DONE sets and TRN_DONE pulses; a tracking pass has its slots from the retraining share and
waits out a pause (R253, R254, R261). (DEDUCED, notes/assumptions/48.md) -/
def execTrnDone (k ch : Nat) (s : State) : Out :=
  .next (match ((s.stk k).ch ch).trnPend with
    | none => s
    | some t =>
      if t.mode == 2 && ((s.pcOf k ch t.pc).paused || !s.windowFree k ch t.pc 5) then s else
      let s1 := trnResults (s.modCh k ch (fun c => { c with trnPend := none })) k ch t
      let s2 := if t.mode = 2 then (trackPass s1 k ch t.pc t.res).workWindow k ch t.pc 5 passSlots else s1
      (s2.setFlds k ch [(F.CTL_TRN_STATUS_BUSY, 0), (F.CTL_TRN_STATUS_DONE, 1)]).event k .ctl ch 0)

/-! ### Retrain pauses -/

/-- PAUSE_REQUEST: Docent writes PAUSE 1; the pause begins at the next tick if PAUSE_EN is 1 (R254). -/
def execPauseRequest (src : Source) (k ch : Nat) (v : Reg32) (s : State) : Out :=
  .next (if s.winOk k && decide (ch < 32) && bitAt v.toNat 28 then writeTrn s src k ch v.toNat none else s)

/-- PAUSE_CLEAR: Docent writes PAUSE 0; the pause ends at the next tick (R254). -/
def execPauseClear (src : Source) (k ch : Nat) (v : Reg32) (s : State) : Out :=
  .next (if s.winOk k && decide (ch < 32) && !bitAt v.toNat 28 then writeTrn s src k ch v.toNat none else s)

/-- PAUSE_EN_CLEAR: host software writes PAUSE_EN 0; any pause ends at the next tick (R254). -/
def execPauseEnClear (src : Source) (k ch : Nat) (v : Reg32) (s : State) : Out :=
  .next (if s.winOk k && decide (ch < 32) && !bitAt v.toNat 29 then writeTrn s src k ch v.toNat none else s)

/-- Ends the pauses of a channel. -/
def endPause (s : State) (k ch : Nat) : State :=
  (s.modCh k ch (fun c => { c with pcs := c.pcs.map (fun p => { p with paused := false }) })).statusBit k .ctl ch 1 false

/-- What a tick does to a channel's pauses: PAUSE 1 with PAUSE_EN 1 pauses the pseudo-channel that PC selects, beside one that is
paused already; either bit at 0 ends them (R254). (DEDUCED, notes/assumptions/48.md) -/
def tickPause (s : State) (k ch : Nat) : State :=
  let on := ((s.stk k).ch ch).pcs.any (·.paused)
  let pc := s.fld k ch F.CTL_TRN_CTRL_PC
  if !s.flag k ch F.CTL_TRN_CTRL_PAUSE_EN then (if on then (endPause s k ch).setFld k ch F.CTL_TRN_CTRL_PAUSE 0 else s)
  else if !s.flag k ch F.CTL_TRN_CTRL_PAUSE then (if on then endPause s k ch else s)
  else if (s.pcOf k ch pc).paused || ((s.stk k).ch ch).unusable then s
  else (s.modPc k ch pc (fun p => { p with paused := true })).statusBit k .ctl ch 1 true

/-- PAUSE_DEBT: a paused pseudo-channel's bank has reached D of 8; the tick ends the pause (R254). -/
def execPauseDebt (k ch : Nat) (s : State) : Out :=
  .next (if decide (k < s.n ∧ ch < 32) && ((s.stk k).ch ch).pcs.any (fun p => p.paused && p.banks.any (fun e => decide (8 ≤ e.2.debt))) then
    ((endPause s k ch).setFld k ch F.CTL_TRN_CTRL_PAUSE 0).report k K.CTL_PAUSE_DEBT ch 0 0
  else s)

/-! ### Read-only status -/

/-- CTL_REF_STATUS (R257). -/
def ctlRefStatus (s : State) (k ch : Nat) : Nat :=
  let x := s.stk k
  let debt := (x.ch ch).pcs.foldl (fun m p => p.banks.foldl (fun m e => max m e.2.debt.toNat) m) 0
  let sus := (List.range s.part.sids).foldl (fun a i =>
    a + b2n ((List.range 4).any (fun j => x.th.suspect.getD (4 * i + j) false)) * 2 ^ i) 0
  let iv := (List.range s.part.sids).foldl (fun a i => a + x.sidIv.getD i 0 * 4 ^ i) 0
  debt * 2 ^ 16 + sus * 2 ^ 8 + iv

/-- CTL_TRN_ERRCNT of the selected pin (R262). -/
def ctlErrCnt (s : State) (k ch : Nat) : Nat := ((s.stk k).ch ch).trnErr.getD (s.fld k ch F.CTL_TRN_SEL_PIN) 0

/-- CTL_TRN_MAPm of the selected pin (R262). -/
def ctlTrnMap (s : State) (k ch m : Nat) : Nat :=
  bits (((s.stk k).ch ch).trnMap.getD (s.fld k ch F.CTL_TRN_SEL_PIN) 0).toNat (32 * m + 31) (32 * m)

/-- CTL_DLY of the selected pin; pins 36 to 63 read 0 (R263). -/
def ctlDly (s : State) (k ch : Nat) : Nat :=
  let pin := s.fld k ch F.CTL_DLY_SEL_PIN
  if 36 ≤ pin then 0 else (s.pcOf k ch (s.fld k ch F.CTL_DLY_SEL_PC)).delay pin

end Sys2Proof.Machine
end

