-- ==== Sys2Proof/Machine/Otp.lean ====
section
/-! DEFINITION. The OTP array (R428 to R431), its region formats and checks (R432 to R436, R438, R440), the OTP commands
(R429, R434, R437, R443), service unlock (R439) and calibration (R441, R442). -/

namespace Sys2Proof.Machine

/-! ### The array -/

/-- Normal-margin value of a logical word: the OR of its two cells (R428). -/
def Otp.word (o : Otp) (w : Nat) : Nat := (mget o.cellA w 0#32 ||| mget o.cellB w 0#32).toNat

/-- Tight-margin value: the marginal bits differ (R430). -/
def Otp.tight (o : Otp) (w : Nat) : Nat := (o.weak.filter (fun b => b / 32 == w)).foldl (fun v b => v ^^^ 2 ^ (b % 32)) (o.word w)

/-- First word and length of a region, in the order of R431. -/
def otpRegion (r : Nat) : Nat × Nat :=
  match r with
  | 0 => (0, 8) | 1 => (8, 32) | 2 => (40, 64) | 3 => (104, 512) | 4 => (616, 768) | 5 => (1384, 128) | 6 => (1512, 512)
  | _ => (0, 0)

/-- Region of a word. -/
def regionOf (w : Nat) : Option Nat := (List.range 7).find? (fun r => decide ((otpRegion r).1 ≤ w ∧ w < (otpRegion r).1 + (otpRegion r).2))

/-- First word of a region's digest field; HEALTH has none (R431). -/
def digestAt (r : Nat) : Option Nat :=
  match r with
  | 0 => some 2024 | 1 => some 2028 | 2 => some 2032 | 3 => some 2036 | 4 => some 2040 | 6 => some 2044 | _ => none

/-- A region whose digest field holds a 1 bit (R434). -/
def Otp.locked (o : Otp) (r : Nat) : Bool :=
  match digestAt r with | some d => (List.range 4).any (fun i => o.word (d + i) != 0) | none => false

/-- A region with a two-word header (R432). -/
def hasHeader (r : Nat) : Bool := r == 1 || r == 2 || r == 3 || r == 6

/-- FINAL_WORDS of a region (R432). -/
def Otp.finalWords (o : Otp) (r : Nat) : Nat := bits (o.word ((otpRegion r).1 + 1)) 31 16

/-- Words of the digest's coverage (R434). -/
def digestCover (r final : Nat) : List Nat :=
  if r = 4 then (List.range 6).flatMap (fun t => (List.range 8).map (fun i => 616 + 128 * t + i))
  else ((List.range (min final (otpRegion r).2)).filter (· != 1)).map (· + (otpRegion r).1)

/-- Bytes of words in ascending order, least significant byte first (R434). -/
def Otp.wordBytes (o : Otp) (ws : List Nat) : List Byte := ws.flatMap (fun w => bytesOf 4 (o.word w))

/-- A digest word as the array holds it: its bytes in the digest's order, least significant byte first. (DEDUCED, notes/assumptions/57.md) -/
def digestWords (bs : List Byte) (n : Nat) : List Nat := ((sha256 bs).take n).map (fun h => ofBytes (bytesOf 4 h).reverse)

/-- The digest of a region over its finalized span (R434). -/
def Otp.digest (o : Otp) (r final : Nat) : List Nat := digestWords (o.wordBytes (digestCover r final)) 4

/-- Bits [hi:lo] of a number, highest first. -/
def bitsDown (v hi lo : Nat) : List Bool := (List.range (hi + 1 - lo)).map (fun i => v.testBit (hi - i))

/-- CRC-8 of R432 over a bit string. (DESIGN CHOICE, notes/assumptions/16.md) -/
def otpCrc8 (l : List Bool) : Nat := crcShl 8 0x07 (Config.otpCrcInit 8 % 256) l

/-- CRC-16 of R432 and R440 over a bit string. (DESIGN CHOICE, notes/assumptions/16.md) -/
def otpCrc16 (l : List Bool) : Nat := crcShl 16 0x1021 (Config.otpCrcInit 16 % 65536) l

/-- The header's CRCs hold; a header word that is not written is blank (R428, R432). (DEDUCED, notes/assumptions/57.md) -/
def Otp.headerOk (o : Otp) (r : Nat) : Bool :=
  let h := o.word (otpRegion r).1
  let f := o.word ((otpRegion r).1 + 1)
  (h == 0 || otpCrc8 (bitsDown h 31 8) == bits h 7 0) && (f == 0 || otpCrc16 (bitsDown f 31 16) == bits f 15 0)

/-- The record at a word, within an end: its length in words; none when invalid (R432, R433). -/
def Otp.recordLen (o : Otp) (w fin : Nat) : Option Nat :=
  let h := o.word w
  let len := bits h 23 16
  let l := bitsDown h 31 16 ++ (List.range len).flatMap (fun i => bitsDown (o.word (w + 1 + i)) 31 0)
  if w + 1 + len ≤ fin ∧ otpCrc16 l = bits h 15 0 then some (1 + len) else none

/-- Valid records from a word up to an end: parsing stops at the first blank or invalid record (R433). -/
def Otp.records (o : Otp) (fin : Nat) : Nat → Nat → Nat
  | 0, _ => 0
  | n + 1, w =>
    if fin ≤ w ∨ bits (o.word w) 31 24 = 0 then 0
    else match o.recordLen w fin with | some l => 1 + o.records fin n (w + l) | none => 0

/-- A REPAIR entry (R432). -/
def Otp.repairEntry (o : Otp) (w : Nat) : Nat := o.word w + o.word (w + 1) * 2 ^ 32

/-- A REPAIR entry's TYPE and CRC hold. -/
def entryOk (e : Nat) : Bool := (bits e 63 62 == 1 || bits e 63 62 == 2) && otpCrc16 (bitsDown e 63 16) == bits e 15 0

/-- Valid REPAIR entries from a word up to an end. -/
def Otp.entries (o : Otp) (fin : Nat) : Nat → Nat → List Nat
  | 0, _ => []
  | n + 1, w =>
    let e := o.repairEntry w
    if fin ≤ w ∨ e = 0 ∨ !entryOk e then [] else e :: o.entries fin n (w + 2)

/-- An invalid entry anywhere in the REPAIR region (R433). -/
def Otp.repairBad (o : Otp) : Bool := (List.range 255).any (fun i => o.repairEntry (106 + 2 * i) != 0 && !entryOk (o.repairEntry (106 + 2 * i)))

/-- End of the span that FOUND counts: FINAL_WORDS, or the region's end before FINALIZE. -/
def Otp.spanEnd (o : Otp) (r : Nat) : Nat :=
  (otpRegion r).1 + (if o.finalWords r = 0 then (otpRegion r).2 else min (o.finalWords r) (otpRegion r).2)

/-- DECLARED, FOUND and EXT_FOUND of a region (R432, R433). -/
def Otp.count (o : Otp) (r : Nat) : Nat × Nat × Nat :=
  if !hasHeader r then (0, 0, 0) else
  let b := (otpRegion r).1
  let last := b + (otpRegion r).2
  let e := o.spanEnd r
  let found := if r = 3 then (o.entries e 255 (b + 2)).length else o.records e 512 (b + 2)
  let ext := if o.finalWords r = 0 then 0 else if r = 3 then (o.entries last 255 (max e (b + 2))).length
    else if r = 6 then o.records last 512 (max e (b + 2)) else 0
  (bits (o.word b) 31 16, found, ext)

/-- REPAIR entries in region order, base then extension (R433, R481). -/
def Otp.repairs (o : Otp) : List Nat :=
  o.entries (o.spanEnd 3) 255 106 ++ (if o.finalWords 3 = 0 then [] else o.entries 616 255 (max (o.spanEnd 3) 106))

/-! ### Lifecycle (R436) -/

/-- Transition word k is valid. -/
def Otp.transOk (o : Otp) (k : Nat) : Bool :=
  o.word (2 * k) == 0x4C430001 + k && o.word (2 * k + 1) == 0x53544147 &&
    digestWords (o.wordBytes [2 * k, 2 * k + 1]) 1 == [o.word (2024 + k)]

/-- Transition word k and its digest slot are blank. -/
def Otp.transBlank (o : Otp) (k : Nat) : Bool := o.word (2 * k) == 0 && o.word (2 * k + 1) == 0 && o.word (2024 + k) == 0

/-- Lifecycle state decided at start, with LC_FALLBACK. -/
def Otp.decideLc (o : Otp) : Nat × Bool :=
  if o.transOk 3 then (4, false)
  else if (List.range 4).any (fun k => !o.transBlank k && !o.transOk k) ||
      (List.range 3).any (fun k => o.transBlank k && o.transOk (k + 1)) then (3, true)
  else ((List.range 4).foldl (fun a k => if o.transOk k then k + 1 else a) 0, false)

/-! ### Catalogue (R440, R441) -/

/-- First word of slot s of type t. -/
def slotAt (t s : Nat) : Nat := 616 + 8 * (16 * (t - 1) + s)

/-- A slot as a number of 256 bits. -/
def Otp.slot (o : Otp) (t s : Nat) : Nat := (List.range 8).foldl (fun a i => a + o.word (slotAt t s + i) * 2 ^ (32 * i)) 0

/-- A slot's check holds and it is of its type (R440). -/
def slotOk (t v : Nat) : Bool := bits v 7 0 == t && decide (1 ≤ bits v 15 8) && otpCrc16 (bitsDown v 239 0) == bits v 255 240

/-- The winning slot of a type: the valid one with the highest SEQ (R440). -/
def Otp.winner (o : Otp) (t : Nat) : Option (Nat × Nat × BitVec 224) :=
  (List.range 16).foldl (fun best s =>
    let v := o.slot t s
    if slotOk t v && (match best with | some b => decide (b.2.1 < bits v 15 8) | none => true)
    then some (s, bits v 15 8, BitVec.ofNat 224 (bits v 239 16)) else best) none

/-- Values and bits per value of a record type (R441). -/
def calShape (t : Nat) : Nat × Nat :=
  match t with | 1 => (1, 32) | 2 => (32, 7) | 3 => (17, 13) | 4 => (16, 14) | 5 => (32, 7) | _ => (8, 28)

/-- Values are two's complement. -/
def calSigned (t : Nat) : Bool := t == 2 || t == 3

/-- Nominal payload of a type (R441). (DESIGN CHOICE, notes/assumptions/17.md) -/
def calNominal (t : Nat) : Nat :=
  let v := match t with | 1 => 2500000 | 4 => 200 | 5 => 0x40 | 6 => Config.vsenseUnity.toNat | _ => 0
  (List.range (calShape t).1).foldl (fun a i => a + v * 2 ^ ((calShape t).2 * i)) 0

/-- Payload in use of a type (R440, R441). -/
def Stack.calPayload (x : Stack) (t : Nat) : Nat :=
  match x.otp.inUse.getD (t - 1) none with | some u => u.2.2.toNat | none => calNominal t

/-- Value i in use of a type. -/
def Stack.calValue (x : Stack) (t i : Nat) : Nat :=
  let w := (calShape t).2
  bits (x.calPayload t) (w * i + w - 1) (w * i)

/-- Sensor addition in 0.25 °C where CATALOGUE failed (R438). -/
def Stack.sensorAdd (x : Stack) : Int := if x.otp.checkFail.getD 4 false then 16 else 0

/-! ### Sensing at start (R430, R433, R438) -/

/-- Marginal bits of a region. -/
def marginalIn (weak : List Nat) (r : Nat) : Nat :=
  (weak.filter (fun b => decide ((otpRegion r).1 * 32 ≤ b ∧ b < ((otpRegion r).1 + (otpRegion r).2) * 32))).length

/-- A region fails its check at start (R438). -/
def Otp.regionFails (o : Otp) (r : Nat) : Bool :=
  if r = 0 then o.decideLc.2 else if r = 5 then false
  else (hasHeader r && !o.headerOk r) ||
    (o.locked r && (match digestAt r with
      | some d => o.digest r (o.finalWords r) != (List.range 4).map (fun i => o.word (d + i)) | none => false)) ||
    (r == 3 && o.repairBad)

/-- Everything the controller decides from the sensing at start (R430, R433, R436, R438, R440). -/
def Otp.sense (o : Otp) (nonce : Nat) : Otp :=
  let fails := (List.range 7).map o.regionFails
  let lc := o.decideLc
  { o with
    lifecycle := lc.1, lcFallback := lc.2, checkFail := fails, counts := (List.range 7).map o.count,
    marginal := (List.range 7).map (marginalIn o.weak),
    conservative := fails.getD 2 false || (o.count 2).2.1 == 0,
    inUse := (List.range 6).map (fun i => if fails.getD 4 false then none else o.winner (i + 1)), calNext := none,
    svcOpen := false, svcFails := 0, nonce := BitVec.ofNat 64 nonce, pendRes := none, cal := none, calWait := none }

/-- The kind that a failed region reports (R438). -/
def regionKind (r : Nat) : Kind :=
  match r with
  | 0 => K.OTP_LC_FAIL | 1 => K.OTP_IDENT_FAIL | 2 => K.OTP_CRIT_FAIL | 3 => K.OTP_REPAIR_FAIL | 4 => K.OTP_CAT_FAIL
  | _ => K.OTP_CUST_FAIL

/-- Step 3 of the start on stack k: sensing, with its reports (R430, R438). -/
def senseOtp (s : State) (k : Nat) : State :=
  let d := s.draw
  let s1 := d.2.modStk k (fun x => { x with otp := x.otp.sense d.1 })
  let o := (s1.stk k).otp
  let s2 := (List.range 7).foldl (fun s r => if o.checkFail.getD r false then s.report k (regionKind r) 0 r 0 else s) s1
  (List.range 7).foldl (fun s r => if o.marginal.getD r 0 ≠ 0 then s.report k K.OTP_MARGINAL 0 r 0 else s) s2

/-- The lid that the package works with: -A where no valid IDENTITY supplies it (R2, R438). (DEDUCED, notes/assumptions/34.md) -/
def State.lidA (s : State) (k : Nat) : Bool :=
  let o := (s.stk k).otp
  o.checkFail.getD 1 false || (o.counts.getD 1 (0, 0, 0)).2.1 == 0 || s.lid == .a

/-! ### Programming (R429) -/

/-- Burns bits into a word's cells. A word that does not verify keeps whatever it received: each cell of each bit is burned
or not (DESIGN CHOICE, notes/assumptions/1.md). -/
def burnWord (s : State) (k w v : Nat) (b : Burn) : State :=
  let n := if b.verified then max 1 (min 4 b.pulses) else 4
  let da := s.draw
  let db := da.2.draw
  let m := BitVec.ofNat 32 v
  let a := if b.verified then m else m &&& BitVec.ofNat 32 da.1
  let c := if b.verified then m else m &&& BitVec.ofNat 32 db.1
  let s1 := if b.verified then s else db.2
  let s2 := s1.modStk k (fun x => { x with otp := { x.otp with
    cellA := mput x.otp.cellA w (mget x.otp.cellA w 0#32 ||| a) 0#32,
    cellB := mput x.otp.cellB w (mget x.otp.cellB w 0#32 ||| c) 0#32 } })
  let s3 := s2.count k .otp 0 1 n
  if b.verified then s3.count k .otp 0 0 1 else s3.report k K.OTP_PROG_FAIL 0 0 w

/-- Burns several words in order, zeros skipped; a failing burn stops at one of them, which one is free. True when every
word verified. (DESIGN CHOICE, notes/assumptions/1.md) (DEDUCED, notes/assumptions/57.md) -/
def burnWords (s : State) (k : Nat) (l : List (Nat × Nat)) (b : Burn) : Bool × State :=
  let l := l.filter (fun e => e.2 != 0)
  if b.verified ∨ l = [] then (true, l.foldl (fun s e => burnWord s k e.1 e.2 b) s) else
  let d := s.draw
  let i := d.1 % l.length
  let s1 := (l.take i).foldl (fun s e => burnWord s k e.1 e.2 { b with verified := true }) d.2
  (false, match l[i]? with | some e => burnWord s1 k e.1 e.2 b | none => s1)

/-- A burn whose outcome the outside decides, where no command operand gives it (DESIGN CHOICE, notes/assumptions/1.md). -/
def freeBurn (s : State) : Burn × State := ({ pulses := 1 + s.draw.1 % 4, verified := s.draw.1.testBit 2 }, s.draw.2)

/-- OTP_CMD_STATUS.BUSY: any requester programs (R429, R443). -/
def State.otpBusy (s : State) (k : Nat) : Bool :=
  let x := s.stk k
  x.otp.pendRes.isSome || x.bst.phase == 6 ||
    (match x.doc.cmd with | some c => decide (c.1 < 2) && (c.2 == 0 || c.2 == 5 || c.2 == 7) | none => false)

/-- OTP_CMD results (R443). -/
def otpOk : Nat := 0
/-- DENIED. -/
def otpDenied : Nat := 1
/-- LOCKED. -/
def otpLocked : Nat := 2
/-- VERIFY_FAIL. -/
def otpVerifyFail : Nat := 3
/-- FINAL_CONFLICT. -/
def otpConflict : Nat := 4
/-- BAD_ARG. -/
def otpBadArg : Nat := 6

/-- Outcome of a burn as a result. -/
def burnResult (ok : Bool) : Nat := if ok then otpOk else otpVerifyFail

/-- A word lies inside the finalized span of a locked region (R434). -/
def Otp.inSpan (o : Otp) (w : Nat) : Bool :=
  match regionOf w with
  | some 4 => o.locked 4 && (digestCover 4 0).contains w
  | some r => hasHeader r && o.locked r && decide (w < o.spanEnd r)
  | none => false

/-- PROGRAM permitted in the lifecycle state (R429, R437). -/
def Otp.mayProgram (o : Otp) (w : Nat) : Bool :=
  match o.lifecycle, regionOf w with
  | 0, some _ => true
  | 1, some r => decide (1 ≤ r ∧ r ≤ 4)
  | 2, some 6 => true
  | 3, some 6 => o.locked 6 && decide (o.spanEnd 6 ≤ w)
  | _, _ => false

/-- PROGRAM of a word (R429, R434, R437). (DEDUCED, notes/assumptions/57.md) -/
def doProgram (s : State) (k : Nat) (b : Burn) : Nat × State :=
  let o := (s.stk k).otp
  let w := s.fld k 0 F.OTP_PROG_ADDR_WORD
  if (s.stk k).mode ≠ .maintenance ∨ !o.mayProgram w then (otpDenied, s)
  else if o.inSpan w then (otpLocked, s)
  else
    let r := burnWords s k [(w, s.fld k 0 F.OTP_PROG_DATA_DATA)] b
    (burnResult r.1, r.2)

/-- FINALIZE permitted in the lifecycle state (R437). -/
def mayFinalize (lc r : Nat) : Bool :=
  match lc with | 0 => true | 1 => decide (r ≤ 4) | 2 => r == 6 | _ => false

/-- Index after the last programmed word of a region (R434). -/
def Otp.lastWord (o : Otp) (r : Nat) : Nat :=
  (List.range (otpRegion r).2).foldl (fun a i => if o.word ((otpRegion r).1 + i) ≠ 0 then i + 1 else a) 0

/-- FINALIZE of a region (R434): header word 1, then the digest; a bit already burned that belongs to neither is a
conflict. (DEDUCED, notes/assumptions/57.md) -/
def doFinalize (s : State) (k r : Nat) (b : Burn) : Nat × State :=
  let o := (s.stk k).otp
  if r = 0 ∨ r = 5 ∨ 6 < r then (otpBadArg, s)
  else if (s.stk k).mode ≠ .maintenance ∨ !mayFinalize o.lifecycle r then (otpDenied, s)
  else
    let final := if r = 3 ∨ r = 6 then o.lastWord r else (otpRegion r).2
    let h := final * 2 ^ 16 + otpCrc16 (bitsDown (final * 2 ^ 16) 31 16)
    let d := (digestAt r).getD 0
    let head := if r = 4 then [] else [((otpRegion r).1 + 1, h)]
    let l := head ++ ((o.digest r final).zipIdx).map (fun e => (d + e.2, e.1))
    if l.any (fun e => (o.word e.1) &&& (0xFFFFFFFF ^^^ e.2) != 0) then (otpConflict, s)
    else
      let x := burnWords s k l b
      (burnResult x.1, x.2)

/-- ADVANCE to transition t permitted by the management path (R437); BLANK advances over the TAP only. -/
def Otp.mayAdvance (o : Otp) (t : Nat) : Bool :=
  match o.lifecycle with
  | 1 => t == 1 && [1, 2, 3, 4].all o.locked
  | 2 => (t == 2 && o.locked 6) || t == 3
  | 3 => t == 3 && !o.lcFallback
  | _ => false

/-- ADVANCE (R436, R437, R439). (DEDUCED, notes/assumptions/57.md) -/
def doAdvance (s : State) (k t : Nat) (b : Burn) : Nat × State :=
  let o := (s.stk k).otp
  if 3 < t then (otpBadArg, s)
  else if (s.stk k).mode ≠ .maintenance ∨ !o.mayAdvance t then (otpDenied, s)
  else
    let w0 := 0x4C430001 + t
    let w1 := 0x53544147
    let dg := (digestWords (bytesOf 4 w0 ++ bytesOf 4 w1) 1).headD 0
    let x := burnWords s k [(2 * t, w0), (2 * t + 1, w1), (2024 + t, dg)] b
    (burnResult x.1, if t = 3 then x.2.modStk k (fun y => { y with otp := { y.otp with svcOpen := false } }) else x.2)

/-- RESENSE: the marginal counts follow the new reads (R430). -/
def doResense (s : State) (k : Nat) (flips : List Nat) : Nat × State :=
  let weak := flips.filter (· < 65536)
  let s1 := s.modStk k (fun x => { x with otp := { x.otp with weak := weak, marginal := (List.range 7).map (marginalIn weak) } })
  let s2 := (List.range 7).foldl (fun s r => if marginalIn weak r ≠ 0 then s.report k K.OTP_MARGINAL 0 r 0 else s) s1
  (otpOk, s2.count k .otp 0 2 1)

/-- A write of OTP_CMD (R443): GO starts CMD, or answers BUSY. -/
def writeOtpCmd (s : State) (k v : Nat) (b : Burn) (flips : List Nat) : State :=
  let s1 := s.setFlds k 0 [(F.OTP_CMD_ARG, bits v 10 8), (F.OTP_CMD_CMD, bits v 1 0)]
  if !bitAt v 31 then s1
  else if s1.otpBusy k then s1.setFld k 0 F.OTP_CMD_STATUS_RESULT 5
  else
    let r := match bits v 1 0 with
      | 0 => doProgram s1 k b
      | 1 => doFinalize s1 k (bits v 10 8) b
      | 2 => doAdvance s1 k (bits v 10 8) b
      | _ => doResense s1 k flips
    (r.2.modStk k (fun x => { x with otp := { x.otp with pendRes := some r.1 } })).setFlds k 0
      [(F.OTP_CMD_STATUS_BUSY, 1), (F.OTP_CMD_STATUS_DONE, 0)]

/-- An OTP_CMD GO with a command code. -/
def otpGo (s : State) (k cmd v : Nat) (b : Burn) (flips : List Nat) : State :=
  if s.winOk k && bitAt v 31 && bits v 1 0 == cmd then writeOtpCmd s k v b flips else s

/-- OTP_PROGRAM (R429). -/
def execOtpProgram (_src : Source) (k : Nat) (v : Reg32) (burn : Burn) (s : State) : Out := .next (otpGo s k 0 v.toNat burn [])

/-- OTP_FINALIZE (R434). -/
def execOtpFinalize (_src : Source) (k : Nat) (v : Reg32) (burn : Burn) (s : State) : Out := .next (otpGo s k 1 v.toNat burn [])

/-- OTP_ADVANCE (R436). -/
def execOtpAdvance (_src : Source) (k : Nat) (v : Reg32) (burn : Burn) (s : State) : Out := .next (otpGo s k 2 v.toNat burn [])

/-- OTP_RESENSE (R430). -/
def execOtpResense (_src : Source) (k : Nat) (v : Reg32) (flips : List Nat) (s : State) : Out :=
  .next (otpGo s k 3 v.toNat { pulses := 1, verified := true } flips)

/-! ### Service unlock (R439) -/

/-- The 64-byte signature as a number, byte 0 lowest. -/
def Otp.signature (o : Otp) : Nat := (List.range 16).foldl (fun a i => a + (mget o.sig i 0#32).toNat * 2 ^ (32 * i)) 0

/-- Content of IDENTITY, which holds the serial number. -/
def Otp.identity (o : Otp) : Nat := (List.range 32).foldl (fun a i => a + o.word (8 + i) * 2 ^ (32 * i)) 0

/-- A write of OTP_SVC_CTRL: SUBMIT in FIELD, without fallback or lockout. (DESIGN CHOICE, notes/assumptions/7.md) -/
def writeSvcCtrl (s : State) (k v nonce : Nat) : State :=
  let o := (s.stk k).otp
  if !bitAt v 31 || o.lifecycle != 3 || o.lcFallback || decide (3 ≤ o.svcFails) then s else
  let ok := Config.svcSignatureValid o.nonce.toNat o.identity o.signature
  let s1 := s.modStk k (fun x => { x with otp := { x.otp with
    nonce := BitVec.ofNat 64 nonce, svcOpen := x.otp.svcOpen || ok, svcFails := if ok then x.otp.svcFails else x.otp.svcFails + 1 } })
  if ok then s1 else s1.report k K.OTP_SVC_FAIL 0 0 0

/-- SERVICE_UNLOCK_SUBMIT (R439). -/
def execServiceUnlockSubmit (_src : Source) (k : Nat) (v : Reg32) (nonce : BitVec 64) (s : State) : Out :=
  .next (if s.winOk k then writeSvcCtrl s k v.toNat nonce.toNat else s)

/-! ### Calibration (R442) -/

/-- Completes a calibration with a result (R446). -/
def calDone (s : State) (k res : Nat) : State :=
  ((s.modStk k (fun x => { x with otp := { x.otp with cal := none, calWait := none } })).setFlds k 0
    [(F.CAL_STATUS_BUSY, 0), (F.CAL_STATUS_DONE, 1), (F.CAL_STATUS_RESULT, res)]).event k .cal 0 0

/-- Starts the first measurement run. -/
def calStart (s : State) (k t : Nat) (run : List Int) : State :=
  s.modStk k (fun x => { x with otp := { x.otp with cal := some (t, run, s.now k), calWait := none } })

/-- A write of CAL_CMD (R442, R446). -/
def writeCalCmd (s : State) (k v : Nat) (run : List Int) : State :=
  let t := bits v 7 0
  let s1 := s.setFld k 0 F.CAL_CMD_TYPE t
  let o := (s.stk k).otp
  if !bitAt v 31 || o.cal.isSome || o.calWait.isSome then s1 else
  let s2 := s1.setFlds k 0 [(F.CAL_STATUS_BUSY, 1), (F.CAL_STATUS_DONE, 0)]
  if t = 0 ∨ 6 < t ∨ (s.stk k).mode ≠ .maintenance ∨ o.lifecycle = 4 then calDone s2 k 3
  else if s.otpBusy k then s2.modStk k (fun x => { x with otp := { x.otp with calWait := some (t, run) } })
  else calStart s2 k t run

/-- CALIBRATION (R442). -/
def execCalibration (_src : Source) (k : Nat) (v : Reg32) (run : List Int) (s : State) : Out :=
  .next (if s.winOk k && bitAt v.toNat 31 then writeCalCmd s k v.toNat run else s)

/-- Two measurements of a value agree (R441): within the type's step, or within its share of their mean. (DEDUCED, notes/assumptions/58.md) -/
def calAgree (t : Nat) (a b : Int) : Bool :=
  let d := (a - b).natAbs
  let rel := fun (n : Nat) => decide (2000 * d ≤ n * (a + b).natAbs)
  match t with | 1 => rel 2 | 2 => decide (d ≤ 4) | 3 => decide (d ≤ 4) | 4 => decide (d ≤ 20) | 5 => decide (d ≤ 2) | _ => rel 5

/-- The mean of each pair, packed: a mean between two units is rounded to either (DESIGN CHOICE, notes/assumptions/1.md). -/
def calMean (s : State) (t : Nat) (a b : List Int) : Nat × State :=
  let n := (calShape t).1
  let w := (calShape t).2
  let v := (List.range n).foldl (fun acc i =>
    let sum := a.getD i 0 + b.getD i 0
    let m := if sum % 2 = 0 then sum / 2 else sum / 2 + (Config.freeNat (s.free + i) % 2 : Nat)
    acc + ofSigned w m * 2 ^ (w * i)) 0
  (v, { s with free := s.free + n })

/-- The next blank slot: slot 0 only before the catalogue is locked, in BLANK and VENDOR (R437, R442). (DEDUCED, notes/assumptions/58.md) -/
def Otp.blankSlot (o : Otp) (t : Nat) : Option Nat :=
  (List.range 16).find? (fun i => o.slot t i == 0 && (i != 0 || (decide (o.lifecycle < 2) && !o.locked 4)))

/-- CALIBRATION_SECOND_RUN: at least 1,024 frames after the first (R442). (DEDUCED, notes/assumptions/58.md) -/
def execCalibrationSecondRun (k : Nat) (run : List Int) (burn : Burn) (s : State) : Out :=
  .next (match (s.stk k).otp.cal with
    | none => s
    | some (t, first, t0) =>
      if s.now k < t0 + 1024 ∨ s.regRuns k = false then s else
      let o := (s.stk k).otp
      if !((List.range (calShape t).1).all (fun i => calAgree t (first.getD i 0) (run.getD i 0))) then
        calDone ((s.report k K.CAL_DISAGREE 0 0 0).count k .cal 0 1 1) k 1
      else
      let seq := match o.winner t with | some u => u.2.1 + 1 | none => 1
      match o.blankSlot t with
      | none => calDone (s.count k .cal 0 2 1) k 2
      | some i =>
        if 255 < seq then calDone (s.count k .cal 0 2 1) k 2 else
        let m := calMean s t first run
        let v := t + seq * 2 ^ 8 + m.1 * 2 ^ 16
        let full := v + otpCrc16 (bitsDown v 239 0) * 2 ^ 240
        let x := burnWords m.2 k ((List.range 8).map (fun j => (slotAt t i + j, bits full (32 * j + 31) (32 * j)))) burn
        if x.1 then
          let s1 := (x.2.modStk k (fun y => { y with otp := { y.otp with calNext := some (t, i, seq, BitVec.ofNat 224 m.1) } })).count
            k .cal 0 0 1
          calDone (s1.setFld k 0 F.CAL_STATUS_SLOT i) k 0
        else calDone x.2 k 4)

/-- The new coefficients take effect at the tick (R442); where CATALOGUE failed its check the nominal ones stay until the
next start (R438). -/
def tickCal (s : State) (k : Nat) : State :=
  match (s.stk k).otp.calNext with
  | none => s
  | some (t, i, seq, v) =>
    s.modStk k (fun x => { x with otp := { x.otp with
      calNext := none
      inUse := if x.otp.checkFail.getD 4 false then x.otp.inUse else x.otp.inUse.set (t - 1) (some (i, seq, v)) } })

/-! ### Read-only registers (R443, R446) -/

/-- OTP_STATUS. -/
def otpStatus (s : State) (k : Nat) : Nat :=
  let o := (s.stk k).otp
  o.lifecycle * 2 ^ 29 + b2n o.lcFallback * 2 ^ 28 + b2n o.svcOpen * 2 ^ 27 + b2n (decide (3 ≤ o.svcFails)) * 2 ^ 26 +
    b2n o.conservative * 2 ^ 25 + min 65535 (o.marginal.foldl (· + ·) 0)

/-- OTP_REGION_INFO of the selected region. -/
def otpRegionInfo (s : State) (k : Nat) : Nat :=
  let o := (s.stk k).otp
  let r := s.fld k 0 F.OTP_REGION_SEL_REGION
  if 6 < r then 0 else
  let c := o.counts.getD r (0, 0, 0)
  b2n (o.locked r) * 2 ^ 31 + b2n (o.checkFail.getD r false) * 2 ^ 30 + b2n (decide (c.2.1 < c.1)) * 2 ^ 29 +
    min 511 c.2.2 * 2 ^ 20 + min 65535 (o.marginal.getD r 0)

/-- OTP_REGION_COUNT of the selected region; CUSTOMER records are not marked valid after a failed check (R438). -/
def otpRegionCount (s : State) (k : Nat) : Nat :=
  let o := (s.stk k).otp
  let r := s.fld k 0 F.OTP_REGION_SEL_REGION
  let c := o.counts.getD r (0, 0, 0)
  c.1 * 2 ^ 16 + (if o.checkFail.getD r false then 0 else c.2.1)

/-- CAL_INUSE. -/
def calInuse (s : State) (k : Nat) : Nat :=
  let t := s.fld k 0 F.CAL_INUSE_SEL_TYPE
  let w := s.fld k 0 F.CAL_INUSE_SEL_WORD
  if t = 0 ∨ 6 < t then 0 else bits ((s.stk k).calPayload t) (32 * w + 31) (32 * w)

/-- CAL_SOURCE. -/
def calSource (s : State) (k : Nat) : Nat :=
  let t := s.fld k 0 F.CAL_INUSE_SEL_TYPE
  if t = 0 ∨ 6 < t then 2 ^ 12 else
  match (s.stk k).otp.inUse.getD (t - 1) none with
  | some u => u.1 * 2 ^ 8 + u.2.1
  | none => 2 ^ 12

end Sys2Proof.Machine
end

