-- ==== Sys2Proof/Machine/Thermal.lean ====
section
/-! DEFINITION. Temperature sensing (R414 to R416), throttle stages (R417, R420), the rate alarm (R418), THERM_N (R419) and
the THM page's commands (R425). Temperatures are in 0.25 °C, and are what the sensor front end gives after the catalogue
offset (DESIGN CHOICE, notes/assumptions/18.md). -/

namespace Sys2Proof.Machine

/-- THM of stack k runs with its full set of sensors: powered, and neither in RETAIN nor LOST (R419). -/
def State.thmRuns (s : State) (k : Nat) : Bool :=
  decide (k < s.n) && s.mode != .off && s.mode != .retain && s.mode != .lost

/-! ### Stages -/

/-- Every value in use of a stack: base die, lid, memory dies. -/
def Stack.inUseAll (x : Stack) : List Int := x.th.baseUse ++ x.th.lidUse :: x.th.memUse

/-- Entry threshold of stage j, in 0.25 °C (R417, R425). -/
def State.stageEntry (s : State) (k j : Nat) : Int :=
  4 * (s.fld k 0 (match j with | 1 => F.THM_THRESH_T1 | 2 => F.THM_THRESH_T2 | 3 => F.THM_THRESH_T3 | _ => F.THM_THRESH_T4) : Nat)

/-- The stage that the hottest value in use reaches (R417). -/
def State.hotStage (s : State) (k : Nat) : Nat :=
  let h := (s.stk k).hottest.2
  (List.range 5).foldl (fun a j => if j ≠ 0 ∧ s.stageEntry k j ≤ h then j else a) 0

/-- The stage that temperatures and the rate alarm ask for. -/
def State.wantStage (s : State) (k : Nat) : Nat := max (s.hotStage k) (if (s.stk k).th.ror then 2 else 0)

/-- A higher stage takes effect at the first tick after the sample (R417). -/
def judgeStage (s : State) (k : Nat) : State :=
  let w := s.wantStage k
  if (s.stk k).th.tstage < w then
    s.modStk k (fun x => { x with th := { x.th with stageNext := some (max w (x.th.stageNext.getD 0)) } }) else s

/-- A stack of the package is in SAFE through THM_T4. -/
def State.safeByT4 (s : State) (k : Nat) : Bool := s.inSafe k && s.fld k 0 F.REG_SAFE_STATUS_CAUSE_KIND == K.THM_T4.code

/-- THERM_N is low while any stack is at T2 or higher, has a rate alarm, or is in SAFE through THM_T4, or a low-power check
has found T4 (R419). -/
def updThermN (s : State) : State :=
  let hot := (List.range s.n).any (fun k =>
    let t := (s.stk k).th
    decide (2 ≤ t.stage) || t.ror || s.safeByT4 k || t.t4InLow)
  { s with pins := { s.pins with thermN := !hot }, pmbus := { s.pmbus with tempFault := s.pmbus.tempFault || hot } }

/-- Entry into a stage: counted and reported; during a self-test, T4 is a cancel and is reported after RESTORE (R417,
R426, R427, R490). -/
def enterStage (s : State) (k j : Nat) : State :=
  let s1 := s.count k .thm 0 (j - 1) 1
  match j with
  | 1 => s1.report k K.THM_T1 0 0 0
  | 2 => s1.report k K.THM_T2 0 0 0
  | 3 => s1.report k K.THM_T3 0 0 0
  | _ => if (s1.stk k).bst.phase ≠ 0 ∧ (s1.stk k).bst.phase ≠ 6
      then s1.modStk k (fun x => { x with bst := { x.bst with cancelPend := true, t4Pend := true } })
      else s1.report k K.THM_T4 0 0 0

/-- The stage in force becomes j; at T3 the core divider doubles and capacity halves (R47, R391, R417). (DEDUCED, notes/assumptions/56.md) -/
def setStage (s : State) (k j : Nat) : State :=
  let old := (s.stk k).th.stage
  if j = old then s else
  let s1 := (s.modStk k (fun x => { x with
    th := { x.th with stage := j, holdDown := 0 }, tm := { x.tm with halved := j == 3 } })).event k .thm 0 0
  if old < j then enterStage s1 k j else s1

/-- The stage at a tick: what temperatures hold, T3 while R412 holds (R417, R420). -/
def tickStage (s : State) (k : Nat) : State :=
  let s1 := s.modStk k (fun x => { x with th := { x.th with tstage := max x.th.tstage (x.th.stageNext.getD 0), stageNext := none } })
  setStage s1 k (max (s1.stk k).th.tstage (if (s1.stk k).pw.ilimitT3 then 3 else 0))

/-- Every value in use is at least 3 °C below the entry threshold of the current stage, with no rate alarm (R417). -/
def State.coolBelow (s : State) (k : Nat) : Bool :=
  let t := (s.stk k).th
  !t.ror && decide ((s.stk k).hottest.2 + 12 ≤ s.stageEntry k t.tstage)

/-- STAGE_STEP_DOWN: after 6,250 such frames the stage that temperatures hold steps down by one level, which the next tick puts in
force (R391, R417); T4 ends only through exit from SAFE. -/
def execStageStepDown (k : Nat) (s : State) : Out :=
  .next (let t := (s.stk k).th
    if s.thmRuns k && decide (0 < t.tstage ∧ t.tstage < 4 ∧ 6250 ≤ t.holdDown) && s.coolBelow k then
      s.modStk k (fun x => { x with th := { x.th with tstage := x.th.tstage - 1, holdDown := 0 } })
    else s)

/-! ### Rate alarm (R418) -/

/-- WINDOW in frames; values below 625 act as 625. -/
def State.rorWindow (s : State) (k : Nat) : Nat := max 625 (s.fld k 0 F.THM_ROR_WINDOW)

/-- RATE; 0 acts as 1. -/
def State.rorRate (s : State) (k : Nat) : Nat := max 1 (s.fld k 0 F.THM_ROR_RATE)

/-- Rises of every sensor over its lowest value in use in the preceding frames. -/
def rises (hist : List (Nat × List Int)) (now : List Int) : List Int :=
  (now.zipIdx).map (fun e => e.1 - hist.foldl (fun m h => min m (h.2.getD e.2 e.1)) e.1)

/-- Judges the rate alarm with a frame's values: RATE × WINDOW in 0.1 °C/ms × 1.28 µs. -/
def judgeRor (s : State) (k : Nat) : State :=
  let x := s.stk k
  let w := s.rorWindow k
  let hist := x.th.hist.filter (fun h => decide (s.now k ≤ h.1 + w))
  let r := rises hist x.inUseAll
  let lim : Int := ((s.rorRate k * w * 128 : Nat) : Int)
  let en := s.flag k 0 F.THM_ROR_EN
  let sets := en && !x.th.ror && r.any (fun d => decide (lim < 250000 * d))
  let clears := !en || r.all (fun d => decide (500000 * d < lim))
  let s1 := s.modStk k (fun x => { x with th := { x.th with
    hist := hist ++ [(s.now k, x.inUseAll)], ror := sets || (x.th.ror && !clears) } })
  if sets then ((s1.modStk k (fun x => { x with th := { x.th with holdDown := 0 } })).count k .thm 0 4 1).report k K.THM_ROR 0 0 0
  else s1

/-! ### Base-die and lid sensors -/

/-- Readings of the columns on either side of a column. -/
def neighbours (l : List Int) (i : Nat) : List Int :=
  (if i = 0 then [] else [l.getD (i - 1) 0]) ++ (if i + 1 < l.length then [l.getD (i + 1) 0] else [])

/-- A sensor differs from both neighbours by more than 6 °C (R416). -/
def differs (l : List Int) (i : Nat) : Bool := (neighbours l i).all (fun n => decide (24 < (l.getD i 0 - n).natAbs))

/-- The hotter neighbour plus 4 °C (R416). -/
def hotterPlus (l : List Int) (i : Nat) : Int := (neighbours l i).foldl max ((neighbours l i).headD 0) + 16

/-- The thermal history keeps the last 1,024 samples (R465). -/
def keepSample (x : Stack) : Stack :=
  let l := x.th.samples ++ [(x.inUseAll, x.th.stage, x.tm.tier, x.tm.frame)]
  { x with th := { x.th with samples := l.drop (l.length - 1024) } }

/-- BASE_SENSOR_READ: the base-die and lid sensors and the tile's power and current; exclusion, the rate alarm and the stage
are judged (R414, R416 to R418). (DESIGN CHOICE, notes/assumptions/18.md) (DEDUCED, notes/assumptions/56.md) -/
def execBaseSensorRead (k : Nat) (base : List Int) (lid : Int) (power iin : Nat) (s : State) : Out :=
  .next (if !s.thmRuns k || base.length != 32 then s else
    let x := s.stk k
    let add := x.sensorAdd
    let dis := (List.range 32).map (fun i => if differs base i then x.th.baseDis.getD i 0 + 1 else 0)
    let excl := (List.range 32).map (fun i => x.th.baseExcl.getD i false || decide (64 ≤ dis.getD i 0))
    let use_ := (List.range 32).map (fun i => (if excl.getD i false then hotterPlus base i else base.getD i 0) + add)
    let lim := decide (16000 ≤ iin)
    let s1 := s.modStk k (fun x => { x with
      th := { x.th with base := base, baseUse := use_, baseDis := dis, baseExcl := excl, lid := lid, lidUse := lid + add },
      pw := { x.pw with pin := min 65535 power, iin := min 65535 iin, ilimit := lim } })
    let s2 := if lim && !x.pw.ilimit then s1.count k .pwr 0 1 1 else s1
    let s3 := judgeStage (judgeRor s2 k) k
    if s3.now k % 64 = 0 then s3.modStk k keepSample else s3)

/-- THM_LOW_POWER_CHECK: in RETAIN or LOST only the base-die and lid sensors are read; a value at or above T4 asserts
THERM_N and is logged as THM_T4 (R419). (DESIGN CHOICE, notes/assumptions/18.md) (DEDUCED, notes/assumptions/56.md) -/
def execThmLowPowerCheck (k : Nat) (base : List Int) (lid : Int) (s : State) : Out :=
  .next (if !decide (k < s.n) || !(s.mode == .retain || s.mode == .lost) || base.length != 32 then s else
    let add := (s.stk k).sensorAdd
    let s1 := s.modStk k (fun x => { x with th := { x.th with
      base := base, baseUse := (List.range 32).map (fun i =>
        (if x.th.baseExcl.getD i false then hotterPlus base i else base.getD i 0) + add), lid := lid, lidUse := lid + add } })
    let x := s1.stk k
    let hot := (x.th.lidUse :: x.th.baseUse).any (fun v => decide (s1.stageEntry k 4 ≤ v))
    if hot && !x.th.t4InLow then
      updThermN (enterStage (s1.modStk k (fun x => { x with th := { x.th with t4InLow := true, stage := 4, tstage := 4 } })) k 4)
    else s1)

/-! ### Memory-die sensors (R415) -/

/-- E_d of die d (from 0), exact, in 1/1,600,000 of 0.25 °C; G_d in 0.0001 °C/W and P in 0.1 W. -/
def Stack.estimate (x : Stack) (d : Nat) : Int :=
  let top := x.th.mem.length - 1
  let m := fun i => x.th.memPrev.getD i 0
  let mean := if d = 0 then m 1 * 800000 + x.th.baseUse.foldl (· + ·) 0 * 25000
    else if d = top then (m (top - 1) + x.th.lidUse) * 800000 else (m (d - 1) + m (d + 1)) * 800000
  mean + ((x.calValue 4 d * x.pw.pin * 64 : Nat) : Int)

/-- An estimate in 0.25 °C: between two steps it is either (DESIGN CHOICE, notes/assumptions/1.md). -/
def roundEst (e : Int) (free : Nat) : Int := if e % 1600000 = 0 then e / 1600000 else e / 1600000 + (free % 2 : Nat)

/-- A reading within q quarter degrees of an estimate. -/
def within (v e : Int) (q : Int) : Bool := decide (v * 1600000 - e ≤ q * 1600000) && decide (e - v * 1600000 ≤ q * 1600000)

/-- The pseudo-channel through which a die's sensor is read, in the thermal-action share of channel d − 1 (here numbered d, from
0): the other one while PC0 is paused, none while both are (R241, R254). -/
def Stack.sensorPc (x : Stack) (d : Nat) : Option Nat :=
  if !((x.ch d).pc 0).paused then some 0 else if !((x.ch d).pc 1).paused then some 1 else none

/-- One die's cross-check: disagreement count, tick of the first agreeing read plus 1, estimate and value in use. A read that is
skipped counts as neither (R254). -/
def checkDie (x : Stack) (now free d : Nat) (v : Option Int) : Nat × Nat × Int × Int :=
  let e := x.estimate d
  let q := roundEst e (Config.freeNat (free + d))
  if (x.sensorPc d).isNone then
    (x.th.memDis.getD d 0, x.th.memAgree.getD d 0, q, if x.th.suspect.getD d false then q + 16 else x.th.memUse.getD d 0) else
  let known := x.th.memRead
  let dis := known && (match v with | some r => !within r e 24 | none => true)
  let agree := match v with | some r => within r e 16 | none => false
  let use_ := if x.th.suspect.getD d false then q + 16
    else match v with | some r => r + x.sensorAdd | none => x.th.memUse.getD d 0
  (if dis then x.th.memDis.getD d 0 + 1 else 0,
   if agree then (if x.th.memAgree.getD d 0 = 0 then now + 1 else x.th.memAgree.getD d 0) else 0, q, use_)

/-- The window slots of the memory-die reads: one per die, a thermal action (R48, R241). The spec gives a read no number of slots
(DESIGN CHOICE, notes/assumptions/68.md). -/
def chargeReads (s : State) (k : Nat) : State :=
  if !s.serving then s else
  (List.range s.part.dies).foldl (fun s d =>
    match (s.stk k).sensorPc d with | some i => s.workWindow k d i 2 1 | none => s) s

/-- MEMORY_DIE_SENSOR_READ, every 16 frames: readings and cross-check; a die that disagrees in 5 consecutive reads becomes suspect
at the next tick (R241, R414, R415, R420). (DESIGN CHOICE, notes/assumptions/18.md) (DEDUCED, notes/assumptions/56.md) -/
def execMemoryDieSensorRead (k : Nat) (raw : List (Option Int)) (s : State) : Out :=
  .next (if !s.thmRuns k || raw.length != s.part.dies || ((s.stk k).th.memRead && decide (s.now k - (s.stk k).th.memLast < 16)) then s
    else
    let x := s.stk k
    let r : List (Nat × Nat × Int × Int) := (List.range s.part.dies).map (fun d => checkDie x (s.now k) s.free d (raw.getD d none))
    let marks := pick s.part.dies (fun d => !x.th.suspect.getD d false && decide (5 ≤ (r.getD d (0, 0, 0, 0)).1) &&
      !x.th.memNext.any (fun m => m.1 == d))
    let use_ := r.map (fun e => e.2.2.2)
    let dis := r.map (fun e => e.1)
    let agree := r.map (fun e => e.2.1)
    let est := r.map (fun e => e.2.2.1)
    let s1 := { s with free := s.free + s.part.dies }.modStk k (fun x => { x with th := { x.th with
      mem := (List.range s.part.dies).map (fun d =>
        if (x.sensorPc d).isNone then x.th.mem.getD d 0 else (raw.getD d none).getD (x.th.mem.getD d 0)),
      memDis := dis, memAgree := agree, est := est, memUse := use_, memPrev := use_,
      memNext := x.th.memNext ++ marks.map (fun d => (d, true, (r.getD d (0, 0, 0, 0)).2.2.1 + 16)), memRead := true, memLast := s.now k } })
    judgeStage (marks.foldl (fun s d => (s.count k .thm 0 5 1).report k K.THM_SUSPECT 0 0 (d + 1)) (chargeReads s1 k)) k)

/-- SUSPECT_CLEAR: 6,250 consecutive frames within 4 °C of its estimate clear a suspect die, at the next tick (R415). -/
def execSuspectClear (k die : Nat) (s : State) : Out :=
  .next (let t := (s.stk k).th
    let a := t.memAgree.getD die 0
    if s.thmRuns k && t.suspect.getD die false && decide (0 < a ∧ 6250 ≤ s.now k + 1 - a) && !t.memNext.any (fun m => m.1 == die) then
      s.modStk k (fun x => { x with th := { x.th with
        memNext := x.th.memNext ++ [(die, false, x.th.mem.getD die 0 + x.sensorAdd)] } })
    else s)

/-- Markings and clearings at a tick; more than 4 suspect dies hold the hot tier (R415, R416). -/
def tickMarks (s : State) (k : Nat) : State :=
  let held := (s.stk k).heldHot
  let s1 := (s.stk k).th.memNext.foldl (fun s m => s.modStk k (fun x => { x with th := { x.th with
    suspect := x.th.suspect.set m.1 m.2.1, memUse := x.th.memUse.set m.1 m.2.2, memDis := x.th.memDis.set m.1 0 } })) s
  let s2 := s1.modStk k (fun x => { x with th := { x.th with memNext := [] } })
  if (s2.stk k).heldHot && !held then s2.report k K.THM_SENSOR_FAIL 0 0 0 else s2

/-- The tier at a tick: one that was to come at this tick, the first decision once the memory dies have been read, and the time
below the tier's threshold (R46, R58). -/
def tickTier (s : State) (k : Nat) : State :=
  let x := s.stk k
  if !x.th.memRead then s
  else if x.tm.tierNext.isSome then setTier s k (x.tm.tierNext.getD 0)
  else if !x.tm.tierKnown then setTier s k x.wantTier
  else if decide (0 < x.tm.tier) && decide (x.hotDie + 8 ≤ tierEntry x.tm.tier) && !x.heldHot then
    s.modStk k (fun x => { x with th := { x.th with tierHold := x.th.tierHold + 1 } })
  else s.modStk k (fun x => { x with th := { x.th with tierHold := 0 } })

/-- The retention interval of every SID follows the values and marks in use from the tick on (R241, R243). -/
def tickIntervals (s : State) (k : Nat) : State :=
  s.modStk k (fun x => { x with sidIv := (List.range 4).map x.sidInterval })

/-- What a tick does to the thermal control of a stack. -/
def tickThermal (s : State) (k : Nat) : State :=
  let s1 := tickStage (judgeStage (tickMarks s k) k) k
  let cool := decide (0 < (s1.stk k).th.tstage) && s1.coolBelow k
  tickIntervals (tickTier (s1.modStk k (fun x => { x with th := { x.th with holdDown := if cool then x.th.holdDown + 1 else 0 } })) k) k

/-- Exit from SAFE ends T4: the stage is judged anew (R417). -/
def leaveT4 (s : State) (k : Nat) : State :=
  let s1 := s.modStk k (fun x => { x with th := { x.th with t4InLow := false } })
  let w := s1.wantStage k
  let s2 := s1.modStk k (fun x => { x with th := { x.th with tstage := w, stageNext := none } })
  updThermN (setStage s2 k (max w (if (s2.stk k).pw.ilimitT3 then 3 else 0)))

/-! ### THM registers (R425) -/

/-- A write of THM_THRESH: ignored unless T1 < T2 < T3 < T4. -/
def writeThresh (s : State) (k v : Nat) : State :=
  if bits v 7 0 < bits v 15 8 ∧ bits v 15 8 < bits v 23 16 ∧ bits v 23 16 < bits v 31 24 then s.setRaw k .thm 0 0x100 v
  else s.report k K.THM_THRESH_REJECT 0 0 0

/-- THM_THRESH_WRITE (R425). -/
def execThmThreshWrite (_src : Source) (k : Nat) (v : Reg32) (s : State) : Out :=
  .next (if s.winOk k then writeThresh s k v.toNat else s)

/-- THM_STATUS. -/
def thmStatus (s : State) (k : Nat) : Nat :=
  let x := s.stk k
  b2n x.th.ror * 2 ^ 31 + x.th.stage * 2 ^ 28 + x.tm.tier * 2 ^ 26 + (x.th.suspect.filter (· == true)).length * 2 ^ 21 +
    x.hottest.1 * 2 ^ 16 + ofSigned 11 x.hottest.2

/-- THM_SENSE of the selected sensor. -/
def thmSense (s : State) (k : Nat) : Nat :=
  let t := (s.stk k).th
  let i := s.fld k 0 F.THM_SENSE_SEL_SENSOR
  let word := fun (sus : Bool) (u r : Int) => b2n sus * 2 ^ 31 + ofSigned 11 u * 2 ^ 16 + ofSigned 11 r
  if i < 32 then word (t.baseExcl.getD i false) (t.baseUse.getD i 0) (t.base.getD i 0)
  else if i = 32 then word false t.lidUse t.lid
  else if i - 33 < s.part.dies then word (t.suspect.getD (i - 33) false) (t.memUse.getD (i - 33) 0) (t.mem.getD (i - 33) 0)
  else 0

/-- THM_SENSE_EST of the selected sensor. -/
def thmSenseEst (s : State) (k : Nat) : Nat :=
  let i := s.fld k 0 F.THM_SENSE_SEL_SENSOR
  if 33 ≤ i ∧ i - 33 < s.part.dies then ofSigned 11 ((s.stk k).th.est.getD (i - 33) 0) else 0

end Sys2Proof.Machine
end

