-- ==== Sys2Proof/Machine/Repair.lean ====
section
/-! DEFINITION. Docent's repairs and channel training (R290, R291, R480 to R482, R493), HEALTH marks (R435, R480) and the
DOC command register. -/

namespace Sys2Proof.Machine

/-! ### Unusable blocks (R480) -/

/-- PAGE_STATUS.UNUSABLE of a page (R83). -/
def markPage (s : State) (k : Nat) (pg : Page) (i : Nat) : State :=
  s.setRaw k pg i 0x0C (s.raw k pg i 0x0C ||| 2)

/-- Every tile of a channel is RETIRED (R480, R488); the last SID's tiles exist on 16-high parts only. -/
def retireChannel (s : State) (k c : Nat) : State :=
  let lo := c * 2 ^ 20
  let new := ((List.range (2 ^ 20)).filter (fun i => decide ((i / 32768) % 4 < s.part.sids))).map (fun i => (lo + i, TileState.retired))
  s.modStk k (fun x => { x with
    tiles := x.tiles.filter (fun e => decide (e.1 < lo)) ++ new ++ x.tiles.filter (fun e => decide (lo + 2 ^ 20 ≤ e.1)),
    openList := x.openList.filter (fun e => tileCh e.tile != c), seals := x.seals.filter (fun e => tileCh e.tile != c),
    lines := x.lines.filter (fun y => y.ch != c) })

/-- The saved tile-state map is restored; every tile of a channel that is unusable is RETIRED (R486, R488). -/
def restoreTiles (s : State) (k : Nat) : State :=
  let s1 := if (s.stk k).bst.saveValid then s.modStk k (fun x => { x with tiles := x.bst.saveTiles }) else s
  (pick 32 (fun c => ((s1.stk k).ch c).unusable)).foldl (fun s c => retireChannel s k c) s1

/-- Makes a block unusable for the power cycle: HEALTH KIND and INSTANCE; a channel's slice and NDU with it (R435, R480). -/
def makeUnusable (s : State) (k kind inst : Nat) : State :=
  match kind with
  | 1 => retireChannel (s.modCh k inst (fun c => { c with
      unusable := true, viUnusable := true, nduUnusable := true, accs := [], pcs := c.pcs.map (fun p => { p with selfRefresh := true }) })) k inst
  | 2 => s.modStk k (fun x => ({ x with lines := x.lines.filter (fun y => y.ch != inst) } : Stack).modCh inst
      (fun c => { c with viUnusable := true }))
  | 3 => s.modPort (4 * k + inst) (fun x => { x with unusable := true })
  | _ => s.modCh k inst (fun c => { c with nduUnusable := true })

/-- A HEALTH slot marks the pages of its block; a channel's slice and NDU with it (R83, R480). -/
def markPages (s : State) (k kind inst : Nat) : State :=
  match kind with
  | 1 => markPage (markPage (markPage s k .ctl inst) k .ndu inst) k .vit 0
  | 2 => markPage s k .vit 0
  | 3 => markPage (markPage s k .nxp inst) k .nxl inst
  | _ => markPage s k .ndu inst

/-- A block that HEALTH KIND and INSTANCE name is already unusable. -/
def State.isUnusable (s : State) (k kind inst : Nat) : Bool :=
  let c := (s.stk k).ch inst
  match kind with
  | 1 => c.unusable | 2 => c.viUnusable | 3 => (s.prt (4 * k + inst)).unusable | 4 => c.nduUnusable | _ => false

/-- HEALTH slot i of 256 (R435). -/
def Otp.health (o : Otp) (i : Nat) : Nat := bits (o.word (1384 + i / 2)) (16 * (i % 2) + 15) (16 * (i % 2))

/-- Check nibble of a slot: the complement of the XOR of the three nibbles above it (R435). -/
def healthCheck (v : Nat) : Nat := (bits v 15 12 ^^^ bits v 11 8 ^^^ bits v 7 4) ^^^ 15

/-- A slot passes its check, with a KIND that is not reserved (R435). -/
def healthOk (v : Nat) : Bool := healthCheck v == bits v 3 0 && decide (1 ≤ bits v 15 13 ∧ bits v 15 13 ≤ 4)

/-- Step 11: every HEALTH slot that passes its check marks its block; a bad slot, or one that names port 4 or above, is
ignored and logged (R438, R480). -/
def applyHealth (s : State) (k : Nat) : State :=
  (List.range 256).foldl (fun s i =>
    let v := (s.stk k).otp.health i
    if v = 0 then s
    else if !healthOk v || (bits v 15 13 == 3 && decide (4 ≤ bits v 12 8)) then s.report k K.OTP_HEALTH_BAD 0 0 i
    else markPages (makeUnusable s k (bits v 15 13) (bits v 12 8)) k (bits v 15 13) (bits v 12 8)) s

/-! ### Repair entries (R290, R432, R481) -/

/-- Lane group of a pin: DQ8g to DQ8g + 7 with CBg (R290). -/
def pinGroup (pin : Nat) : Nat := if pin < 32 then pin / 8 else pin - 32

/-- A spare TSV is taken. -/
def Stack.tsvTaken (x : Stack) (c pc pin : Nat) : Bool :=
  x.doc.shifts.any (fun e => e.1 == c && e.2.1 == pc && pinGroup e.2.2 == pinGroup pin)

/-- A spare row of a bank group is taken. -/
def Stack.rowTaken (x : Stack) (c pc sid bg i : Nat) : Bool := x.doc.spares.any (fun e => e.take 5 == [c, pc, sid, bg, i])

/-- A row redirected to a spare; the latest redirect of a row holds. -/
def addSpare (s : State) (k : Nat) (e : List Nat) : State :=
  s.modStk k (fun x => { x with doc := { x.doc with spares := e :: x.doc.spares } })

/-- A lane shift in force. -/
def addShift (s : State) (k : Nat) (e : Nat × Nat × Nat) : State :=
  s.modStk k (fun x => { x with doc := { x.doc with shifts := e :: x.doc.shifts } })

/-- Loads one REPAIR entry at step 9, or skips it (R481). -/
def loadEntry (s : State) (k e : Nat) : State :=
  let c := bits e 61 57
  let pc := bits e 56 56
  if ((s.stk k).ch c).unusable then s
  else if bits e 63 62 = 1 then
    let sid := bits e 55 54
    let bg := bits e 53 52
    if s.part.sids ≤ sid then s
    else if (s.stk k).rowTaken c pc sid bg (bits e 34 31) then s.report k K.DOC_REPAIR_CONFLICT 0 0 0
    else addSpare s k [c, pc, sid, bg, bits e 34 31, bits e 51 50, bits e 49 35]
  else
    let pin := bits e 30 25
    if 36 ≤ pin then s
    else if (s.stk k).tsvTaken c pc pin then s.report k K.DOC_REPAIR_CONFLICT 0 0 0
    else addShift s k (c, pc, pin)

/-- The vendor lane-repair map, unless CRITICAL failed (R431, R438). (DESIGN CHOICE, notes/assumptions/17.md) -/
def vendorMap (s : State) (k : Nat) : State :=
  let o := (s.stk k).otp
  if o.conservative then s else
  let l := Config.vendorShifts ((List.range 64).foldl (fun a i => a + o.word (40 + i) * 2 ^ (32 * i)) 0)
  l.foldl (fun s e =>
    if 32 ≤ e.1 ∨ 2 ≤ e.2.1 ∨ 36 ≤ e.2.2 ∨ (s.stk k).tsvTaken e.1 e.2.1 e.2.2 then s else addShift s k e) s

/-- Step 9: the vendor map first, then the REPAIR entries in region order (R481). -/
def loadRepairs (s : State) (k : Nat) : State :=
  let s1 := s.modStk k (fun x => { x with doc := { x.doc with spares := [], shifts := [] } })
  let s2 := vendorMap s1 k
  if (s2.stk k).otp.checkFail.getD 3 false then s2
  else (s2.stk k).otp.repairs.foldl (fun s e => loadEntry s k e) s2

/-! ### Training (R482) -/

/-- Trains a channel: each pin's delays and Vref are the centres that the sweeps find (free values), and a failing channel
is named by the outcome (R482, R263). (DESIGN CHOICE, notes/assumptions/1.md) -/
def trainChannel (s : State) (k c : Nat) : State :=
  let s1 := s.modCh k c (fun x => { x with pcs := x.pcs.zipIdx.map (fun p =>
    (List.range 36).foldl (fun q pin => q.setDelay pin (Config.freeNat (s.free + 36 * p.2 + pin) % 2 ^ 22)) p.1) })
  { s1 with free := s1.free + 72 }.count k .doc 0 2 1

/-- Channels of a list that are usable. -/
def Stack.usable (x : Stack) (l : List Nat) : List Nat := l.filter (fun c => !(x.ch c).unusable)

/-- Loads each pin's CTL_DLY of some channels from TSV_DLY_SEED (R263, R482 step 1). -/
def loadSeeds (s : State) (k : Nat) (chs : List Nat) : State :=
  let x := s.stk k
  chs.foldl (fun s c => s.modCh k c (fun ch => { ch with pcs := ch.pcs.map (fun p =>
    (List.range 36).foldl (fun q pin => q.setDelay pin (0x204000 + x.calValue 5 c)) p) })) s

/-- Step 10 of the start: every pseudo-channel of every usable channel trains; a failing channel is unusable for the power
cycle, but no HEALTH slot marks its page (R83, R477, R479, R482). (DEDUCED, notes/assumptions/48.md) -/
def trainStart (s : State) (k : Nat) (failed : List Nat) : State :=
  let chs := (s.stk k).usable (List.range 32)
  let s1 := chs.foldl (fun s c => trainChannel s k c) (loadSeeds s k chs)
  (chs.filter failed.contains).foldl (fun s c => (s.modCh k c (fun x => { x with
    unusable := true, viUnusable := true, nduUnusable := true,
    pcs := x.pcs.map (fun p => { p with selfRefresh := true }) })).report k K.DOC_TRAIN_START_FAIL 0 0 c) s1

/-! ### DOC_CMD (R493) -/

/-- DOC_CMD results. -/
def docOk : Nat := 0
/-- DENIED. -/
def docDenied : Nat := 1
/-- NO_SPARE. -/
def docNoSpare : Nat := 2
/-- REPAIR_FULL. -/
def docFull : Nat := 3
/-- BAD_ARG. -/
def docBadArg : Nat := 4
/-- TRAIN_FAIL. -/
def docTrainFail : Nat := 5
/-- PROG_FAIL. -/
def docProgFail : Nat := 7
/-- UNUSABLE. -/
def docUnusable : Nat := 8

/-- The word of the next blank REPAIR entry: past the finalized span once there is one (R291, R493). -/
def Otp.nextEntry (o : Otp) : Option Nat :=
  let b := if o.finalWords 3 = 0 then 106 else max 106 (o.spanEnd 3)
  ((List.range 255).map (fun i => b + 2 * i)).find? (fun w => decide (w + 1 < 616) && o.repairEntry w == 0)

/-- An entry with its CRC (R432). -/
def sealEntry (e : Nat) : Nat := e + otpCrc16 (bitsDown e 63 16)

/-- Burns a REPAIR entry (R291, R429). -/
def burnEntry (s : State) (k w e : Nat) (b : Burn) : Bool × State :=
  burnWords s k [(w, sealEntry e % 2 ^ 32), (w + 1, sealEntry e / 2 ^ 32)] b

/-- A row's words made good in place: corrected, or poisoned where uncorrectable (R268, R290). -/
def cleanWord (s : State) (k : Nat) (l : Loc) : State :=
  match decodeWord (s.dieBytes k l) with
  | .corrected w sym => correct s k l w sym
  | .uncorrectable => poisonDie s k l
  | _ => s

/-- Copies a row, extension included, into a spare and redirects it (R290). -/
def repairRow (s : State) (k : Nat) (l : Loc) (i : Nat) : State :=
  let at_ := fun c => { l with col := c }
  let s1 := (List.range 34).foldl (fun s c => cleanWord s k (at_ c)) s
  let rows := (List.range 34).map (fun c => s1.dieBytes k (at_ c))
  let s2 := addSpare s1 k [l.ch, l.pc, l.sid, l.bg, i, l.bank, l.row]
  (rows.zipIdx).foldl (fun s e => s.setDie k (at_ e.2) e.1) s2

/-- ROW_REPAIR of the row in DOC_ROW (R290, R291). -/
def doRowRepair (s : State) (k c pc : Nat) (out : DocOutcome) : Nat × State :=
  let sid := s.fld k 0 F.DOC_ROW_SID
  let bg := s.fld k 0 F.DOC_ROW_BG
  let bank := s.fld k 0 F.DOC_ROW_BANK
  let row := s.fld k 0 F.DOC_ROW_ROW
  let o := (s.stk k).otp
  if o.lifecycle = 4 then (docDenied, s)
  else if s.part.sids ≤ sid then (docBadArg, s)
  else if ((s.stk k).ch c).unusable then (docUnusable, s)
  else match (List.range 16).find? (fun i => !(s.stk k).rowTaken c pc sid bg i), o.nextEntry with
  | none, _ => (docNoSpare, s)
  | _, none => (docFull, s)
  | some i, some w =>
    let e := 2 ^ 62 + c * 2 ^ 57 + pc * 2 ^ 56 + (sid * 16 + bg * 4 + bank) * 2 ^ 50 + row * 2 ^ 35 + i * 2 ^ 31
    let x := burnEntry s k w e { pulses := 1, verified := out.burnOk }
    if !x.1 then (docProgFail, x.2)
    else (docOk, (repairRow x.2 k { stack := k, ch := c, pc := pc, bg := bg, bank := bank, sid := sid, row := row, col := 0 } i).count
      k .doc 0 0 1)

/-- LANE_SHIFT of a pin, then training of its channel (R290, R291, R482). -/
def doLaneShift (s : State) (k c pc pin : Nat) (out : DocOutcome) : Nat × State :=
  let o := (s.stk k).otp
  if o.lifecycle = 4 then (docDenied, s)
  else if 36 ≤ pin then (docBadArg, s)
  else if ((s.stk k).ch c).unusable then (docUnusable, s)
  else if (s.stk k).tsvTaken c pc pin then (docNoSpare, s)
  else match o.nextEntry with
  | none => (docFull, s)
  | some w =>
    let x := burnEntry s k w (2 ^ 63 + c * 2 ^ 57 + pc * 2 ^ 56 + pin * 2 ^ 25) { pulses := 1, verified := out.burnOk }
    if !x.1 then (docProgFail, x.2)
    else
      let s1 := trainChannel ((addShift x.2 k (c, pc, pin)).count k .doc 0 1 1) k c
      (if out.failedChs.contains c then docTrainFail else docOk, s1)

/-- TRAIN_CHANNEL and TRAIN_ALL (R482). (DEDUCED, notes/assumptions/48.md) -/
def doTrain (s : State) (k : Nat) (chs : List Nat) (out : DocOutcome) : Nat × State :=
  let s1 := chs.foldl (fun s c => trainChannel s k c) (loadSeeds s k chs)
  (if chs.any out.failedChs.contains then docTrainFail else docOk, s1)

/-- A write of DOC_CMD (R493): GO starts OP in MAINTENANCE, or answers BUSY. -/
def writeDocCmd (s : State) (k v : Nat) (out : DocOutcome) : State :=
  let c := bits v 12 8
  let s1 := s.setFlds k 0 [(F.DOC_CMD_OP, bits v 30 28), (F.DOC_CMD_CHANNEL, c), (F.DOC_CMD_PC, bits v 7 7), (F.DOC_CMD_PIN, bits v 5 0)]
  if !bitAt v 31 then s1
  else if (s.stk k).doc.cmd.isSome then s1.setFld k 0 F.DOC_CMD_STATUS_RESULT 6
  else
    let op := bits v 30 28
    let r := if 4 ≤ op then (docBadArg, s1)
      else if (s.stk k).mode ≠ .maintenance then (docDenied, s1)
      else match op with
        | 0 => doRowRepair s1 k c (bits v 7 7) out
        | 1 => doLaneShift s1 k c (bits v 7 7) (bits v 5 0) out
        | 2 => if ((s.stk k).ch c).unusable then (docUnusable, s1) else doTrain s1 k [c] out
        | _ => doTrain s1 k ((s1.stk k).usable (List.range 32)) out
    (r.2.modStk k (fun x => { x with doc := { x.doc with cmd := some (op, r.1) } })).setFlds k 0
      [(F.DOC_CMD_STATUS_BUSY, 1), (F.DOC_CMD_STATUS_DONE, 0)]

/-- A DOC_CMD GO with an OP. -/
def docGo (s : State) (k op v : Nat) (out : DocOutcome) : State :=
  if s.winOk k && bitAt v 31 && bits v 30 28 == op then writeDocCmd s k v out else s

/-- ROW_REPAIR (R290). -/
def execRowRepair (_src : Source) (k : Nat) (v : Reg32) (out : DocOutcome) (s : State) : Out := .next (docGo s k 0 v.toNat out)

/-- LANE_SHIFT (R290). -/
def execLaneShift (_src : Source) (k : Nat) (v : Reg32) (out : DocOutcome) (s : State) : Out := .next (docGo s k 1 v.toNat out)

/-- TRAIN_CHANNEL (R482). -/
def execTrainChannel (_src : Source) (k : Nat) (v : Reg32) (out : DocOutcome) (s : State) : Out := .next (docGo s k 2 v.toNat out)

/-- TRAIN_ALL (R482). -/
def execTrainAll (_src : Source) (k : Nat) (v : Reg32) (out : DocOutcome) (s : State) : Out := .next (docGo s k 3 v.toNat out)

/-- DOC_CMD_DONE: RESULT and DONE, CMD_DONE pulses; a result other than OK is reported (R493). -/
def execDocCmdDone (k : Nat) (s : State) : Out :=
  .next (match (s.stk k).doc.cmd with
    | none => s
    | some c =>
      let s1 := (((s.modStk k (fun x => { x with doc := { x.doc with cmd := none } })).setFlds k 0
        [(F.DOC_CMD_STATUS_BUSY, 0), (F.DOC_CMD_STATUS_DONE, 1), (F.DOC_CMD_STATUS_RESULT, c.2)]).event k .doc 0 0)
      if c.2 = docOk then s1 else s1.report k K.DOC_CMD_FAIL 0 0 0)

/-- An outcome of a Docent command that the outside decides, where no command operand gives it (DESIGN CHOICE, notes/assumptions/1.md). -/
def freeOutcome (s : State) : DocOutcome × State :=
  ({ burnOk := s.draw.1.testBit 0, failedChs := pick 32 (fun c => s.draw.1.testBit (c + 1)) }, s.draw.2)

end Sys2Proof.Machine
end

