-- ==== Sys2Proof/Machine/Package.lean ====
section
/-! DEFINITION. What the stacks of a package share: the copies of the package pages (R17, R98, R510), miss events (R168), the
aggregator (R18), ring links and partitions (R25, R511), class budgets and capacity (R156, R165). -/

namespace Sys2Proof.Machine

/-! ### Package pages -/

/-- Writes fields of a package page in every copy that stack a reaches, each with a message (R17, R34, R511). -/
def State.setPkg (s : State) (a : Nat) (l : List (FRef × Nat)) : State :=
  forStacks s (fun s k => if s.reach a k then (s.setFlds k 0 l).ringTx a k else s)

/-- Keys of ADM's masks, live and staged, and of its PAGE_STAGE_STATE: every window reads the same (R70). -/
def isMaskKey (key : Nat) : Bool :=
  let b := Page.index 0 .adm * 0x1000
  (decide (b + 0x100 ≤ key) && decide (key < b + 0x178)) || (decide (b + 0x800 ≤ key) && decide (key < b + 0x878)) || key == b + 0x1C

/-- The stack whose live copy a stack reloads: the aggregator's; the aggregator's own stack reloads the copy of the lowest
stack it reaches whose base die is not under reset. (DEDUCED, notes/assumptions/27.md) -/
def State.copyFrom (s : State) (k : Nat) : Nat :=
  if k ≠ s.agg then s.agg
  else ((List.range s.n).find? (fun j => j != k && s.reach k j && !s.inReset j)).getD k

/-- Reloads a stack's package-wide state: the package pages, the label table, ADM's masks, and the package-wide levels of
the kind table (R98, R452). (DEDUCED, notes/assumptions/27.md) -/
def reloadPackage (s : State) (k : Nat) : State :=
  let y := s.stk (s.copyFrom k)
  s.modStk k (fun x => { x with
    pkgRegs := y.pkgRegs, labels := y.labels, stLabels := y.stLabels,
    regs := (y.regs.filter (fun e => isMaskKey e.1)).foldl (fun m e => mset m e.1 e.2) (x.regs.filter (fun e => !isMaskKey e.1)),
    rg := { x.rg with levels := y.rg.levels } })

/-- A PAGE_ERR bit that the tick has sent belongs to a miss event: it changes with the event (R168). -/
def isMissBit (e : Nat × Nat × Nat) : Bool := e.2.1 == Page.index 0 .sch && decide (e.2.2 < 2)

/-- Sets a package-page PAGE_ERR bit in every copy that its stack reaches (R510). -/
def sendErr (s : State) (e : Nat × Nat × Nat) : State :=
  match pkgPageAt e.2.1 with
  | some pg => forStacks s (fun s j => if s.reach e.1 j then
      (s.setRaw j pg.1 0 0x10 (s.raw j pg.1 0 0x10 ||| 2 ^ e.2.2)).ringTx e.1 j else s)
  | none => s

/-- PAGE_ERR_BROADCAST: at the tick, the package-page PAGE_ERR events of stack k in the frame before set their bit in every copy
(R510); those of miss events are MISS_EVENT_APPLY's (R168). (DEDUCED, notes/assumptions/66.md) -/
def execPageErrBroadcast (k : Nat) (s : State) : Out :=
  .next (if !decide (k < s.n) then s else
    let mine := fun (e : Nat × Nat × Nat) => e.1 == k && !isMissBit e
    (s.errDue.filter mine).foldl sendErr { s with errDue := s.errDue.filter (fun e => !mine e) })

/-- One miss event in every copy of SCH, with its interrupt, whose FRAME is the event's (R128, R168, R174). -/
def applyMiss (s : State) (m : Miss) : State :=
  let s1 := s.count m.stack .sch 0 (m.cls + (if m.late then 0 else 4)) 1
  let s2 := s1.setPkg m.stack ([(F.SCH_MISS_LAST_KIND, b2n (!m.late)), (F.SCH_MISS_LAST_STACK, m.stack),
    (F.SCH_MISS_LAST_CHANNEL, m.ch), (F.SCH_MISS_LAST_PC, m.pc), (F.SCH_MISS_LAST_CLASS, m.cls), (F.SCH_MISS_LAST_FRAME, m.frame)] ++
    (if m.late then [(F.SCH_MISS_LABEL_LABEL, m.label)] else []))
  let en := s2.fld m.stack 0 (if m.late then F.SCH_CTRL_LATE_IRQ_EN else F.SCH_CTRL_SHORT_IRQ_EN)
  if bitAt en m.cls then
    s2.irqAt m.frame 0x02 (pageAddr .sch m.stack 0 0) (b2n (!m.late) * 2 ^ 7 + m.stack * 2 ^ 4 + m.cls)
  else s2

/-- MISS_EVENT_APPLY: at the tick every SCH copy applies the miss events of the frame before and their PAGE_ERR bits (R168). (DEDUCED, notes/assumptions/66.md) -/
def execMissEventApply (s : State) : Out :=
  .next ((s.errDue.filter isMissBit).foldl sendErr
    (s.missDue.foldl applyMiss { s with missDue := [], errDue := s.errDue.filter (fun e => !isMissBit e) }))

/-- A tick sends the miss events and PAGE_ERR bits of the stacks that take it (R168, R510). -/
def sendDue (live : Nat → Bool) (s : State) : State :=
  { s with
    missDue := s.missDue ++ s.miss.filter (fun m => live m.stack), miss := s.miss.filter (fun m => !live m.stack),
    errDue := s.errDue ++ s.errPend.filter (fun e => live e.1), errPend := s.errPend.filter (fun e => !live e.1) }

/-! ### The aggregator -/

/-- A stack that holds the aggregator passed the start check, and its CRIT_FAIL was 0 at start (R18, R478). -/
def State.mayAggregate (s : State) (k : Nat) : Bool := (s.stk k).doc.startOk && !(s.stk k).latches.critFail

/-- AGGREGATOR_SELECT: at the first tick after every stack has completed step 6 or entered SAFE (R18). (DEDUCED, notes/assumptions/35.md) -/
def execAggregatorSelect (s : State) : Out :=
  .next (if s.aggChosen || s.mode == .off || !(List.range s.n).all (fun k =>
      decide (6 ≤ (s.stk k).doc.bootStep) || s.inSafe k || (s.stk k).doc.heldSafe) then s
    else { s with aggChosen := true, agg := ((List.range s.n).find? s.mayAggregate).getD 0 })

/-! ### Ring links -/

/-- The path from stack a to stack b for a requester uses ring link l. -/
def State.pathUses (s : State) (a b reqId l : Nat) : Bool := (s.path a b reqId).contains l

/-- The request path of R22, or the response path back, uses ring link l. -/
def State.roundUses (s : State) (a b reqId l : Nat) : Bool := s.pathUses a b reqId l || s.pathUses b a reqId l

/-- A request completes with TIMEOUT at its arrival stack (R25); a posted one is reported as a failure (R109). -/
def timeoutReq (s : State) (r : Req) : State :=
  let s1 := pushRsp s (respTo r stTimeout (s.frame (r.port / 4)))
  if isPosted r.op then (s1.endOutst r.port r.reqId r.rid).report (r.port / 4) K.STK_POSTED_FAIL 0 0 r.off else s1

/-- Ends with TIMEOUT the requests of a request table whose path used link l: the response that the serving stack holds is
discarded and its entry freed; one still to come is discarded later (R25, R117). -/
def loseEntries (s : State) (l k : Nat) : State :=
  let es := (s.stk k).table.filter (fun e => s.roundUses (e.req.port / 4) k e.req.reqId l)
  es.foldl (fun s e =>
    if e.done.isSome then timeoutReq (s.dropEntry k e.req.rid) e.req
    else timeoutReq { s with timedOut := s.timedOut ++ [e.req.rid] } e.req) s

/-- The same for the requests of an admission queue. -/
def loseQueued (s : State) (l k : Nat) : State :=
  ((s.stk k).admQ.filter (fun r => s.roundUses (r.port / 4) k r.reqId l)).foldl
    (fun s r => timeoutReq { s with timedOut := s.timedOut ++ [r.rid] } r) s

/-- Requests on their way over the ring: one whose remaining path used the link is lost (R25). -/
def loseTransit (s : State) (l : Nat) : State :=
  let gone := s.transit.filter (fun r => s.pathUses (r.port / 4) r.home r.reqId l)
  let back := s.transit.filter (fun r => !s.pathUses (r.port / 4) r.home r.reqId l && s.pathUses r.home (r.port / 4) r.reqId l)
  let s1 := gone.foldl timeoutReq { s with transit := s.transit.filter (fun r => !gone.contains r) }
  back.foldl (fun s r => timeoutReq { s with timedOut := s.timedOut ++ [r.rid] } r) s1

/-- Forwarded requests whose egress port lies over the link (R25). -/
def loseForwarded (s : State) (l : Nat) : State :=
  forN (4 * s.n) s (fun s q => ((s.prt q).fwdRecs.filter (fun f => s.roundUses (f.req.port / 4) (q / 4) f.req.reqId l)).foldl
    (fun s f => timeoutRec s q f) s)

/-- A CONFIRM on its way to a stack over the link may be lost with it: which are is free (R25, R97; DESIGN CHOICE, notes/assumptions/1.md). -/
def loseConfirm (s : State) (l : Nat) : State :=
  if s.commit.phase != .confirmed then s else
  let d := s.draw
  { d.2 with commit := { s.commit with got := s.commit.got.filter (fun k => !(s.pathUses s.agg k 0 l && bitAt d.1 k)) } }

/-- RING_LINK_FAIL: the link leaves service; the messages whose path includes it are lost, and their requests complete with
TIMEOUT (R25). A COMMIT in progress when this partitions the ring ends ABORTED (R511). (DEDUCED, notes/assumptions/35.md) -/
def execRingLinkFail (k : Nat) (up : Bool) (s : State) : Out :=
  .next (let l := if up then k else (k + s.n - 1) % s.n
    if !decide (k < s.n) || !s.linkOk l || s.mode == .off then s else
    let s1 := loseConfirm (loseForwarded (forStacks (loseTransit s l) (fun s j => loseQueued (loseEntries s l j) l j)) l) l
    let s2 := (s1.modStk l (fun x => { x with upFailed := true })).modStk ((l + 1) % s.n) (fun x => { x with downFailed := true })
    let s3 := s2.report l K.STK_RING_LINK_FAIL 0 0 0
    if (List.range s.n).all (s3.reach s3.agg) then s3 else abortCommit s3)

/-- The stack is in the part that holds the stack supplying the reference. -/
def State.inPart (s : State) (k : Nat) : Bool := s.reach s.ref.srcStack k

/-- The stack has reported RING_PARTITION in this power cycle. -/
def Stack.partReported (x : Stack) : Bool :=
  x.rg.waiting.any (fun w => w.kind == K.STK_RING_PARTITION.code) || mget x.rg.kcnt K.STK_RING_PARTITION.code 0 != 0

/-- RING_PARTITION: at the tick after the partition forms, every stack outside the part of the reference reports
RING_PARTITION, whose level is FENCE (R511). -/
def execRingPartition (s : State) : Out :=
  .next (forStacks s (fun s k =>
    if s.inPart k || (s.stk k).partReported || s.mode == .off then s else s.report k K.STK_RING_PARTITION 0 0 0))

/-! ### Reservations, budgets and capacity -/

/-- Labels of a table that a class holds, with their RES (R162): unlisted labels are class B0 (R153). -/
def resSum (m : SMap Reg32) (c : Nat) : Nat :=
  m.foldl (fun a e => if e.1 % 4 = 0 ∧ bits e.2.toNat 3 0 = c then a + bits e.2.toNat 18 8 else a) 0

/-- Committed reservation R_c of stack k's copy (R156). -/
def State.res (s : State) (k c : Nat) : Nat := resSum (s.stk k).labels c

/-- Committed demand. -/
def State.demand (s : State) (k : Nat) : Nat := s.res k 0 + s.res k 1 + s.res k 2 + s.res k 3

/-- Budgets in the order G0 to G3: the lesser of R_k and what is left (R156). -/
def grant : List Nat → Nat → List Nat
  | [], _ => []
  | r :: l, c => min r c :: grant l (c - min r c)

/-- Sets the budgets of a stack for the frame that begins (R156). -/
def setBudget (s : State) (k : Nat) : State :=
  let b := grant ((List.range 4).map (s.res k)) (s.guarNow k)
  s.modStk k (fun x => { x with budget := b })

/-- The comparison of R165 on a stack: an episode begins with one report. -/
def capStack (s : State) (k : Nat) : State :=
  let short := !s.inSafe k && !s.inReset k && decide (s.guarNow k < s.demand k)
  let s1 := s.modStk k (fun x => { x with tm := { x.tm with capShort := short } })
  if short && !(s.stk k).tm.capShort then s1.report k K.SCH_CAPACITY_SHORT 0 0 0 else s1

/-- A state bit of a package page's PAGE_STATUS in every copy; its rise is one event (R85). -/
def State.pkgStatusBit (s : State) (pg : Page) (n : Nat) (v : Bool) : State :=
  let rise := v && !bitAt (s.raw s.agg pg 0 0x0C) (16 + n)
  let s1 := forStacks s (fun s k => s.setRaw k pg 0 0x0C (putBits (s.raw k pg 0 0x0C) (16 + n) (16 + n) (b2n v)))
  if rise then s1.event s.agg pg 0 n else s1

/-- The comparison at a tick, with CAP_SHORT_FRAMES and PAGE_STATUS.CAP_SHORT (R165). -/
def capCheck (s : State) : State :=
  let s1 := forStacks s capStack
  let any := (List.range s.n).any (fun k => (s1.stk k).tm.capShort)
  (if any then s1.count s.agg .sch 0 10 1 else s1).pkgStatusBit .sch 0 any

end Sys2Proof.Machine
end

