-- ==== Sys2Proof/Machine/Commit.lean ====
section
/-! DEFINITION. Staged configuration and COMMIT (R90 to R97): the checks of R93, the sequence of R92, and what applying the
staged values changes besides the registers (R134, R154, R159, R391). -/

namespace Sys2Proof.Machine

/-! ### Staged images -/

/-- The register at a live offset of a page holds ST fields (R12, R79). -/
def isStReg (pg : Page) (off : Nat) : Bool :=
  match specAt pg off with | some r => r.flds.any (fun f => f.acc == .st) | none => false

/-- A key of a live ST register. -/
def isLiveKey (pkg : Bool) (key : Nat) : Bool :=
  match keyPage pkg key with | some pg => decide (key % 4096 < 0x800) && isStReg pg.1 (key % 4096) | none => false

/-- A key of the staged image. -/
def isStagedKey (key : Nat) : Bool := decide (0x800 ≤ key % 4096) && decide (key % 4096 < 0xF00)

/-- Live values become the staged ones, on the pages p selects (R92 step 6). -/
def applyRegs (pkg : Bool) (m : SMap Reg32) : SMap Reg32 :=
  (m.filter (fun e => isStagedKey e.1)).foldl (fun m e => mset m (e.1 - 0x700) e.2) (m.filter (fun e => !isLiveKey pkg e.1))

/-- The staged image of one page becomes the live values (R86). -/
def discardRegs (pkg : Bool) (n : Nat) (m : SMap Reg32) : SMap Reg32 :=
  (m.filter (fun e => e.1 / 4096 == n && isLiveKey pkg e.1)).foldl (fun m e => mset m (e.1 + 0x700) e.2)
    (m.filter (fun e => !(e.1 / 4096 == n && isStagedKey e.1)))

/-- Changes PAGE_STAGE_STATE of a page in stack k: FIRST_FAIL and DIRTY. -/
def State.setStage (s : State) (k : Nat) (pg : Page) (i : Nat) (firstFail dirty : Bool) : State :=
  s.setRaw k pg i 0x1C (b2n firstFail * 4 + b2n dirty)

/-- Pages with staged state (R90): the label table's state is SCH's. -/
def stagedPages : List (Page × Nat) :=
  [(.pkg, 0), (.sch, 0), (.rte, 0), (.adm, 0), (.nxp, 0), (.nxp, 1), (.nxp, 2), (.nxp, 3), (.vit, 0)]

/-- DIRTY of a page. -/
def State.dirty (s : State) (k : Nat) (pg : Page) (i : Nat) : Bool := bitAt (s.raw k pg i 0x1C) 0

/-- Clears FIRST_FAIL, and DIRTY if asked, in one stack (R86, R96). -/
def clearStages (s : State) (k : Nat) (clean : Bool) : State :=
  stagedPages.foldl (fun s p => s.setStage k p.1 p.2 false (s.dirty k p.1 p.2 && !clean)) s

/-! ### The checks of R93 -/

/-- A failed check: STATUS, FAIL_STACK, page, instance, ITEM. -/
structure Failed where
  status : Nat
  stack  : Nat
  page   : Page
  inst   : Nat
  item   : Nat
  deriving DecidableEq, Repr

/-- MAP_LOCALITY: the lowest mask that breaks R66. -/
def chkLocality (ms : List Nat) : Option Nat :=
  (List.range 15).find? (fun n => decide (2 ≤ n) && bits (ms.getD n 0) 11 10 != 0)

/-- MAP_PART: the lowest mask that breaks R68. -/
def chkPart (p : Part) (ms : List Nat) : Option Nat :=
  let w := p.width
  (List.range 15).find? (fun n =>
    let m := ms.getD n 0
    decide (2 ^ w ≤ m) || ((zeroMasks p).contains n && m != 0) ||
    (p.dies == 12 && ((n == 5 && m != 2 ^ (w - 1)) || (n == 4 && m != 2 ^ (w - 2)))))

/-- MAP_RANK: the offset bit position without a pivot (R67). -/
def chkRank (p : Part) (ms : List Nat) : Option Nat :=
  let f := colsF p
  match elim f.length 0 ((activeMasks p).map (fun n => packF p (ms.getD n 0))) with
  | .inl c => some (f.getD c 0)
  | .inr _ => none

/-- Staged route-table entry, group and role of a copy. -/
def State.stEntry (s : State) (k i : Nat) : Nat := s.raw k .rte 0 (0x800 + 4 * i)

/-- Staged ports of a group. -/
def State.stGroup (s : State) (k g : Nat) : Nat := s.raw k .rte 0 (0xC00 + 4 * g)

/-- Staged role field of a port: ROLE in bits 1 to 0, MARK in bit 2. -/
def State.stRole (s : State) (k p : Nat) : Nat := bits (s.raw k .rte 0 (0xC80 + 4 * (p / 8))) (4 * (p % 8) + 2) (4 * (p % 8))

/-- ROUTE_RULE: the entry of the first breach, rules in order (R372). -/
def chkRoute (s : State) (k : Nat) : Option Nat :=
  let self := bits (s.raw k .rte 0 0xC90) 7 0
  let e := s.stEntry k
  let away := pick 256 (fun i => bitAt (e i) 31 && !bitAt (e i) 30)
  let g := fun i => s.stGroup k (bits (e i) 4 0)
  let ports := fun i => pick (4 * s.n) (bitAt (g i))
  if !(bitAt (e self) 31 && bitAt (e self) 30) then some self else
  ((List.range 256).find? (fun i => i != self && bitAt (e i) 30)).orElse fun _ =>
  (away.find? (fun i => bits (e i) 29 28 == 0)).orElse fun _ =>
  (away.find? (fun i => g i == 0 || decide (2 ^ (4 * s.n) ≤ g i))).orElse fun _ =>
  (away.find? (fun i => (ports i).any (fun p => s.stRole k p % 4 != 2))).orElse fun _ =>
  away.find? (fun i => (ports i).any (fun p => s.stRole k p / 4 != s.stRole k ((ports i).headD 0) / 4))

/-- Staged P-level. -/
def State.stLevel (s : State) : Nat := s.fld s.agg 0 F.PKG_PLEVEL_LEVEL.staged

/-- Lowest VIN sample among the tiles (R407). -/
def State.lowVin (s : State) : Nat := s.stks.foldl (fun m x => min m x.pw.vinMv) (s.stk 0).pw.vinMv

/-- Staged demand D (R163). -/
def State.stDemand (s : State) (k : Nat) : Nat := (List.range 4).foldl (fun a c => a + resSum (s.stk k).stLabels c) 0

/-- Tier of ADMIT_TIER; 3 acts as hot (R170). -/
def State.admitTier (s : State) (k : Nat) (f : FRef) : Nat := min 2 (s.fld k 0 f)

/-- Credit profile q of a port, staged or live: REQ_SLOTS and OUTSTANDING (R149). -/
def State.profileAt (s : State) (p : Nat) (staged : Bool) (q : Nat) : Nat × Nat :=
  let v := s.raw (p / 4) .nxp (p % 4) ((if staged then 0xB00 else 0x400) + 4 * q)
  (bits v 9 0, bits v 25 16)

/-- Profiles that the 1,024 contexts of a port select, staged or live (R150). -/
def State.profilesOf (s : State) (p : Nat) (staged : Bool) : List Nat :=
  (List.range 128).flatMap (fun i =>
    let v := s.raw (p / 4) .nxp (p % 4) ((if staged then 0xB40 else 0x440) + 4 * i)
    (List.range 8).map (fun j => bits v (4 * j + 3) (4 * j)))

/-- CREDIT_OVER of a port (R135). -/
def creditOver (s : State) (p : Nat) : Bool :=
  let qs := s.profilesOf p true
  let g := bits (s.raw (p / 4) .nxp (p % 4) 0xD40) 8 0
  decide (32768 < (qs.map (fun q => (s.profileAt p true q).1)).sum) ||
  qs.any (fun q => decide ((s.profileAt p true q).1 < (s.profileAt p true q).2)) || decide (g < 16 ∨ 256 < g)

/-- Checks 2 to 10, in order: the first that fails (R93). (DEDUCED, notes/assumptions/30.md) -/
def runChecks (s : State) : Option Failed :=
  let a := s.agg
  let ms := s.masks a true
  let l := s.stLevel
  let at_ := fun (st : Nat) (pg : Page) (item : Nat) => ({ status := st, stack := a, page := pg, inst := 0, item := item } : Failed)
  ((chkLocality ms).map (at_ 1 .adm)).orElse fun _ =>
  ((chkPart s.part ms).map (at_ 2 .adm)).orElse fun _ =>
  ((chkRank s.part ms).map (at_ 3 .adm)).orElse fun _ =>
  ((chkRoute s a).map (at_ 4 .rte)).orElse fun _ =>
  (if l < 2 ∧ s.lowVin < 6000 then some (at_ 5 .pkg l) else none).orElse fun _ =>
  (if l = 0 ∧ (List.range s.n).any s.lidA then some (at_ 6 .pkg l) else none).orElse fun _ =>
  (if l < 3 ∧ s.trimCap then some (at_ 7 .pkg l) else none).orElse fun _ =>
  (if guarSlots l (s.admitTier a F.SCH_ADMIT_ADMIT_TIER.staged) < s.stDemand a
    then some (at_ 8 .sch (min 0xFFFF (s.stDemand a))) else none).orElse fun _ =>
  ((List.range (4 * s.n)).find? (creditOver s)).map (fun p =>
    { status := 9, stack := p / 4, page := .nxp, inst := p % 4, item := p })

/-- Records a failed check: CMT_FAIL in every copy, FIRST_FAIL of the page concerned (R70, R93, R101). (DEDUCED, notes/assumptions/30.md) -/
def recordFail (s : State) (f : Failed) : State :=
  let s1 := s.setPkg s.agg [(F.CMT_FAIL_WINDOW, b2n (!f.page.isPkg)), (F.CMT_FAIL_PAGE, f.page.index f.inst), (F.CMT_FAIL_ITEM, f.item)]
  let mark := fun (s : State) k => s.setStage k f.page f.inst true (s.dirty k f.page f.inst)
  let s2 := if f.status = 10 then s1
    else if f.page.isPkg || f.page == .adm then forStacks s1 (fun s k => if s.reach s.agg k then mark s k else s)
    else mark s1 f.stack
  { s2 with commit := { s2.commit with phase := .done, status := f.status, failStack := f.stack } }

/-! ### The sequence of R92 -/

/-- A COMMIT is in progress, from acceptance to DONE. -/
def State.cmtBusy (s : State) : Bool := s.commit.phase != .none

/-- The lowest stack under reset, or out of the aggregator's reach (R93 check 1, R511). R511 gives the lowest only of those out of reach;
the model takes it of both kinds together (DESIGN CHOICE, notes/assumptions/75.md). -/
def State.cmtLost (s : State) : Option Nat := (List.range s.n).find? (fun k => s.inReset k || !s.reach s.agg k)

/-- A write of CMT_COMMIT (R92, R95, R99): GO is accepted in ACTIVE or IDLE (R397), while no COMMIT runs and the aggregator's
stack is not under reset (R484); any other GO is rejected and counted. (DEDUCED, notes/assumptions/29.md) (DEDUCED, notes/assumptions/30.md) -/
def writeCommit (s : State) (src : Source) (v : Nat) : State :=
  if !bitAt v 31 || !s.reach (s.srcStack src) s.agg then s
  else if s.cmtBusy || !(s.mode == .active || s.mode == .idle) || s.inReset s.agg then s.count s.agg .cmt 0 3 1
  else
    let s1 := s.setPkg s.agg [(F.CMT_RESULT_BUSY, 1), (F.CMT_RESULT_DONE, 0), (F.CMT_RESULT_CHECK_ONLY, bits v 30 30),
      (F.CMT_RESULT_SOURCE, Source.code src), (F.CMT_RESULT_TAG, bits v 15 0)]
    { s1 with commit := { phase := .checking, checkOnly := bitAt v 30, target := 0, applied := [], acked := [], got := [],
                          status := if s.cmtLost.isSome then 10 else 0, failStack := s.cmtLost.getD 0, held := [] } }

/-- COMMIT: a write of CMT_COMMIT with GO 1 and CHECK_ONLY 0 (R92). (DEDUCED, notes/assumptions/29.md) -/
def execCommit (src : Source) (v : Reg32) (s : State) : Out :=
  .next (if bitAt v.toNat 31 && !bitAt v.toNat 30 && s.winOk (s.srcStack src) then writeCommit s src v.toNat else s)

/-- COMMIT_CHECK_ONLY: a write of CMT_COMMIT with GO 1 and CHECK_ONLY 1 (R92). (DEDUCED, notes/assumptions/29.md) -/
def execCommitCheckOnly (src : Source) (v : Reg32) (s : State) : Out :=
  .next (if bitAt v.toNat 31 && bitAt v.toNat 30 && s.winOk (s.srcStack src) then writeCommit s src v.toNat else s)

/-- Running level that the staged level will give (R390). -/
def State.stagedRun (s : State) : Nat := max s.stLevel (max (if s.supplyCap then 2 else 0) (if s.trimCap then 3 else 0))

/-- Local ticks from APPLY to T: at least 2; with a voltage ramp of 10 mV/µs, the first tick after it ends, counted from a
free moment of the frame (R94; DESIGN CHOICE, notes/assumptions/12.md). -/
def ticksToApply (s : State) : Nat × State :=
  let up := levelMv s.stagedRun - levelMv s.runLevel
  if up = 0 then (2, s) else
  let d := s.draw
  (max 2 ((up * 100 + d.1 % 1280 + 1279) / 1280), d.2)

/-- COMMIT_CHECK_DONE: on failure the result is recorded; a check-only COMMIT ends; else the aggregator sends APPLY(T)
(R92 to R94). -/
def execCommitCheckDone (s : State) : Out :=
  .next (if s.commit.phase != .checking then s else
    let s1 := forStacks s (fun s k => clearStages s k false)
    match (if s.commit.status = 10 then some ({ status := 10, stack := s.commit.failStack, page := .stk, inst := 0, item := 0 } : Failed)
           else runChecks s) with
    | some f => recordFail s1 f
    | none =>
      if s.commit.checkOnly then { s1 with commit := { s1.commit with phase := .done, status := 0, failStack := 0 } }
      else
        let t := ticksToApply s1
        let s2 := forStacks t.2 (fun s k => s.ringTx s.agg k)
        { s2 with commit := { s2.commit with phase := .prepared, target := s.now s.agg + t.1, status := 0, failStack := 0 } })

/-- APPLY: a stack receives APPLY(T), acknowledges, and starts its ramp if the staged level is faster (R92 step 4). -/
def execApply (k : Nat) (s : State) : Out :=
  .next (if s.commit.phase != .prepared || !decide (k < s.n) || s.inReset k || !s.reach s.agg k || s.commit.applied.contains k then s
    else
      let s1 := { s with commit := { s.commit with applied := s.commit.applied ++ [k] } }
      if s.stagedRun < s.runLevel then
        s1.modStk k (fun x => { x with pw := { x.pw with railMv := x.pw.railMv.set 0 (levelMv s.stagedRun) } })
      else s1)

/-- APPLY_ACK: the aggregator receives an acknowledgement; with every stack's before tick T − 1 it sends CONFIRM, which the
stacks it reaches then hold (R92 step 5). One that comes later counts no more (R97). -/
def execApplyAck (k : Nat) (s : State) : Out :=
  .next (if s.commit.phase != .prepared || !s.commit.applied.contains k || s.commit.acked.contains k || !s.reach k s.agg then s
    else if s.commit.target ≤ s.now s.agg + 1 then s.ringTx k s.agg
    else
      let acked := s.commit.acked ++ [k]
      let s1 := { s with commit := { s.commit with acked := acked } }.ringTx k s.agg
      if (List.range s.n).all acked.contains then
        let got := (List.range s.n).filter (fun j => s.reach s.agg j && !s.inReset j)
        { forStacks s1 (fun s j => s.ringTx s.agg j) with commit := { s1.commit with phase := .confirmed, got := got } }
      else s1)

/-- COMMIT_ABORT: by tick T − 1 not every stack has acknowledged; ABORT is sent (R92 step 5, R97). -/
def execCommitAbort (s : State) : Out :=
  .next (if s.commit.phase == .prepared && decide (s.commit.target ≤ s.now s.agg + 1) then sendAbort s else s)

/-! ### Applying -/

/-- Labels whose RATE or BURST a COMMIT changes in a stack. -/
def rateChanged (x : Stack) (l : Nat) : Bool := x.label false l 1 != x.label true l 1

/-- Issues the credits that a port owes to contexts below their grant, while the credits held and the slots occupied stay
within the buffer (R134). -/
def issueCredits (s : State) (p : Nat) : State :=
  let occ := fun (s : State) (c : Nat) => (((s.prt p).ingress.filter (fun r => r.reqId == c)).map Req.slots).sum
  (s.prt p).ctxCred.foldl (fun s e =>
    let have_ : Int := s.credits p e.1 + occ s e.1
    let want : Int := s.reqSlots p e.1
    let total : Int := ((List.range 1024).map (fun c => s.credits p c)).foldl (· + ·) 0 + (((s.prt p).ingress.map Req.slots).sum : Nat)
    let d := min (want - have_) (32768 - total)
    if 0 < d then s.modPort p (fun x => { x with
      ctxCred := mput x.ctxCred e.1 (s.credits p e.1 + d) want, lcrdOut := x.lcrdOut ++ [(e.1, d.toNat)] })
    else s) s

/-- MGMT credits of a port after a COMMIT changed MGMT_GRANT: the sender keeps those it holds, and returns beyond the new grant are kept;
added ones are issued (R134). -/
def regrantMgmt (old s : State) (p : Nat) : State :=
  let g := fun (s : State) => s.fld (p / 4) (p % 4) F.NXP_CR_VC_MGMT_GRANT
  s.modPort p (fun x =>
    let held := x.mgmtCred + x.mgmtRet + (x.mgmtIn.map MgmtMsg.slots).sum
    if g old < g s then { x with mgmtRet := x.mgmtRet + (g s - held) } else x)

/-- Contexts of a port whose REQ_SLOTS a COMMIT changed keep the credits that the sender holds; increases are then issued
(R134). `old` is the state before. -/
def regrant (old s : State) (p : Nat) : State :=
  let same := (List.range 16).all (fun q => old.profileAt p false q == s.profileAt p false q) &&
    (List.range 128).all (fun i => old.raw (p / 4) .nxp (p % 4) (0x440 + 4 * i) == s.raw (p / 4) .nxp (p % 4) (0x440 + 4 * i))
  if same then s else
  issueCredits ((List.range 1024).foldl (fun s c =>
    if old.reqSlots p c = s.reqSlots p c then s
    else s.modPort p (fun x => { x with ctxCred := mput x.ctxCred c (old.credits p c) (s.reqSlots p c) })) s) p

/-- Every staged value of a stack becomes live (R92 step 6): registers, label table, buckets of changed labels, credits. -/
def applyStack (s : State) (k : Nat) : State :=
  let x := s.stk k
  let s1 := s.modStk k (fun x => { x with
    regs := applyRegs false x.regs, pkgRegs := applyRegs true x.pkgRegs, labels := x.stLabels })
  let s2 := forN 4 s1 (fun s i => s.modPort (4 * k + i) (fun y => { y with buckets := y.buckets.filter (fun e => !rateChanged x e.1) }))
  let s3 := forN 4 s2 (fun t i => regrantMgmt s (regrant s t (4 * k + i)) (4 * k + i))
  clearStages s3 k true

/-- A stack that acknowledged and received neither CONFIRM nor ABORT by tick T reports COMMIT_SPLIT, whose level is FENCE (R97). -/
def splitStacks (s : State) : State :=
  let due := s.splitDue.filter (fun e => decide (e.1 ≤ s.now s.agg))
  due.foldl (fun s e => if s.inReset e.2 then s else s.report e.2 K.CMT_SPLIT 0 0 0)
    { s with splitDue := s.splitDue.filter (fun e => !decide (e.1 ≤ s.now s.agg)) }

/-- COMMIT_APPLY: at tick T every stack that holds CONFIRM applies; one that acknowledged and holds none reports
COMMIT_SPLIT, whose level is FENCE (R92 step 6, R97). The running level, the frame's budgets and the comparison of its capacity
follow (R156, R165, R391). A stack whose base die was reset after its acknowledgement applies if it is released by T, and is passed
over without COMMIT_SPLIT if not: the spec is silent there (DESIGN CHOICE, notes/assumptions/75.md). -/
def execCommitApply (s : State) : Out :=
  .next (let s := splitStacks s
    if s.commit.phase != .confirmed || decide (s.now s.agg < s.commit.target) then s else
    let s1 := forStacks s (fun s k =>
      if s.inReset k then s else if s.commit.got.contains k then applyStack s k else s.report k K.CMT_SPLIT 0 0 0)
    let s2 := if s1.runLevel = s1.targetLevel then { s1 with levelNext := none } else setLevel s1 s1.targetLevel
    let s3 := (capCheck (forStacks s2 setBudget)).count s.agg .cmt 0 0 1
    let s4 := if s3.frozen s.agg .cmt 0 then s3 else s3.setCnt s.agg .cmt 0 5 (s.frame s.agg)
    { s4 with commit := { s4.commit with phase := .done, status := 0, failStack := 0 } })

/-- What completion shows: STATUS, its counter, and after an abort the report and the voltage of the live level (R92 step 7,
R94, R102, R103). (DEDUCED, notes/assumptions/30.md) -/
def showResult (s : State) : State :=
  let c := s.commit
  let st := if c.phase = .aborted then 11 else c.status
  let s1 := s.setPkg s.agg [(F.CMT_RESULT_BUSY, 0), (F.CMT_RESULT_DONE, 1), (F.CMT_RESULT_STATUS, st), (F.CMT_RESULT_FAIL_STACK, c.failStack)]
  let s2 := s1.event s.agg .cmt 0 0
  let s3 := if st = 11 then (setLevel (s2.count s.agg .cmt 0 2 1) s2.runLevel).report s.agg K.CMT_ABORT 0 0 0
    else if c.checkOnly then s2.count s.agg .cmt 0 4 1
    else if st ≠ 0 then s2.count s.agg .cmt 0 1 1 else s2
  { s3 with commit := { c with phase := .none, held := [] } }

end Sys2Proof.Machine
end

