-- ==== Sys2Proof/Machine/Modes.lean ====
section
/-! DEFINITION. Clocks and power states: the reference and its backups (R380 to R387, R399), PLL judgement (R385), clock muxes
(R388, R401), package and stack modes (R392 to R397, R402, R403). -/

namespace Sys2Proof.Machine

/-! ### The reference -/

/-- Package port that CLK_REF names as source i: primary, backup 1, backup 2; none while disabled (R399). -/
def State.srcPort (s : State) (i : Nat) : Option Nat :=
  let k := s.agg
  match i with
  | 0 => some (s.fld k 0 F.CLK_REF_PRIMARY)
  | 1 => if s.flag k 0 F.CLK_REF_B1_EN then some (s.fld k 0 F.CLK_REF_BACKUP1) else none
  | _ => if s.flag k 0 F.CLK_REF_B2_EN then some (s.fld k 0 F.CLK_REF_BACKUP2) else none

/-- A port may be a source: the part has it, it is not unusable, and its host has not parked the direction in burst idle (R380,
R399, R480). -/
def State.portMaySource (s : State) (p : Nat) : Bool :=
  decide (p < 4 * s.n) && !(s.prt p).unusable && (s.mode == .lost || !(s.prt p).lanes.all (fun l => l.rx == .parked))

/-- A source that may be used: qualified, on a port that may be one (R380). -/
def State.srcOk (s : State) (qual : List Bool) (i : Nat) : Bool :=
  qual.getD i false && (match s.srcPort i with | some p => s.portMaySource p | none => false)

/-- The first usable source, in the order primary, backup 1, backup 2, other than `skip`. -/
def State.firstSrc (s : State) (qual : List Bool) (skip : Nat) : Option Nat :=
  (List.range 3).find? (fun i => i != skip && s.srcOk qual i)

/-- Makes source i current, in a state of R400. -/
def takeSrc (s : State) (i st : Nat) (qual : List Bool) : State :=
  let p := (s.srcPort i).getD 0
  { s with ref := { s.ref with state := st, index := i, port := p, srcStack := p / 4, qual := qual } }

/-- Counts an event of the reference in every stack's CLK page; the stack that holds the source reports it. (DEDUCED, notes/assumptions/53.md) -/
def refEvent (s : State) (x : Kind) (c : Nat) : State :=
  (forStacks s (fun s k => s.count k .clk 0 c 1)).report s.ref.srcStack x 0 0 0

/-- REF_HOLDOVER: no edge for 64 ns (R382). (DESIGN CHOICE, notes/assumptions/24.md) -/
def execRefHoldover (s : State) : Out :=
  .next (if s.ref.state = 0 then refEvent { s with ref := { s.ref with state := 1 } } K.CLK_REF_HOLDOVER 1 else s)

/-- REF_EDGES_RETURN: edges are back within 4 µs with the CDR locked (R382). -/
def execRefEdgesReturn (s : State) : Out :=
  .next (if s.ref.state = 1 then { s with ref := { s.ref with state := 0 } } else s)

/-- Docent on the ring oscillator (R388). -/
def docentRing (s : State) (k : Nat) : State :=
  (s.modStk k (fun x => { x with clk := { x.clk with docPll := false } })).setFld k 0 F.CLK_DOCENT_SEL_SEL_PLL 0

/-- Docent on PLL_FIX (R388, R396). -/
def docentPll (s : State) (k : Nat) : State :=
  (s.modStk k (fun x => { x with clk := { x.clk with docPll := true } })).setFld k 0 F.CLK_DOCENT_SEL_SEL_PLL 1

/-- What loss of the reference does on a stack: Docent on the ring oscillator, dies in self-refresh, PLLs without a
reference (R386). -/
def loseStack (s : State) (k : Nat) : State :=
  (setSelfRefresh (docentRing s k) k true).modStk k (fun x => { x with
    clk := { x.clk with corePll := 0, fixPll := 0, coreBad := 0, fixBad := 0, recovering := false } })

/-- The package is LOST: the frame counter stops (R54, R386). (DEDUCED, notes/assumptions/36.md) -/
def enterLost (s : State) (qual : List Bool) : State :=
  let s1 := forStacks { s with
    mode := .lost, modeNext := none, sync := none, longFrame := false, retainWant := false, wakeInEntry := none, timeValid := false,
    ref := { s.ref with state := 2, qual := qual } } loseStack
  refEvent s1 K.CLK_REF_LOST 3

/-- The source changes by the FAILOVER path (R382, R384). -/
def failover (s : State) (i : Nat) (qual : List Bool) : State :=
  forStacks (refEvent (takeSrc s i 4 qual) K.CLK_REF_FAILOVER 2) (fun s k => s.event k .clk 0 1)

/-- HOLDOVER_TIMEOUT: after 4 µs the first qualified source other than the lost one becomes current, or the package is LOST
(R382, R386). (DESIGN CHOICE, notes/assumptions/24.md) -/
def execHoldoverTimeout (qual : List Bool) (s : State) : Out :=
  .next (if s.ref.state ≠ 1 then s else
    match s.firstSrc qual s.ref.index with
    | some i => failover s i qual
    | none => enterLost s qual)

/-- FAILOVER_RELOCK: relocked at the new source; unless the edge falls exactly at the held moment, the frame that ends there
is a long frame (R383). -/
def execFailoverRelock (exact : Bool) (s : State) : Out :=
  .next (if s.ref.state = 4 then { s with ref := { s.ref with state := 0 }, longFrame := s.longFrame || !exact } else s)

/-- REF_REVERT: REVERT is 1 and the primary is qualified again while a backup is current (R384). -/
def execRefRevert (s : State) : Out :=
  .next (let qual := true :: s.ref.qual.drop 1
    if s.ref.state = 0 ∧ s.ref.index ≠ 0 ∧ s.ref.index < 3 ∧ s.flag s.agg 0 F.CLK_REF_REVERT ∧ s.srcOk qual 0 = true
    then failover s 0 qual else s)

/-- Fields of a CLK_REF value. -/
def refFields (v : Nat) : List (FRef × Nat) :=
  [(F.CLK_REF_REVERT, bits v 24 24), (F.CLK_REF_B2_EN, bits v 23 23), (F.CLK_REF_BACKUP2, bits v 21 16), (F.CLK_REF_B1_EN, bits v 15 15),
   (F.CLK_REF_BACKUP1, bits v 13 8), (F.CLK_REF_PRIMARY, bits v 5 0)]

/-- Source i of a CLK_REF value. -/
def refName (v i : Nat) : Option Nat :=
  match i with
  | 0 => some (bits v 5 0)
  | 1 => if bitAt v 15 then some (bits v 13 8) else none
  | _ => if bitAt v 23 then some (bits v 21 16) else none

/-- A write of CLK_REF (R399): ignored where it would leave the current source unnamed with no newly named source qualified;
else it takes effect at the next tick in every stack (R398). -/
def writeClkRef (s : State) (k v : Nat) (qual : List Bool) : State :=
  let named := (List.range 3).any (fun i => refName v i == some s.ref.port) && decide (s.ref.index < 3)
  let good := fun i => qual.getD i false && (match refName v i with | some p => s.portMaySource p | none => false)
  if !named && !(List.range 3).any good && decide (s.ref.index < 3) then s.report k K.CLK_REF_SEL_REJECT 0 0 0
  else { s with ref := { s.ref with refPend := some (BitVec.ofNat 32 v, qual) } }

/-- CLK_REF_WRITE (R399). -/
def execClkRefWrite (_src : Source) (k : Nat) (v : Reg32) (qual : List Bool) (s : State) : Out :=
  .next (if s.winOk k then writeClkRef s k v.toNat qual else s)

/-- The pending CLK_REF write takes effect at a tick; where it leaves the current source unnamed, the first qualified source
that it names is taken (R384, R399). -/
def tickRef (s : State) : State :=
  match s.ref.refPend with
  | none => s
  | some (v, qual) =>
    let s1 := forStacks { s with ref := { s.ref with refPend := none, qual := qual } } (fun s k =>
      (refFields v.toNat).foldl (fun s e => s.setFld k 0 e.1 e.2) s)
    if 3 ≤ s.ref.index then s1 else
    match (List.range 3).find? (fun i => refName v.toNat i == some s.ref.port) with
    | some i => { s1 with ref := { s1.ref with index := i } }
    | none => match s1.firstSrc qual 3 with | some i => failover s1 i qual | none => s1

/-! ### Elapsed time (R53) -/

/-- W: whole frames of an oscillator count with the catalogued period in femtoseconds, times 0.97 (R53, R441). One count stands for
every stack's oscillator, and the period is the aggregator's (DESIGN CHOICE, notes/assumptions/73.md). -/
def wakeFrames (s : State) (osc : Nat) : Nat := osc * (s.stk s.agg).calValue 1 0 * 97 / (100 * 1280000000)

/-- Ages a stack by W frames: its counter and the local ticks that the timers of R43 are held against; the times of what R43
does not list move along, so that only the listed timers age (R53). (DEDUCED, notes/assumptions/36.md) -/
def ageStack (s : State) (k w : Nat) : State :=
  s.modStk k (fun x =>
    let chans := x.chans.map (fun c => { c with pcs := c.pcs.map (fun p => { p with trkLast := p.trkLast + w }) })
    let agree := x.th.memAgree.map (fun a => if a = 0 then 0 else a + w)
    let hist := x.th.hist.map (fun h => (h.1 + w, h.2))
    let cal := x.otp.cal.map (fun c => (c.1, c.2.1, c.2.2 + w))
    { x with
      tm := { x.tm with frame := x.tm.frame + w, ticks := x.tm.ticks + w }
      admQ := x.admQ.map (fun r => { r with wait := r.wait + w })
      table := x.table.map (fun e => { e with req := { e.req with wait := e.req.wait + w } })
      scrubStart := x.scrubStart + w
      vitScrubStart := x.vitScrubStart.map (· + w)
      chans := chans
      th := { x.th with memAgree := agree, hist := hist }
      otp := { x.otp with cal := cal }
      clk := { x.clk with coreLastFail := x.clk.coreLastFail.map (· + w), fixLastFail := x.clk.fixLastFail.map (· + w) } })

/-- Ages the package by w frames. (DEDUCED, notes/assumptions/36.md) -/
def ageAll (s : State) (w : Nat) : State :=
  let s1 := forStacks s (fun s k => ageStack s k w)
  let ports := s1.ports.map (fun p => { p with ingress := p.ingress.map (fun r => { r with wait := r.wait + w }) })
  { s1 with
    ports := ports
    transit := s1.transit.map (fun r => { r with wait := r.wait + w })
    aliveLast := s1.aliveLast + w
    alignLast := s1.alignLast + w
    retainAt := s1.retainAt + w }

/-- Advances the package by the oscillator estimate: TIME_ESTIMATED, WAKE_ESTIMATE (R53). WAKE_CORRECTION keeps what an earlier
wake left until the next TIME_SYNC (R60; DESIGN CHOICE, notes/assumptions/73.md). -/
def advance (s : State) (osc : Nat) : State :=
  let w := wakeFrames s osc
  let s1 := ageAll (forStacks s (fun s k => s.count k .clk 0 0 osc)) w
  { s1 with wakeLow := s1.wakeLow - w, timeEst := true, timeValid := false, afterStop := true }.setCnt 0 .tic 0 5 w

/-! ### Recovery -/

/-- A request that had column commands in flight when the reference stopped ends with STACK_RESET; which ones had is free
(R387; DESIGN CHOICE, notes/assumptions/1.md). -/
def loseColumns (s : State) (k : Nat) : State :=
  ((s.stk k).table.filter (fun e => e.done.isNone)).foldl (fun s e =>
    let d := s.draw
    if d.1.testBit 0 then finishSt d.2 k e.req stStackReset else d.2) s

/-- Both PLLs of a stack are locked and Docent is on PLL_FIX. -/
def lockStack (s : State) (k : Nat) : State :=
  docentPll (s.modStk k (fun x => { x with
    clk := { x.clk with corePll := 2, fixPll := 2, coreBad := 0, fixBad := 0, recovering := false } })) k

/-- The memory dies of a stack serve again, unless the stack is in SAFE (R249, R392). -/
def resumeDies (s : State) (k : Nat) (track : Bool) : State := if s.inSafe k then s else leaveSelfRefresh s k track

/-- The stack's ports return to DETECT, which resets the links of those that were ACTIVE (R387). -/
def detectPorts (s : State) (k : Nat) : State := forN 4 s (fun s i => enterDetect s (4 * k + i))

/-- REF_RECOVERY: a source qualifies in LOST; steps 3 to 9 of R396, and ACTIVE at the next tick (R387). A start that lost its
reference goes on from where it stood. -/
def execRefRecovery (qual : List Bool) (oscCycles : Nat) (s : State) : Out :=
  .next (if s.mode != .lost || s.modeNext.isSome then s else
    match s.firstSrc qual 3 with
    | none => { s with ref := { s.ref with qual := qual } }
    | some i =>
      let s1 := advance (takeSrc s i 0 qual) oscCycles
      let s2 := forStacks s1 (fun s k => detectPorts (resumeDies (loseColumns (lockStack s k) k) k true) k)
      if (List.range s.n).any (fun k => (s.stk k).doc.bootStep == 13) then { s2 with modeNext := some .active }
      else { s2 with mode := .starting })

/-! ### PLL judgement (R385) -/

/-- A PLL failure of a stack: a restart, or PLL_FAIL where the same PLL failed within 65,536 frames. -/
def pllFailure (s : State) (k : Nat) (core : Bool) : State :=
  let x := s.stk k
  let last := if core then x.clk.coreLastFail else x.clk.fixLastFail
  let again := match last with | some t => decide (s.now k ≤ t + 65536) | none => false
  let st := if again then 3 else 1
  let s1 := s.modStk k (fun x => { x with clk := { x.clk with
    corePll := (if core then st else x.clk.corePll), fixPll := (if core then x.clk.fixPll else st),
    coreBad := (if core then 0 else x.clk.coreBad), fixBad := (if core then x.clk.fixBad else 0),
    coreLastFail := (if core then some (s.now k) else x.clk.coreLastFail),
    fixLastFail := (if core then x.clk.fixLastFail else some (s.now k)), recovering := true } })
  let s2 := setSelfRefresh (docentRing s1 k) k true
  if again then s2.report k K.CLK_PLL_FAIL 0 0 0 else s2.report k K.CLK_PLL_RESTART 0 0 0

/-- PLL_CHECK_WINDOW: a window of 4,096 reference cycles passes with 4,092 to 4,100 counts; one failure is tolerated, two in a
row are a PLL failure; a port-transmit PLL's failure retrains its port (R385). (DEDUCED, notes/assumptions/37.md) -/
def execPllCheckWindow (k : Nat) (pll : Pll) (count : Nat) (s : State) : Out :=
  .next (let ok := decide (4092 ≤ count ∧ count ≤ 4100)
    let c := (s.stk k).clk
    if !decide (k < s.n) || s.ref.state ≠ 0 then s else
    match pll with
    | .core =>
      if c.corePll ≠ 2 then s
      else if ok then s.modStk k (fun x => { x with clk := { x.clk with coreBad := 0 } })
      else if c.coreBad = 0 then s.modStk k (fun x => { x with clk := { x.clk with coreBad := 1 } })
      else pllFailure s k true
    | .fix =>
      if c.fixPll ≠ 2 then s
      else if ok then s.modStk k (fun x => { x with clk := { x.clk with fixBad := 0 } })
      else if c.fixBad = 0 then s.modStk k (fun x => { x with clk := { x.clk with fixBad := 1 } })
      else pllFailure s k false
    | .port i =>
      if 4 ≤ i ∨ !s.portLive (4 * k + i) then s
      else if ok then s.modStk k (fun x => { x with clk := { x.clk with portBad := x.clk.portBad.set i 0 } })
      else if c.portBad.getD i 0 = 0 then s.modStk k (fun x => { x with clk := { x.clk with portBad := x.clk.portBad.set i 1 } })
      else retrain (s.modStk k (fun x => { x with clk := { x.clk with portBad := x.clk.portBad.set i 0 } })) (4 * k + i))

/-- PLL_LOCK: a restarted PLL locks, or cannot be started; with both PLLs locked the stack has recovered, as after a loss of
reference (R385, R387). -/
def execPllLock (k : Nat) (pll : Pll) (locked : Bool) (s : State) : Out :=
  .next (let c := (s.stk k).clk
    let starting := match pll with | .core => c.corePll == 1 | .fix => c.fixPll == 1 | .port _ => false
    if !starting || !c.recovering then s else
    let st := if locked then 2 else 3
    let s1 := s.modStk k (fun x => { x with clk := { x.clk with
      corePll := (if pll = .core then st else x.clk.corePll), fixPll := (if pll = .fix then st else x.clk.fixPll) } })
    if !locked then s1.report k K.CLK_PLL_FAIL 0 0 0
    else
      let d := (s1.stk k).clk
      if d.corePll ≠ 2 ∨ d.fixPll ≠ 2 then s1
      else detectPorts (resumeDies (loseColumns (lockStack s1 k) k) k true) k)

/-! ### Muxes -/

/-- CLK_MUX_FORCED: the clock a mux leaves shows no edge within 64 cycles of the new one (R388). -/
def execClkMuxForced (k : Nat) (_mux : ClockMux) (s : State) : Out :=
  .next (if decide (k < s.n) && s.mode != .off then (s.count k .clk 0 4 1).report k K.CLK_MUX_FORCED 0 0 0 else s)

/-- A write of CLK_DOCENT_SEL by the stack's Docent; 1 has no effect while PLL_FIX is not locked (R401). -/
def writeDocentSel (s : State) (src : Source) (k v : Nat) : State :=
  if !Source.isDocent k src then s
  else if !bitAt v 0 then docentRing s k
  else if (s.stk k).clk.fixPll = 2 then docentPll s k else s

/-- CLK_DOCENT_SEL (R401). -/
def execClkDocentSel (src : Source) (k : Nat) (v : Reg32) (s : State) : Out :=
  .next (if s.winOk k then writeDocentSel s src k v.toNat else s)

/-! ### Package modes -/

/-- A package transition is in progress (R403); a RETAIN request that waits counts as one. -/
def State.transiting (s : State) : Bool :=
  s.modeNext.isSome || s.retainWant || !(s.mode == .active || s.mode == .idle)

/-- Sets REJECTED of stack k (R403). -/
def setRejected (s : State) (k : Nat) (v : Bool) : State := s.modStk k (fun x => { x with clk := { x.clk with rejected := v } })

/-- REJECTED in every stack, for a package request. -/
def setAllRejected (s : State) (v : Bool) : State := forStacks s (fun s k => setRejected s k v)

/-- A RETAIN request is rejected (R392, R413, R503). -/
def State.retainBarred (s : State) : Bool :=
  (List.range s.n).any (fun k =>
    let x := s.stk k
    s.inMaint k || x.stkNext == some .maintPending || x.tm.tier == 2 || decide (2 ≤ x.th.stage)) || !s.pins.wakeN

/-- A COMMIT or an OTP command holds a RETAIN request (R97, R392, R443). -/
def State.retainHeld (s : State) : Bool := s.cmtBusy || (List.range s.n).any s.otpBusy

/-- Entry into RETAIN begins at the next tick, or waits. -/
def wantRetain (s : State) : State :=
  if s.retainHeld then { s with retainWant := true } else { s with retainWant := false, modeNext := some .enteringRetain }

/-- What waits for a COMMIT or an OTP command to end: a RETAIN request (R392). -/
def proceedRetain (s : State) : State := if s.retainWant then wantRetain s else s

/-- A wake event in IDLE: ACTIVE begins at the next tick (R393). (DEDUCED, notes/assumptions/32.md) -/
def wakeIdle (s : State) (code : Nat) : State :=
  if s.mode == .idle && s.modeNext.isNone then { s with wakeCause := code, modeNext := some .active } else s

/-- A write of CLK_PKG_MODE (R392, R398, R402, R403). -/
def writePkgMode (s : State) (_k v : Nat) : State :=
  let s1 := s.setAll F.CLK_PKG_MODE_REQ (bits v 1 0)
  if !bitAt v 31 then s1
  else if s.transiting then setAllRejected s1 true
  else match bits v 1 0 with
    | 0 => wakeIdle (setAllRejected s1 false) 6
    | 1 => let s2 := setAllRejected s1 false
           if s.mode = .active then { s2 with modeNext := some .idle } else s2
    | 2 => if s.retainBarred then setAllRejected s1 true else wantRetain (setAllRejected s1 false)
    | _ => setAllRejected s1 true

/-- A write of CLK_PKG_MODE with GO and a REQ. -/
def pkgMode (s : State) (k req v : Nat) : State :=
  if s.winOk k && bitAt v 31 && bits v 1 0 == req then writePkgMode s k v else s

/-- MODE_ACTIVE_REQUEST (R392). -/
def execModeActiveRequest (_src : Source) (k : Nat) (v : Reg32) (s : State) : Out := .next (pkgMode s k 0 v.toNat)

/-- MODE_IDLE_REQUEST (R392). -/
def execModeIdleRequest (_src : Source) (k : Nat) (v : Reg32) (s : State) : Out := .next (pkgMode s k 1 v.toNat)

/-- MODE_RETAIN_REQUEST (R394). -/
def execModeRetainRequest (_src : Source) (k : Nat) (v : Reg32) (s : State) : Out := .next (pkgMode s k 2 v.toNat)

/-- AUTO_IDLE: AUTO_EN is 1 and no message has arrived for IDLE_FRAMES frames; not while a guaranteed reservation is committed
or WAKE_N is low (R28, R392, R503). -/
def execAutoIdle (s : State) : Out :=
  .next (if s.mode == .active && !s.transiting && s.flag s.agg 0 F.CLK_IDLE_CFG_AUTO_EN && s.pins.wakeN && s.demand s.agg == 0 &&
      decide (max 1 (s.fld s.agg 0 F.CLK_IDLE_CFG_IDLE_FRAMES) ≤ s.idleFrames) then { s with modeNext := some .idle } else s)

/-- Code of a wake event (R403). (DEDUCED, notes/assumptions/32.md) -/
def WakeCause.code : WakeCause → Nat
  | .wakeN => 1 | .squelch => 2 | .mailbox => 3 | .message => 4 | .access => 5 | .modeWrite => 6

/-- IDLE_WAKE: a wake event in IDLE (R392, R393); squelch and the mailbox wake from RETAIN only. (DEDUCED, notes/assumptions/32.md) -/
def execIdleWake (cause : WakeCause) (s : State) : Out :=
  .next (if cause = .squelch ∨ cause = .mailbox then s else wakeIdle s (WakeCause.code cause))

/-- The start of RETAIN exit: Docent and the tiles resume, the logic rail ramps to the running level (R396). -/
def startRetainExit (s : State) (cause : WakeCause) : State :=
  forStacks { s with mode := .leavingRetain, wakeCause := (WakeCause.code cause), wakeInEntry := none } (fun s k => s.modStk k (fun x => { x with
    pw := { x.pw with tileMode := 0, railMv := x.pw.railMv.set 0 (levelMv s.runLevel) },
    clk := { x.clk with corePll := 1, fixPll := 1 } }))

/-- A wake event in RETAIN, or noted during entry (R395, R397). -/
def wakeRetain (s : State) (cause : WakeCause) : State :=
  if !(cause == .wakeN || cause == .squelch || cause == .mailbox) then s
  else if s.mode == .retain then startRetainExit s cause
  else if s.mode == .enteringRetain && s.wakeInEntry.isNone then { s with wakeInEntry := some cause }
  else s

/-- RETAIN_WAKE (R395). -/
def execRetainWake (cause : WakeCause) (s : State) : Out := .next (wakeRetain s cause)

/-- What RETAIN entry does on a stack: seals abort, self-refresh, links parked, PLLs off, rail at retention (R394). (DEDUCED, notes/assumptions/36.md) -/
def retainStack (s : State) (k : Nat) : State :=
  let s1 := docentRing (setSelfRefresh (abortSeals s k) k true) k
  let s2 := s1.modStk k (fun x => { x with
    pw := { x.pw with tileMode := 1, railMv := x.pw.railMv.set 0 500 }, clk := { x.clk with corePll := 0, fixPll := 0 } })
  let s3 := forN 4 s2 (fun s i =>
    let p := 4 * k + i
    if (s.prt p).lstate == .active then
      (if (s.prt p).txParked then s else park s p).modPort p (fun x => { x with
        txParked := true, lanes := x.lanes.map (fun l => { l with rx := .parked, frozen := false }) })
    else s)
  (s3.count k .clk 0 7 1).event k .clk 0 0

/-- RETAIN_ENTRY_COMPLETE: the frame counter has stopped at 24 µs, and at 60 µs the package is in RETAIN; a wake event during
entry starts the exit at once (R394, R397). (DEDUCED, notes/assumptions/54.md) -/
def execRetainEntryComplete (s : State) : Out :=
  .next (if s.mode != .enteringRetain || decide (s.now s.agg < s.retainAt + 18) then s else
    let s1 := forStacks { s with mode := .retain, timeValid := false, sync := none, longFrame := false } retainStack
    match s.wakeInEntry with | some c => startRetainExit s1 c | none => s1)

/-- What RETAIN exit does on a stack: PLLs locked, Docent on PLL_FIX, dies out of self-refresh with a tracking pass, the ports' transmit
directions awake on their retained training; the timing port's receiver, whose squelch has asserted, acquires, the others wait for
theirs (R324, R395, R396). (DEDUCED, notes/assumptions/54.md) -/
def exitStack (s : State) (k : Nat) : State :=
  let s1 := resumeDies (lockStack s k) k true
  forN 4 s1 (fun s i =>
    let p := 4 * k + i
    let s2 := if (s.prt p).lstate == .active then wakeTx s p else s
    if p = s.ref.port then s2.modPort p (fun x => { x with lanes := x.lanes.map (fun l =>
      if l.rx == .parked then { l with rx := .acquiring, wakeMarks := 0 } else l) }) else s2)

/-- RETAIN_EXIT_COMPLETE: the counter and the timers of R43 advance by the oscillator estimate; ACTIVE at the next tick
(R53, R396). (DEDUCED, notes/assumptions/54.md) -/
def execRetainExitComplete (oscCycles : Nat) (s : State) : Out :=
  .next (if s.mode != .leavingRetain || s.modeNext.isSome then s
    else { forStacks (advance s oscCycles) exitStack with modeNext := some .active })

/-! ### Stack modes -/

/-- A self-test or a CTL training operation runs on the stack (R392). -/
def State.testBusy (s : State) (k : Nat) : Bool :=
  (s.stk k).bst.phase != 0 || (s.stk k).chans.any (fun c => c.trnPend.isSome)

/-- A write of CLK_STK_MODE (R392, R402): MAINTENANCE from serving, and back; rejected during a transition, in SAFE, and for
leaving while a self-test or training is BUSY. -/
def writeStkMode (s : State) (k v : Nat) : State :=
  let s1 := s.setFld k 0 F.CLK_STK_MODE_REQ (bits v 0 0)
  let x := s.stk k
  if !bitAt v 31 then s1
  else if s.transiting || x.stkNext.isSome || x.mode == .maintPending || x.mode == .safe then setRejected s1 k true
  else if bitAt v 0 then
    (if x.mode = .maintenance then setRejected s1 k false
     else (setRejected s1 k false).modStk k (fun x => { x with stkNext := some .maintPending }))
  else if x.mode != .maintenance then setRejected s1 k false
  else if s.testBusy k then setRejected s1 k true
  else (setRejected s1 k false).modStk k (fun x => { x with stkNext := some .asPackage })

/-- MAINTENANCE_REQUEST: CLK_STK_MODE with GO and REQ 1 (R392). -/
def execMaintenanceRequest (_src : Source) (k : Nat) (v : Reg32) (s : State) : Out :=
  .next (if s.winOk k && bitAt v.toNat 31 && bitAt v.toNat 0 then writeStkMode s k v.toNat else s)

/-- MAINTENANCE_EXIT: CLK_STK_MODE with GO and REQ 0 (R392). -/
def execMaintenanceExit (_src : Source) (k : Nat) (v : Reg32) (s : State) : Out :=
  .next (if s.winOk k && bitAt v.toNat 31 && !bitAt v.toNat 0 then writeStkMode s k v.toNat else s)

/-- MAINTENANCE_ENTERED: the request table is empty (R392). -/
def execMaintenanceEntered (k : Nat) (s : State) : Out :=
  .next (if decide (k < s.n) && (s.stk k).mode == .maintPending && (s.stk k).table.isEmpty then
    (s.modStk k (fun x => { x with mode := .maintenance })).event k .clk 0 0 else s)

/-- Requests that wait in the admission queue of a stack end with ADMIT_HOLD (R24). -/
def holdQueue (s : State) (k : Nat) : State :=
  (s.stk k).admQ.foldl (fun s r =>
    match endFrom (s.modStk k (fun x => { x with admQ := x.admQ.filter (fun q => q.rid != r.rid) })) k r stAdmitHold with
    | some s' => s'.count k .stk 0 1 1
    | none => s) s

/-- The stack mode that a tick brings: admission stops, or the stack returns to the package mode; from a SHUTDOWN self-test
through the exit of R249 and port training (R392, R489). Requests left in the queue for want of egress room end later. (DEDUCED, notes/assumptions/54.md) -/
def tickStkMode (s : State) (k : Nat) : State :=
  match (s.stk k).stkNext with
  | none => if (s.stk k).mode == .maintPending || (s.stk k).mode == .maintenance then holdQueue s k else s
  | some m =>
    let s1 := s.modStk k (fun x => { x with mode := m, stkNext := none })
    if m = .maintPending then holdQueue s1 k else
    let s2 := s1.event k .clk 0 0
    if !(s.stk k).bst.shutdown then s2
    else detectPorts (leaveSelfRefresh (s2.modStk k (fun x => { x with bst := { x.bst with shutdown := false } })) k false) k

/-! ### Pins and mailbox -/

/-- WAKE_N low for some nanoseconds: at least 200 is a wake event, below 50 is ignored, between them either (R502); discarded
while RESET_N is low (R503). (DESIGN CHOICE, notes/assumptions/1.md) (DEDUCED, notes/assumptions/64.md) -/
def execWakeN (ns : Nat) (s : State) : Out :=
  .next (let d := if 50 ≤ ns ∧ ns < 200 then s.draw else (1, s)
    if ns < 50 ∨ !s.pins.resetN ∨ d.1 % 2 = 0 then d.2 else
    let s1 := { d.2 with wakeLow := max d.2.wakeLow (ns / 1280), pins := { d.2.pins with wakeN := decide (ns < 1280) } }
    wakeRetain (wakeIdle s1 1) .wakeN)

/-- A write of DOC_MBOX_IN (R493): from PMBus it wakes the package from RETAIN (R395). -/
def writeMboxIn (s : State) (src : Source) (k v : Nat) : State :=
  let s1 := s.setFld k 0 F.DOC_MBOX_IN_DATA v
  if src = .pmbus then wakeRetain s1 .mailbox else s1

/-- DOC_MBOX_IN_WRITE (R493). -/
def execDocMboxInWrite (src : Source) (k : Nat) (v : Reg32) (s : State) : Out :=
  .next (if s.winOk k then writeMboxIn s src k v.toNat else s)

/-- OTP_CMD_DONE: RESULT and DONE are set and CMD_DONE pulses; a waiting calibration starts, a waiting RETAIN request proceeds
(R392, R442, R443). (DEDUCED, notes/assumptions/57.md) -/
def execOtpCmdDone (k : Nat) (s : State) : Out :=
  .next (match (s.stk k).otp.pendRes with
    | none => s
    | some r =>
      let s1 := ((s.modStk k (fun x => { x with otp := { x.otp with pendRes := none } })).setFlds k 0
        [(F.OTP_CMD_STATUS_BUSY, 0), (F.OTP_CMD_STATUS_DONE, 1), (F.OTP_CMD_STATUS_RESULT, r)]).event k .otp 0 0
      let s2 := match (s1.stk k).otp.calWait with
        | some (t, run) => calStart s1 k t run
        | none => s1
      proceedRetain s2)

/-! ### Read-only registers -/

/-- REF_STATE as CLK_STATUS shows it: FAILOVER, which R400 gives no code, reads as HOLDOVER until it has relocked. (DEDUCED, notes/assumptions/53.md) -/
def State.refCode (s : State) : Nat := if s.ref.state = 4 then 1 else s.ref.state

/-- Where stack k's reference arrives: 0 its own port, 1 its ring UP port, 2 its ring DOWN port (R381). -/
def State.refDist (s : State) (k : Nat) : Nat :=
  let a := s.ref.srcStack
  if a = k then 0 else
  let up := ringUp s.n a k 0
  let used := if (ringPath s.n a k up).all s.linkOk then up else !up
  if used then 2 else 1

/-- CLK_STATUS (R400). -/
def clkStatus (s : State) (k : Nat) : Nat :=
  let c := (s.stk k).clk
  s.refCode * 2 ^ 30 + s.ref.index * 2 ^ 28 + s.ref.port * 2 ^ 22 + (if s.ref.index < 3 then s.refDist k else 0) * 2 ^ 20 +
    s.ref.srcStack * 2 ^ 17 + b2n c.docPll * 2 ^ 16 + c.corePll * 2 ^ 14 + c.fixPll * 2 ^ 12 +
    (List.range 3).foldl (fun a i => a + b2n (s.srcOk s.ref.qual i) * 2 ^ (8 + i)) 0 + b2n (s.stk k).tm.halved * 4 + s.runLevel

/-- CLK_MODE_STATUS (R403). -/
def clkModeStatus (s : State) (k : Nat) : Nat :=
  let x := s.stk k
  let pm := match s.mode with | .idle => 1 | .enteringRetain => 2 | .retain => 2 | .leavingRetain => 3 | _ => 0
  let sm := match x.mode with | .safe => 2 | .maintenance => 1 | _ => if x.clk.recovering then 3 else 0
  let busy := s.transiting || x.stkNext.isSome || x.mode == .maintPending
  b2n busy * 2 ^ 31 + b2n x.clk.rejected * 2 ^ 30 + pm * 2 ^ 28 + sm * 2 ^ 26 + s.wakeCause * 2 ^ 8

end Sys2Proof.Machine
end

