-- ==== Sys2Proof/Machine/Start.lean ====
section
/-! DEFINITION. Start-up and resets (R477 to R484, R494, R502, R513), and exit from SAFE (R462). -/

namespace Sys2Proof.Machine

/-! ### Loss of power -/

/-- OFF: every register and memory content is lost; what is kept is the OTP array, the cause latches with BST_LAST, and the
levels on the input pins (R412, R483). -/
def powerOff (s : State) : State :=
  let z := State.resetOf s.part s.lid
  { z with
    pending := s.pending
    free := s.free
    stks := (z.stks.zipIdx).map (fun e =>
      let o := (s.stk e.2).otp
      { e.1 with
        latches := (s.stk e.2).latches
        otp := { e.1.otp with cellA := o.cellA, cellB := o.cellB, weak := o.weak } })
    pmbus := { z.pmbus with strap := s.pmbus.strap }
    pins := { z.pins with resetN := s.pins.resetN, wakeN := s.pins.wakeN, vinAbove3 := s.pins.vinAbove3, ovpHeld := s.pins.ovpHeld } }

/-- Records causes in the latch of a stack (R412, R422). (DEDUCED, notes/assumptions/34.md) -/
def latchCause (s : State) (k : Nat) (bits : BitVec 6) : State :=
  s.modStk k (fun x => { x with latches := { x.latches with cause := x.latches.cause ||| bits } })

/-- Records causes in every latch. -/
def latchAll (s : State) (bits : BitVec 6) : State := forStacks s (fun s k => latchCause s k bits)

/-! ### Start-up, steps 1 to 4 (R477, R478) -/

/-- Changes Docent of stack k. -/
def State.modDoc (s : State) (k : Nat) (f : Docent → Docent) : State := s.modStk k (fun x => { x with doc := f x.doc })

/-- A stack held in SAFE at start (R479): the failure is reported, and the stack is SAFE with it as the cause. (DEDUCED, notes/assumptions/61.md) -/
def holdSafe (s : State) (k : Nat) (x : Kind) : State :=
  enterSafe ((s.report k x 0 0 0).modDoc k (fun d => { d with heldSafe := true })) k x.code
    (sourceOf k x.page.isPkg 0 (x.page.index 0)).toNat false

/-- A critical block fails its part of the start check, or a step misses its time (R479). -/
def startFail (s : State) (k : Nat) : State :=
  holdSafe (s.modDoc k (fun d => { d with startFail := true })) k K.DOC_START_FAIL

/-- Steps 1 and 2 on stack k: the tiles regulate, the logic rail is at 0.65 V, a brown-out not yet reported is (R412). -/
def powerStack (s : State) (k : Nat) : State :=
  let s1 := s.modStk k (fun x => { x with
    doc := { x.doc with bootStep := 2 }
    pw := { x.pw with tileMode := 0, railMv := x.pw.railMv.set 0 650, railOk := x.pw.railOk.set 0 true } })
  if (s1.stk k).latches.brownNew then
    (s1.modStk k (fun x => { x with latches := { x.latches with brownNew := false } })).report k K.PWR_BROWNOUT 0 0 0
  else s1

/-- Step 3 on stack k: OTP sensed, lifecycle decided; a REPAIR failure holds the stack in SAFE (R438, R479). (DEDUCED, notes/assumptions/61.md) -/
def step3 (s : State) (k : Nat) : State :=
  if (s.stk k).doc.bootStep ≠ 2 then s else
  let s1 := (senseOtp s k).modDoc k (fun d => { d with bootStep := 3 })
  if (s1.stk k).otp.checkFail.getD 3 false then
    enterSafe (s1.modDoc k (fun d => { d with heldSafe := true })) k K.OTP_REPAIR_FAIL.code
      (sourceOf k false 3 (Page.index 0 .otp)).toNat false
  else s1

/-- Step 4 on stack k: Docent boots, and three parts of the start check are judged; SCRAPPED and a critical failure that a
self-test latched hold the stack in SAFE (R437, R478, R479). (DEDUCED, notes/assumptions/61.md) -/
def step4 (s : State) (k : Nat) (chk : StartCheck) : State :=
  if (s.stk k).doc.bootStep ≠ 3 ∨ (s.stk k).doc.startFail then s else
  let s1 := if chk.docentOk then s.count k .doc 0 3 1 else s
  if !(chk.docentOk && chk.otpOk && chk.powerOk) then startFail s1 k else
  let s2 := s1.modDoc k (fun d => { d with bootStep := 4 })
  let s3 := if (s2.stk k).otp.lifecycle = 4 then
      enterSafe (s2.modDoc k (fun d => { d with heldSafe := true })) k 0 0 false else s2
  if (s3.stk k).latches.critFail then holdSafe s3 k K.BST_CRIT_FAIL else s3

/-- Steps 1 and 2 of every stack; while RESET_N is low the sequence holds after step 2 (R477, R502). (DEDUCED, notes/assumptions/55.md) -/
def powerUp (s : State) : State :=
  let s1 := { s with mode := .starting, pins := { s.pins with vinAbove3 := true, pwrGood := true, ovpHeld := false } }
  let s2 := forStacks s1 powerStack
  if s2.pins.resetN then forStacks s2 step3 else latchAll s2 1

/-- VIN_VALID: VIN rises through 4.4 V in OFF; steps 1 to 4 (R407, R477). (DEDUCED, notes/assumptions/2.md) (DEDUCED, notes/assumptions/55.md) -/
def execVinValid (chks : List StartCheck) (s : State) : Out :=
  .next (if s.mode != .off || s.pins.ovpHeld then s else
    let s1 := powerUp s
    if !s1.pins.resetN then s1
    else forStacks s1 (fun s k => match chks[k]? with | some c => step4 s k c | none => s))

/-- OVP_RESTART: VIN falls below 18.5 V after an over-voltage shutdown; the tiles restart the package (R407). (DEDUCED, notes/assumptions/55.md) -/
def execOvpRestart (s : State) : Out :=
  .next (if s.mode == .off && s.pins.ovpHeld then powerUp s else s)

/-! ### Start-up, steps 5 to 13 -/

/-- Step 5: a source has qualified, in this stack or over the ring (R380, R381). -/
def step5 (s : State) (k : Nat) (qual : List Bool) : State :=
  if (s.stk k).doc.bootStep ≠ 4 ∨ (s.stk k).doc.startFail then s else
  if s.ref.index < 3 then s.modDoc k (fun d => { d with bootStep := 5 }) else
  match s.firstSrc qual 3 with
  | some i => (takeSrc s i 0 qual).modDoc k (fun d => { d with bootStep := 5 })
  | none => { s with ref := { s.ref with qual := qual } }

/-- The counter and the local ticks of a stack that locks later are those of one that already ticks (R39, R52). The spec says only
that the counter of the first start reads 0 at the first tick (DESIGN CHOICE, notes/assumptions/73.md). -/
def State.startTicks (s : State) : Nat × Nat :=
  match (List.range s.n).find? (fun j => decide (6 ≤ (s.stk j).doc.bootStep)) with
  | some j => (s.frame j, s.now j)
  | none => (0, 0)

/-- Steps 6 and 7: both PLLs lock under start judgement, the frame timer passes its check, Docent moves to PLL_FIX (R385,
R478). -/
def step6 (s : State) (k : Nat) (chk : StartCheck) (locked : Bool) : State :=
  if (s.stk k).doc.bootStep ≠ 5 ∨ (s.stk k).doc.startFail then s
  else if !locked then
    holdSafe (s.modStk k (fun x => { x with clk := { x.clk with corePll := 3 }, doc := { x.doc with startFail := true } })) k K.CLK_PLL_FAIL
  else
    let t := s.startTicks
    let s1 := s.modStk k (fun x => { x with clk := { x.clk with corePll := 2, fixPll := 2 }, tm := { x.tm with frame := t.1, ticks := t.2 } })
    if !chk.timerOk then startFail s1 k
    else docentPll (s1.modDoc k (fun d => { d with bootStep := 7, startOk := true })) k

/-- Step 8: the memory rails ramp in their order and settle in their windows (R411). -/
def step8 (s : State) (k : Nat) (chk : StartCheck) : State :=
  if (s.stk k).doc.bootStep ≠ 7 ∨ (s.stk k).latches.critFail ∨ !chk.powerOk then s else
  s.modStk k (fun x => { x with
    doc := { x.doc with bootStep := 8 }
    pw := { x.pw with railMv := [x.pw.railMv.headD 650, 1050, 400, 1800], railOk := [true, true, true, true], railsRun := true, memFault := false } })

/-- Step 11: tiles INVALID, lines invalid, trackers and debts cleared, HEALTH applied; tiles of a channel that is unusable
are RETIRED; refresh starts (R477, R480). -/
def step11 (s : State) (k : Nat) : State :=
  let s1 := s.modStk k (fun x => { x with tiles := [], openList := [], seals := [], overflow := false, lines := [] })
  let s2 := ((List.range 32).filter (fun c => ((s1.stk k).ch c).unusable)).foldl (fun s c => retireChannel s k c) s1
  let s3 := (applyHealth s2 k).modDoc k (fun d => { d with bootStep := 11 })
  if s3.inSafe k then setSelfRefresh s3 k true else leaveSelfRefresh s3 k false

/-- Steps 9 to 11 of a stack that is not held for a REPAIR failure (R479, R481, R482). -/
def steps9to11 (s : State) (k : Nat) (failed : List Nat) : State :=
  if (s.stk k).doc.bootStep ≠ 8 ∨ (s.stk k).otp.checkFail.getD 3 false then s
  else step11 (trainStart (loadRepairs s k) k failed) k

/-- START_REFERENCE: a source qualifies; what is left of steps 3 and 4, then steps 5 to 11 of stack k (R477). Without a
qualified source the sequence waits in step 5, which has no time limit. (DEDUCED, notes/assumptions/2.md) -/
def execStartReference (k : Nat) (qual : List Bool) (chk : StartCheck) (locked : Bool) (failedChs : List Nat) (s : State) : Out :=
  .next (if s.mode != .starting || !decide (k < s.n) || !s.pins.resetN then s else
    let s1 := step6 (step5 (step4 (step3 s k) k chk) k qual) k chk locked
    steps9to11 (step8 s1 k chk) k failedChs)

/-- START_WATCHDOG: a step from 6 to 11 has not completed within its time plus 20 ms (R479). (DESIGN CHOICE, notes/assumptions/24.md) -/
def execStartWatchdog (k : Nat) (s : State) : Out :=
  .next (let d := (s.stk k).doc
    if s.mode == .starting && decide (k < s.n) && decide (5 ≤ d.bootStep ∧ d.bootStep < 11) && !d.heldSafe then startFail s k else s)

/-- BOOT_STEP as DOC_STATUS shows it: step 12 is complete once every usable port of the stack is ACTIVE or held (R477). (DEDUCED, notes/assumptions/61.md) -/
def State.bootShown (s : State) (k : Nat) : Nat :=
  let b := (s.stk k).doc.bootStep
  let done := (List.range 4).all (fun i => let p := s.prt (4 * k + i); p.unusable || p.held || p.lstate == .active)
  if b = 11 ∧ done ∧ !(s.stk k).doc.heldSafe then 12 else b

/-- PACKAGE_ACTIVE: the first tick at which every stack not held has completed step 11 and the timing port's link is ACTIVE
(R477). (DEDUCED, notes/assumptions/2.md) -/
def execPackageActive (s : State) : Out :=
  .next (if s.mode == .starting && decide (s.ref.index < 3) && (s.prt s.refPort).lstate == .active &&
      (List.range s.n).all (fun k => (s.stk k).doc.heldSafe || decide (11 ≤ (s.stk k).doc.bootStep)) then
    forStacks { s with mode := .active, idleFrames := 0 } (fun s k =>
      if (s.stk k).doc.heldSafe then s else s.modDoc k (fun d => { d with bootStep := 13 }))
    else s)

/-! ### Package reset -/

/-- What a package reset leaves of a stack: memory contents, repair redirects, cause latch, BST_LAST, STK_RESET_STATUS; the
memory rails stay up (R483). An Archive in the memory dies stays; a subset in the Vitrine does not. (DEDUCED, notes/assumptions/62.md) -/
def resetStack (s : State) (k : Nat) : Stack :=
  let x := s.stk k
  let z := Stack.reset s.part.dies
  let sub := s.flag k 0 F.REG_ARCH_STATUS_SUBSET
  let keep := fun (e : Nat × Reg32) =>
    e.1 == regKey .stk 0 0x104 || (e.1 == regKey .reg 0 0x190 && !sub)
  { z with
    regs := x.regs.filter keep
    latches := x.latches
    otp := { z.otp with cellA := x.otp.cellA, cellB := x.otp.cellB, weak := x.otp.weak }
    doc := { z.doc with bootStep := 2, spares := x.doc.spares, telRing := x.doc.telRing, telPos := x.doc.telPos }
    rg := { z.rg with archWords := (if sub then [] else x.rg.archWords), archFree := x.rg.archFree }
    pw := { z.pw with railMv := x.pw.railMv.set 0 650, railOk := x.pw.railOk.set 0 true, railsRun := x.pw.railsRun } }

/-- A package reset: every stack, the ring routers included, up to the hold after step 2 (R483, R502). (DEDUCED, notes/assumptions/35.md) (DEDUCED, notes/assumptions/62.md) -/
def packageReset (s : State) : State :=
  let z := State.resetOf s.part s.lid
  let s1 := { z with
    pending := s.pending
    free := s.free
    stks := (List.range s.n).map (resetStack s)
    dies := s.dies
    mode := .starting
    wakeLow := s.wakeLow
    pmbus := { z.pmbus with strap := s.pmbus.strap }
    pins := { s.pins with alive := false, thermN := true }
    taps := s.taps }
  forStacks (latchAll s1 1) (fun s k =>
    let s2 := if bitAt (s.raw k .reg 0 0x190) 31 then s.statusBit k .reg 0 0 true else s
    s2.setFlds k 0 [(F.STK_RESET_STATUS_LAST, 3), (F.STK_RESET_STATUS_FROM_SAVE, 0), (F.REG_ARCH_STATUS_WRITING, 0)])

/-- RESET_N low for some nanoseconds: from 1 µs it is accepted, below 100 ns ignored, between them either (R502). An accepted
RESET_N resets the package, and the pin stays low until RESET_N_RELEASE; in OFF it holds the next start after step 2. (DESIGN CHOICE, notes/assumptions/1.md) (DEDUCED, notes/assumptions/64.md) -/
def execResetN (ns : Nat) (s : State) : Out :=
  .next (let d := if 100 ≤ ns ∧ ns < 1000 then s.draw else (1, s)
    if ns < 100 ∨ d.1 % 2 = 0 then d.2 else
    let s1 := { d.2 with pins := { d.2.pins with resetN := false } }
    if s1.mode == .off then (if s1.pins.vinAbove3 then latchAll s1 1 else s1)
    else packageReset s1)

/-- RESET_N_RELEASE: the sequence goes on from its hold with step 3 (R477, R502). -/
def execResetNRelease (s : State) : Out :=
  .next (let s1 := { s with pins := { s.pins with resetN := true } }
    if s1.mode == .starting then forStacks s1 step3 else s1)

/-- A write of STK_RESET asks for a package reset: PKG_RESET with KEY 0xA5 (R494). -/
def pkgResetAsked (v : Nat) : Bool := bitAt v 29 && bits v 7 0 == 0xA5

/-- PKG_RESET (R494): as RESET_N, without the hold. -/
def execPkgReset (_src : Source) (k : Nat) (v : Reg32) (s : State) : Out :=
  .next (if s.winOk k && pkgResetAsked v.toNat then forStacks (packageReset s) step3 else s)

/-! ### Base-die reset (R484) -/

/-- A request in a table or queue that the reset loses: one from another stack's port ends with STACK_RESET there (R24, R484);
one from an own port ends under R354. (DEDUCED, notes/assumptions/41.md) -/
def resetReq (s : State) (k : Nat) (r : Req) : State :=
  let a := r.port / 4
  if a = k then s
  else if !s.reach k a then { s with timedOut := s.timedOut.filter (· != r.rid) }
  else if s.timedOut.contains r.rid then (lateRsp s a r.rid).ringTx k a else
  let s1 := (pushRsp s (respTo r stStackReset (s.frame a))).ringTx k a
  if isPosted r.op then (s1.endOutst r.port r.reqId r.rid).report (r.port / 4) K.STK_POSTED_FAIL 0 0 r.off else s1

/-- Requests of a stack end, its ports lose their links, and its dies enter self-refresh (R484 steps 2 to 4). -/
def startWarm (s : State) (k : Nat) (retain : Bool) : State :=
  let x := s.stk k
  let rs := x.table.map (fun e => e.req) ++ x.admQ
  let s1 := rs.foldl (fun s r => resetReq s k r) (s.modStk k (fun x => { x with table := [], admQ := [] }))
  let s2 := forN 4 s1 (fun s i => setPortState (linkDrop s (4 * k + i)) (4 * k + i) .detect)
  let s3 := setSelfRefresh s2 k true
  let s4 := if k = s3.agg then abortCommit s3 else s3
  s4.modStk k (fun x => { x with rst := true, resetRetain := retain, seals := [], safeEntry := false })

/-- A base-die reset is requested; one that is in progress absorbs it, and runs with retention only if every request asked
for it (R484). -/
def requestWarm (s : State) (k : Nat) (retain : Bool) : State :=
  if s.inReset k then s.modStk k (fun x => { x with resetRetain := x.resetRetain && retain }) else startWarm s k retain

/-- A write of STK_RESET (R494). While the base die is under reset the management path does not take it (R484). -/
def writeStkReset (s : State) (k v : Nat) : State :=
  if pkgResetAsked v then forStacks (packageReset s) step3 else
  let s1 := s.setFld k 0 F.STK_RESET_RETAIN (bits v 30 30)
  if bitAt v 31 then requestWarm s1 k (bitAt v 30) else s1

/-- A STK_RESET GO with a RETAIN value. -/
def warmGo (s : State) (k v : Nat) (retain : Bool) : State :=
  if s.winOk k && bitAt v 31 && bitAt v 30 == retain && !pkgResetAsked v then writeStkReset s k v else s

/-- WARM_RESET_RETAIN (R484). -/
def execWarmResetRetain (_src : Source) (k : Nat) (v : Reg32) (s : State) : Out := .next (warmGo s k v.toNat true)

/-- WARM_RESET_NO_RETAIN (R484). -/
def execWarmResetNoRetain (_src : Source) (k : Nat) (v : Reg32) (s : State) : Out := .next (warmGo s k v.toNat false)

/-- SAFE_FORCED_RESET: SAFE entry has not completed within 1 µs; a warm reset with retention is forced and reported (R461). (DESIGN CHOICE, notes/assumptions/24.md) -/
def execSafeForcedReset (k : Nat) (s : State) : Out :=
  .next (if s.mode != .off && decide (k < s.n) && s.inSafe k && (s.stk k).safeEntry then
    requestWarm (s.report k K.REG_SAFE_FORCED_RESET 0 0 0) k true else s)

/-- Registers that a base-die reset keeps: those of CLK, PWR and THM, which keep running, with their PAGE_ERR bits cleared
(R513); FIRST, REG_SAFE_STATUS, the Archive's status and STK_RESET_STATUS (R483). -/
def keptReg (sub : Bool) (key : Nat) : Bool :=
  let pg := key / 4096
  let off := key % 4096
  if pg = Page.index 0 .clk ∨ pg = Page.index 0 .pwr ∨ pg = Page.index 0 .thm then decide (off ≠ 0x10)
  else if pg = Page.index 0 .reg then
    off == 0x110 || off == 0x114 || off == 0x118 || off == 0x10C || (off == 0x190 && !sub)
  else key == regKey .stk 0 0x104

/-- A register after a base-die reset: kept, or only its UNUSABLE bit, which stands for the power cycle (R83, R480). -/
def keepReg (sub : Bool) (e : Nat × Reg32) : Option (Nat × Reg32) :=
  if keptReg sub e.1 then some e else if e.1 % 4096 = 0x0C ∧ bitAt e.2.toNat 1 then some (e.1, 2#32) else none

/-- Counters of the pages that keep running. -/
def keptCnt (key : Nat) : Bool :=
  let pg := key / 4096
  pg == Page.index 0 .clk || pg == Page.index 0 .pwr || pg == Page.index 0 .thm

/-- A channel after a base-die reset: CTL_DLY is kept, and with retention the accumulators of the Vitrine (R483). -/
def resetChan (retain : Bool) (c : Chan) : Chan :=
  { c with
    trnErr := [], trnMap := [], dlyPend := [], trnPend := none
    accs := (if retain then c.accs else [])
    plru := (if retain then c.plru else [])
    pcs := c.pcs.map (fun p => { PChan.reset with
      banks := p.banks, selfRefresh := p.selfRefresh, dly := p.dly, trkLast := p.trkLast, trkDue := p.trkDue, trnRow := p.trnRow }) }

/-- A stack after a base-die reset: what R483 keeps. Every high-word latch clears, those of the pages that keep running included, since
the management port is reset (R88; DESIGN CHOICE, notes/assumptions/81.md). (DEDUCED, notes/assumptions/62.md) -/
def warmStack (s : State) (k : Nat) (retain : Bool) : Stack :=
  let x := s.stk k
  let z := Stack.reset s.part.dies
  let sub := s.flag k 0 F.REG_ARCH_STATUS_SUBSET && !retain
  let forced := x.rg.waiting.filter (fun w => w.kind == K.REG_SAFE_FORCED_RESET.code)
  { x with
    regs := x.regs.filterMap (keepReg sub)
    cnt := x.cnt.filter (fun e => keptCnt e.1)
    latch := []
    mode := (if x.mode = .maintPending then .asPackage else x.mode)
    stkNext := none
    rst := false
    resetRetain := true
    safeEntry := false
    tiles := (if retain then x.tiles else [])
    lines := (if retain then x.lines else [])
    openList := (if retain then x.openList else [])
    overflow := retain && x.overflow
    seals := []
    sweepPos := (if retain then x.sweepPos else 0)
    sweepDirty := retain && x.sweepDirty
    scrubSeen := []
    scrubStart := x.tm.ticks
    vitScrubSeen := z.vitScrubSeen
    vitScrubStart := z.vitScrubStart.map (fun _ => x.tm.ticks)
    refPhase := z.refPhase
    wrr := []
    chans := x.chans.map (resetChan retain)
    budget := z.budget
    scb := []
    rg := { x.rg with waiting := forced, kcnt := [], fifo := [], marks := [], archAddr := [], telCnt := [0, 0, 0, 0], telDrop := 0,
                      fenceNow := false, archWords := (if sub then [] else x.rg.archWords) }
    clk := { x.clk with rejected := false, docPll := true }
    otp := { x.otp with svcOpen := false, sig := [], pendRes := none, cal := none, calWait := none, calNext := none }
    bst := z.bst
    doc := { x.doc with cmd := none }
    tm := { x.tm with align := decide (k ≠ s.agg) } }

/-- A port after a base-die reset: it retrains with its lane map kept, or returns to DETECT where it has none (R484 step 8). -/
def resetPort (s : State) (p : Nat) : State :=
  let x := s.prt p
  let z := Port.reset
  let s1 := s.modPort p (fun x => { z with
    lanes := x.lanes.map (fun l => { l with rx := .running, markRun := 0, noMarker := 0, partnerRateB := 0, frozen := false }),
    physLane := x.physLane, polarity := x.polarity, reversed := x.reversed, wasActive := x.wasActive, unusable := x.unusable,
    dropBelow := x.dropBelow })
  let known := !x.physLane.isEmpty && !x.unusable
  let s2 := if x.wasActive then logLinkReset s1 p else s1
  startPhase (setPortState s2 p (if known then .train else .detect)) p (s2.initPreset p false)

/-- A channel that stays unusable keeps its tiles RETIRED (R480). -/
def keepRetired (s : State) (k : Nat) : State :=
  ((List.range 32).filter (fun c => ((s.stk k).ch c).unusable)).foldl (fun s c => retireChannel s k c) s

/-- BASE_DIE_RESET_RELEASE: Docent boots, package-wide state is reloaded, the dies leave self-refresh with a tracking pass,
and the stack serves again or returns to SAFE or MAINTENANCE; a valid save image of a self-test is restored (R484, R490,
R513). (DEDUCED, notes/assumptions/62.md) -/
def execBaseDieResetRelease (k : Nat) (s : State) : Out :=
  .next (if !decide (k < s.n) || !s.inReset k then s else
    let x := s.stk k
    let saved := x.bst.phase ≠ 0 ∧ x.bst.saveValid = true
    let retain := if x.bst.phase ≠ 0 then x.bst.saveValid else x.resetRetain
    let s0 := if saved then restoreTiles s k else s
    let s1 := s0.modStk k (fun _ => warmStack s0 k retain)
    let s2 := reloadPackage (if retain then s1 else keepRetired s1 k) k
    let s3 := (s2.setFlds k 0 [(F.STK_RESET_STATUS_LAST, if retain then 1 else 2), (F.STK_RESET_STATUS_FROM_SAVE, if saved then 1 else 0),
      (F.STK_RESET_STATUS_WARM_COUNT, satAdd 65535 (s.fld k 0 F.STK_RESET_STATUS_WARM_COUNT) 1)]).count k .doc 0 3 1
    let s4 := if s3.inSafe k then s3 else leaveSelfRefresh s3 k true
    forN 4 s4 (fun s i => resetPort s (4 * k + i)))

/-! ### Exit from SAFE (R462) -/

/-- Blocker 1: a PAGE_ERR bit that is set and marked. -/
def State.markedErr (s : State) (k : Nat) : Bool :=
  let x := s.stk k
  x.rg.marks.any (fun e =>
    let m := if e.1 < 256 then x.regs else x.pkgRegs
    mget m (e.1 % 256 * 4096 + 0x10) 0#32 &&& e.2 != 0#32)

/-- Blocker 5: a cause that holds until the next start (R462, R511). -/
def State.causeStays (s : State) (k : Nat) : Bool :=
  let x := s.stk k
  x.otp.checkFail.getD 3 false || x.otp.lifecycle == 4 || x.doc.startFail || x.latches.critFail || s.halt.isSome || !s.inPart k

/-- First blocker of an exit, but for the rails. -/
def State.exitBlock (s : State) (k : Nat) (rails : Bool) : Nat :=
  let c := (s.stk k).clk
  if s.markedErr k then 1
  else if s.stageEntry k 4 < (s.stk k).hottest.2 + 12 then 2
  else if !rails then 3
  else if c.corePll ≠ 2 ∨ c.fixPll ≠ 2 then 4
  else if s.causeStays k then 5
  else if (s.stk k).rg.fenceNow then 6
  else 0

/-- After a memory-rail fault, the restarted rails bring back no data: every tile that is not RETIRED is INVALID, and the
Vitrine is dropped (R412). -/
def dropMemory (s : State) (k : Nat) : State :=
  s.modStk k (fun x => { x with
    tiles := x.tiles.filter (fun e => e.2 == .retired)
    lines := [], openList := [], overflow := false
    chans := x.chans.map (fun c => { c with accs := [] })
    pw := { x.pw with railsRun := true, memFault := false } })

/-- A write of REG_SAFE_CTRL: EXIT is rejected with the first blocker, or the stack leaves SAFE at the next tick (R462).
`railsOk` is what the rail monitors find, after the restart of R412 where the memory rails were off. -/
def writeSafeCtrl (s : State) (k v : Nat) (railsOk : Bool) : State :=
  if !bitAt v 31 || !s.inSafe k || (s.stk k).stkNext.isSome then s else
  let b := s.exitBlock k railsOk
  if b ≠ 0 then s.setFlds k 0 [(F.REG_SAFE_STATUS_EXIT_REJECT, 1), (F.REG_SAFE_STATUS_BLOCK, b)] else
  let s1 := if (s.stk k).pw.memFault then dropMemory s k else s
  let s2 := s1.modStk k (fun x => { x with pw := { x.pw with railOk := [true, true, true, true] }, stkNext := some .asPackage, safeEntry := false })
  let s3 := s2.setFlds k 0 [(F.REG_SAFE_STATUS_SAFE, 0), (F.REG_SAFE_STATUS_BY_HALT, 0), (F.REG_SAFE_STATUS_EXIT_REJECT, 0),
    (F.REG_SAFE_STATUS_BLOCK, 0)]
  leaveT4 (reloadPackage (leaveSelfRefresh s3 k false) k) k

/-- SAFE_EXIT (R462). -/
def execSafeExit (_src : Source) (k : Nat) (v : Reg32) (railsOk : Bool) (s : State) : Out :=
  .next (if s.winOk k then writeSafeCtrl s k v.toNat railsOk else s)

end Sys2Proof.Machine
end

