-- ==== Sys2Proof/Machine/Power.lean ====
section
/-! DEFINITION. The input supply, tiles and rails (R407 to R413), and the PWR page (R421 to R424). -/

namespace Sys2Proof.Machine

/-- Tile k takes a VIN sample: the latest, the lowest since start, and each source's minimum (R421). -/
def sampleTile (s : State) (k mv : Nat) : State :=
  let v := min 65535 mv
  s.modStk k (fun x => { x with pw := { x.pw with
    vinMv := v, vinLow := min x.pw.vinLow v, vinMin := x.pw.vinMin.map (fun e => (e.1, min e.2 v)) } })

/-- The cap is in force and the tile of stack k samples below 6.0 V for the first time: it is reported there (R408, R423). -/
def reportCap (s : State) (k mv : Nat) : State :=
  if mv < 6000 ∧ (s.stk k).pw.capReported = false then
    (s.modStk k (fun x => { x with pw := { x.pw with capReported := true } })).report k K.PWR_VIN_CAP 0 0 0
  else s

/-- The supply cap engages: counted in every stack (R408, R424). -/
def engageCap (s : State) : State := forStacks { s with supplyCap := true } (fun s k => s.count k .pwr 0 0 1)

/-- VIN_SAMPLE: one sample per tile; any below 6.0 V caps the running level; frames with every sample at 6.2 V or more are
counted for the lift (R407, R408). -/
def execVinSample (mv : List Nat) (s : State) : Out :=
  .next (if s.mode == .off || mv.length != s.n then s else
    let s1 := forStacks s (fun s k => sampleTile s k (mv.getD k 0))
    let low := mv.any (fun v => decide (v < 6000))
    let s2 := if low && !s1.supplyCap then engageCap s1 else s1
    let s3 := if s2.supplyCap then forStacks s2 (fun s k => reportCap s k (mv.getD k 0)) else s2
    { s3 with supplyOk := if mv.all (fun v => decide (6200 ≤ v)) then s3.supplyOk + 1 else 0 })

/-- SUPPLY_CAP_LIFT: 1,024 consecutive frames at 6.2 V or more (R407). -/
def execSupplyCapLift (s : State) : Out :=
  .next (if s.supplyCap && decide (1024 ≤ s.supplyOk) then
    forStacks { s with supplyCap := false } (fun s k => s.modStk k (fun x => { x with pw := { x.pw with capReported := false } }))
  else s)

/-- UVLO: VIN falls below 4.2 V; the package is OFF and UVLO is latched (R407, R412). -/
def execUvlo (s : State) : Out :=
  .next (if s.mode == .off then s else (let s1 := powerOff (latchAll s 2)
    { s1 with pmbus := { s1.pmbus with uvFault := true } }))

/-- OVP: VIN rises above 19 V; the package is OFF, OVP is latched, and the start waits for OVP_RESTART (R407, R412). -/
def execOvp (s : State) : Out :=
  .next (if s.mode == .off then s else
    let s1 := powerOff (latchAll s 4)
    { s1 with pins := { s1.pins with ovpHeld := true }, pmbus := { s1.pmbus with ovFault := true } })

/-- VIN_BELOW_3V: the latch of tile k forgets, with BST_LAST (R412, R422, R488). -/
def execVinBelow3v (k : Nat) (s : State) : Out :=
  .next (if s.mode == .off && decide (k < s.n) then
    { s with pins := { s.pins with vinAbove3 := false } }.modStk k (fun x => { x with latches := Latch.reset })
  else s)

/-- IVR_FAULT: a rail outside its window for more than 2 µs; a memory rail's fault takes the memory contents with it, and
the memory rails go off once SAFE entry is complete (R412). The voltage that the monitor then reads is a free value. (DESIGN CHOICE, notes/assumptions/1.md) -/
def execIvrFault (k rail : Nat) (s : State) : Out :=
  .next (if s.mode == .off || !decide (k < s.n) || !decide (rail < 4) then s else
    let d := s.draw
    let off := decide (0 < rail) && s.inSafe k && !(s.stk k).safeEntry
    let s1 := d.2.modStk k (fun x => { x with pw := { x.pw with
      railMv := x.pw.railMv.set rail (d.1 % 65536)
      railOk := x.pw.railOk.set rail false
      memFault := x.pw.memFault || decide (0 < rail)
      railsRun := x.pw.railsRun && !off } })
    (s1.count k .pwr 0 3 1).report k K.PWR_IVR_FAULT 0 0 0)

/-- TILE_ILIMIT: a tile held at its input limit for more than 8 µs; T3 from the next tick (R412, R417). -/
def execTileIlimit (k : Nat) (s : State) : Out :=
  .next (if s.mode == .off || !decide (k < s.n) then s else
    let s1 := if (s.stk k).pw.ilimit then s else s.count k .pwr 0 1 1
    (s1.modStk k (fun x => { x with pw := { x.pw with ilimit := true, ilimitT3 := true, ilimitFree := 0 } })).report
      k K.PWR_ILIMIT 0 0 0)

/-- ILIMIT_T3_END: the tile has not reached its limit for 1,024 frames (R412). -/
def execIlimitT3End (k : Nat) (s : State) : Out :=
  .next (let p := (s.stk k).pw
    if p.ilimitT3 && decide (1024 ≤ p.ilimitFree) then s.modStk k (fun x => { x with pw := { x.pw with ilimitT3 := false } }) else s)

/-- BROWNOUT of stack k's 1.2 V output, in any mode but OFF: the package resets and retention is lost; the cause is latched
as BROWNOUT there and as PKG_RESET in the other stacks (R412, R422). (DEDUCED, notes/assumptions/55.md) -/
def execBrownout (k : Nat) (s : State) : Out :=
  .next (if s.mode == .off || !decide (k < s.n) then s else
    let bits : BitVec 6 := if s.mode = .retain then 0x28 else 0x08
    let s1 := forStacks s (fun s j => latchCause s j (if j = k then bits else 0x10))
    powerOff (s1.modStk k (fun x => { x with latches := { x.latches with brownNew := true } })))

/-- A read of PWR_VIN: the source's minimum and the latest sample; the minimum starts again (R421). -/
def readPwrVin (s : State) (k : Nat) (src : Source) : Nat × State :=
  let p := (s.stk k).pw
  (mget p.vinMin (Source.code src) p.vinLow * 2 ^ 16 + p.vinMv,
   s.modStk k (fun x => { x with pw := { x.pw with vinMin := mset x.pw.vinMin (Source.code src) 0xFFFF } }))

/-- PWR_VIN_READ (R421). -/
def execPwrVinRead (src : Source) (k : Nat) (s : State) : Out :=
  .next (if s.winOk k then
    let r := readPwrVin s k src
    { r.2 with mgmtOut := (BitVec.ofNat 32 r.1, stOk) } else { s with mgmtOut := (0, stStackReset) })

/-- PWR_STATUS (R421). -/
def pwrStatus (s : State) (k : Nat) : Nat :=
  let p := (s.stk k).pw
  p.tileMode * 16 + b2n p.ilimitT3 * 8 + b2n p.ilimit * 4 + b2n s.supplyCap * 2 + b2n (p.railOk.all (· == true) && p.railsRun)

/-- PWR_RAIL of the selected rail; a memory rail that is off reads 0 (R421). -/
def pwrRail (s : State) (k : Nat) : Nat :=
  let p := (s.stk k).pw
  let r := s.fld k 0 F.PWR_RAIL_SEL_RAIL
  if 0 < r ∧ p.railsRun = false then 0 else b2n (p.railOk.getD r false) * 2 ^ 16 + p.railMv.getD r 0 % 65536

end Sys2Proof.Machine
end

