-- ==== Sys2Proof/Machine/SelfTest.lean ====
section
/-! DEFINITION. Self-test (R485 to R492). Phases: 1 SAVE, 2 SRAM, 3 ANALOG, 4 LOGIC, 5 RESTORE, 6 RECORD; TEST codes as
BST_FAIL.TEST. -/

namespace Sys2Proof.Machine

/-- Changes the self-test engine of stack k. -/
def State.modBst (s : State) (k : Nat) (f : Bst → Bst) : State := s.modStk k (fun x => { x with bst := f x.bst })

/-- Why a GO is rejected, in the order of R485; 0 accepts it. -/
def State.bstReject (s : State) (k sel : Nat) : Nat :=
  let x := s.stk k
  let usable := ((List.range 32).filter (fun c => !(x.ch c).unusable)).length
  if x.mode ≠ .maintenance then 1
  else if x.bst.phase ≠ 0 then 2
  else if x.otp.lifecycle = 4 then 3
  else if sel = 0 then 5
  else if usable < s.part.saveNeeds then 4
  else 0

/-- A phase takes time in a self-test with this SEL (R486). -/
def phaseRuns (sel phase : Nat) : Bool :=
  match phase with
  | 2 => bitAt sel 0
  | 3 => bits sel 5 2 != 0
  | 4 => bitAt sel 1
  | _ => true

/-- The next phase that runs. -/
def nextPhase (sel phase : Nat) : Nat :=
  match [2, 3, 4, 5, 6].find? (fun p => decide (phase < p) && phaseRuns sel p) with | some p => p | none => 0

/-- SerDes loopback takes every port but the one that supplies the reference out of ACTIVE, into TEST (R330, R486). (DEDUCED, notes/assumptions/50.md) -/
def loopPorts (s : State) (k : Nat) : State :=
  let s1 := if s.ref.srcStack = k then s.setFld k 0 F.BST_NOT_RUN_SOURCE_PORT 1 else s
  forN 4 s1 (fun s i =>
    let p := 4 * k + i
    if p = s.ref.port ∨ (s.prt p).unusable then s
    else setPortState (if (s.prt p).wasActive then linkReset s p else s) p .test)

/-- A phase begins. -/
def enterPhase (s : State) (k phase : Nat) : State :=
  let s1 := (s.modBst k (fun b => { b with phase := phase })).setFld k 0 F.BST_STATUS_PHASE phase
  let sel := (s.stk k).bst.sel
  if phase = 3 ∧ bitAt sel 3 then loopPorts s1 k
  else if phase = 4 ∧ k = s.agg ∧ !((List.range s.n).all (fun j => j == k || (s.stk j).mode == .maintenance)) then
    s1.setFld k 0 F.BST_NOT_RUN_FRAME_TIMER 1
  else s1

/-- An accepted GO: the SAVE phase begins (R485, R486). -/
def startTest (s : State) (k v : Nat) : State :=
  let s1 := (s.setRaw k .bst 0 0x104 0).setRaw k .bst 0 0x114 0
  let s2 := s1.modBst k (fun b => { b with
    sel := bits v 5 0, mode := bitAt v 29, noBurn := bitAt v 28, cancelPend := false, fails := [], saveValid := false, saveAt := [], saveTiles := [], t4Pend := false })
  enterPhase ((s2.setFld k 0 F.BST_STATUS_BUSY 1).count k .bst 0 0 1) k 1

/-- CANCEL: the phase stops, or the next that can; ignored from RESTORE on (R490). -/
def cancelTest (s : State) (k : Nat) : State :=
  s.modBst k (fun b => if 1 ≤ b.phase ∧ b.phase ≤ 4 then { b with cancelPend := true } else b)

/-- A write of BST_CTRL (R485, R491). -/
def writeBstCtrl (s : State) (k v : Nat) : State :=
  let s1 := s.setFlds k 0 [(F.BST_CTRL_MODE, bits v 29 29), (F.BST_CTRL_NO_BURN, bits v 28 28), (F.BST_CTRL_LOGIC_SET, bits v 9 8),
    (F.BST_CTRL_SEL, bits v 5 0)]
  let s2 := if !bitAt v 31 then s1 else
    let why := s1.bstReject k (bits v 5 0)
    if why ≠ 0 then s1.setFlds k 0 [(F.BST_STATUS_REJECTED, 1), (F.BST_STATUS_REJECT_WHY, why)] else startTest s1 k v
  if bitAt v 30 then cancelTest s2 k else s2

/-- BST_REQUEST: GO with MODE 0 (R485). -/
def execBstRequest (_src : Source) (k : Nat) (v : Reg32) (s : State) : Out :=
  .next (if s.winOk k && bitAt v.toNat 31 && !bitAt v.toNat 29 then writeBstCtrl s k v.toNat else s)

/-- BST_SHUTDOWN: GO with MODE 1 (R489). -/
def execBstShutdown (_src : Source) (k : Nat) (v : Reg32) (s : State) : Out :=
  .next (if s.winOk k && bitAt v.toNat 31 && bitAt v.toNat 29 then writeBstCtrl s k v.toNat else s)

/-- BST_CANCEL (R490). (DEDUCED, notes/assumptions/63.md) -/
def execBstCancel (_src : Source) (k : Nat) (v : Reg32) (s : State) : Out :=
  .next (if s.winOk k && bitAt v.toNat 30 then writeBstCtrl s k v.toNat else s)

/-! ### Phases -/

/-- End of SAVE: the Vitrine is flushed and invalidated, accumulators spill, parity lines are dropped, the save image is
written over the usable channels with its header last, in the lowest, and the dies enter self-refresh (R486, R487). -/
def endSave (s : State) (k : Nat) : State :=
  let s1 := ((s.stk k).lines.filter (fun y => !y.parity)).foldl (fun s y => flushLine s k Who.sealer y) s
  let s2 := s1.modStk k (fun x => { x with lines := [], chans := x.chans.map (fun c => { c with accs := [] }) })
  let x := s2.stk k
  (setSelfRefresh s2 k true).modBst k (fun b => { b with
    saveValid := true, saveAt := pick 32 (fun c => !(x.ch c).unusable), saveTiles := x.tiles })

/-- The tests that can find a failing block of a KIND: every kind but the NDU holds SRAM that the SRAM phase marches over (R486,
R488). -/
def testsOf (kind : Nat) : List Nat :=
  match kind with | 1 => [1, 2, 3] | 2 => [1, 2] | 3 => [1, 2, 4] | 4 => [2] | 5 => [1, 2, 5] | 6 => [1, 2, 6] | _ => []

/-- A failure that a phase may report: a test of its KIND that this phase runs under SEL (R486, R488, R491). -/
def findingOk (sel phase : Nat) (f : BstFinding) : Bool :=
  let run := fun t b => f.test == t && bitAt sel b
  (testsOf f.kind).contains f.test && decide (f.inst < (if f.kind = 3 then 4 else 32)) &&
  (match phase with
   | 2 => run 1 0
   | 3 => run 3 2 || run 4 3 || run 5 4 || run 6 5
   | 4 => run 2 1
   | _ => false)

/-- A failure found: listed and counted; a block of KIND 1 to 4 is unusable at once, and is not tested again; a failure that is not
critical is reported (R480, R488). -/
def findFailure (s : State) (k : Nat) (f : BstFinding) : State :=
  if s.isUnusable k f.kind f.inst then s else
  let s1 := (s.modBst k (fun b => if b.fails.length < 64 then { b with fails := b.fails ++ [(f, false)] } else b)).setFld
    k 0 F.BST_STATUS_FAILS (satAdd 255 (s.fld k 0 F.BST_STATUS_FAILS) 1)
  if f.kind ≤ 4 then (makeUnusable s1 k f.kind f.inst).report k K.BST_BLOCK_FAIL 0 0 f.inst
  else if f.kind = 6 then s1.report k K.BST_BLOCK_FAIL 0 0 0
  else s1

/-- A critical failure was found. -/
def Bst.critical (b : Bst) : Bool := b.fails.any (fun e => e.1.kind == 5)

/-- End of RESTORE: the image is restored, the dies leave self-refresh with a tracking pass, the ports that were in loopback
retrain; critical failures and a T4 are reported (R486, R488, R490). -/
def endRestore (s : State) (k : Nat) : State :=
  let b := (s.stk k).bst
  let s1 := leaveSelfRefresh (restoreTiles s k) k true
  let s2 := forN 4 s1 (fun s i => if (s.prt (4 * k + i)).lstate == .test then enterDetect s (4 * k + i) else s)
  let s3 := if b.critical then
      (s2.modStk k (fun x => { x with latches := { x.latches with critFail := true } })).report k K.BST_CRIT_FAIL 0 0 0 else s2
  if b.t4Pend then (s3.modBst k (fun b => { b with t4Pend := false })).report k K.THM_T4 0 0 0 else s3

/-- The lifecycle state permits HEALTH programming (R437): BLANK, SHIPPED and FIELD. -/
def mayBurnHealth (lc : Nat) : Bool := lc == 0 || lc == 2 || lc == 3

/-- A slot that names a block, with its check nibble (R435). -/
def healthSlot (kind inst test : Nat) : Nat :=
  let v := kind * 2 ^ 13 + inst * 2 ^ 8 + test * 16
  v + healthCheck v

/-- Burns the slot of one failing block, which then marks the block's pages; a slot that already names it does so too (R83, R488). -/
def burnSlot (s : State) (k i : Nat) (f : BstFinding) : State :=
  let o := (s.stk k).otp
  let named := (List.range 256).any (fun j =>
    let v := o.health j
    healthOk v && bits v 15 13 == f.kind && bits v 12 8 == f.inst)
  if named then markPages s k f.kind f.inst else
  match (List.range 256).find? (fun j => o.health j == 0) with
  | none => s.report k K.BST_HEALTH_FULL 0 0 0
  | some j =>
    let b := freeBurn s
    let r := burnWords b.2 k [(1384 + j / 2, healthSlot f.kind f.inst f.test * 2 ^ (16 * (j % 2)))] b.1
    if r.1 then
      let s1 := r.2.modBst k (fun b => { b with fails := b.fails.modify i (fun e => (e.1, true)) })
      let s2 := markPages s1 k f.kind f.inst
      (s2.setFld k 0 F.BST_STATUS_BURNS (satAdd 255 (s2.fld k 0 F.BST_STATUS_BURNS) 1)).count k .bst 0 3 1
    else r.2

/-- End of RECORD: HEALTH slots are burned, the result stands, and BST_DONE pulses; a SHUTDOWN self-test leaves the dies in
self-refresh and the ports in electrical idle (R486, R488, R489). (DEDUCED, notes/assumptions/63.md) -/
def endRecord (s : State) (k : Nat) : State :=
  let b := (s.stk k).bst
  let burn := !b.noBurn && mayBurnHealth (s.stk k).otp.lifecycle
  let s1 := if burn then (b.fails.zipIdx).foldl (fun s e => if e.1.1.kind ≤ 4 then burnSlot s k e.2 e.1.1 else s) s else s
  let cancelled := s.flag k 0 F.BST_STATUS_CANCELLED
  let pass := b.fails.isEmpty && !cancelled
  let s2 := s1.modStk k (fun x => { x with
    bst := { x.bst with phase := 0, cancelPend := false, saveValid := false, saveAt := [], saveTiles := [], shutdown := b.mode }
    latches := { x.latches with
      critFail := b.critical
      lastPass := (if cancelled then x.latches.lastPass else b.fails.isEmpty) } })
  let s3 := s2.setFlds k 0 [(F.BST_STATUS_BUSY, 0), (F.BST_STATUS_DONE, 1), (F.BST_STATUS_PHASE, 0)]
  let s4 := (if pass then s3.count k .bst 0 1 1 else s3).event k .bst 0 0
  if !b.mode then s4 else forN 4 (setSelfRefresh s4 k true) (fun s i => enterDetect s (4 * k + i))

/-- BST_PHASE_DONE: a phase ends with the failures it found, and the next one begins; a pending CANCEL goes on with RESTORE
(R486, R490). (DEDUCED, notes/assumptions/63.md) -/
def execBstPhaseDone (k : Nat) (fails : List BstFinding) (s : State) : Out :=
  .next (let b := (s.stk k).bst
    if b.phase = 0 ∨ s.n ≤ k then s else
    let s1 := match b.phase with
      | 1 => endSave s k
      | 5 => endRestore s k
      | 6 => endRecord s k
      | _ => (fails.filter (findingOk b.sel b.phase)).foldl (fun s f => findFailure s k f) s
    if b.phase = 6 then s1
    else if b.phase ≤ 4 ∧ b.cancelPend then
      enterPhase (((s1.modBst k (fun b => { b with cancelPend := false })).setFld k 0 F.BST_STATUS_CANCELLED 1).count k .bst 0 2 1) k 5
    else enterPhase s1 k (nextPhase b.sel b.phase))

/-- BST_FAIL of the selected entry (R491). -/
def bstFail (s : State) (k : Nat) : Nat :=
  match (s.stk k).bst.fails[s.fld k 0 F.BST_FAIL_SEL_INDEX]? with
  | some e => 2 ^ 31 + e.1.kind % 8 * 2 ^ 28 + e.1.inst % 32 * 2 ^ 23 + e.1.test % 8 * 2 ^ 20 + b2n e.2 * 2 ^ 19
  | none => 0

/-- BST_LAST (R491). -/
def bstLast (s : State) (k : Nat) : Nat := b2n (s.stk k).latches.critFail * 2 ^ 31 + b2n (s.stk k).latches.lastPass * 2 ^ 30

end Sys2Proof.Machine
end

