-- ==== Sys2Proof/Machine/Tick.lean ====
section
/-! DEFINITION. The frame tick (R35 to R43, R50, R142, R144, R156, R159, R165, R167, R330, R391 to R394) and the application
of TIME_SYNC (R42, R54). -/

namespace Sys2Proof.Machine

/-! ### Which stacks tick -/

/-- The reference runs and the package ticks (R35, R42, R53, R386, R394): from the lock of the first stack on; not in RETAIN
or LOST before the wake; in RETAIN entry for 18 whole frames. (DEDUCED, notes/assumptions/35.md) (DEDUCED, notes/assumptions/37.md) -/
def State.ticking (s : State) : Bool :=
  match s.mode with
  | .off | .retain => false
  | .starting => (List.range s.n).any (fun k => decide (6 ≤ (s.stk k).doc.bootStep))
  | .active | .idle => true
  | .enteringRetain => decide (s.now s.agg < s.retainAt + 18)
  | .leavingRetain | .lost => s.modeNext == some .active

/-- Stack k takes the tick: its PLLs have locked at start, and the reference reaches it (R477, R511). -/
def State.stackTicks (s : State) (k : Nat) : Bool := decide (6 ≤ (s.stk k).doc.bootStep) && s.inPart k

/-! ### Short events (R167) -/

/-- A location lies on a pseudo-channel of stack k. -/
def Loc.onPc (l : Loc) (k c i : Nat) : Bool := l.stack == k && l.ch == c && l.pc == i

/-- A request-table entry is pending at a pseudo-channel. -/
def State.pendsAt (s : State) (k c i : Nat) (e : Entry) : Bool :=
  e.done.isNone && (match e.gth with
    | some g => g.todo.any (s.elemAt k (fun l => l.onPc k c i))
    | none => !isDesc e.req.op && e.req.op != 0x09 && (s.reqLocs k e.req).any (fun l => l.onPc k c i))

/-- Class c is short on a pseudo-channel in the frame that ends (R167). -/
def State.shortOn (s : State) (k ch pc c : Nat) : Bool :=
  let p := (s.stk k).ch ch |>.pc pc
  let r := s.res k c
  let mine := (s.stk k).table.filter (fun e => e.req.cls == c && s.pendsAt k ch pc e)
  let taken := mget p.forcedTaken c 0
  decide (mget p.used c 0 < r) &&
  (mine.any (fun e => e.inRes && decide (0 < e.seen)) ||
   (decide ((s.stk k).budget.getD c 0 < r) && (!mine.isEmpty || p.asked.contains c)) || decide (0 < taken))

/-- The short events of a stack in the frame that ends: reported by its Registrar, applied to every SCH copy later (R168,
R510). -/
def shortEvents (s : State) (k : Nat) : State :=
  if !s.serving || s.inSafe k || s.inReset k || s.demand k == 0 then s else
  let all := (List.range 32).flatMap (fun ch => (List.range 2).flatMap (fun pc => (List.range 4).map (fun c => (ch, pc, c))))
  (all.filter (fun e => s.shortOn k e.1 e.2.1 e.2.2)).foldl (fun s e =>
    let s1 := s.report k K.SCH_MISS_SHORT 0 e.2.1 0
    let m : Miss := { late := false, stack := k, ch := e.1, pc := e.2.1, cls := e.2.2, frame := s.frame k % 65536, label := 0 }
    { s1 with miss := s1.miss ++ [m] }) s

/-! ### Counters and timers of a stack -/

/-- The frame counter and the local ticks: the first tick of a start reads 0 (R52); a stack that the comparison or a reset
marked takes the aggregator's value (R39, R484). The first tick after a stop adds nothing (R53); the counter saturates (R82). -/
def Timer.tick (t : Timer) (aggNext : Nat) (after : Bool) : Timer :=
  if after then { t with align := false }
  else { t with
    frame := (if t.align then aggNext else if t.ticks = 0 then t.frame else satAdd cntMax t.frame 1), ticks := t.ticks + 1, align := false }

/-- A request at a tick: one local tick less to its deadline, and n frames more of waiting (R43, R113, R142). -/
def Req.tick (r : Req) (n : Nat) : Req := { r with dlTicks := r.dlTicks - 1, wait := r.wait + n }

/-- A request-table entry at a tick: the deadline counts on until the completion has entered RSP egress; the wait ends with the
service (R142, R164, R166). -/
def Entry.tick (e : Entry) : Entry :=
  if e.done.isSome then { e with req := e.req.tick 0 } else { e with req := e.req.tick 1, seen := e.seen + 1 }

/-- Slots of the frame that a pseudo-channel has used, those that work of the frame before took included. -/
def PChan.slotsUsed (p : PChan) : Nat := p.carry + p.winTotal + p.turnUsed + (p.used.map (·.2)).sum

/-- A pseudo-channel at a tick: the accounting of a frame of n slots ends and begins anew, and what went beyond it is taken from the
next; targeted refreshes wait one frame more, but not in a pause; write-backs age (R36, R142, R245, R254). -/
def PChan.tick (n : Nat) (p : PChan) : PChan :=
  { p with
    used := [], forcedTaken := [], win := [], turnUsed := 0, asked := []
    carry := p.slotsUsed - n
    quiet := (if p.used.isEmpty then p.quiet + 1 else 0)
    banks := p.banks.map (fun e => (e.1, { e.2 with refs := 0, acts := 0 }))
    wbq := p.wbq.map (fun y => { y with wait := y.wait + 1 })
    targeted := (if p.paused then p.targeted else p.targeted.map (fun t => { t with age := t.age + 1 })) }

/-- CTL_DLY writes take effect (R252), and a frame of n slots ends on both pseudo-channels. -/
def Chan.tick (n : Nat) (c : Chan) : Chan :=
  let c1 := c.dlyPend.foldl (fun c e => c.modPc (e.1 / 64) (fun p => p.setDelay (e.1 % 64) e.2.toNat)) c
  { c1 with dlyPend := [], pcs := c1.pcs.map (PChan.tick n) }

/-- The refresh phase of every SID after one frame more of the interval in force (R240, R243). -/
def Stack.phases (x : Stack) : List Nat :=
  (List.range 4).map (fun i => x.refPhase.getD i 0 + phaseStep (x.sidIv.getD i 0))

/-- What the window's slots of the new frame pay of work begun before, in priority order, but not in a pause (R49, R254). -/
def payOwed (s : State) (k ch pc : Nat) : State :=
  if !s.pcRuns k ch pc || (s.pcOf k ch pc).owed.isEmpty then s else
  [2, 3, 4, 5, 6].foldl (fun s a => s.modPc k ch pc (fun p => s.payWindow k p a)) s

/-- f on every pseudo-channel of a stack. -/
def forPcs (s : State) (k : Nat) (f : State → Nat → Nat → Nat → State) : State :=
  forN 32 s (fun s ch => f (f s k ch 0) k ch 1)

/-- Waiting requests, channels and the input limit of a stack at a tick; the first tick after a stop is no local tick (R53).
(DEDUCED, notes/assumptions/49.md) -/
def tickStack (s : State) (k aggNext : Nat) : State :=
  let after := s.afterStop
  let n := s.slotsNow k
  let go := s.refreshes k && !after
  s.modStk k (fun x =>
    { x with
      tm := x.tm.tick aggNext after
      admQ := (if after then x.admQ else x.admQ.map (fun r => { r.tick 1 with admWait := r.admWait + 1 }))
      table := (if after then x.table else x.table.map Entry.tick)
      refPhase := (if go then x.phases else x.refPhase)
      chans := x.chans.map (Chan.tick n)
      scb := x.regs.filter (fun e => e.1 / 4096 == Page.index 0 .scb && decide (0x100 ≤ e.1 % 4096))
      pw := { x.pw with ilimitFree := (if x.pw.ilimit then 0 else x.pw.ilimitFree + 1) } })

/-- Free counts of a stack's frame: ring-oscillator cycles within 3 % of 400 MHz (R379, R406), gate requests deferred (R389; DESIGN
CHOICE, notes/assumptions/1.md). (DESIGN CHOICE, notes/assumptions/67.md) -/
def tickCounts (s : State) (k : Nat) : State :=
  let d1 := s.draw
  let s1 := d1.2.count k .clk 0 0 (496 + d1.1 % 33)
  let s2 := if (s1.stk k).pw.ilimitT3 then s1.count k .pwr 0 2 1 else s1
  let d2 := s2.draw
  if s2.fld k 0 F.CLK_GATE_DIS_DISABLE = 63 then s2 else d2.2.count k .clk 0 5 d2.1

/-- What a tick brings on a stack: the stack's mode, stages, tier and marks, calibrated records, pauses, the end of SAFE
entry (R243, R254, R392, R417, R442, R461). -/
def tickEvents (s : State) (k : Nat) : State :=
  let s1 := tickCal (tickThermal (tickStkMode s k) k) k
  safeStep2 (forN 32 s1 (fun s ch => tickPause s k ch)) k

/-! ### Ports -/

/-- A bucket takes its label's RATE, up to its depth (R159). -/
def tickBuckets (s : State) (p : Nat) : State :=
  let k := p / 4
  (s.prt p).buckets.foldl (fun s e =>
    let full := s.bucketFull k e.1
    s.modPort p (fun x => { x with buckets := mput x.buckets e.1 (min full (e.2 + s.rate k e.1)) full })) s

/-- A request in ingress at a tick: its wait begins anew while its bucket does not allow it, and stands still while its route waits
(R142, R366). -/
def tickIngress (s : State) (p : Nat) (r : Req) : Req :=
  if !s.bucketAllows p r then { r.tick 0 with wait := 0 }
  else match s.routeOf r with | .wait => r.tick 0 | _ => r.tick 1

/-- A port at a tick: waiting requests, forward records, responses without credit (R142, R147, R366, R370). The
first tick after a stop is no local tick (R53). -/
def tickPort (s : State) (p : Nat) : State :=
  if s.inReset (p / 4) || s.afterStop then s else
  let s1 := tickBuckets s p
  let s2 := s1.modPort p (fun x => { x with
    ingress := x.ingress.map (tickIngress s1 p)
    fwdRecs := x.fwdRecs.map (fun f => { f with age := f.age + 1 })
    rspStallFrames := (if x.rspOut.isEmpty then 0 else x.rspStallFrames + 1) })
  issueCredits s2 p

/-! ### The package -/

/-- ACTIVE begins: ports and the core domain wake (R393, R396). -/
def beginActive (s : State) : State :=
  let back := s.mode == .starting || s.mode == .lost
  let s1 := forN s.ports.length s (fun s p => if (s.prt p).lstate == .active then wakeTx s p else s)
  forStacks { s1 with mode := .active, modeNext := none, idleFrames := 0 } (fun s k =>
    if back then s else s.event k .clk 0 0)

/-- A pseudo-channel of a usable channel enters power-down, precharged, as IDLE begins (R248). -/
def powerDownPc (s : State) (k ch pc : Nat) : State :=
  let p := s.pcOf k ch pc
  if p.selfRefresh || p.powerDown then s
  else (s.modPc k ch pc (fun p => { p.precharge with powerDown := true })).count k .ctl ch 6 1

/-- IDLE begins: every active port with nothing to send parks, every pseudo-channel enters power-down (R248, R323, R392, R393). -/
def beginIdle (s : State) : State :=
  let s1 := forN s.ports.length s (fun s p =>
    let x := s.prt p
    if x.lstate == .active && x.quiet && !x.txParked && x.txEvent == 0 then park s p else s)
  forStacks { s1 with mode := .idle, modeNext := none } (fun s k =>
    ((forPcs s k powerDownPc).count k .clk 0 6 1).event k .clk 0 0)

/-- The package mode that the tick brings; RETAIN entry waits for a COMMIT or an OTP command that has begun meanwhile (R97, R392,
R443). (DEDUCED, notes/assumptions/54.md) -/
def tickMode (s : State) : State :=
  match s.modeNext with
  | none => s
  | some .active => beginActive s
  | some .idle => beginIdle s
  | some .enteringRetain =>
    if s.retainHeld then { s with modeNext := none, retainWant := true } else { s with mode := .enteringRetain, modeNext := none, retainAt := s.now s.agg }
  | some _ => { s with modeNext := none }

/-- The long frame that ends at the tick is counted (R42, R383). -/
def endLong (s : State) : State := if s.longFrame then { s with longFrame := false }.count 0 .tic 0 3 1 else s

/-- WAKE_N's low time runs out (R503). -/
def tickWakeN (s : State) : State :=
  if s.wakeLow = 0 then s
  else { s with wakeLow := s.wakeLow - 1, pins := { s.pins with wakeN := s.wakeLow == 1 } }

/-- The frame that ends: write-backs take the slots left, short events are judged, and the tick sends the events of the frame (R167,
R168, R237, R510). -/
def endFrame (s : State) (live : Nat → Bool) : State :=
  let s1 := forStacks s (fun s k => if live k then shortEvents (forPcs s k endFrameWbs) k else s)
  endLong (sendDue live s1)

/-- The capacity comparison of a tick (R165); where a confirmed COMMIT applies at this tick, COMMIT_APPLY makes it under the new values
(R92). -/
def tickCap (s : State) : State :=
  if s.commit.phase == .confirmed && s.commit.target == s.now s.agg then s else capCheck s

/-- A tick of the package; `force` is the number that the tick's frame takes by TIME_SYNC. -/
def tickAll (s : State) (force : Option Nat) : State :=
  let live := fun (s : State) k => s.stackTicks k
  let s1 := endFrame s (live s)
  let after := s.afterStop
  let aggNext := match force with
    | some f => f | none => if after || s1.now s1.agg = 0 then s1.frame s1.agg else satAdd cntMax (s1.frame s1.agg) 1
  let s2 := forStacks s1 (fun s k => if live s k then tickCounts (tickStack s k aggNext) k else s)
  let s3 := match force with
    | some f => forStacks s2 (fun s k => if live s k then s.modStk k (fun x => { x with tm := { x.tm with frame := f } }) else s)
    | none => s2
  let s4 := { s3 with transit := (if after then s3.transit else s3.transit.map (fun r => r.tick 1)), idleFrames := s3.idleFrames + 1 }
  let s5 := forN (4 * s4.n) (tickWakeN (tickRef (tickLevel (tickMode s4)))) tickPort
  let s6 := forStacks { s5 with afterStop := false } (fun s k =>
    if live s k then forPcs (setBudget (tickEvents s k) k) k payOwed else s)
  updThermN (tickCap (splitStacks s6))

/-- FRAME_TICK. While an accepted TIME_SYNC waits, the natural tick is suppressed: TIME_SYNC_APPLY is the tick (R42). -/
def execFrameTick (s : State) : Out := .next (if s.ticking && s.sync.isNone then tickAll s none else s)

/-- TIME_SYNC_APPLY: the tick of the frame that the accepted TIME_SYNC names; the first since a wake ages the timers of R43
by the counter's step, and sets TIME_VALID (R42, R43, R54). -/
def execTimeSyncApply (s : State) : Out :=
  .next (match s.sync with
    | none => s
    | some y =>
      if !s.ticking then s else
      let step := y - (s.frame s.agg + 1)
      let s1 := { s with sync := none }
      let s2 := if s1.timeEst then (ageAll s1 step).setCnt 0 .tic 0 4 step else s1
      { tickAll s2 (some y) with timeValid := true, timeEst := false })

end Sys2Proof.Machine
end

