-- ==== Sys2Proof/Machine/Tiles.lean ====
section
/-! DEFINITION. The commands of the tile-state map, sealer and scrubber (R275 to R287, R293 to R299) and the ADM probe
(R74). -/

namespace Sys2Proof.Machine

/-- SEAL_DELAY in frames (R298). -/
def State.sealDelay (s : State) (k : Nat) : Nat := max 16 (s.scbFld k F.SCB_SEAL_SEAL_DELAY)

/-- FORCE_LIMIT in frames (R281, R298). -/
def State.forceLimit (s : State) (k : Nat) : Nat := 1024 * max 1 (s.scbFld k F.SCB_SEAL_FORCE_LIMIT)

/-- Background work runs on stack k (R48, R461). -/
def State.background (s : State) (k : Nat) : Bool := decide (k < s.n) && s.serving && !s.unreach k

/-- Background work on a tile's pseudo-channel may run: it serves, so that no pause holds it (R254). -/
def State.tileServes (s : State) (k t : Nat) : Bool := s.background k && s.chanServes k (tileCh t) (tilePc t % 2)

/-- Work of the scrub-and-sealing share on a tile may run: all earlier work of the share has had its slots (R48, R49, R282). -/
def State.tileShare (s : State) (k t : Nat) : Bool := s.tileServes k t && s.windowFree k (tileCh t) (tilePc t % 2) 4

/-- Open-list entries due for a forced seal on the tile's pseudo-channel. -/
def forcedDue (s : State) (k t : Nat) : List OpenEnt :=
  (s.stk k).openList.filter (fun e => tilePc e.tile == tilePc t && decide (s.forceLimit k ≤ s.now k - e.since))

/-- Entries eligible for a normal seal on the tile's pseudo-channel. -/
def normalDue (s : State) (k t : Nat) : List OpenEnt :=
  (s.stk k).openList.filter (fun e => tilePc e.tile == tilePc t && decide (s.sealDelay k ≤ s.now k - e.last))

/-- A seal runs on the tile's pseudo-channel. -/
def sealBusy (s : State) (k t : Nat) : Bool := (s.stk k).seals.any (fun e => tilePc e.tile == tilePc t)

/-- A normal seal starts: the tile is eligible, no forced seal is due, and no eligible tile was written longer ago
(R281). -/
def execSeal (k tile : Nat) (s : State) : Out :=
  .next (match (normalDue s k tile).find? (fun e => e.tile == tile) with
    | some e =>
      if s.tileServes k tile && !sealBusy s k tile && (forcedDue s k tile).isEmpty &&
         (normalDue s k tile).all (fun d => decide (e.last ≤ d.last)) then
        s.modStk k (fun x => { x with seals := x.seals ++ [{ tile := tile, forced := false }] })
      else s
    | none => s)

/-- A forced seal starts: due, oldest OPEN_SINCE first; it takes over a normal seal of its pseudo-channel (R281, R284). -/
def execForcedSeal (k tile : Nat) (s : State) : Out :=
  .next (match (forcedDue s k tile).find? (fun e => e.tile == tile) with
    | some e =>
      if s.tileServes k tile && !(s.stk k).seals.any (fun d => tilePc d.tile == tilePc tile && d.forced) &&
         (forcedDue s k tile).all (fun d => decide (e.since ≤ d.since)) then
        s.modStk k (fun x => { x with
          seals := x.seals.filter (fun d => tilePc d.tile != tilePc tile) ++ [{ tile := tile, forced := true }] })
      else s
    | none => s)

/-- A word of a tile as the sealer reads it: a resident sector, else the dies (R212, R282); a poisoned word enters the
page code as marker data (R272). -/
def sealWord (acc : List Word × State) (k : Nat) (l : Loc) : List Word × State :=
  match (acc.2.stk k).sectorAt l with
  | some (v, p) => (acc.1 ++ [if p then markerData else v], acc.2)
  | none =>
    let r := fetch acc.2 k l Who.sealer
    (acc.1 ++ [if r.1.2 then markerData else r.1.1], r.2)

/-- Dirty data lines of a tile. -/
def tileLines (s : State) (k t : Nat) : List Line :=
  (s.stk k).lines.filter (fun y => (y.loc k 0).tile == t && !y.parity)

/-- The parity line of a tile, present: allocated by the sealer if it is absent; none while no way is eligible (R216). -/
def ensureParity (s : State) (k t : Nat) : Option State :=
  let l := s.parLineLoc k t
  if ((s.stk k).line l true).isSome then some s else alloc s k l true false Who.sealer

/-- The steps of a seal (R282): read, write back, parity, SEALED. -/
def sealTile (s : State) (k t : Nat) (forced : Bool) : State :=
  let l := s.parLineLoc k t
  let unusable := ((s.stk k).ch l.ch).viUnusable
  match (if unusable then some s else ensureParity s k t) with
  | none => s
  | some s0 =>
    let rd := (s0.tileLocs k t).foldl (fun acc l => sealWord acc k l) ([], s0)
    let s1 := (tileLines rd.2 k t).foldl (fun s y => writeBack s k y Who.sealer) rd.2
    let ps := pageParity rd.1
    let s2 := if unusable then
        ((s1.parLocs k t).zip ps).foldl (fun s lp => charge1 (s.putDie k lp.1 lp.2 false) k lp.1 Who.sealer true) s1
      else (ps.zipIdx).foldl (fun s pj => s.modLine k l true (fun y => y.put pj.2 pj.1 false true)) s1
    let s3 := (s2.modLine k l true (fun y => { y with pin := false })).setTile k t .sealed
    let s4 := (unlist s3 k t).modStk k (fun x => { x with seals := x.seals.filter (fun e => e.tile != t) })
    let s5 := s4.count k .scb 0 3 1
    if forced then s5.count k .scb 0 5 1 else s5

/-- A seal completes (R282): its slots come from the share, and what does not fit the frame waits for the next (R49). -/
def execSealComplete (k tile : Nat) (s : State) : Out :=
  .next (match (s.stk k).seals.find? (fun e => e.tile == tile) with
    | some e => if s.tileShare k tile && (s.stk k).tileSt tile == .opened then sealTile s k tile e.forced else s
    | none => s)

/-- Index of a tile in its channel's bank: pseudo-channel, bank group, SID, row, row fastest, over the SIDs of the part
(R280, R286). -/
def sweepIndex (sids t : Nat) : Nat :=
  let r := t / 32768
  (((r / 16) % 2 * 4 + (r / 4) % 4) * sids + r % 4) * 32768 + t % 32768

/-- One frame of a sweep: 1,024 tiles of every channel's bank (R286). -/
def execOpenListSweep (k : Nat) (s : State) : Out :=
  .next (let x := s.stk k
    if !x.overflow || !s.background k then s else
    let sids := s.part.sids
    let lo := x.sweepPos
    let found := (x.tiles.filter (fun e => e.2 == .opened && decide (lo ≤ sweepIndex sids e.1) &&
        decide (sweepIndex sids e.1 < lo + 1024) && !x.openList.any (fun o => o.tile == e.1))).map (·.1)
    let list := found.foldl (fun l t =>
      if (l.filter (fun e => tileCh e.tile == tileCh t)).length < 1024 then l ++ [{ tile := t, since := x.tm.ticks, last := x.tm.ticks }]
      else l) x.openList
    let dirty := x.sweepDirty || !found.isEmpty
    let last := decide (2 * 4 * sids * 32768 ≤ lo + 1024)
    s.modStk k (fun x => { x with
      openList := list, sweepPos := if last then 0 else lo + 1024, sweepDirty := if last then false else dirty,
      overflow := if last && !dirty then false else x.overflow }))

/-- Scrub's page check of a SEALED tile (R287). -/
def pageCheck (s : State) (k t : Nat) : State :=
  let locs := s.parLocs k t ++ s.tileLocs k t
  let vals := (locs.zipIdx).map (fun lj =>
    match (rebuildSource s k t lj.2 lj.1).getD (decodeWord (s.dieBytes k lj.1)) with
      | .clean v => v | .corrected v _ => v | _ => markerData)
  if pageClean (vals.drop 8) (vals.take 8) then s else
  match pageDecode (vals.drop 8) (vals.take 8) [] 4 with
  | some (ws, ps) =>
    let new := ps ++ ws
    let s1 := (locs.zipIdx).foldl (fun s lj =>
      if new.getD lj.2 0 = vals.getD lj.2 0 then s
      else charge1 (s.putDie k lj.1 (new.getD lj.2 0) false) k lj.1 Who.sealer true) s
    s1.report k K.SCB_PAGE_MISMATCH 0 0 (s.tileBase k t)
  | none => (turnOpen s k t Who.sealer).report k K.SCB_PAGE_MISMATCH 0 0 (s.tileBase k t)

/-- Tiles that scrub visits (R287). -/
def Stack.live (x : Stack) : List Nat := (x.tiles.filter (fun e => e.2 == .opened || e.2 == .sealed)).map (·.1)

/-- Patrol scrub visits one tile, after the seals of its pseudo-channel: words that are dirty in the slice, parity words included,
are not read from the dies (R212, R270, R287). -/
def execScrubTile (k tile : Nat) (s : State) : Out :=
  .next (if s.scbFld k F.SCB_CTRL_SCRUB_EN == 0 || !s.tileShare k tile || sealBusy s k tile || !(s.stk k).live.contains tile then s
    else
    let words := ((s.parLocs k tile ++ s.tileLocs k tile).zipIdx).filter (fun lj =>
      decide (8 ≤ lj.2) || (s.stk k).tileSt tile == .sealed)
    let s1 := words.foldl (fun s lj =>
      if (rebuildSource s k tile lj.2 lj.1).isSome then s else (fetch s k lj.1 Who.sealer).2) s
    let s2 := if (s1.stk k).tileSt tile = .sealed then pageCheck s1 k tile else s1
    let seen := tile :: (s2.stk k).scrubSeen
    if (s2.stk k).live.all seen.contains then
      ((s2.modStk k (fun x => { x with scrubSeen := [], scrubStart := x.tm.ticks })).count k .scb 0 6 1).event k .scb 0 0
    else s2.modStk k (fun x => { x with scrubSeen := seen }))

/-- A pass that has not finished when its period ends is recorded and continues (R287). -/
def execScrubLate (k : Nat) (s : State) : Out :=
  .next (let x := s.stk k
    let period := unitFrames * max 0x400 (s.scbFld k F.SCB_SCRUB_PERIOD_PERIOD)
    if s.scbFld k F.SCB_CTRL_SCRUB_EN == 1 && decide (period ≤ x.tm.ticks - x.scrubStart) && !x.live.isEmpty then
      (s.modStk k (fun x => { x with scrubStart := x.tm.ticks })).report k K.SCB_SCRUB_LATE 0 0 0
    else s)

/-- Sets one tile RETIRED, counting it (R279, R280). (DEDUCED, notes/assumptions/45.md) -/
def retireTile (s : State) (k t : Nat) : State :=
  if (s.stk k).tileSt t = .retired then s else ((unlist (dropSeal s k t) k t).setTile k t .retired).count k .tsm 0 2 1

/-- A scrub read of the tile-state map SRAM: group g holds tiles 32g to 32g + 31 (R280). -/
def execTsmMapScrub (k group : Nat) (err : Option Bool) (s : State) : Out :=
  .next (if s.scbFld k F.SCB_CTRL_SCRUB_EN == 0 || !s.background k || decide (tilesPerStack ≤ 32 * group) ||
      decide (s.part.sids ≤ (32 * group / 32768) % 4) then s else
    match err with
    | none => s
    | some false => (s.count k .tsm 0 3 1).report k K.TSM_SRAM_CE 0 0 (s.tileBase k (32 * group))
    | some true =>
      ((List.range 32).foldl (fun s i => retireTile s k (32 * group + i)) s).report k K.TSM_SRAM_UE 0 0
        (s.tileBase k (32 * group)))

/-- A deaccession acts on one tile: the state, and whether it changed (R279). RELEASE and REOPEN leave the tiles of an
unusable channel RETIRED (R480). -/
def deaccTile (act k : Nat) (acc : Nat × State) (t : Nat) : Nat × State :=
  let st := (acc.2.stk k).tileSt t
  if act ≠ 0 ∧ ((acc.2.stk k).ch (tileCh t)).unusable then acc else
  match act with
  | 0 => if st = .retired then acc else (acc.1 + 1, dropLines (dropAccs (retireTile acc.2 k t) k t) k t true)
  | 1 => if st = .retired then (acc.1 + 1, dropLines (dropAccs (acc.2.setTile k t .invalid) k t) k t true) else acc
  | _ => if st = .retired then (acc.1 + 1, turnOpen acc.2 k t Who.sealer) else acc

/-- A write of TSM_DEACC_CTRL (R279, R294): its ACTION takes its value; a GO while BUSY or with ACTION 3 is rejected. -/
def writeDeacc (s : State) (k v : Nat) : State :=
  let s0 := s.setFld k 0 F.TSM_DEACC_CTRL_ACTION (bits v 1 0)
  if !bitAt v 31 then s0
  else if s.flag k 0 F.TSM_DEACC_STATUS_BUSY || bits v 1 0 == 3 then s0.setFld k 0 F.TSM_DEACC_STATUS_REJECTED 1
  else
    let base := s.fld k 0 F.TSM_DEACC_BASE_LO_BASE_31_12 + s.fld k 0 F.TSM_DEACC_BASE_HI_BASE_39_32 * 2 ^ 20
      let x := (s0.spanTiles k base (s.fld k 0 F.TSM_DEACC_TILES_TILES)).foldl (deaccTile (bits v 1 0) k) (0, s0)
      x.2.setFlds k 0 [(F.TSM_DEACC_STATUS_BUSY, 1), (F.TSM_DEACC_STATUS_DONE, 0), (F.TSM_DEACC_STATUS_REJECTED, 0),
        (F.TSM_DEACC_STATUS_CHANGED, x.1)]

/-- A deaccession command: a write of TSM_DEACC_CTRL with GO 1 and its ACTION. -/
def deacc (s : State) (k act v : Nat) : State :=
  if s.winOk k && bitAt v 31 && bits v 1 0 == act then writeDeacc s k v else s

/-- RETIRE (R279). -/
def execRetire (_src : Source) (k : Nat) (v : Reg32) (s : State) : Out := .next (deacc s k 0 v.toNat)

/-- RELEASE (R279). -/
def execRelease (_src : Source) (k : Nat) (v : Reg32) (s : State) : Out := .next (deacc s k 1 v.toNat)

/-- REOPEN (R279). -/
def execReopen (_src : Source) (k : Nat) (v : Reg32) (s : State) : Out := .next (deacc s k 2 v.toNat)

/-- A deaccession completes: DONE, and DEACC_DONE pulses (R294). (DEDUCED, notes/assumptions/45.md) -/
def execDeaccDone (k : Nat) (s : State) : Out :=
  .next (if s.flag k 0 F.TSM_DEACC_STATUS_BUSY then
    (s.setFlds k 0 [(F.TSM_DEACC_STATUS_BUSY, 0), (F.TSM_DEACC_STATUS_DONE, 1)]).event k .tsm 0 0 else s)

/-- What TSM_QUERY_RES takes for the offset in the query registers (R293). -/
def tsmLookup (s : State) (k : Nat) : Nat :=
  let o := s.fld k 0 F.TSM_QUERY_LO_BASE_31_12 * 2 ^ 12 + s.fld k 0 F.TSM_QUERY_HI_BASE_39_32 * 2 ^ 32
  let l := s.locOf k o
  if s.backed o && l.stack == k then
    2 ^ 31 + b2n ((s.stk k).openList.any (fun e => e.tile == l.tile)) * 2 ^ 30 +
      (match (s.stk k).tileSt l.tile with | .invalid => 0 | .opened => 1 | .sealed => 2 | .retired => 3)
  else 0

/-- TSM_QUERY_RES: the result of the last write to a query register (R293). -/
def tsmQueryRes (s : State) (k : Nat) : Nat := s.raw k .tsm 0 0x108

/-- A write of TSM_QUERY_LO, or with hi of TSM_QUERY_HI, updates the result (R293). -/
def writeTsmQuery (s : State) (k : Nat) (hi : Bool) (v : Nat) : State :=
  let s1 := if hi then s.setFld k 0 F.TSM_QUERY_HI_BASE_39_32 (bits v 7 0)
    else s.setFld k 0 F.TSM_QUERY_LO_BASE_31_12 (bits v 31 12)
  s1.setRaw k .tsm 0 0x108 (tsmLookup s1 k)

/-- A write of TSM_QUERY_LO or TSM_QUERY_HI (R293). -/
def execTsmQuery (_src : Source) (k : Nat) (hi : Bool) (v : Reg32) (s : State) : Out :=
  .next (if !s.winOk k then s else writeTsmQuery s k hi v.toNat)

/-- A write of an ADM probe register: ADM_PROBE_LO, ADM_PROBE_HI or ADM_PROBE_CTRL (R74). -/
def execAdmProbe (_src : Source) (k off : Nat) (v : Reg32) (s : State) : Out :=
  .next (if !s.winOk k then s
    else if off = 0x200 then s.setFld k 0 F.ADM_PROBE_LO_OFFSET_31_0 v.toNat
    else if off = 0x204 then s.setFld k 0 F.ADM_PROBE_HI_OFFSET_39_32 (bits v.toNat 7 0)
    else if off = 0x208 then s.setFld k 0 F.ADM_PROBE_CTRL_USE_STAGED (bits v.toNat 0 0)
    else s)

/-- ADM_PROBE_RES0 and ADM_PROBE_RES1 (R74). -/
def admProbeRes (s : State) (k : Nat) : Nat × Nat :=
  let o := s.fld k 0 F.ADM_PROBE_LO_OFFSET_31_0 + s.fld k 0 F.ADM_PROBE_HI_OFFSET_39_32 * 2 ^ 32
  let l := decompose (s.masks k (s.flag k 0 F.ADM_PROBE_CTRL_USE_STAGED)) o
  (b2n (s.backed o) * 2 ^ 31 + l.stack * 2 ^ 15 + l.ch * 2 ^ 10 + l.pc * 2 ^ 9 + l.bg * 2 ^ 7 + l.bank * 2 ^ 5 + l.sid * 2 ^ 3,
   l.row * 2 ^ 5 + l.col)

end Sys2Proof.Machine
end

