-- ==== Sys2Proof/Machine/Regs.lean ====
section
/-! DEFINITION. The management address space and register reads: where an address leads (R75 to R78), the common page
layout (R79 to R89) and the read-only registers that report the state of their blocks. -/

namespace Sys2Proof.Machine

/-! ### Addresses (R75 to R78) -/

/-- Where a management address leads: the window (0 the package's, k + 1 stack k's), page, instance and offset. -/
structure Target where
  win  : Nat
  page : Page
  inst : Nat
  off  : Nat
  deriving DecidableEq, Repr

/-- The target of an address; none where the access completes with UNSUPPORTED: unaligned, past the last window, or an
unassigned page (R75). (DEDUCED, notes/assumptions/26.md) -/
def State.target (s : State) (a : Nat) : Option Target :=
  if a % 4 ≠ 0 ∨ 0x100000 * (s.n + 1) ≤ a then none else
  let w := a / 0x100000
  match (if w = 0 then pkgPageAt (a % 0x100000 / 4096) else stkPageAt (a % 0x100000 / 4096)) with
  | some p => some { win := w, page := p.1, inst := p.2, off := a % 4096 }
  | none => none

/-- The stack that answers: the source's own for the package window (R17), else the stack that the window names. -/
def State.holder (s : State) (src : Source) (t : Target) : Nat := if t.win = 0 then s.srcStack src else t.win - 1

/-- The holder can answer: its base die is not under reset (R76), and the source reaches it over the ring (R21, R511). (DEDUCED, notes/assumptions/26.md) -/
def State.answers (s : State) (src : Source) (t : Target) : Bool :=
  s.winOk (s.holder src t) && s.ringTo (s.srcStack src) (s.holder src t)

/-! ### The common layout -/

/-- Mask of a register's fields that an access-type test selects. -/
def fieldMask (l : List Fld) (p : Acc → Bool) : Nat :=
  l.foldl (fun m f => if p f.acc then m ||| ((2 ^ (f.hi + 1 - f.lo) - 1) <<< f.lo) else m) 0

/-- Mask of a page's live offset. -/
def maskAt (pg : Page) (off : Nat) (p : Acc → Bool) : Nat :=
  match specAt pg off with | some r => fieldMask r.flds p | none => 0

/-- BLOCK_CAP of a page of stack k (R81, and each page's own rule). -/
def State.blockCap (s : State) (k : Nat) (pg : Page) : Nat :=
  let hi := s.part.dies == 16
  match pg with
  | .sch => 0xC04 | .rte => 0x2000 + 4 * s.n | .stk => 0x2000
  | .thm => if hi then 0x1020 else 0xC20
  | .otp => 0x40 | .cal => 0x610 | .reg => 0x401000 | .bst => 0x40
  | .adm => s.part.width * 2 ^ 8 + s.part.sids * 2 ^ 4 + s.n
  | .tsm => if hi then 0x20 else 0x18
  | .scb => 0x400 | .vit => 0x1020 | .nxp => 0x200
  | .nxl => 0x108 + b2n (s.bPermitted k) * 2 ^ 9
  | .ctl => if hi then 0x4024 else 0x3024
  | .ndu => 0x2000 | .gth => 0x810
  | _ => 0

/-- PAGE_CAP (R81). -/
def State.pageCap (s : State) (k : Nat) (pg : Page) : Nat :=
  b2n pg.cap.1 * 2 ^ 31 + b2n pg.cap.2.1 * 2 ^ 30 + pg.cap.2.2 * 2 ^ 24 + s.blockCap k pg

/-- PAGE_ID.INSTANCE (R77, R78). -/
def pageInstance (pg : Page) (k i : Nat) : Nat :=
  match pg with | .nxp | .nxl | .ctl | .ndu => i | _ => if pg.isPkg then 0 else k

/-- The common registers of a page, below offset 0x100 (R79 to R86, R512). -/
def State.commonVal (s : State) (k : Nat) (pg : Page) (i off : Nat) : Nat :=
  if off = 0x00 then pg.blockType * 2 ^ 16 + pageInstance pg k i * 2 ^ 8 + 1
  else if off = 0x04 then s.pageCap k pg
  else if off = 0x08 then (if pg = .tic then 0 else s.raw k pg i 0x08 % 2)
  else if off = 0x0C then bits (s.raw k pg i 0x0C) 31 16 * 2 ^ 16 + bits (s.raw k pg i 0x0C) 1 1 * 2 + b2n (s.errPending k pg i)
  else if off = 0x10 then s.raw k pg i 0x10
  else if off = 0x14 then s.raw k pg i 0x14
  else if off = 0x18 then s.raw k pg i 0x18 % 65536
  else if off = 0x1C then s.raw k pg i 0x1C % 8
  else 0

/-- Counter c of a page as a read finds it; TIC counter 0 is the frame counter (R52, R60). -/
def State.counterVal (s : State) (k : Nat) (pg : Page) (i c : Nat) : Nat :=
  if pg = .tic ∧ c = 0 then s.frame k else s.cntVal k pg i c

/-! ### Registers that report a block's state -/

/-- Stacks for which p holds, as a map of bits. -/
def State.stackMap (s : State) (p : Nat → Bool) : Nat := (List.range s.n).foldl (fun a k => a + b2n (p k) * 2 ^ k) 0

/-- Part codes (R31, R506). -/
def Part.code : Part → Nat
  | .ax8h16 => 0xA816 | .ax4h16 => 0xA416 | .ax2h16 => 0xA216
  | .ax8h12 => 0xA812 | .ax4h12 => 0xA412 | .ax2h12 => 0xA212

/-- IDENTITY has failed its check in stack k, or holds no valid record (R31, R438). (DEDUCED, notes/assumptions/34.md) -/
def State.identBad (s : State) (k : Nat) : Bool :=
  (s.stk k).otp.checkFail.getD 1 false || ((s.stk k).otp.counts.getD 1 (0, 0, 0)).2.1 == 0

/-- PKG_STATUS and PKG_PART (R30, R31), read in stack k. -/
def roPkg (s : State) (k off : Nat) : Option Nat :=
  if off = 0x104 then some (s.agg * 2 ^ 29 + b2n s.halt.isSome * 2 ^ 28 + s.runLevel * 2 ^ 26 +
    s.stackMap s.inSafe * 2 ^ 16 + s.stackMap (fun j => (s.stk j).mode == .maintenance) * 2 ^ 8 + s.stackMap (fun _ => true))
  else if off = 0x108 then some ((if s.identBad k then 0 else s.part.code * 2 ^ 16) + b2n (s.lidA k) * 2 ^ 15 +
    s.n * 2 ^ 8 + s.part.dies)
  else none

/-- TIC_STATUS (R56). -/
def ticStatus (s : State) : Nat :=
  s.runLevel * 2 ^ 16 + b2n s.longFrame * 8 + b2n s.timeEst * 2 + b2n s.timeValid

/-- TIC_CAPj (R58): the slot counts are those of a frame in progress, and read their reset value 0 before the stack's first tick
(DESIGN CHOICE, notes/assumptions/72.md). -/
def ticCap (s : State) (j : Nat) : Nat :=
  if s.n ≤ j then 0 else
  let t := (s.stk j).tm
  if t.ticks = 0 then b2n t.halved * 2 ^ 30 + t.tier * 2 ^ 28 else
  b2n t.halved * 2 ^ 30 + t.tier * 2 ^ 28 + s.guarNow j * 2 ^ 17 + s.turnNow j * 2 ^ 9 + s.windowNow j

/-- TIC_STATUS and TIC_CAP. -/
def roTic (s : State) (off : Nat) : Option Nat :=
  if off = 0x104 then some (ticStatus s)
  else if 0x120 ≤ off ∧ off < 0x140 then some (ticCap s ((off - 0x120) / 4)) else none

/-- SCH_ADMIT_STATUS and SCH_GRES (R171, R172): CAPACITY reads its reset value 0 before the stack's first tick (DESIGN CHOICE,
notes/assumptions/72.md). -/
def roSch (s : State) (k off : Nat) : Option Nat :=
  if off = 0x108 then some ((if s.now k = 0 then 0 else
    guarSlots (s.fld k 0 F.PKG_PLEVEL_LEVEL) (s.admitTier k F.SCH_ADMIT_ADMIT_TIER)) * 2 ^ 16 + min 0xFFFF (s.demand k))
  else if 0x110 ≤ off ∧ off < 0x120 then some (min 0xFFFF (s.res k ((off - 0x110) / 4))) else none

/-- STK_STATUS.MODE (R32). -/
def stkModeCode (s : State) (k : Nat) : Nat :=
  if s.inSafe k then 3 else if (s.stk k).mode == .maintenance then 2
  else match s.mode with | .enteringRetain | .retain | .leavingRetain => 4 | .idle => 1 | _ => 0

/-- Ring link l is in service: not taken out, the ring is on, and both routers have their PLL output (R21, R25, R33). -/
def State.ringUpNow (s : State) (l : Nat) : Bool :=
  s.linkOk l && s.ringOn && (s.stk l).clk.fixPll == 2 && (s.stk ((l + 1) % s.n)).clk.fixPll == 2

/-- STK_ID, STK_STATUS and STK_RING (R32, R33). -/
def roStk (s : State) (k off : Nat) : Option Nat :=
  let x := s.stk k
  if off = 0x108 then some (s.sysId k)
  else if off = 0x10C then some (stkModeCode s k * 2 ^ 29 + b2n (s.aggChosen && s.agg == k) * 2 ^ 28 +
    x.table.length * 2 ^ 14 + x.admQ.length)
  else if off = 0x110 then some (b2n x.downFailed * 8 + b2n x.upFailed * 4 +
    b2n (s.ringUpNow ((k + s.n - 1) % s.n)) * 2 + b2n (s.ringUpNow k))
  else none

/-- CLK_STATUS and CLK_MODE_STATUS. -/
def roClk (s : State) (k off : Nat) : Option Nat :=
  if off = 0x104 then some (clkStatus s k) else if off = 0x118 then some (clkModeStatus s k) else none

/-- PWR_STATUS, PWR_TILE, PWR_RAIL and PWR_RESET_CAUSE (R421, R422). -/
def roPwr (s : State) (k off : Nat) : Option Nat :=
  let x := s.stk k
  if off = 0x100 then some (pwrStatus s k)
  else if off = 0x108 then some (x.pw.pin % 65536 * 2 ^ 16 + x.pw.iin % 65536)
  else if off = 0x110 then some (pwrRail s k)
  else if off = 0x120 then some x.latches.cause.toNat
  else none

/-- THM_STATUS, THM_SENSE and THM_SENSE_EST (R425). -/
def roThm (s : State) (k off : Nat) : Option Nat :=
  if off = 0x108 then some (thmStatus s k) else if off = 0x114 then some (thmSense s k)
  else if off = 0x118 then some (thmSenseEst s k) else none

/-- The read-only OTP registers (R443). -/
def roOtp (s : State) (k off : Nat) : Option Nat :=
  let o := (s.stk k).otp
  if off = 0x100 then some (otpStatus s k)
  else if off = 0x108 then some (otpRegionInfo s k)
  else if off = 0x10C then some (otpRegionCount s k)
  else if off = 0x114 then some (o.word (s.fld k 0 F.OTP_READ_ADDR_WORD))
  else if off = 0x118 then some (o.tight (s.fld k 0 F.OTP_READ_ADDR_WORD))
  else if off = 0x140 then some (o.nonce.toNat % 2 ^ 32)
  else if off = 0x144 then some (o.nonce.toNat / 2 ^ 32)
  else none

/-- CAL_INUSE and CAL_SOURCE (R446). -/
def roCal (s : State) (k off : Nat) : Option Nat :=
  if off = 0x114 then some (calInuse s k) else if off = 0x118 then some (calSource s k) else none

/-- The read-only REG registers; in any window but the aggregator's the MIR registers read 0 (R471, R473, R474). -/
def roReg (s : State) (src : Source) (k off : Nat) : Option Nat :=
  let r := (s.stk k).rg
  if off = 0x104 then some (b2n s.halt.isSome * 2 ^ 31 + b2n (s.flag k 0 F.REG_STATUS_OVERFLOW) * 2 ^ 30)
  else if off = 0x144 then some (match kindOf (s.fld k 0 F.REG_KIND_SEL_KIND) with
    | some x => 2 ^ 31 + x.lvl * 16 + s.level k x | none => 0)
  else if off = 0x148 then some (mget r.kcnt (s.fld k 0 F.REG_KIND_SEL_KIND) 0)
  else if off = 0x150 then some (r.logNext % 4096 * 2 ^ 16 + r.seq % 65536)
  else if off = 0x170 then some (if k = s.agg then r.mirNext % 16384 else 0)
  else if 0x174 ≤ off ∧ off < 0x188 ∧ k ≠ s.agg then some 0
  else if off = 0x194 then some (s.archOffset k src * 4)
  else none

/-- BST_FAIL and BST_LAST (R491). -/
def roBst (s : State) (k off : Nat) : Option Nat :=
  if off = 0x10C then some (bstFail s k) else if off = 0x110 then some (bstLast s k) else none

/-- The probe's results (R74). -/
def roAdm (s : State) (k off : Nat) : Option Nat :=
  if off = 0x20C then some (admProbeRes s k).1 else if off = 0x210 then some (admProbeRes s k).2 else none

/-- TSM_QUERY_RES and the tile totals (R293, R295). -/
def roTsm (s : State) (k off : Nat) : Option Nat :=
  let total := fun (st : TileState) => ((s.stk k).tiles.filter (fun e => e.2 == st)).length
  if off = 0x108 then some (tsmQueryRes s k) else if off = 0x130 then some (total .retired)
  else if off = 0x134 then some (total .opened) else none

/-- SCB_STATUS (R299). -/
def roScb (s : State) (k off : Nat) : Option Nat :=
  if off = 0x120 then some (b2n (s.stk k).overflow * 2 ^ 31 + (s.stk k).openList.length) else none

/-- VIT_OCC of the selected slice (R231). (DESIGN CHOICE, notes/assumptions/8.md) -/
def roVit (s : State) (k off : Nat) : Option Nat :=
  if off = 0x164 then
    let l := (s.stk k).lines.filter (fun y => y.ch == s.fld k 0 F.VIT_OCC_SEL_SLICE)
    some ((l.filter (·.pin)).length * 2 ^ 16 + (l.filter (fun y => y.dirty != 0)).length)
  else none

/-- DOC_STATUS (R493). (DESIGN CHOICE, notes/assumptions/8.md) -/
def roDoc (s : State) (k off : Nat) : Option Nat :=
  if off = 0x100 then some (s.bootShown k * 2 ^ 28 + b2n (s.stk k).doc.startOk * 2 ^ 27 + Config.romVersion.toNat) else none

/-- NXP_STATUS and NXP_PARTNER (R358). -/
def roNxp (s : State) (k i off : Nat) : Option Nat :=
  let x := s.prt (4 * k + i)
  if off = 0x104 then some (s.role k (4 * k + i) * 2 ^ 30 + b2n x.nakPending * 2 ^ 28 + x.txNext * 2 ^ 16 + x.rxExpect)
  else if off = 0x108 then some (x.rspAvail % 65536 * 2 ^ 16 + x.mgmtAvail % 65536)
  else none

/-- STATE codes of NXL_STATUS (R333). -/
def LaneState.code : LaneState → Nat
  | .detect => 0 | .laneMap => 1 | .train => 2 | .align => 3 | .linkInit => 4 | .active => 5 | .test => 6

/-- Lanes of a port for which p holds, as a map of bits. -/
def Port.laneMapOf (x : Port) (p : Lane → Bool) : Nat :=
  (List.range 8).foldl (fun a i => a + b2n (p (x.lanes.getD i Lane.reset)) * 2 ^ i) 0

/-- NXL_STATUS, the lane registers and NXL_TEST_STATUS (R333 to R335). (DEDUCED, notes/assumptions/50.md) -/
def roNxl (s : State) (k i off : Nat) : Option Nat :=
  let x := s.prt (4 * k + i)
  let l := x.lanes.getD (s.fld k i F.NXL_LANE_SEL_LANE) Lane.reset
  if off = 0x104 then some (LaneState.code x.lstate * 2 ^ 28 + b2n x.held * 2 ^ 27 + b2n x.framingB * 2 ^ 26 +
    b2n x.reversed * 2 ^ 25 + b2n x.phaseB * 2 ^ 24 + x.polarity.toNat * 2 ^ 16 + b2n x.txParked * 2 ^ 15 +
    b2n (x.lanes.all (fun l => l.rx == .parked)) * 2 ^ 14 + x.tries % 16 * 2 ^ 8 + x.laneMapOf (·.frozen))
  else if off = 0x110 then some (l.preset * 2 ^ 29 + (64 - l.pre - l.post) * 2 ^ 16 + l.post * 2 ^ 8 + l.pre)
  else if off = 0x114 then some (l.ctle % 16 * 2 ^ 28 + l.vga % 256 * 2 ^ 20 + ofSigned 6 l.dfe1 * 2 ^ 12 +
    ofSigned 6 l.dfe2 * 2 ^ 6 + ofSigned 6 l.dfe3)
  else if off = 0x118 then some (l.eyeHigh % 256 * 2 ^ 16 + l.eyeMid % 256 * 2 ^ 8 + l.eyeLow % 256)
  else if off = 0x11C then some (l.iterPeak % 16 * 16 + l.iterLast % 16)
  else if off = 0x148 then some (b2n x.injBusy * 2 ^ 31 + x.laneMapOf (·.chkLocked))
  else none

/-- CTL_REF_STATUS, the training results and CTL_DLY of the selected pin (R257, R262, R263). -/
def roCtl (s : State) (k i off : Nat) : Option Nat :=
  if off = 0x108 then some (ctlRefStatus s k i)
  else if off = 0x164 then some (ctlErrCnt s k i)
  else if 0x170 ≤ off ∧ off < 0x180 then some (ctlTrnMap s k i ((off - 0x170) / 4))
  else if off = 0x184 then some (ctlDly s k i)
  else none

/-- NDU_ACC_STATUS (R201). -/
def roNdu (s : State) (k i off : Nat) : Option Nat :=
  if off = 0x108 then some ((s.stk k).ch i).accs.length else none

/-- GTH_STATUS (R204). (DEDUCED, notes/assumptions/44.md) -/
def roGth (s : State) (k off : Nat) : Option Nat :=
  if off = 0x100 then
    let l := (s.stk k).table.filterMap (fun e => if e.done.isNone then e.gth else none)
    some (min 1024 (l.map (fun g => g.todo.length)).sum * 2 ^ 16 + l.length)
  else none

/-- A register that a block computes; none for a register that is stored. -/
def State.roVal (s : State) (src : Source) (k : Nat) (pg : Page) (i off : Nat) : Option Nat :=
  match pg with
  | .pkg => roPkg s k off | .tic => roTic s off | .sch => roSch s k off | .stk => roStk s k off
  | .clk => roClk s k off | .pwr => roPwr s k off | .thm => roThm s k off | .otp => roOtp s k off
  | .cal => roCal s k off | .reg => roReg s src k off | .bst => roBst s k off | .adm => roAdm s k off
  | .tsm => roTsm s k off | .scb => roScb s k off | .vit => roVit s k off | .doc => roDoc s k off
  | .nxp => roNxp s k i off | .nxl => roNxl s k i off | .ctl => roCtl s k i off | .ndu => roNdu s k i off
  | .gth => roGth s k off
  | .rte | .cmt | .label => none

/-- A register at a live offset without read side effects: WO fields read 0, reserved bits and offsets read 0 (R12, R13). -/
def State.liveVal (s : State) (src : Source) (k : Nat) (pg : Page) (i off : Nat) : Nat :=
  match s.roVal src k pg i off with
  | some v => v &&& maskAt pg off (fun a => a != .wo)
  | none => s.raw k pg i off &&& maskAt pg off (fun a => a != .wo)

/-! ### Reads with a side effect or a free value -/

/-- TIC_NOW: the position in the frame is a free value; 200 periods of 8 units, up to 399 in a long frame (R57; DESIGN CHOICE,
notes/assumptions/12.md). Before the first tick it reads its reset value (notes/assumptions/72.md). -/
def readTicNow (s : State) (k : Nat) : Nat × State :=
  if s.now k = 0 then (0, s) else
  let t := s.draw.1 % (if s.longFrame then 3192 else 1600)
  (min 255 (t / 8) * 2 ^ 16 + min 1599 t, s.draw.2)

/-- CLK_GATE_STATUS: which groups are gated at the moment is a free value; never one whose gating is disabled (R389, R404;
DESIGN CHOICE, notes/assumptions/12.md). -/
def readGateStatus (s : State) (k : Nat) : Nat × State :=
  ((s.draw.1 % 64) &&& (63 ^^^ s.fld k 0 F.CLK_GATE_DIS_DISABLE), s.draw.2)

/-- A read at a live offset, with what the read itself does: PWR_VIN starts a new minimum (R421), REG_ARCH_DATA advances
OFFSET (R474). -/
def readLive (s : State) (src : Source) (k : Nat) (pg : Page) (i off : Nat) : Nat × State :=
  if pg = .tic ∧ off = 0x108 then readTicNow s k
  else if pg = .clk ∧ off = 0x124 then readGateStatus s k
  else if pg = .pwr ∧ off = 0x104 then readPwrVin s k src
  else if pg = .reg ∧ off = 0x198 then readArchData s k src
  else (s.liveVal src k pg i off, s)

/-- Key of the high-word latch of a page for a source (R88). -/
def latchKey (pg : Page) (i : Nat) (src : Source) : Nat := (b2n pg.isPkg * 256 + pg.index i) * 64 + Source.code src

/-- A read in a counter region: the low word latches the high word for the source; the high word reads from the latch (R88). -/
def readCounter (s : State) (src : Source) (k : Nat) (pg : Page) (i off : Nat) : Nat × State :=
  let c := (off - 0xF00) / 8
  if pg.cap.2.2 ≤ c then (0, s)
  else if off % 8 = 0 then
    let v := s.counterVal k pg i c
    (v % 2 ^ 32, s.modStk k (fun x => { x with latch := mput x.latch (latchKey pg i src) (v / 2 ^ 32) 0 }))
  else (mget (s.stk k).latch (latchKey pg i src) 0, s)

/-- A word of the label table, live or staged by SCH_CTRL.LABEL_VIEW of the copy read (R89). -/
def readLabel (s : State) (k i off : Nat) : Nat :=
  let l := i * 256 + off / 16
  let w := off % 16 / 4
  if 3 ≤ w then 0 else (s.stk k).label (s.flag k 0 F.SCH_CTRL_LABEL_VIEW) l w

/-- The bits of a register that are not reserved on the part: RTE_GROUP and RTE_ROLE bits of ports that the part lacks, and the
top bit of each role nibble, are reserved, in the live registers and in the staged image alike (R13, R375). (DEDUCED, notes/assumptions/33.md) -/
def partMask (p : Part) (pg : Page) (off : Nat) : Nat :=
  let o := if 0x800 ≤ off then off - 0x700 else off
  if pg ≠ .rte then 2 ^ 32 - 1
  else if 0x500 ≤ o ∧ o < 0x580 then 2 ^ (4 * p.stks) - 1
  else if 0x580 ≤ o ∧ o < 0x590 then
    maskOf ((pick 8 (fun j => decide (8 * ((o - 0x580) / 4) + j < 4 * p.stks))).flatMap (fun j => [4 * j, 4 * j + 1, 4 * j + 2]))
  else 2 ^ 32 - 1

/-- A read of a register in stack k's copy. -/
def readReg (s : State) (src : Source) (k : Nat) (pg : Page) (i off : Nat) : Nat × State :=
  if pg = .label then (readLabel s k i off, s)
  else if off < 0x100 then (s.commonVal k pg i off, s)
  else if off < 0x800 then
    let r := readLive s src k pg i off
    (r.1 &&& partMask s.part pg off, r.2)
  else if off < 0xF00 then (s.raw k pg i off &&& maskAt pg (off - 0x700) (· == .st) &&& partMask s.part pg off, s)
  else readCounter s src k pg i off

/-- A management read: status and value; UNSUPPORTED and STACK_RESET return 0 (R75, R76). (DEDUCED, notes/assumptions/26.md) -/
def mgmtRd (s : State) (src : Source) (a : Nat) : (Nat × Nat) × State :=
  match s.target a with
  | none => ((stUnsupported, 0), s)
  | some t =>
    if !s.answers src t then ((stStackReset, 0), s) else
    let r := readReg s src (s.holder src t) t.page t.inst t.off
    ((stOk, r.1), r.2)

/-- COUNTER_LOW_READ: a read of the low word of a counter latches its high word for the source (R88). -/
def execCounterLowRead (src : Source) (addr : Reg32) (s : State) : Out :=
  .next (match s.target addr.toNat with
    | none => s
    | some t =>
      if t.page = .label ∨ t.off < 0xF00 ∨ t.off % 8 ≠ 0 then s else
      let r := mgmtRd s src addr.toNat
      { r.2 with mgmtOut := (BitVec.ofNat 32 r.1.2, r.1.1) })

end Sys2Proof.Machine
end

