-- ==== Sys2Proof/Machine/Mgmt.lean ====
section
/-! DEFINITION. Register writes and the management messages: what a write of each register does, by its access type or by
the rule of the register (R12, R17, R70, R82 to R91), writes held during a COMMIT (R92), MGMT_READ and MGMT_WRITE (R127). -/

namespace Sys2Proof.Machine

/-! ### Plain registers -/

/-- Stores a register at its access types: RW bits take the value, W1C bits written 1 clear, W1S bits written 1 set; RO, WO
and ST bits keep theirs (R12). -/
def writePlain (s : State) (k : Nat) (pg : Page) (i off v : Nat) : State :=
  let old := s.raw k pg i off
  let rw := maskAt pg off (· == .rw)
  let c := maskAt pg off (· == .w1c) &&& v
  let w1 := maskAt pg off (· == .w1s) &&& v
  s.setRaw k pg i off ((((old &&& (0xFFFFFFFF ^^^ rw)) ||| (v &&& rw)) ||| w1) &&& (0xFFFFFFFF ^^^ c))

/-- A write of PAGE_ERR: bits written 1 clear, and a cleared bit no longer blocks a SAFE exit (R84, R462). -/
def writeErr (s : State) (k : Nat) (pg : Page) (i v : Nat) : State :=
  let m := maskAt pg 0x10 (· == .w1c) &&& v
  let key := b2n pg.isPkg * 256 + pg.index i
  (s.setRaw k pg i 0x10 (s.raw k pg i 0x10 &&& (0xFFFFFFFF ^^^ m))).modRg k (fun r =>
    { r with marks := mput r.marks key (mget r.marks key 0#32 &&& ~~~(BitVec.ofNat 32 m)) 0#32 })

/-- Every counter of a page becomes 0 (R82); on NXL the iteration peaks restart (R334). -/
def clearCounters (s : State) (k : Nat) (pg : Page) (i : Nat) : State :=
  if !pg.cap.2.1 then s else
  let s1 := (List.range pg.cap.2.2).foldl (fun s c => s.setCnt k pg i c 0) s
  if pg = .nxl then s1.modPort (4 * k + i) (fun x => { x with lanes := x.lanes.map (fun l => { l with iterPeak := 0 }) }) else s1

/-- A write of PAGE_CTRL: COUNTER_FREEZE, which TIC reserves (R512), and COUNTER_CLEAR (R82). -/
def writePageCtrl (s : State) (k : Nat) (pg : Page) (i v : Nat) : State :=
  let s1 := if pg = .tic then s else s.setRaw k pg i 0x08 (v % 2)
  if bitAt v 1 then clearCounters s1 k pg i else s1

/-- The staged image of a page takes the live values in stack k, and DIRTY clears; SCH's also for the label table (R86, R89). -/
def discardStage (s : State) (k : Nat) (pg : Page) (i : Nat) : State :=
  let n := pg.index i
  let s1 := s.modStk k (fun x =>
    if pg.isPkg then { x with pkgRegs := discardRegs true n x.pkgRegs, stLabels := (if pg = .sch then x.labels else x.stLabels) }
    else { x with regs := discardRegs false n x.regs })
  s1.setStage k pg i (bitAt (s1.raw k pg i 0x1C) 2) false

/-- A write of a common register, below offset 0x100, in one stack (R80 to R86). (DEDUCED, notes/assumptions/33.md) -/
def writeCommon (s : State) (k : Nat) (pg : Page) (i off v : Nat) : State :=
  if off = 0x08 then writePageCtrl s k pg i v
  else if off = 0x10 then writeErr s k pg i v
  else if off = 0x14 then s.setRaw k pg i 0x14 (v &&& maskAt pg 0x10 (fun _ => true))
  else if off = 0x18 then s.setRaw k pg i 0x18 (v % 65536)
  else if off = 0x1C then (if bitAt v 1 && pg.cap.1 then discardStage s k pg i else s)
  else s

/-! ### Outcomes that the outside decides -/

/-- A draw of n further free values: the number of the first. (DESIGN CHOICE, notes/assumptions/1.md) -/
def State.drawN (s : State) (n : Nat) : Nat × State := (s.free, { s with free := s.free + n })

/-- A training outcome that no operand gives (DESIGN CHOICE, notes/assumptions/1.md). -/
def freeTrn (s : State) : TrnResult × State :=
  let d := s.drawN 256
  let v := fun i => Config.freeNat (d.1 + i)
  let l := fun b m => (List.range 36).map (fun i => v (b + i) % m)
  ({ pinErrors := l 0 65536, firstFail := if v 36 % 2 = 0 then none else some (v 36 / 2 % 65536), failMask := BitVec.ofNat 36 (v 37)
     passMaps := (List.range 36).map (fun i => BitVec.ofNat 128 (v (40 + i)))
     atMinus := l 80 65536, atZero := l 120 65536, atPlus := l 160 65536 }, d.2)

/-- A calibration run of a type that no operand gives (DESIGN CHOICE, notes/assumptions/1.md). -/
def freeRun (s : State) (t : Nat) : List Int × State :=
  let d := s.drawN 32
  let w := (calShape t).2
  ((List.range (calShape t).1).map (fun i =>
    let v := Config.freeNat (d.1 + i) % 2 ^ w
    if calSigned t then toSigned w v else (v : Int)), d.2)

/-! ### Live registers of the stack windows -/

/-- A write of a live CLK register (R398, R399, R401, R402). (DESIGN CHOICE, notes/assumptions/31.md) -/
def writeClk (s : State) (src : Source) (k off v : Nat) : State :=
  if off = 0x100 then
    let d := s.draw
    writeClkRef d.2 k v ((List.range 3).map d.1.testBit)
  else if off = 0x108 then writeDocentSel s src k v
  else if off = 0x110 then writePkgMode s k v
  else if off = 0x114 then writeStkMode s k v
  else if off = 0x11C then forStacks s (fun s j => if s.reach k j then writePlain s j .clk 0 0x11C v else s)
  else writePlain s k .clk 0 off v

/-- A write of a live PWR register: ones clear PWR_RESET_CAUSE (R422). -/
def writePwr (s : State) (k off v : Nat) : State :=
  if off = 0x120 then
    s.modStk k (fun x => { x with latches := { x.latches with cause := x.latches.cause &&& ~~~(BitVec.ofNat 6 v) } })
  else writePlain s k .pwr 0 off v

/-- A write of a live OTP register (R443); bits that a RESENSE finds marginal are free. (DESIGN CHOICE, notes/assumptions/31.md) -/
def writeOtp (s : State) (k off v : Nat) : State :=
  if off = 0x128 then
    let b := freeBurn s
    let d := b.2.draw
    writeOtpCmd d.2 k v b.1 (pick 65536 d.1.testBit)
  else if 0x150 ≤ off ∧ off < 0x190 then
    s.modStk k (fun x => { x with otp := { x.otp with sig := mput x.otp.sig ((off - 0x150) / 4) (BitVec.ofNat 32 v) 0#32 } })
  else if off = 0x190 then
    let d := s.draw
    writeSvcCtrl d.2 k v d.1
  else writePlain s k .otp 0 off v

/-- A write of a live CAL register (R446). (DESIGN CHOICE, notes/assumptions/31.md) -/
def writeCal (s : State) (k off v : Nat) : State :=
  if off = 0x100 then
    let r := freeRun s (bits v 7 0)
    writeCalCmd r.2 k v r.1
  else writePlain s k .cal 0 off v

/-- A write of a live REG register (R471 to R474); whether the rails are in their windows is free. (DESIGN CHOICE, notes/assumptions/31.md) -/
def writeReg (s : State) (src : Source) (k off v : Nat) : State :=
  if off = 0x100 then writeRegCtrl s k v
  else if off = 0x108 then
    let d := s.draw
    writeSafeCtrl d.2 k v (d.1.testBit 0)
  else if off = 0x110 then writeFirst s k v
  else if 0x120 ≤ off ∧ off < 0x130 then writePend s k ((off - 0x120) / 4) v
  else if off = 0x144 then writeKindCfg s k v
  else if off = 0x154 then writeLogIdx s k v
  else if off = 0x174 then writeMirIdx s k v
  else if off = 0x194 then writeArchAddr s k src v
  else if off = 0x19C then writeArchCtrl s k v
  else writePlain s k .reg 0 off v

/-- A write of a live TSM register: the query registers update the result, and the operands of a deaccession keep their values while
BUSY (R293, R294). -/
def writeTsm (s : State) (k off v : Nat) : State :=
  if off = 0x100 then writeTsmQuery s k false v
  else if off = 0x104 then writeTsmQuery s k true v
  else if off = 0x11C then writeDeacc s k v
  else if (off = 0x110 ∨ off = 0x114 ∨ off = 0x118) ∧ s.flag k 0 F.TSM_DEACC_STATUS_BUSY = true then s
  else writePlain s k .tsm 0 off v

/-- A write of a live VIT register: the operands keep their values while BUSY (R229). -/
def writeVit (s : State) (k off v : Nat) : State :=
  if off = 0x140 then writeVitOp s k v
  else if (off = 0x144 ∨ off = 0x148 ∨ off = 0x14C) ∧ s.flag k 0 F.VIT_OP_STATUS_BUSY = true then s
  else writePlain s k .vit 0 off v

/-- A write of a live DOC register (R493). (DESIGN CHOICE, notes/assumptions/31.md) -/
def writeDoc (s : State) (src : Source) (k off v : Nat) : State :=
  if off = 0x110 then
    let o := freeOutcome s
    writeDocCmd o.2 k v o.1
  else if off = 0x120 then writeMboxIn s src k v
  else writePlain s k .doc 0 off v

/-- A write of a live CTL register (R255 to R264). (DESIGN CHOICE, notes/assumptions/31.md) -/
def writeCtl (s : State) (src : Source) (k ch off v : Nat) : State :=
  if off = 0x140 then
    let r := freeTrn s
    if bitAt v 31 then writeTrn r.2 src k ch v (some r.1) else writeTrn s src k ch v none
  else if off = 0x184 then writeDly s k ch v
  else writePlain s k .ctl ch off v

/-- A write at a live offset of a page in stack k's window: by the register's own rule, else by access type (R12). -/
def writeLive (s : State) (src : Source) (k : Nat) (pg : Page) (i off v : Nat) : State :=
  match pg with
  | .stk => if off = 0x100 then writeStkReset s k v else writePlain s k pg i off v
  | .clk => writeClk s src k off v
  | .pwr => writePwr s k off v
  | .thm => if off = 0x100 then writeThresh s k v else writePlain s k pg i off v
  | .otp => writeOtp s k off v
  | .cal => writeCal s k off v
  | .reg => writeReg s src k off v
  | .bst => if off = 0x100 then writeBstCtrl s k v else writePlain s k pg i off v
  | .tsm => writeTsm s k off v
  | .vit => writeVit s k off v
  | .doc => writeDoc s src k off v
  | .nxp => if off = 0x100 then writeNxpCtrl s k i v else writePlain s k pg i off v
  | .nxl => if off = 0x100 then writeNxlCtrl s k i v else if off = 0x140 then writeNxlTest s k i v
    else if off = 0x144 then writeNxlInj s k i v else writePlain s k pg i off v
  | .ctl => writeCtl s src k i off v
  | .ndu => if off = 0x100 then (if bitAt v 0 then spillAll s k i Who.sealer else s) else writePlain s k pg i off v
  | .adm | .scb | .gth | .pkg | .tic | .sch | .rte | .cmt | .label => writePlain s k pg i off v

/-! ### Staged images and package pages -/

/-- A write of the staged image in one stack: ST fields take the value and DIRTY sets (R12, R91). -/
def writeStaged (s : State) (k : Nat) (pg : Page) (i off v : Nat) : State :=
  let m := maskAt pg (off - 0x700) (· == .st) &&& (if 0xC80 ≤ off then partMask s.part pg off else 2 ^ 32 - 1)
  if m = 0 then s else
  let s1 := s.setRaw k pg i off ((s.raw k pg i off &&& (0xFFFFFFFF ^^^ m)) ||| (v &&& m))
  s1.setStage k pg i (bitAt (s1.raw k pg i 0x1C) 2) true

/-- A write of the label table in one stack goes to the staged table; SCH's DIRTY sets (R89). -/
def writeLabel (s : State) (k i off v : Nat) : State :=
  let w := off % 16 / 4
  if 3 ≤ w then s else
  let m := maskAt .label (4 * w) (· == .st)
  let s1 := s.modStk k (fun x => x.setLabel true (i * 256 + off / 16) w (v &&& m))
  s1.setStage k .sch 0 (bitAt (s1.raw k .sch 0 0x1C) 2) true

/-- A write of one stack's copy or window. -/
def writeIn (s : State) (src : Source) (k : Nat) (pg : Page) (i off v : Nat) : State :=
  if pg = .label then writeLabel s k i off v
  else if off < 0x100 then writeCommon s k pg i off v
  else if off < 0x800 then writeLive s src k pg i off v
  else if off < 0xF00 then writeStaged s k pg i off v
  else s

/-- A write is carried to every stack: of a package page (R17), of ADM's staged image, and of ADM's DISCARD (R70). -/
def Target.carried (t : Target) (v : Nat) : Bool :=
  t.page.isPkg || (t.page == .adm && (decide (0x800 ≤ t.off) || (t.off == 0x1C && bitAt v 1)))

/-- A carried write in every stack that the receiving stack reaches, each with its message and acknowledgement (R17, R21, R34, R511). -/
def carry (s : State) (src : Source) (a : Nat) (t : Target) (v : Nat) : State :=
  forStacks s (fun s k => if s.ringTo a k then ((writeIn s src k t.page t.inst t.off v).ringTx a k).ringTx k a else s)

/-- Every stack is in reach of a stack. (DEDUCED, notes/assumptions/27.md) -/
def State.reachAll (s : State) (a : Nat) : Bool := (List.range s.n).all (s.ringTo a)

/-- Status code of a write whose response is withheld until the COMMIT in progress is done; the model's own. -/
def stHeld : Nat := 8

/-- A write that a COMMIT in progress holds: to a staged offset, or to DISCARD (R92 step 2). (DEDUCED, notes/assumptions/28.md) -/
def Target.heldBy (t : Target) (v : Nat) : Bool :=
  t.page == .label || (decide (0x800 ≤ t.off) && decide (t.off < 0xF00)) || (t.off == 0x1C && bitAt v 1)

/-- Performs a write: its status and the state after. CMT_COMMIT goes to the aggregator (R92). (DEDUCED, notes/assumptions/27.md) -/
def doWrite32 (s : State) (src : Source) (t : Target) (v : Nat) : Nat × State :=
  let a := s.holder src t
  if !s.answers src t then (stStackReset, s)
  else if t.page = .cmt ∧ t.off = 0x100 then (if s.ringTo a s.agg then stOk else stStackReset, writeCommit s src v)
  else if t.carried v then (if s.reachAll a then stOk else stStackReset, carry s src a t v)
  else (stOk, writeIn s src a t.page t.inst t.off v)

/-- A management write: its status; a held write is answered when the COMMIT is done. `msg` is the port and message that wait
for the response. (DEDUCED, notes/assumptions/26.md) (DEDUCED, notes/assumptions/28.md) -/
def mgmtWr (s : State) (src : Source) (a v : Nat) (msg : Option (Nat × MgmtMsg)) : Nat × State :=
  match s.target a with
  | none => (stUnsupported, s)
  | some t =>
    if s.cmtBusy && t.heldBy v && s.answers src t then
      (stHeld, { s with commit := { s.commit with held := s.commit.held ++ [{ src := src, addr := a, v := v, msg := msg }] } })
    else doWrite32 s src t v

/-- A write command that applies where the target has a shape; its status is kept as the last access's. -/
def writeCmd (s : State) (src : Source) (a v : Nat) (p : Target → Bool) : State :=
  match s.target a with
  | some t => if p t then
      let r := mgmtWr s src a v none
      { r.2 with mgmtOut := (0, r.1) } else s
  | none => { s with mgmtOut := (0, stUnsupported) }

/-- REGISTER_WRITE: a write of a register of a stack window (R12). -/
def execRegisterWrite (src : Source) (addr : Reg32) (v : Reg32) (s : State) : Out :=
  .next (writeCmd s src addr.toNat v.toNat (fun t => decide (t.win ≠ 0) && decide (t.off < 0x800)))

/-- PACKAGE_PAGE_WRITE: a write of a package page (R17). -/
def execPackagePageWrite (src : Source) (addr : Reg32) (v : Reg32) (s : State) : Out :=
  .next (writeCmd s src addr.toNat v.toNat (fun t => t.win == 0))

/-- STAGED_WRITE: a write of a staged offset or of the label table (R89, R91). -/
def execStagedWrite (src : Source) (addr : Reg32) (v : Reg32) (s : State) : Out :=
  .next (writeCmd s src addr.toNat v.toNat (fun t => t.page == .label || (decide (0x800 ≤ t.off) && decide (t.off < 0xF00))))

/-- DISCARD: a write of 1 to PAGE_STAGE_STATE.DISCARD of a page (R86). -/
def execDiscard (src : Source) (addr : Reg32) (s : State) : Out :=
  .next (writeCmd s src addr.toNat 2 (fun t => t.page != .label && t.off == 0x1C))

/-- COUNTER_CLEAR: a write of 1 to PAGE_CTRL.COUNTER_CLEAR; COUNTER_FREEZE is written as it is (R82). -/
def execCounterClear (src : Source) (addr : Reg32) (s : State) : Out :=
  .next (match s.target addr.toNat with
    | none => { s with mgmtOut := (0, stUnsupported) }
    | some t => writeCmd s src addr.toNat (2 + s.raw (s.holder src t) t.page t.inst 0x08 % 2)
        (fun t => t.page != .label && t.off == 0x08))

/-! ### MGMT_READ and MGMT_WRITE (R127) -/

/-- The response to a management message, with the value read in INLINE bytes 16 to 19. -/
def mgmtResp (s : State) (p : Nat) (m : MgmtMsg) (status v : Nat) : Resp :=
  { rid := 0, port := p, vc := .mgmt, op := m.op, posted := isPosted m.op, status := status, reqId := m.reqId, tag := m.tag, data := [],
    opStatus := 0, addr := m.addr, doneFrame := s.frame (p / 4) % 65536, inline := BitVec.ofNat 128 v }

/-- Queues a management response. -/
def pushMgmt (s : State) (p : Nat) (m : MgmtMsg) (status v : Nat) : State :=
  s.modPort p (fun x => { x with mgmtOut := x.mgmtOut ++ [mgmtResp s p m status v] })

/-- A message leaves MGMT ingress, and its slots are owed as credits (R130). -/
def popMgmt (s : State) (p : Nat) (m : MgmtMsg) : State :=
  s.modPort p (fun x => { x with mgmtIn := x.mgmtIn.erase m, mgmtRet := x.mgmtRet + m.slots })

/-- The context of a message has a write of its own that a COMMIT still holds, so that it waits its turn (R92, R123). -/
def State.mgmtHeld (s : State) (p : Nat) (m : MgmtMsg) : Bool :=
  s.commit.held.any (fun h => match h.msg with | some (q, w) => q == p && w.reqId == m.reqId | none => false)

/-- The oldest message of a port whose context may go on: requests of one context are performed and answered in arrival order
(R123). -/
def State.nextMgmt (s : State) (p : Nat) : Option MgmtMsg := (s.prt p).mgmtIn.find? (fun m => !s.mgmtHeld p m)

/-- A message that MGMT does not carry, or whose form fails, is answered UNSUPPORTED; a posted operation's response is a posted one
and is reported (R107 to R109, R114). (DEDUCED, notes/assumptions/71.md) -/
def mgmtRefused (s : State) (p : Nat) (m : MgmtMsg) : State :=
  let s1 := pushMgmt (popMgmt s p m) p m stUnsupported 0
  if isPosted m.op then s1.report (p / 4) K.STK_POSTED_FAIL 0 0 (m.addr.toNat % 2 ^ 40) else s1

/-- MGMT_READ: the oldest message of a port is answered with the register value (R75, R76, R127); one with an opcode that MGMT does
not carry, or with a reserved field that is not 0, is refused (R107, R108). An access wakes the package from IDLE (R392). -/
def execMgmtRead (p : Nat) (s : State) : Out :=
  .next (match s.nextMgmt p with
    | some m =>
      if m.op = 0x81 ∨ s.inReset (p / 4) = true then s
      else if m.op ≠ 0x80 ∨ m.rsvd = true then mgmtRefused s p m
      else
        let r := mgmtRd (wakeIdle (popMgmt s p m) 5) (.port p) m.maddr.toNat
        pushMgmt { r.2 with mgmtOut := (BitVec.ofNat 32 r.1.2, r.1.1) } p m r.1.1 r.1.2
    | none => s)

/-- MGMT_WRITE: the oldest message of a port is applied and answered; a held write is answered later (R17, R92, R127); one with a
reserved field that is not 0 is refused (R107). -/
def execMgmtWrite (p : Nat) (s : State) : Out :=
  .next (match s.nextMgmt p with
    | some m =>
      if m.op ≠ 0x81 ∨ s.inReset (p / 4) = true then s
      else if m.rsvd then mgmtRefused s p m
      else
        let r := mgmtWr (wakeIdle (popMgmt s p m) 5) (.port p) m.maddr.toNat m.wdata.toNat (some (p, m))
        let s1 := { r.2 with mgmtOut := (0, r.1) }
        if r.1 = stHeld then s1 else pushMgmt s1 p m r.1 0
    | none => s)

/-! ### COMMIT_COMPLETE (R92 step 7) -/

/-- MFR_MGMT_STATUS code of a status (R505). -/
def mfrStatus (st : Nat) : Nat := if st = stOk then 0 else if st = stStackReset then 2 else if st = stHeld then 3 else 1

/-- Performs a held write, and answers it. (DEDUCED, notes/assumptions/28.md) -/
def releaseHeld (s : State) (h : HeldWrite) : State :=
  let r := match s.target h.addr with
    | some t => doWrite32 s h.src t h.v
    | none => (stUnsupported, s)
  match h.msg with
  | some (p, m) => pushMgmt r.2 p m r.1 0
  | none => if h.src = .pmbus then { r.2 with pmbus := { r.2.pmbus with mgmt := mfrStatus r.1 } } else r.2

/-- COMMIT_COMPLETE: the result appears, and the held writes are performed in arrival order; a waiting RETAIN request proceeds
(R92, R96, R97, R392). -/
def execCommitComplete (s : State) : Out :=
  .next (if s.commit.phase == .done || s.commit.phase == .aborted then
      proceedRetain (s.commit.held.foldl releaseHeld (showResult s))
    else s)

end Sys2Proof.Machine
end

