-- ==== Sys2Proof/Machine/Archive.lean ====
section
/-! DEFINITION. The Archive that Docent writes at HALT (R464 to R468). -/

namespace Sys2Proof.Machine

/-- The image of a 4 KiB page as Docent of stack k reads it, word by word (R465). -/
def pageImage (s : State) (k base : Nat) : List Nat × State :=
  (List.range 1024).foldl (fun acc i =>
    let r := mgmtRd acc.2 (.docent k) (base + 4 * i)
    (acc.1 ++ [r.1.2], r.2)) ([], s)

/-- The images of several pages. -/
def pageImages (s : State) (k : Nat) (bases : List Nat) : List Nat × State :=
  bases.foldl (fun acc b =>
    let r := pageImage acc.2 k b
    (acc.1 ++ r.1, r.2)) ([], s)

/-- A record, or zeros, as four words. -/
def recWords (r : Option Rec) : List Nat :=
  (List.range 4).map (fun w => match r with | some r => r.word w | none => 0)

/-- A list of words filled with zeros to a length. -/
def padWords (n : Nat) (l : List Nat) : List Nat := l ++ List.replicate (n - l.length) 0

/-- The log ring, oldest record first. -/
def logImage (s : State) (k : Nat) : List Nat :=
  let r := (s.stk k).rg
  padWords 16384 ((List.range 4096).flatMap (fun i =>
    match mfind r.log ((r.logNext + i) % 4096) with | some e => recWords (some e) | none => []))

/-- The per-kind counters, kind order. -/
def kcntImage (s : State) (k : Nat) : List Nat :=
  let c := fun i => mget (s.stk k).rg.kcnt i 0
  (List.range 512).map (fun w => c (2 * w) + c (2 * w + 1) * 65536)

/-- The mirror ring, in the aggregator's stack only. -/
def mirrorImage (s : State) (k : Nat) : List Nat :=
  if k = s.agg then (List.range 16384).flatMap (fun i => recWords (mfind (s.stk k).rg.mirror i)) else List.replicate 65536 0

/-- Sections of the full Archive: byte offset and length (R465). -/
def fullSections : List (Nat × Nat) :=
  [(0x1000, 0x100000), (0x101000, 0x100000), (0x201000, 0x10000), (0x211000, 0x800), (0x212000, 0x80000), (0x292000, 0x40000),
   (0x2D2000, 0x20000), (0x2F2000, 0x20000), (0x312000, 0x40000), (0x352000, 0x40000)]

/-- Sections of the subset, packed; those it leaves out have length 0 (R467). -/
def subSections : List (Nat × Nat) :=
  [(0x1000, 0x5000), (0x6000, 0x31000), (0x37000, 0x10000), (0x47000, 0x800), (0, 0), (0, 0), (0, 0), (0x47800, 0x20000), (0, 0), (0, 0)]

/-- Management addresses of the pages in the subset (R467). -/
def subPkgBases : List Nat := [0x00, 0x01, 0x02, 0x13, 0x14].map (· * 4096)

/-- Stack pages in the subset: 0x00 to 0x0C, NXP0 to 3, CTL0 to 31. -/
def subStkBases (k : Nat) : List Nat :=
  (List.range 13 ++ (List.range 4).map (· + 0x10) ++ (List.range 32).map (· + 0x20)).map (fun n => 0x100000 * (k + 1) + n * 4096)

/-- The header's words, before DONE and the CRC (R466). -/
def headerBody (s : State) (k : Nat) (sub : Bool) : List Nat :=
  let first := (List.range 3).map (fun i => s.raw k .reg 0 (0x110 + 4 * i))
  let f := s.frame k
  padWords 1022 (
    [0x41524356, 1 + s.sysId k * 65536, f % 2 ^ 32, f / 2 ^ 32 % 2 ^ 32, ticStatus s % 256 + b2n sub * 256, 0, 0, 0] ++
    recWords (match s.halt with | some h => h.record | none => none) ++ first ++ [0] ++
    (if sub then subSections else fullSections).flatMap (fun e => [e.1, e.2]))

/-- The header with DONE and its CRC-32 (R466). (DESIGN CHOICE, notes/assumptions/14.md) -/
def headerWords (s : State) (k : Nat) (sub : Bool) : List Nat :=
  let l := headerBody s k sub ++ [0xD0E]
  l ++ [crc32 (l.flatMap (bytesOf 4))]

/-- The channel that Docent chooses: the lowest that is usable, with the memory rails in their windows (R464). (DEDUCED, notes/assumptions/60.md) -/
def archChannel (s : State) (k : Nat) : Option Nat :=
  let p := (s.stk k).pw
  (List.range 32).find? (fun c => !((s.stk k).ch c).unusable && p.railsRun && (p.railOk.drop 1).all (· == true))

/-- The Archive's words after the header, and the state after Docent's reads. Sections whose layout the spec does not give are
left to State.archWord (R465; DESIGN CHOICE, notes/assumptions/14.md). -/
def archBody (s : State) (k : Nat) (sub : Bool) : List Nat × State :=
  let pk := if sub then subPkgBases else (List.range 256).map (· * 4096)
  let st := if sub then subStkBases k else (List.range 256).map (fun n => 0x100000 * (k + 1) + n * 4096)
  let a := pageImages s k pk
  let b := pageImages a.2 k st
  let tail := if sub then [] else List.replicate 0x50000 0 ++ mirrorImage b.2 k
  (a.1 ++ b.1 ++ logImage b.2 k ++ kcntImage b.2 k ++ tail, b.2)

/-- Lists the words that are not 0, from word offset 0. -/
def sparseWords (l : List Nat) : SMap (BitVec 32) :=
  (l.zipIdx.map (fun e => (e.2, BitVec.ofNat 32 e.1))).filter (fun e => e.2 != 0)

/-- Writes the Archive: the subset into slice 0, whose lines are dropped, where no channel qualifies (R464, R467). (DESIGN CHOICE, notes/assumptions/14.md) -/
def writeArchive (s : State) (k : Nat) : State :=
  let ch := archChannel s k
  let sub := ch.isNone
  let s0 := if sub then (s.modCh k 0 (fun c => { c with accs := [] })).modStk k (fun x => { x with
    lines := x.lines.filter (fun y => y.ch != 0) }) else s
  let b := archBody s0 k sub
  let ws := sparseWords (headerWords b.2 k sub ++ b.1)
  let s1 := (b.2.modRg k (fun r => { r with archWords := ws, archFree := b.2.free }))
  let s2 := { s1 with free := s1.free + 2 ^ 22 }.setFlds k 0 [(F.REG_ARCH_STATUS_VALID, 1), (F.REG_ARCH_STATUS_WRITING, 0),
    (F.REG_ARCH_STATUS_SUBSET, b2n sub), (F.REG_ARCH_STATUS_CHANNEL, ch.getD 0), (F.REG_ARCH_STATUS_WRITTEN, if sub then 1024 else 16384)]
  s2.statusBit k .reg 0 0 true

/-- ARCHIVE_DONE: at HALT, a stack that has received it and whose Docent runs ends writing its Archive (R464). -/
def execArchiveDone (k : Nat) (s : State) : Out :=
  .next (if s.regRuns k && s.flag k 0 F.REG_ARCH_STATUS_WRITING then writeArchive s k else s)

end Sys2Proof.Machine
end

