-- ==== Sys2Proof/Machine/Pmbus.lean ====
section
/-! DEFINITION. PMBus (R504, R505). The aggregator answers; in RETAIN the power tile answers the telemetry reads (R395). -/

namespace Sys2Proof.Machine

/-- Somebody answers PMBus: the package is powered, its aggregator is chosen, and its base die is not under reset (R18, R484). -/
def State.pmbusUp (s : State) : Bool := s.mode != .off && s.aggChosen && !s.inReset s.agg && !(s.stk s.agg).scanned

/-- The package is in RETAIN, where only the tile answers. -/
def State.inRetain (s : State) : Bool := s.mode == .retain

/-- Ends a transaction that is not acknowledged. -/
def nack (s : State) : State := { s with pmbus := { s.pmbus with ack := false } }

/-- Ends an acknowledged transaction with the value it returned. -/
def acked (s : State) (v : Nat) : State := { s with pmbus := { s.pmbus with ack := true, out := v } }

/-- An access in IDLE wakes the package (R392). (DEDUCED, notes/assumptions/32.md) -/
def pmbusWake (s : State) : State := wakeIdle s 5

/-- A command that Docent of the aggregator answers, not in RETAIN. -/
def docentRead (s : State) (v : Nat) : State := if s.pmbusUp && !s.inRetain then acked (pmbusWake s) v else nack s

/-! ### LINEAR11 -/

/-- The exponent of the finest LINEAR11 that holds n / d: from −16 upwards, as a number of steps, the first whose mantissa fits
10 bits (PRESUMED, notes/assumptions/20.md). -/
def linExp (n d : Nat) : Nat → Nat → Nat
  | 0, e => e
  | fuel + 1, e => if n * 2 ^ 16 < 1023 * d * 2 ^ e then e else linExp n d fuel (e + 1)

/-- The LINEAR11 word of x / d, with the last place rounded to either side (PRESUMED, notes/assumptions/20.md). -/
def linear11 (x : Int) (d : Nat) (free : Nat) : Nat :=
  let e := linExp x.natAbs d 31 0
  let den : Int := d * 2 ^ e
  let q := x * 2 ^ 16 / den
  let m := if q * den = x * 2 ^ 16 then q else q + (free % 2 : Nat)
  ofSigned 5 ((e : Int) - 16) * 2 ^ 11 + ofSigned 11 m

/-- A telemetry read, of x / d: in RETAIN the tile answers without waking the package (R395, R505). -/
def telemetryRead (s : State) (x : Int) (d : Nat) : State :=
  if !s.pmbusUp then nack s else
  let f := s.draw
  acked (if s.inRetain then f.2 else pmbusWake f.2) (linear11 x d f.1)

/-- Stacks that the aggregator's telemetry covers (R511). -/
def State.covered (s : State) : List Stack := ((List.range s.n).filter (s.reach s.agg)).map s.stk

/-- Largest of a list. -/
def maxOf (l : List Int) : Int := l.foldl max (l.headD 0)

/-- CLEAR_FAULTS clears the STATUS_WORD bits; one whose cause holds sets again (R505). -/
def execClearFaults (s : State) : Out :=
  .next (if s.pmbusUp && !s.inRetain then
    let s1 := acked (pmbusWake s) 0
    { s1 with pmbus := { s1.pmbus with uvFault := false, ovFault := false, tempFault := !s.pins.thermN, cml := false } }
  else nack s)

/-- CAPABILITY: PEC, 1 MHz, no SMBALERT#. -/
def execCapability (s : State) : Out := .next (docentRead s 0xC0)

/-- The STATUS_WORD, with the bit places of PMBus 1.3 (PRESUMED, notes/assumptions/20.md): INPUT 13 (with VIN_OV), VIN_UV 3, temperature 2, CML 1. -/
def statusWord (s : State) : Nat :=
  let p := s.pmbus
  b2n (p.ovFault || p.uvFault) * 2 ^ 13 + b2n p.uvFault * 8 + b2n p.tempFault * 4 + b2n p.cml * 2

/-- STATUS_WORD. -/
def execStatusWord (s : State) : Out := .next (docentRead s (statusWord s))

/-- READ_VIN: the lowest tile sample, in V. -/
def execReadVin (s : State) : Out :=
  .next (telemetryRead s (-(maxOf (s.covered.map (fun x => -(x.pw.vinMv : Int))))) 1000)

/-- READ_IIN: the sum of the tile input currents, in A. -/
def execReadIin (s : State) : Out := .next (telemetryRead s ((s.covered.map (fun x => (x.pw.iin : Int))).sum) 1000)

/-- READ_TEMPERATURE_1: the hottest value in use, all stacks, in °C. -/
def execReadTemperature1 (s : State) : Out := .next (telemetryRead s (maxOf (s.covered.map (fun x => x.hottest.2))) 4)

/-- READ_TEMPERATURE_2: the hottest lid sensor, in °C. -/
def execReadTemperature2 (s : State) : Out := .next (telemetryRead s (maxOf (s.covered.map (fun x => x.th.lidUse))) 4)

/-- READ_PIN: the package's input power, in W. -/
def execReadPin (s : State) : Out := .next (telemetryRead s ((s.covered.map (fun x => (x.pw.pin : Int))).sum) 10)

/-- PMBUS_REVISION. -/
def execPmbusRevision (s : State) : Out := .next (docentRead s 0x33)

/-! ### Management over PMBus -/

/-- MFR_MGMT_ADDR: the address of the next MFR_MGMT_DATA; also in RETAIN, for a mailbox write. -/
def execMfrMgmtAddr (v : Reg32) (s : State) : Out :=
  .next (if s.pmbusUp then
    let s1 := acked (pmbusWake s) 0
    { s1 with pmbus := { s1.pmbus with addr := v } }
  else nack s)

/-- MFR_MGMT_DATA, read: a management read of access source PMBus (R75, R88). -/
def execMfrMgmtDataRead (s : State) : Out :=
  .next (if s.pmbusUp && !s.inRetain then
    let r := mgmtRd (pmbusWake s) .pmbus s.pmbus.addr.toNat
    let s1 := acked { r.2 with mgmtOut := (BitVec.ofNat 32 r.1.2, r.1.1) } r.1.2
    { s1 with pmbus := { s1.pmbus with mgmt := mfrStatus r.1.1 } }
  else nack s)

/-- The stack whose DOC_MBOX_IN an address names. -/
def State.mailboxOf (s : State) (a : Nat) : Option Nat :=
  match s.target a with
  | some t => if t.page = .doc ∧ t.off = 0x120 then some (t.win - 1) else none
  | none => none

/-- MFR_MGMT_DATA, write: a management write, acknowledged once applied; in RETAIN only a mailbox write is accepted, and it
wakes the package (R395, R505). -/
def execMfrMgmtDataWrite (v : Reg32) (s : State) : Out :=
  .next (if !s.pmbusUp then nack s
    else if s.inRetain then
      match s.mailboxOf s.pmbus.addr.toNat with
      | some k =>
        let s1 := acked (writeMboxIn s .pmbus k v.toNat) 0
        { s1 with pmbus := { s1.pmbus with mgmt := 0 } }
      | none => nack s
    else
      let r := mgmtWr (pmbusWake s) .pmbus s.pmbus.addr.toNat v.toNat none
      let s1 := acked { r.2 with mgmtOut := (0, r.1) } 0
      { s1 with pmbus := { s1.pmbus with mgmt := mfrStatus r.1 } })

/-- MFR_MGMT_STATUS: 0 OK, 1 UNSUPPORTED, 2 STACK_RESET, 3 pending. -/
def execMfrMgmtStatus (s : State) : Out := .next (docentRead s s.pmbus.mgmt)

/-- Command codes of R505. -/
def pmbusCodes : List Nat := [0x03, 0x19, 0x79, 0x88, 0x89, 0x8D, 0x8E, 0x97, 0x98, 0xD0, 0xD1, 0xD2]

/-- PMBUS_UNSUPPORTED: an unlisted command is not acknowledged and sets CML (R504). -/
def execPmbusUnsupported (code : Byte) (s : State) : Out :=
  .next (if pmbusCodes.contains code.toNat then s
    else if s.pmbusUp then
      let s1 := nack (if s.inRetain then s else pmbusWake s)
      { s1 with pmbus := { s1.pmbus with cml := true } }
    else nack s)

end Sys2Proof.Machine
end

