-- ==== Sys2Proof/Machine/Requests.lean ====
section
/-! DEFINITION. The commands that serve an entry of a stack's request table: memory operations (R108, R109), atomics
(R179, R182, R183), accumulators (R188, R189) and descriptors (R191, R192). -/

namespace Sys2Proof.Machine

/-- READ (R108, R115); `err` is an SRAM error that its lookup meets (R221). -/
def execRead (k rid : Nat) (err : Option SramErr) (s : State) : Out :=
  .next (serve s k rid [0x01] (fun s r => withError s k r err (fun s r => doRead s k r)))

/-- WRITE (R108); `err` is an SRAM error that its lookup meets (R221). -/
def execWrite (k rid : Nat) (err : Option SramErr) (s : State) : Out :=
  .next (serve s k rid [0x02] (fun s r => withError s k r err (fun s r => doWrite s k r)))

/-- WRITE_POSTED (R109). -/
def execWritePosted (k rid : Nat) (s : State) : Out := .next (serve s k rid [0x03] (fun s r => doWrite s k r))

/-- WRITE_MASKED (R108). -/
def execWriteMasked (k rid : Nat) (s : State) : Out := .next (serve s k rid [0x04] (fun s r => doWriteMasked s k r))

/-- RANGE_ZERO: stack j clears its tiles of the span (R109). -/
def execRangeZero (k rid j : Nat) (s : State) : Out := .next (doRangeZero s k rid j)

/-- The RANGE_ZERO response (R109). -/
def execRangeZeroComplete (k rid : Nat) (s : State) : Out := .next (doRangeZeroDone s k rid)

/-- ADD32, acknowledged or posted (R182). -/
def execAdd32 (k rid : Nat) (s : State) : Out := .next (serve s k rid [0x20, 0x40] (fun s r => doSingle s k r))

/-- AND32, acknowledged or posted (R182). -/
def execAnd32 (k rid : Nat) (s : State) : Out := .next (serve s k rid [0x21, 0x41] (fun s r => doSingle s k r))

/-- OR32, acknowledged or posted (R182). -/
def execOr32 (k rid : Nat) (s : State) : Out := .next (serve s k rid [0x22, 0x42] (fun s r => doSingle s k r))

/-- XOR32, acknowledged or posted (R182). -/
def execXor32 (k rid : Nat) (s : State) : Out := .next (serve s k rid [0x23, 0x43] (fun s r => doSingle s k r))

/-- SMIN32, acknowledged or posted (R182). -/
def execSmin32 (k rid : Nat) (s : State) : Out := .next (serve s k rid [0x24, 0x44] (fun s r => doSingle s k r))

/-- SMAX32, acknowledged or posted (R182). -/
def execSmax32 (k rid : Nat) (s : State) : Out := .next (serve s k rid [0x25, 0x45] (fun s r => doSingle s k r))

/-- UMIN32, acknowledged or posted (R182). -/
def execUmin32 (k rid : Nat) (s : State) : Out := .next (serve s k rid [0x26, 0x46] (fun s r => doSingle s k r))

/-- UMAX32, acknowledged or posted (R182). -/
def execUmax32 (k rid : Nat) (s : State) : Out := .next (serve s k rid [0x27, 0x47] (fun s r => doSingle s k r))

/-- SWAP32, acknowledged or posted (R182). -/
def execSwap32 (k rid : Nat) (s : State) : Out := .next (serve s k rid [0x28, 0x48] (fun s r => doSingle s k r))

/-- CAS32, acknowledged or posted (R182). -/
def execCas32 (k rid : Nat) (s : State) : Out := .next (serve s k rid [0x29, 0x49] (fun s r => doSingle s k r))

/-- FADD32, acknowledged or posted (R183). -/
def execFadd32 (k rid : Nat) (s : State) : Out := .next (serve s k rid [0x2A, 0x4A] (fun s r => doSingle s k r))

/-- FMIN32, acknowledged or posted (R183). -/
def execFmin32 (k rid : Nat) (s : State) : Out := .next (serve s k rid [0x2B, 0x4B] (fun s r => doSingle s k r))

/-- FMAX32, acknowledged or posted (R183). -/
def execFmax32 (k rid : Nat) (s : State) : Out := .next (serve s k rid [0x2C, 0x4C] (fun s r => doSingle s k r))

/-- ADD64, acknowledged or posted (R182). -/
def execAdd64 (k rid : Nat) (s : State) : Out := .next (serve s k rid [0x30, 0x50] (fun s r => doSingle s k r))

/-- AND64, acknowledged or posted (R182). -/
def execAnd64 (k rid : Nat) (s : State) : Out := .next (serve s k rid [0x31, 0x51] (fun s r => doSingle s k r))

/-- OR64, acknowledged or posted (R182). -/
def execOr64 (k rid : Nat) (s : State) : Out := .next (serve s k rid [0x32, 0x52] (fun s r => doSingle s k r))

/-- XOR64, acknowledged or posted (R182). -/
def execXor64 (k rid : Nat) (s : State) : Out := .next (serve s k rid [0x33, 0x53] (fun s r => doSingle s k r))

/-- SMIN64, acknowledged or posted (R182). -/
def execSmin64 (k rid : Nat) (s : State) : Out := .next (serve s k rid [0x34, 0x54] (fun s r => doSingle s k r))

/-- SMAX64, acknowledged or posted (R182). -/
def execSmax64 (k rid : Nat) (s : State) : Out := .next (serve s k rid [0x35, 0x55] (fun s r => doSingle s k r))

/-- UMIN64, acknowledged or posted (R182). -/
def execUmin64 (k rid : Nat) (s : State) : Out := .next (serve s k rid [0x36, 0x56] (fun s r => doSingle s k r))

/-- UMAX64, acknowledged or posted (R182). -/
def execUmax64 (k rid : Nat) (s : State) : Out := .next (serve s k rid [0x37, 0x57] (fun s r => doSingle s k r))

/-- SWAP64, acknowledged or posted (R182). -/
def execSwap64 (k rid : Nat) (s : State) : Out := .next (serve s k rid [0x38, 0x58] (fun s r => doSingle s k r))

/-- CAS64, acknowledged or posted (R182). -/
def execCas64 (k rid : Nat) (s : State) : Out := .next (serve s k rid [0x39, 0x59] (fun s r => doSingle s k r))

/-- FADD64, acknowledged or posted (R183). -/
def execFadd64 (k rid : Nat) (s : State) : Out := .next (serve s k rid [0x3A, 0x5A] (fun s r => doSingle s k r))

/-- FMIN64, acknowledged or posted (R183). -/
def execFmin64 (k rid : Nat) (s : State) : Out := .next (serve s k rid [0x3B, 0x5B] (fun s r => doSingle s k r))

/-- FMAX64, acknowledged or posted (R183). -/
def execFmax64 (k rid : Nat) (s : State) : Out := .next (serve s k rid [0x3C, 0x5C] (fun s r => doSingle s k r))

/-- CAS128, acknowledged or posted (R182). -/
def execCas128 (k rid : Nat) (s : State) : Out := .next (serve s k rid [0x3D, 0x5D] (fun s r => doSingle s k r))

/-- REPRO_ADD, acknowledged or posted (R188). -/
def execReproAdd (k rid : Nat) (s : State) : Out := .next (serve s k rid [0x3E, 0x5E] (fun s r => doSingle s k r))

/-- FOLD (R189). -/
def execFold (k rid : Nat) (s : State) : Out := .next (serve s k rid [0x68] (fun s r => doSingle s k r))

/-- FOLD_CLEAR (R189). -/
def execFoldClear (k rid : Nat) (s : State) : Out := .next (serve s k rid [0x69] (fun s r => doSingle s k r))

/-- ScatterAcc: the descriptor completes (R191). -/
def execScatterAcc (k rid : Nat) (s : State) : Out := .next (finishDesc s k rid 0x60)

/-- Gather: the descriptor completes (R192). -/
def execGather (k rid : Nat) (s : State) : Out := .next (finishDesc s k rid 0x61)

/-- StridedGather: the descriptor completes (R192). -/
def execStridedGather (k rid : Nat) (s : State) : Out := .next (finishDesc s k rid 0x62)

/-- StridedCopy: the descriptor completes (R192). -/
def execStridedCopy (k rid : Nat) (s : State) : Out := .next (finishDesc s k rid 0x63)

/-- PkgCopy: the descriptor completes (R192). -/
def execPkgCopy (k rid : Nat) (s : State) : Out := .next (finishDesc s k rid 0x64)

/-- A descriptor takes a GTH context (R178). -/
def execGthDescriptorStart (k rid : Nat) (s : State) : Out := .next (startDesc s k rid)

/-- The next element access of a descriptor (R178). -/
def execGthElementAccess (k rid : Nat) (s : State) : Out := .next (stepDesc s k rid)

/-- NDU_CTRL.ACC_SPILL_ALL spills every resident accumulator of the slice (R200). -/
def execAccSpillAll (_src : Source) (k ch : Nat) (v : Reg32) (s : State) : Out := .next (if s.winOk k && bitAt v.toNat 0 && decide (ch < 32) then spillAll s k ch Who.sealer else s)

end Sys2Proof.Machine
end

