-- ==== Sys2Proof/Machine/Tap.lean ====
section
/-! DEFINITION. The test access ports (R506, R507): one per stack, with an 8-bit instruction register. -/

namespace Sys2Proof.Machine

/-- The lifecycle state gives full test access: BLANK, VENDOR, or FIELD with service access open (R507). -/
def State.tapFull (s : State) (k : Nat) : Bool :=
  let o := (s.stk k).otp
  decide (o.lifecycle < 2) || (o.lifecycle == 3 && o.svcOpen)

/-- An instruction code is permitted in stack k's lifecycle state; an unlisted code is not (R507). (DEDUCED, notes/assumptions/19.md) -/
def State.tapAllows (s : State) (k code : Nat) : Bool :=
  if code = 0xFF ∨ code = 0x01 then true
  else if 2 ≤ code ∧ code ≤ 5 then decide ((s.stk k).otp.lifecycle < 4)
  else if 0x10 ≤ code ∧ code < 0x30 then s.tapFull k else false

/-- Changes the TAP of stack k; a package without power has none running. (DEDUCED, notes/assumptions/19.md) -/
def State.modTap (s : State) (k : Nat) (f : Tap → Tap) : State :=
  if s.mode = .off then s else { s with taps := s.taps.modify k f }

/-- Loads BYPASS: its register captures 0. (DEDUCED, notes/assumptions/19.md) -/
def loadBypass (s : State) (k : Nat) : State := s.modTap k (fun t => { t with ir := 0xFF, dr := 0 })

/-- IDCODE (R506). -/
def State.tapIdcode (s : State) : Nat := 0x10000C4B + s.part.code * 2 ^ 12

/-- Levels of the sideband outputs: PWR_GOOD, THERM_N, ALIVE, from the boundary register while EXTEST, CLAMP or HIGHZ is loaded
(R507). -/
def State.sideband (s : State) : Bool × Bool × Bool :=
  match s.taps.find? (fun t => t.ir == 3 || t.ir == 4 || t.ir == 5) with
  | some t => (t.boundary.getLsbD 2, t.boundary.getLsbD 3, t.boundary.getLsbD 4)
  | none => (s.pins.pwrGood, s.pins.thermN, s.pins.alive)

/-- The pins as the boundary register captures them; the levels of SMB_CLK and SMB_DAT are free. (DESIGN CHOICE, notes/assumptions/1.md) -/
def samplePins (s : State) : Nat × State :=
  let o := s.sideband
  (b2n s.pins.resetN + b2n s.pins.wakeN * 2 + b2n o.1 * 4 + b2n o.2.1 * 8 + b2n o.2.2 * 16 + s.draw.1 % 4 * 32 +
    s.pmbus.strap % 2 * 128 + s.pmbus.strap / 2 % 2 * 256, s.draw.2)

/-- BYPASS (R507). -/
def execBypass (k : Nat) (s : State) : Out := .next (loadBypass s k)

/-- IDCODE (R506). -/
def execIdcode (k : Nat) (s : State) : Out := .next (s.modTap k (fun t => { t with ir := 0x01, dr := s.tapIdcode }))

/-- SAMPLE/PRELOAD: the pins are captured, and the boundary register takes the value shifted in. -/
def execSamplePreload (k : Nat) (pins : BitVec 9) (s : State) : Out :=
  .next (if !s.tapAllows k 0x02 then loadBypass s k else
    let c := samplePins s
    c.2.modTap k (fun t => { t with ir := 0x02, dr := c.1, boundary := pins }))

/-- EXTEST: the sideband outputs follow the boundary register, which takes the value shifted in. -/
def execExtest (k : Nat) (pins : BitVec 9) (s : State) : Out :=
  .next (if !s.tapAllows k 0x03 then loadBypass s k else
    let c := samplePins s
    c.2.modTap k (fun t => { t with ir := 0x03, dr := c.1, boundary := pins }))

/-- CLAMP: the outputs follow the boundary register, with the bypass register selected. (DEDUCED, notes/assumptions/19.md) -/
def execClamp (k : Nat) (s : State) : Out :=
  .next (if !s.tapAllows k 0x04 then loadBypass s k else s.modTap k (fun t => { t with ir := 0x04, dr := 0 }))

/-- HIGHZ, as CLAMP: R507 gives both the same effect on the outputs. (DEDUCED, notes/assumptions/19.md) -/
def execHighz (k : Nat) (s : State) : Out :=
  .next (if !s.tapAllows k 0x05 then loadBypass s k else s.modTap k (fun t => { t with ir := 0x05, dr := 0 }))

/-- IEEE_1500_WRAPPER_ACCESS, codes 0x10 to 0x1F (R507). -/
def execIeee1500WrapperAccess (k : Nat) (code : Byte) (s : State) : Out :=
  .next (if decide (0x10 ≤ code.toNat) && decide (code.toNat < 0x20) && s.tapAllows k code.toNat
    then s.modTap k (fun t => { t with ir := code }) else loadBypass s k)

/-- LOGIC_SCAN, codes 0x20 to 0x2F: the scanned stack's service stops (R507). -/
def execLogicScan (k : Nat) (code : Byte) (s : State) : Out :=
  .next (if decide (0x20 ≤ code.toNat) && decide (code.toNat < 0x30) && s.tapAllows k code.toNat && s.mode != .off
    then (s.modTap k (fun t => { t with ir := code })).modStk k (fun x => { x with scanned := true }) else loadBypass s k)

end Sys2Proof.Machine
end

