-- ==== Sys2Proof/Machine/Dispatch.lean ====
section
/-! DEFINITION. One arm per command. -/

namespace Sys2Proof.Machine

/-- The effect of a command on everything but the queue. (DESIGN CHOICE, notes/assumptions/21.md) -/
def exec (i : Instr) (s : State) : Host.Outcome State Fault Refusal :=
  match i with
  | .registerWrite src addr v => Sys2Proof.Machine.execRegisterWrite src addr v s
  | .packagePageWrite src addr v => Sys2Proof.Machine.execPackagePageWrite src addr v s
  | .stagedWrite src addr v => Sys2Proof.Machine.execStagedWrite src addr v s
  | .discard src addr => Sys2Proof.Machine.execDiscard src addr s
  | .counterClear src addr => Sys2Proof.Machine.execCounterClear src addr s
  | .counterLowRead src addr => Sys2Proof.Machine.execCounterLowRead src addr s
  | .pageErrBroadcast k => Sys2Proof.Machine.execPageErrBroadcast k s
  | .aggregatorSelect => Sys2Proof.Machine.execAggregatorSelect s
  | .ringLinkFail k up => Sys2Proof.Machine.execRingLinkFail k up s
  | .ringPartition => Sys2Proof.Machine.execRingPartition s
  | .frameTick => Sys2Proof.Machine.execFrameTick s
  | .missEventApply => Sys2Proof.Machine.execMissEventApply s
  | .runLevelChange level => Sys2Proof.Machine.execRunLevelChange level s
  | .frameCountAlign => Sys2Proof.Machine.execFrameCountAlign s
  | .timeSync p f e phase => Sys2Proof.Machine.execTimeSync p f e phase s
  | .timeSyncApply => Sys2Proof.Machine.execTimeSyncApply s
  | .tierUp k => Sys2Proof.Machine.execTierUp k s
  | .tierDown k => Sys2Proof.Machine.execTierDown k s
  | .commit src v => Sys2Proof.Machine.execCommit src v s
  | .commitCheckOnly src v => Sys2Proof.Machine.execCommitCheckOnly src v s
  | .commitCheckDone => Sys2Proof.Machine.execCommitCheckDone s
  | .apply k => Sys2Proof.Machine.execApply k s
  | .applyAck k => Sys2Proof.Machine.execApplyAck k s
  | .commitAbort => Sys2Proof.Machine.execCommitAbort s
  | .commitApply => Sys2Proof.Machine.execCommitApply s
  | .commitComplete => Sys2Proof.Machine.execCommitComplete s
  | .read k rid err => Sys2Proof.Machine.execRead k rid err s
  | .write k rid err => Sys2Proof.Machine.execWrite k rid err s
  | .writePosted k rid => Sys2Proof.Machine.execWritePosted k rid s
  | .writeMasked k rid => Sys2Proof.Machine.execWriteMasked k rid s
  | .fence p ctx => Sys2Proof.Machine.execFence p ctx s
  | .fenceComplete p ctx => Sys2Proof.Machine.execFenceComplete p ctx s
  | .rangeZero k rid j => Sys2Proof.Machine.execRangeZero k rid j s
  | .rangeZeroComplete k rid => Sys2Proof.Machine.execRangeZeroComplete k rid s
  | .mgmtRead p => Sys2Proof.Machine.execMgmtRead p s
  | .mgmtWrite p => Sys2Proof.Machine.execMgmtWrite p s
  | .irq => Sys2Proof.Machine.execIrq s
  | .inboundIrqTelemetry p header => Sys2Proof.Machine.execInboundIrqTelemetry p header s
  | .lateRsp p rid => Sys2Proof.Machine.execLateRsp p rid s
  | .ingressRelease p ctx => Sys2Proof.Machine.execIngressRelease p ctx s
  | .admissionQueueEntry k rid => Sys2Proof.Machine.execAdmissionQueueEntry k rid s
  | .requestTableAllocate k => Sys2Proof.Machine.execRequestTableAllocate k s
  | .requestAged rid => Sys2Proof.Machine.execRequestAged rid s
  | .admitTimeout k rid => Sys2Proof.Machine.execAdmitTimeout k rid s
  | .responseToEgress k rid => Sys2Proof.Machine.execResponseToEgress k rid s
  | .rspStall p => Sys2Proof.Machine.execRspStall p s
  | .add32 k rid => Sys2Proof.Machine.execAdd32 k rid s
  | .and32 k rid => Sys2Proof.Machine.execAnd32 k rid s
  | .or32 k rid => Sys2Proof.Machine.execOr32 k rid s
  | .xor32 k rid => Sys2Proof.Machine.execXor32 k rid s
  | .smin32 k rid => Sys2Proof.Machine.execSmin32 k rid s
  | .smax32 k rid => Sys2Proof.Machine.execSmax32 k rid s
  | .umin32 k rid => Sys2Proof.Machine.execUmin32 k rid s
  | .umax32 k rid => Sys2Proof.Machine.execUmax32 k rid s
  | .swap32 k rid => Sys2Proof.Machine.execSwap32 k rid s
  | .cas32 k rid => Sys2Proof.Machine.execCas32 k rid s
  | .fadd32 k rid => Sys2Proof.Machine.execFadd32 k rid s
  | .fmin32 k rid => Sys2Proof.Machine.execFmin32 k rid s
  | .fmax32 k rid => Sys2Proof.Machine.execFmax32 k rid s
  | .add64 k rid => Sys2Proof.Machine.execAdd64 k rid s
  | .and64 k rid => Sys2Proof.Machine.execAnd64 k rid s
  | .or64 k rid => Sys2Proof.Machine.execOr64 k rid s
  | .xor64 k rid => Sys2Proof.Machine.execXor64 k rid s
  | .smin64 k rid => Sys2Proof.Machine.execSmin64 k rid s
  | .smax64 k rid => Sys2Proof.Machine.execSmax64 k rid s
  | .umin64 k rid => Sys2Proof.Machine.execUmin64 k rid s
  | .umax64 k rid => Sys2Proof.Machine.execUmax64 k rid s
  | .swap64 k rid => Sys2Proof.Machine.execSwap64 k rid s
  | .cas64 k rid => Sys2Proof.Machine.execCas64 k rid s
  | .fadd64 k rid => Sys2Proof.Machine.execFadd64 k rid s
  | .fmin64 k rid => Sys2Proof.Machine.execFmin64 k rid s
  | .fmax64 k rid => Sys2Proof.Machine.execFmax64 k rid s
  | .cas128 k rid => Sys2Proof.Machine.execCas128 k rid s
  | .reproAdd k rid => Sys2Proof.Machine.execReproAdd k rid s
  | .fold k rid => Sys2Proof.Machine.execFold k rid s
  | .foldClear k rid => Sys2Proof.Machine.execFoldClear k rid s
  | .scatterAcc k rid => Sys2Proof.Machine.execScatterAcc k rid s
  | .gather k rid => Sys2Proof.Machine.execGather k rid s
  | .stridedGather k rid => Sys2Proof.Machine.execStridedGather k rid s
  | .stridedCopy k rid => Sys2Proof.Machine.execStridedCopy k rid s
  | .pkgCopy k rid => Sys2Proof.Machine.execPkgCopy k rid s
  | .gthDescriptorStart k rid => Sys2Proof.Machine.execGthDescriptorStart k rid s
  | .gthElementAccess k rid => Sys2Proof.Machine.execGthElementAccess k rid s
  | .accSpillAll src k ch v => Sys2Proof.Machine.execAccSpillAll src k ch v s
  | .vitFlush src k v => Sys2Proof.Machine.execVitFlush src k v s
  | .vitInvalidate src k v => Sys2Proof.Machine.execVitInvalidate src k v s
  | .vitFlushInv src k v => Sys2Proof.Machine.execVitFlushInv src k v s
  | .vitOpDone k => Sys2Proof.Machine.execVitOpDone k s
  | .vitSramScrub k ch line err => Sys2Proof.Machine.execVitSramScrub k ch line err s
  | .vitScrubLate k => Sys2Proof.Machine.execVitScrubLate k s
  | .refreshSpacing k ch pc bank => Sys2Proof.Machine.execRefreshSpacing k ch pc bank s
  | .perBankRefresh k ch pc bank => Sys2Proof.Machine.execPerBankRefresh k ch pc bank s
  | .activate k ch pc bank row ue => Sys2Proof.Machine.execActivate k ch pc bank row ue s
  | .targetedRefresh k ch pc => Sys2Proof.Machine.execTargetedRefresh k ch pc s
  | .targetedRefreshPromote k ch pc => Sys2Proof.Machine.execTargetedRefreshPromote k ch pc s
  | .powerDownEntry k ch pc => Sys2Proof.Machine.execPowerDownEntry k ch pc s
  | .trnPattern src k ch v res => Sys2Proof.Machine.execTrnPattern src k ch v res s
  | .trnSweep src k ch v res => Sys2Proof.Machine.execTrnSweep src k ch v res s
  | .trnTrackingPass src k ch v res => Sys2Proof.Machine.execTrnTrackingPass src k ch v res s
  | .trnAbort src k ch v => Sys2Proof.Machine.execTrnAbort src k ch v s
  | .trnDone k ch => Sys2Proof.Machine.execTrnDone k ch s
  | .trackingPass k ch pc res => Sys2Proof.Machine.execTrackingPass k ch pc res s
  | .pauseRequest src k ch v => Sys2Proof.Machine.execPauseRequest src k ch v s
  | .pauseClear src k ch v => Sys2Proof.Machine.execPauseClear src k ch v s
  | .pauseEnClear src k ch v => Sys2Proof.Machine.execPauseEnClear src k ch v s
  | .pauseDebt k ch => Sys2Proof.Machine.execPauseDebt k ch s
  | .ctlDlyWrite src k ch v => Sys2Proof.Machine.execCtlDlyWrite src k ch v s
  | .memoryDieSensorRead k raw => Sys2Proof.Machine.execMemoryDieSensorRead k raw s
  | .suspectClear k die => Sys2Proof.Machine.execSuspectClear k die s
  | .seal k tile => Sys2Proof.Machine.execSeal k tile s
  | .forcedSeal k tile => Sys2Proof.Machine.execForcedSeal k tile s
  | .sealComplete k tile => Sys2Proof.Machine.execSealComplete k tile s
  | .openListSweep k => Sys2Proof.Machine.execOpenListSweep k s
  | .scrubTile k tile => Sys2Proof.Machine.execScrubTile k tile s
  | .scrubLate k => Sys2Proof.Machine.execScrubLate k s
  | .tsmMapScrub k group err => Sys2Proof.Machine.execTsmMapScrub k group err s
  | .retire src k v => Sys2Proof.Machine.execRetire src k v s
  | .release src k v => Sys2Proof.Machine.execRelease src k v s
  | .reopen src k v => Sys2Proof.Machine.execReopen src k v s
  | .deaccDone k => Sys2Proof.Machine.execDeaccDone k s
  | .tsmQuery src k hi v => Sys2Proof.Machine.execTsmQuery src k hi v s
  | .admProbe src k off v => Sys2Proof.Machine.execAdmProbe src k off v s
  | .rowRepair src k v out => Sys2Proof.Machine.execRowRepair src k v out s
  | .laneShift src k v out => Sys2Proof.Machine.execLaneShift src k v out s
  | .trainChannel src k v out => Sys2Proof.Machine.execTrainChannel src k v out s
  | .trainAll src k v out => Sys2Proof.Machine.execTrainAll src k v out s
  | .laneMap p lanes => Sys2Proof.Machine.execLaneMap p lanes s
  | .laneMapConsistent p => Sys2Proof.Machine.execLaneMapConsistent p s
  | .laneMapTimeout p => Sys2Proof.Machine.execLaneMapTimeout p s
  | .trainingFrame p lane payload obs => Sys2Proof.Machine.execTrainingFrame p lane payload obs s
  | .phaseADone p => Sys2Proof.Machine.execPhaseADone p s
  | .phaseATimeout p => Sys2Proof.Machine.execPhaseATimeout p s
  | .phaseBSwitch p => Sys2Proof.Machine.execPhaseBSwitch p s
  | .phaseBDone p => Sys2Proof.Machine.execPhaseBDone p s
  | .phaseBTimeout p => Sys2Proof.Machine.execPhaseBTimeout p s
  | .alignDone p => Sys2Proof.Machine.execAlignDone p s
  | .alignTimeout p => Sys2Proof.Machine.execAlignTimeout p s
  | .nxlRestart src p v => Sys2Proof.Machine.execNxlRestart src p v s
  | .testEnter src p v => Sys2Proof.Machine.execTestEnter src p v s
  | .testExit src p v => Sys2Proof.Machine.execTestExit src p v s
  | .alignmentMarker p lane symbols displacement => Sys2Proof.Machine.execAlignmentMarker p lane symbols displacement s
  | .alignmentLost p => Sys2Proof.Machine.execAlignmentLost p s
  | .codeword p lane soft => Sys2Proof.Machine.execCodeword p lane soft s
  | .framingAGroup p blocks => Sys2Proof.Machine.execFramingAGroup p blocks s
  | .burstIdleEntry p => Sys2Proof.Machine.execBurstIdleEntry p s
  | .txWake p => Sys2Proof.Machine.execTxWake p s
  | .squelchAssert p lane => Sys2Proof.Machine.execSquelchAssert p lane s
  | .squelchDeassert p lane => Sys2Proof.Machine.execSquelchDeassert p lane s
  | .nxFalseWake p lane => Sys2Proof.Machine.execNxFalseWake p lane s
  | .injectSingle src p v => Sys2Proof.Machine.execInjectSingle src p v s
  | .injectBurst src p v => Sys2Proof.Machine.execInjectBurst src p v s
  | .injectRate src p v => Sys2Proof.Machine.execInjectRate src p v s
  | .flit p slots lost => Sys2Proof.Machine.execFlit p slots lost s
  | .nop p slot => Sys2Proof.Machine.execNop p slot s
  | .lack p slot => Sys2Proof.Machine.execLack p slot s
  | .lcrd p slot => Sys2Proof.Machine.execLcrd p slot s
  | .linit p slot => Sys2Proof.Machine.execLinit p slot s
  | .vcsel p slot => Sys2Proof.Machine.execVcsel p slot s
  | .lackDue p => Sys2Proof.Machine.execLackDue p s
  | .periodTrailer p words phase => Sys2Proof.Machine.execPeriodTrailer p words phase s
  | .periodTrailerSend p => Sys2Proof.Machine.execPeriodTrailerSend p s
  | .flitTransmit p => Sys2Proof.Machine.execFlitTransmit p s
  | .linkInitComplete p => Sys2Proof.Machine.execLinkInitComplete p s
  | .nxInitTimeout p => Sys2Proof.Machine.execNxInitTimeout p s
  | .replayLimit p => Sys2Proof.Machine.execReplayLimit p s
  | .progressPeriodsExpiry p => Sys2Proof.Machine.execProgressPeriodsExpiry p s
  | .nxpRetrain src p v => Sys2Proof.Machine.execNxpRetrain src p v s
  | .forwardResponse p => Sys2Proof.Machine.execForwardResponse p s
  | .fwdTimeout p rec => Sys2Proof.Machine.execFwdTimeout p rec s
  | .refHoldover => Sys2Proof.Machine.execRefHoldover s
  | .refEdgesReturn => Sys2Proof.Machine.execRefEdgesReturn s
  | .holdoverTimeout qual => Sys2Proof.Machine.execHoldoverTimeout qual s
  | .failoverRelock exact => Sys2Proof.Machine.execFailoverRelock exact s
  | .refRevert => Sys2Proof.Machine.execRefRevert s
  | .refRecovery qual oscCycles => Sys2Proof.Machine.execRefRecovery qual oscCycles s
  | .pllCheckWindow k pll count => Sys2Proof.Machine.execPllCheckWindow k pll count s
  | .clkMuxForced k mux => Sys2Proof.Machine.execClkMuxForced k mux s
  | .clkDocentSel src k v => Sys2Proof.Machine.execClkDocentSel src k v s
  | .clkRefWrite src k v qual => Sys2Proof.Machine.execClkRefWrite src k v qual s
  | .modeActiveRequest src k v => Sys2Proof.Machine.execModeActiveRequest src k v s
  | .modeIdleRequest src k v => Sys2Proof.Machine.execModeIdleRequest src k v s
  | .modeRetainRequest src k v => Sys2Proof.Machine.execModeRetainRequest src k v s
  | .maintenanceRequest src k v => Sys2Proof.Machine.execMaintenanceRequest src k v s
  | .maintenanceEntered k => Sys2Proof.Machine.execMaintenanceEntered k s
  | .maintenanceExit src k v => Sys2Proof.Machine.execMaintenanceExit src k v s
  | .autoIdle => Sys2Proof.Machine.execAutoIdle s
  | .idleWake cause => Sys2Proof.Machine.execIdleWake cause s
  | .retainEntryComplete => Sys2Proof.Machine.execRetainEntryComplete s
  | .retainWake cause => Sys2Proof.Machine.execRetainWake cause s
  | .retainExitComplete oscCycles => Sys2Proof.Machine.execRetainExitComplete oscCycles s
  | .vinSample mv => Sys2Proof.Machine.execVinSample mv s
  | .supplyCapLift => Sys2Proof.Machine.execSupplyCapLift s
  | .uvlo => Sys2Proof.Machine.execUvlo s
  | .ovp => Sys2Proof.Machine.execOvp s
  | .ivrFault k rail => Sys2Proof.Machine.execIvrFault k rail s
  | .tileIlimit k => Sys2Proof.Machine.execTileIlimit k s
  | .ilimitT3End k => Sys2Proof.Machine.execIlimitT3End k s
  | .brownout k => Sys2Proof.Machine.execBrownout k s
  | .baseSensorRead k base lid power iin => Sys2Proof.Machine.execBaseSensorRead k base lid power iin s
  | .stageStepDown k => Sys2Proof.Machine.execStageStepDown k s
  | .thmLowPowerCheck k base lid => Sys2Proof.Machine.execThmLowPowerCheck k base lid s
  | .thmThreshWrite src k v => Sys2Proof.Machine.execThmThreshWrite src k v s
  | .pwrVinRead src k => Sys2Proof.Machine.execPwrVinRead src k s
  | .otpProgram src k v burn => Sys2Proof.Machine.execOtpProgram src k v burn s
  | .otpFinalize src k v burn => Sys2Proof.Machine.execOtpFinalize src k v burn s
  | .otpAdvance src k v burn => Sys2Proof.Machine.execOtpAdvance src k v burn s
  | .otpResense src k v flips => Sys2Proof.Machine.execOtpResense src k v flips s
  | .serviceUnlockSubmit src k v nonce => Sys2Proof.Machine.execServiceUnlockSubmit src k v nonce s
  | .calibration src k v run => Sys2Proof.Machine.execCalibration src k v run s
  | .calibrationSecondRun k run burn => Sys2Proof.Machine.execCalibrationSecondRun k run burn s
  | .faultReport k new => Sys2Proof.Machine.execFaultReport k new s
  | .logRecordWrite k => Sys2Proof.Machine.execLogRecordWrite k s
  | .mirrorRecord k => Sys2Proof.Machine.execMirrorRecord k s
  | .safeForcedReset k => Sys2Proof.Machine.execSafeForcedReset k s
  | .safeExit src k v railsOk => Sys2Proof.Machine.execSafeExit src k v railsOk s
  | .haltBroadcast k => Sys2Proof.Machine.execHaltBroadcast k s
  | .archiveDone k => Sys2Proof.Machine.execArchiveDone k s
  | .forceHalt src k v => Sys2Proof.Machine.execForceHalt src k v s
  | .kcntClear src k v => Sys2Proof.Machine.execKcntClear src k v s
  | .firstClear src k v => Sys2Proof.Machine.execFirstClear src k v s
  | .pendAcknowledge src k sev v => Sys2Proof.Machine.execPendAcknowledge src k sev v s
  | .kindCfgWrite src k v => Sys2Proof.Machine.execKindCfgWrite src k v s
  | .logRdIdxWrite src k v => Sys2Proof.Machine.execLogRdIdxWrite src k v s
  | .mirRdIdxWrite src k v => Sys2Proof.Machine.execMirRdIdxWrite src k v s
  | .archDataRead src k => Sys2Proof.Machine.execArchDataRead src k s
  | .archDiscard src k v => Sys2Proof.Machine.execArchDiscard src k v s
  | .aliveToggle => Sys2Proof.Machine.execAliveToggle s
  | .telemetry => Sys2Proof.Machine.execTelemetry s
  | .vinValid chks => Sys2Proof.Machine.execVinValid chks s
  | .startReference k qual chk locked failedChs => Sys2Proof.Machine.execStartReference k qual chk locked failedChs s
  | .startWatchdog k => Sys2Proof.Machine.execStartWatchdog k s
  | .packageActive => Sys2Proof.Machine.execPackageActive s
  | .resetN ns => Sys2Proof.Machine.execResetN ns s
  | .pkgReset src k v => Sys2Proof.Machine.execPkgReset src k v s
  | .warmResetRetain src k v => Sys2Proof.Machine.execWarmResetRetain src k v s
  | .warmResetNoRetain src k v => Sys2Proof.Machine.execWarmResetNoRetain src k v s
  | .baseDieResetRelease k => Sys2Proof.Machine.execBaseDieResetRelease k s
  | .bstRequest src k v => Sys2Proof.Machine.execBstRequest src k v s
  | .bstShutdown src k v => Sys2Proof.Machine.execBstShutdown src k v s
  | .bstCancel src k v => Sys2Proof.Machine.execBstCancel src k v s
  | .bstPhaseDone k fails => Sys2Proof.Machine.execBstPhaseDone k fails s
  | .docMboxInWrite src k v => Sys2Proof.Machine.execDocMboxInWrite src k v s
  | .wakeN ns => Sys2Proof.Machine.execWakeN ns s
  | .clearFaults => Sys2Proof.Machine.execClearFaults s
  | .capability => Sys2Proof.Machine.execCapability s
  | .statusWord => Sys2Proof.Machine.execStatusWord s
  | .readVin => Sys2Proof.Machine.execReadVin s
  | .readIin => Sys2Proof.Machine.execReadIin s
  | .readTemperature1 => Sys2Proof.Machine.execReadTemperature1 s
  | .readTemperature2 => Sys2Proof.Machine.execReadTemperature2 s
  | .readPin => Sys2Proof.Machine.execReadPin s
  | .pmbusRevision => Sys2Proof.Machine.execPmbusRevision s
  | .mfrMgmtAddr v => Sys2Proof.Machine.execMfrMgmtAddr v s
  | .mfrMgmtDataRead => Sys2Proof.Machine.execMfrMgmtDataRead s
  | .mfrMgmtDataWrite v => Sys2Proof.Machine.execMfrMgmtDataWrite v s
  | .mfrMgmtStatus => Sys2Proof.Machine.execMfrMgmtStatus s
  | .pmbusUnsupported code => Sys2Proof.Machine.execPmbusUnsupported code s
  | .bypass k => Sys2Proof.Machine.execBypass k s
  | .idcode k => Sys2Proof.Machine.execIdcode k s
  | .samplePreload k pins => Sys2Proof.Machine.execSamplePreload k pins s
  | .extest k pins => Sys2Proof.Machine.execExtest k pins s
  | .clamp k => Sys2Proof.Machine.execClamp k s
  | .highz k => Sys2Proof.Machine.execHighz k s
  | .ieee1500WrapperAccess k code => Sys2Proof.Machine.execIeee1500WrapperAccess k code s
  | .logicScan k code => Sys2Proof.Machine.execLogicScan k code s
  | .ovpRestart => Sys2Proof.Machine.execOvpRestart s
  | .vinBelow3v k => Sys2Proof.Machine.execVinBelow3v k s
  | .resetNRelease => Sys2Proof.Machine.execResetNRelease s
  | .pllLock k pll locked => Sys2Proof.Machine.execPllLock k pll locked s
  | .otpCmdDone k => Sys2Proof.Machine.execOtpCmdDone k s
  | .docCmdDone k => Sys2Proof.Machine.execDocCmdDone k s
  | .checkerLock p lane symbols => Sys2Proof.Machine.execCheckerLock p lane symbols s

end Sys2Proof.Machine
end

