-- ==== Sys2Proof/Machine/Step.lean ====
section
/-! DEFINITION. One step: the command at the front of the queue, or idling (DESIGN CHOICE, notes/assumptions/10.md). -/

namespace Sys2Proof.Machine

/-- Takes the front command and runs it on the state with the queue's rest; an empty queue idles. (DESIGN CHOICE, notes/assumptions/10.md) -/
def step (s : State) : Host.Outcome State Fault Refusal :=
  match s.pending with
  | [] => .next s
  | c :: rest => exec c { s with pending := rest }

/-- The state with the command that a table word spells put at the front of its queue; unchanged where the word spells
none, as every word does. (DEDUCED, notes/assumptions/22.md) -/
def State.withFetchWord (s : State) (nbits w : Nat) : State :=
  match decodeTableWord nbits w with
  | some c => { s with pending := c :: s.pending }
  | none => s

end Sys2Proof.Machine
end

