-- ==== Sys2Proof/Safety.lean ====
section
/-! DEFINITION. The terms that claims use: a command runs and leaves a state with a property, what a command leaves alone, an
entry that may be served, and what a register or a memory word holds. -/

namespace Sys2Proof.Machine

/-! ### Runs and shapes -/

/-- The command runs at s: exec answers a next state, and that state has the property. -/
def Runs (c : Instr) (s : State) (P : State → Prop) : Prop := ∃ t, exec c s = .next t ∧ P t

/-- A state holds as many stacks and ports as its part has (R1, R11). -/
def Shaped (s : State) : Prop := s.stks.length = s.n ∧ s.ports.length = 4 * s.n

/-- A state is safe to go on from: it has its shape, and the dies' bytes are in canonical form. -/
def Sound (s : State) : Prop := Shaped s ∧ Memory.wf s.dies = true

/-! ### Frames: t is s but for the fields named -/

/-- Only stack k changed. -/
def OnlyStk (k : Nat) (s t : State) : Prop := t = { s with stks := t.stks } ∧ ∀ j, j ≠ k → t.stk j = s.stk j

/-- Only stack k changed, and events wait to be broadcast. -/
def OnlyStkErr (k : Nat) (s t : State) : Prop :=
  t = { s with stks := t.stks, errPend := t.errPend } ∧ ∀ j, j ≠ k → t.stk j = s.stk j

/-- Only port p changed. -/
def OnlyPort (p : Nat) (s t : State) : Prop := t = { s with ports := t.ports } ∧ ∀ q, q ≠ p → t.prt q = s.prt q

/-- Of a stack only the stored registers of its window changed. -/
def RegsOnly (x y : Stack) : Prop := y = { x with regs := y.regs }

/-- Of a stack only the stored registers of its window and its Registrar changed: what a report changes. -/
def RegsRgOnly (x y : Stack) : Prop := y = { x with regs := y.regs, rg := y.rg }

/-- Of a stack only the registers, the copy of the package pages and the Registrar changed. -/
def AllRegsRg (x y : Stack) : Prop := y = { x with regs := y.regs, pkgRegs := y.pkgRegs, rg := y.rg }

/-- A report of kind x waits at the intake of stack k. -/
def Reported (s : State) (k : Nat) (x : Kind) : Prop := ∃ w ∈ (s.stk k).rg.waiting, w.kind = x.code

/-- Between s and t stack k raised an event of kind x on page instance i: its PAGE_ERR bit is set (R84), or waits to be sent to
every copy of a package page (R510); a kind without a PAGE_ERR bit waits at the intake, unless a producer was kept waiting
there (R453). -/
def Raised (s t : State) (k : Nat) (x : Kind) (i : Nat) : Prop :=
  if x.bit < 24 then
    (if x.page.isPkg = true then (k, x.page.index i, x.bit) ∈ t.errPend else (t.raw k x.page i 0x10).testBit x.bit = true)
  else (∀ w ∈ (s.stk k).rg.waiting, w.kept = false) → Reported t k x

/-! ### Registers -/

/-- Live offsets whose writes follow the access types alone (R12): no block acts on them. -/
def plainAt (pg : Page) (off : Nat) : Bool :=
  decide (0x100 ≤ off) && decide (off < 0x800) &&
  match pg with
  | .stk | .thm | .cal | .bst | .nxp | .ndu => off != 0x100
  | .clk => !([0x100, 0x108, 0x110, 0x114, 0x11C] : List Nat).contains off
  | .pwr => off != 0x120
  | .otp => off != 0x128 && !(decide (0x150 ≤ off) && decide (off ≤ 0x190))
  | .reg => !([0x100, 0x108, 0x110, 0x144, 0x154, 0x174, 0x194, 0x19C] : List Nat).contains off &&
      !(decide (0x120 ≤ off) && decide (off < 0x130))
  | .tsm => !([0x100, 0x104, 0x110, 0x114, 0x118, 0x11C] : List Nat).contains off
  | .vit => !([0x140, 0x144, 0x148, 0x14C] : List Nat).contains off
  | .doc => !([0x110, 0x120] : List Nat).contains off
  | .nxl => !([0x100, 0x140, 0x144] : List Nat).contains off
  | .ctl => !([0x140, 0x184] : List Nat).contains off
  | .adm | .scb | .gth | .pkg | .tic | .sch | .rte => true
  | .cmt | .label => false

/-- Bit b belongs to fields of an access type of the register at an offset. -/
def hasAcc (pg : Page) (off : Nat) (a : Acc) (b : Nat) : Bool := (maskAt pg off (· == a)).testBit b

/-- Bit b after a write of v over old, by the access types of R12. -/
def bitAfter (pg : Page) (off old v b : Nat) : Bool :=
  ((if hasAcc pg off .rw b then v.testBit b else old.testBit b) || (hasAcc pg off .w1s b && v.testBit b)) &&
    !(hasAcc pg off .w1c b && v.testBit b)

/-- A management address leads to a page offset. -/
def Leads (s : State) (a : Reg32) (win : Nat) (pg : Page) (i off : Nat) : Prop :=
  s.target a.toNat = some { win := win, page := pg, inst := i, off := off }

/-- A write command of the host's reaches a page of stack k's window, and no COMMIT holds it. -/
def Writable (s : State) (src : Source) (a : Reg32) (k : Nat) (pg : Page) (i off : Nat) : Prop :=
  Leads s a (k + 1) pg i off ∧ s.answers src { win := k + 1, page := pg, inst := i, off := off } = true ∧ s.cmtBusy = false

/-- Instance i of the page exists in its window (R77, R78). -/
def IsPage (pg : Page) (i : Nat) : Prop :=
  (if pg.isPkg = true then pkgPageAt (pg.index i) else stkPageAt (pg.index i)) = some (pg, i)

/-- A map lists its keys strictly rising. -/
def Rising {α : Type} (m : SMap α) : Prop := m.Pairwise (fun a b => a.1 < b.1)

/-! ### Requests and memory words -/

/-- Entry e of stack k holds request rid with one of the opcodes, not completed, and may be served now. -/
def Ready (s : State) (k rid : Nat) (e : Entry) (ops : List Nat) : Prop :=
  s.entry k rid = some e ∧ e.req.op ∈ ops ∧ e.done = none ∧ e.gth = none ∧ s.servable k e.req = true

/-- A request after REQUEST_AGED for request rid (R142). -/
def Req.agedBy (rid : Nat) (r : Req) : Req := { r with aged := r.aged || (r.rid == rid && decide (64 ≤ r.wait)) }

/-- The entry now holds these responses, waiting for RSP egress, and is otherwise as before. -/
def Answered (t : State) (k rid : Nat) (e : Entry) (rs : List Resp) : Prop :=
  t.entry k rid = some { e with done := some rs }

/-- The place of a word in its stack. -/
def Loc.place (l : Loc) : List Nat := [l.ch, l.pc, l.bg, l.bank, l.sid, l.row, l.col]

/-- The location of word i of a request. -/
def State.wordLoc (s : State) (k : Nat) (r : Req) (i : Nat) : Loc := s.locOf k (r.off + 32 * i)

/-- The slice of the request's channel works, and holds every word of the request; its tile is in state st. -/
def Resident (s : State) (k : Nat) (r : Req) (st : TileState) : Prop :=
  1 ≤ r.len ∧ (∀ i, i < r.len → ((s.stk k).sectorAt (s.wordLoc k r i)).isSome = true) ∧
  ((s.stk k).ch (s.wordLoc k r 0).ch).viUnusable = false ∧ (s.stk k).tileSt (s.wordLoc k r 0).tile = st

/-- What serving from the slice may change in a stack: the request table, lines (owners and data), replacement state,
counters, open list, seals; no die byte, no tile state. -/
def SliceFrame (k : Nat) (s t : State) : Prop :=
  OnlyStk k s t ∧ t.stk k = { s.stk k with
    table := (t.stk k).table
    lines := (t.stk k).lines
    chans := (t.stk k).chans
    cnt := (t.stk k).cnt
    openList := (t.stk k).openList
    seals := (t.stk k).seals }

/-- The same for a posted request, whose context at its arrival port has one outstanding request less. -/
def PostedFrame (k p : Nat) (s t : State) : Prop :=
  t = { s with stks := t.stks, ports := t.ports } ∧ (∀ j, j ≠ k → t.stk j = s.stk j) ∧ (∀ q, q ≠ p → t.prt q = s.prt q) ∧
  t.prt p = { s.prt p with outst := (t.prt p).outst } ∧ t.stk k = { s.stk k with
    table := (t.stk k).table
    lines := (t.stk k).lines
    chans := (t.stk k).chans
    cnt := (t.stk k).cnt
    openList := (t.stk k).openList
    seals := (t.stk k).seals }

/-- Every word of stack k but those at the places listed reads from the slice as before. -/
def OtherWords (k : Nat) (s t : State) (ls : List Loc) : Prop :=
  ∀ l : Loc, (∀ x ∈ ls, l.place ≠ x.place) → (t.stk k).sectorAt l = (s.stk k).sectorAt l

/-! ### Near-data operations (R179 to R191) -/

/-- The result of an integer atomic on operands of n bits: new value from the memory value M and the operand A (R182). -/
abbrev IntFn := (n : Nat) → BitVec n → BitVec n → BitVec n

/-- One row of R179 for an integer atomic: command, opcode, operand bytes, function. -/
structure IntRow where
  cmd   : Nat → Nat → Instr
  op    : Nat
  bytes : Nat
  fn    : IntFn

/-- The integer atomics of R179 but CAS, with the function R182 gives each. -/
def intRows : List IntRow :=
  [⟨.add32, 0x20, 4, fun _ m a => m + a⟩, ⟨.and32, 0x21, 4, fun _ m a => m &&& a⟩, ⟨.or32, 0x22, 4, fun _ m a => m ||| a⟩,
   ⟨.xor32, 0x23, 4, fun _ m a => m ^^^ a⟩, ⟨.smin32, 0x24, 4, fun _ m a => if a.slt m then a else m⟩,
   ⟨.smax32, 0x25, 4, fun _ m a => if m.slt a then a else m⟩, ⟨.umin32, 0x26, 4, fun _ m a => if a.ult m then a else m⟩,
   ⟨.umax32, 0x27, 4, fun _ m a => if m.ult a then a else m⟩, ⟨.swap32, 0x28, 4, fun _ _ a => a⟩,
   ⟨.add64, 0x30, 8, fun _ m a => m + a⟩, ⟨.and64, 0x31, 8, fun _ m a => m &&& a⟩, ⟨.or64, 0x32, 8, fun _ m a => m ||| a⟩,
   ⟨.xor64, 0x33, 8, fun _ m a => m ^^^ a⟩, ⟨.smin64, 0x34, 8, fun _ m a => if a.slt m then a else m⟩,
   ⟨.smax64, 0x35, 8, fun _ m a => if m.slt a then a else m⟩, ⟨.umin64, 0x36, 8, fun _ m a => if a.ult m then a else m⟩,
   ⟨.umax64, 0x37, 8, fun _ m a => if m.ult a then a else m⟩, ⟨.swap64, 0x38, 8, fun _ _ a => a⟩]

/-- A single-word near-data request that finds its word in the slice, unpoisoned, in an OPEN tile outside the accumulator
regions, with operand word ow (R181, R186, R199). -/
def NduHit (s : State) (k : Nat) (e : Entry) (ow w : Word) : Prop :=
  e.req.data = [(ow, false)] ∧ Resident s k e.req .opened ∧ e.req.len = 1 ∧
  (s.stk k).sectorAt (s.wordLoc k e.req 0) = some (w, false) ∧ s.accRegion k e.req.off = none ∧
  ((s.stk k).ch (s.wordLoc k e.req 0).ch).nduUnusable = false

/-- The response of a fetching form: OK, the value M and OP_STATUS (R182, R184). -/
def fetchResp (s : State) (k : Nat) (r : Req) (m op : Nat) : Resp :=
  { respTo r stOk (s.frame k) with opStatus := op, inline := BitVec.ofNat 128 m }

/-- A best-effort posted request whose entry may be freed at its port (R109, R132). -/
def PostedOk (s : State) (e : Entry) : Prop :=
  isGuar e.req.cls = false ∧ e.req.port < s.ports.length ∧ (s.prt e.req.port).dropBelow ≤ e.req.rid

/-- A single-word operation has been performed: the word of the request is w' (or as before where nothing is written), no other
word changed, and the acknowledged form answers with value and OP_STATUS, the posted form frees its entry. A free value may have been
drawn (notes/assumptions/67.md). -/
def Performed (s t : State) (k rid : Nat) (e : Entry) (w' : Word) (m op : Nat) : Prop :=
  (t.stk k).sectorAt (s.wordLoc k e.req 0) = some (w', false) ∧ OtherWords k s t [s.wordLoc k e.req 0] ∧
  (isPosted e.req.op = false → Answered t k rid e [fetchResp s k e.req m op] ∧ SliceFrame k { s with free := t.free } t) ∧
  (isPosted e.req.op = true → t.entry k rid = none ∧ PostedFrame k e.req.port { s with free := t.free } t)

/-- A finite encoding. -/
def Fmt.isFinite (f : Fmt) (x : Nat) : Bool := decide (x < 2 ^ (f.eb + f.mb + 1)) && f.ex x != 2 ^ f.eb - 1

/-- A finite value as a multiple of the format's least magnitude. -/
def Fmt.units (f : Fmt) (x : Nat) : Int := (f.val x).1 * 2 ^ ((f.val x).2 - f.qmin).toNat

/-- Twice the least magnitude, in units, that rounds to infinity: half a step above the largest finite value. -/
def Fmt.overflowAt (f : Fmt) : Nat := (2 ^ (f.mb + 2) - 1) * 2 ^ (2 ^ f.eb - 3)

/-! ### Channels, events and registers left alone -/

/-- Channel c of stack k exists. -/
def HasCh (s : State) (k c : Nat) : Prop := k < s.n ∧ c < (s.stk k).chans.length

/-- Pseudo-channel i of channel c of stack k exists. -/
def HasPc (s : State) (k c i : Nat) : Prop := HasCh s k c ∧ i < ((s.stk k).ch c).pcs.length

/-- Every register of the windows of stack k but PAGE_ERR reads as before. -/
def OtherRegs (k : Nat) (s t : State) : Prop := ∀ pg i o, o ≠ 0x10 → o < 0x1000 → t.raw k pg i o = s.raw k pg i o

/-- Only channel c of stack k changed, beside its counters and what a report changes. -/
def OnlyCh (k c : Nat) (s t : State) : Prop :=
  OnlyStkErr k s t ∧ OtherRegs k s t ∧ (t.stk k).pkgRegs = (s.stk k).pkgRegs ∧ t.stk k = { s.stk k with
    regs := (t.stk k).regs
    chans := (t.stk k).chans
    cnt := (t.stk k).cnt
    rg := (t.stk k).rg } ∧
  ∀ d, d ≠ c → (t.stk k).ch d = (s.stk k).ch d

/-- Only pseudo-channel i of channel c of stack k changed, beside counters and what a report changes. -/
def OnlyPc (k c i : Nat) (s t : State) : Prop :=
  OnlyCh k c s t ∧ (t.stk k).ch c = { (s.stk k).ch c with pcs := ((t.stk k).ch c).pcs } ∧
  ∀ j, j ≠ i → t.pcOf k c j = s.pcOf k c j

/-- Counter c of a page counted one event, unless COUNTER_FREEZE stops the page's counters (R82). -/
def Counted (s t : State) (k : Nat) (pg : Page) (i c : Nat) : Prop :=
  s.frozen k pg i = false → t.cntVal k pg i c = satAdd cntMax (s.cntVal k pg i c) 1

/-- Event n of a page instance goes to the interrupt queue where PAGE_IRQ_EN enables it (R85), and only there. -/
def Pulsed (s t : State) (k : Nat) (pg : Page) (i n : Nat) : Prop :=
  if (s.raw k pg i 0x18).testBit n = true then
    s.irqs.length < 64 → ∃ q ∈ t.irqs, q.kind = 0 ∧ q.source = BitVec.ofNat 32 (pageAddr pg k i 0x0C) ∧ q.detail = BitVec.ofNat 32 n
  else t.irqs = s.irqs

/-- No two lines of a stack stand for one place. -/
def OneLinePerPlace (x : Stack) : Prop := x.lines.Pairwise (fun a b => a.isAt (b.loc 0 0) b.parity = false)

/-! ### Tiles -/

/-- The value with which a word of a tile enters its parity: what the slice holds, else the stored word; a poisoned word enters
as marker data (R272, R282). -/
def sealValue (s : State) (k : Nat) (l : Loc) : Word :=
  match (s.stk k).sectorAt l with
  | some (w, p) => if p then markerData else w
  | none => match decodeWord (s.dieBytes k l) with | .clean v => v | _ => 0

/-- A word that the sealer and scrub read without a correction: the slice holds it, or its stored bytes are clean. -/
def Readable (s : State) (k : Nat) (l : Loc) : Prop :=
  ((s.stk k).sectorAt l).isSome = true ∨ ∃ v, decodeWord (s.dieBytes k l) = .clean v

/-- Tiles of the part of the map that the sweep visits next, OPEN and in no open-list entry (R286). -/
def sweepFound (s : State) (k : Nat) : List Nat :=
  ((s.stk k).tiles.filter (fun e => e.2 == .opened && decide ((s.stk k).sweepPos ≤ sweepIndex s.part.sids e.1) &&
    decide (sweepIndex s.part.sids e.1 < (s.stk k).sweepPos + 1024) && !(s.stk k).openList.any (fun o => o.tile == e.1))).map (·.1)

/-- Every tile state of stack k but those of the tiles listed is as before. -/
def OtherTiles (k : Nat) (s t : State) (xs : List Nat) : Prop := ∀ x, x ∉ xs → (t.stk k).tileSt x = (s.stk k).tileSt x

/-! ### Ports -/

/-- Only port p changed, beside the registers, counters and Registrar of its stack, and the interrupt queue. -/
def OnlyPortErr (p : Nat) (s t : State) : Prop :=
  t = { s with stks := t.stks, ports := t.ports, irqs := t.irqs } ∧ (∀ q, q ≠ p → t.prt q = s.prt q) ∧
  (∀ j, j ≠ p / 4 → t.stk j = s.stk j) ∧ t.stk (p / 4) = { s.stk (p / 4) with
    regs := (t.stk (p / 4)).regs
    cnt := (t.stk (p / 4)).cnt
    rg := (t.stk (p / 4)).rg }

/-- Port p's lanes run and are in a state (R318). -/
def InLane (s : State) (p : Nat) (st : LaneState) : Prop := Shaped s ∧ s.portLive p = true ∧ (s.prt p).lstate = st

/-- PORT_UP of a port (R318). -/
def State.portUp (s : State) (p : Nat) : Bool := (s.raw (p / 4) .nxl (p % 4) 0x0C).testBit 16

/-- A try to train failed (R318, R331): DETECT, TRIES and its counter one up, the failure reported; at MAX_TRIES the port holds. -/
def TryFailed (p : Nat) (s t : State) : Prop :=
  (t.prt p).lstate = .detect ∧ t.portUp p = false ∧ (t.prt p).tries = (s.prt p).tries + 1 ∧
  Counted s t (p / 4) .nxl (p % 4) 27 ∧ Raised s t (p / 4) K.NXL_TRAIN_FAIL (p % 4) ∧
  ((t.prt p).held = true ↔ (s.prt p).held = true ∨ max 1 (s.fld (p / 4) (p % 4) F.NXL_CTRL_MAX_TRIES) ≤ (s.prt p).tries + 1) ∧
  OnlyPortErr p s t

/-- A port left ACTIVE for TRAIN (R318, R352): LINK_INIT with RESUME is to follow; counted and reported; messages and stored flits
stay. -/
def Retrained (p : Nat) (s t : State) : Prop :=
  (t.prt p).lstate = .train ∧ (t.prt p).resume = true ∧ t.portUp p = false ∧ Counted s t (p / 4) .nxp (p % 4) 6 ∧
  Raised s t (p / 4) K.NXP_RETRAIN (p % 4) ∧ (t.prt p).replay = (s.prt p).replay ∧ (t.prt p).ingress = (s.prt p).ingress ∧
  (t.prt p).rspOut = (s.prt p).rspOut ∧ OnlyPortErr p s t

/-- A try failed on a port that had been ACTIVE: its link is reset too (R318, R354). -/
def TryLost (p : Nat) (s t : State) : Prop :=
  (t.prt p).lstate = .detect ∧ t.portUp p = false ∧ (t.prt p).tries = (s.prt p).tries + 1 ∧ (t.prt p).wasActive = false ∧
  (t.prt p).ingress = [] ∧ (t.prt p).rspOut = [] ∧ (t.prt p).replay = [] ∧ (t.prt p).fwdRecs = [] ∧
  Counted s t (p / 4) .nxl (p % 4) 27 ∧ Counted s t (p / 4) .nxp (p % 4) 7

/-- Symbols as the lane's wires carry them: an inverted lane inverts each (R319). -/
def Port.wire (x : Port) (lane : Nat) (l : List Nat) : List Nat := if x.inverted lane then l.map invertLevel else l

/-- Of a lane only what it sends changed: its line, scrambler, stuffing, waiting units and pending injections. -/
def Lane.Sent (x y : Lane) : Prop := y = { x with
  line := y.line, injLeft := y.injLeft, injCount := y.injCount, txUnits := y.txUnits, txScram := y.txScram, txRun := y.txRun
  txStuffs := y.txStuffs }

/-- Between s and t the lanes of port p only sent. -/
def LanesSent (p : Nat) (s t : State) : Prop :=
  (t.prt p).lanes.length = (s.prt p).lanes.length ∧ ∀ n, (s.lane p n).Sent (t.lane p n)

/-- No injected error hits the lane's next symbols (R329). -/
def Clear (s : State) (p n : Nat) : Prop := (s.lane p n).injLeft = 0 ∧ s.injRate p n = none

/-- The 30 units that a lane takes from a codeword, marked where it failed (R311, R338). -/
def Lane.codewordUnits (l : Lane) (c : BitVec 2048) (bad : Bool) : List (BitVec 64 × Bool) :=
  (List.range 30).map (fun u =>
    (BitVec.ofNat 64 (ofBits ((((descramble l.scramRx (lowBits 1920 c.toNat)).1).drop (64 * u)).take 64)), bad))

/-- The 420 blocks of a framing-A group of flits, as headers and payloads (R339). -/
def groupBlocks (fs : List (List Word)) : List (Nat × Nat) :=
  fs.flatMap (fun f => (List.range 32).map (fun j => (1, (flitUnit f j).toNat))) ++
  (List.range 4).map (fun i => (2, groupTrailer i (crc32 (flitBytes fs))))

/-- A fill flit without a link-control slot (R341). -/
def fillFlit : List Word := 0xFF :: List.replicate 7 0

/-- Between s and t port p sent the flit f: on its lanes, in framing B the units waiting for a codeword, with injections, stuff
overruns counted and reported, and flit times with nothing to send counted. -/
def FlitSent (p : Nat) (s t : State) (f : List Word) : Prop :=
  OnlyPortErr p s t ∧ LanesSent p s t ∧ (t.prt p).txFlit = f ∧
  ((s.prt p).framingB = true → ∀ n, n < (s.prt p).lanes.length → ((s.lane p n).txUnits ++ laneUnits f 0 n).length < 30 →
    (t.lane p n).txUnits = (s.lane p n).txUnits ++ laneUnits f 0 n)

/-- Of a port's transmitter only what its lanes hold, the framing-A group and the idle count may change beside the fields given. -/
def Port.onLanes (x y : Port) : Port := { x with
  lanes := y.lanes, injBusy := y.injBusy, groupOut := y.groupOut, txBlock := y.txBlock, idleFlits := y.idleFlits }

/-- Counter c of a page counted n events, unless COUNTER_FREEZE stops the page's counters (R82). -/
def CountedN (s t : State) (k : Nat) (pg : Page) (i c n : Nat) : Prop :=
  s.frozen k pg i = false → t.cntVal k pg i c = satAdd cntMax (s.cntVal k pg i c) n

/-- A link-control slot of a LINIT: the advertised RSP and MGMT grants. -/
def linitGrants (w : Word) : Nat × Nat := (wordNum w 4 2, wordNum w 6 2)

/-! ### Clocks and modes -/

/-- Stack k's clocks and dies are without a reference: both PLLs as given, Docent on the ring oscillator, every pseudo-channel in
self-refresh (R386, R394). -/
def Stopped (t : State) (k : Nat) : Prop :=
  (t.stk k).clk.docPll = false ∧ ∀ c ∈ (t.stk k).chans, ∀ p ∈ c.pcs, p.selfRefresh = true

/-- Stack k's clocks have recovered: both PLLs locked, Docent on PLL_FIX; unless the stack is in SAFE, its usable channels have left
self-refresh with a tracking pass due (R387, R396). -/
def Resumed (t : State) (k : Nat) : Prop :=
  (t.stk k).clk.corePll = 2 ∧ (t.stk k).clk.fixPll = 2 ∧ (t.stk k).clk.docPll = true ∧ (t.stk k).clk.recovering = false ∧
  (t.inSafe k = false → ∀ c ∈ (t.stk k).chans, c.unusable = false → ∀ p ∈ c.pcs, p.selfRefresh = false ∧ p.trkDue = true)

/-! ### OTP -/

/-- Only the OTP controller of stack k changed, with its registers, counters and reports, and free values were drawn. -/
def OtpFrame (k : Nat) (s t : State) : Prop :=
  t = { s with stks := t.stks, free := t.free, irqs := t.irqs } ∧ (∀ j, j ≠ k → t.stk j = s.stk j) ∧ t.stk k = { s.stk k with
    regs := (t.stk k).regs
    cnt := (t.stk k).cnt
    otp := (t.stk k).otp
    rg := (t.stk k).rg }

/-- The cells of the array are as before. -/
def SameCells (x y : Otp) : Prop := y.cellA = x.cellA ∧ y.cellB = x.cellB

/-- The span that FINALIZE takes: the programmed words of REPAIR and CUSTOMER, else the whole region (R434). -/
def finalSpan (o : Otp) (r : Nat) : Nat := if r = 3 ∨ r = 6 then o.lastWord r else (otpRegion r).2

/-- The words that FINALIZE burns, with their values: the second header word, but for CATALOGUE, then the digest (R434). -/
def finalizeWords (o : Otp) (r : Nat) : List (Nat × Nat) :=
  (if r = 4 then [] else
    [((otpRegion r).1 + 1, finalSpan o r * 2 ^ 16 + otpCrc16 (bitsDown (finalSpan o r * 2 ^ 16) 31 16))]) ++
  ((o.digest r (finalSpan o r)).zipIdx).map (fun e => ((digestAt r).getD 0 + e.2, e.1))

/-- The two measurements of every value of a type agree (R441). -/
def RunsAgree (t : Nat) (a b : List Int) : Prop := ∀ i, i < (calShape t).1 → calAgree t (a.getD i 0) (b.getD i 0) = true

/-- SEQ of the next record of a type (R440, R442). -/
def nextSeq (o : Otp) (t : Nat) : Nat := match o.winner t with | some u => u.2.1 + 1 | none => 1

end Sys2Proof.Machine
end

