-- ==== Sys2Proof/Certificates/Slice0/Obligations.lean ====
section
/-! DEFINITION. The statements for the provers. -/

open Sys2Proof Sys2Proof.Machine

/-! ### The machine -/

/-- A step takes the command at the front of the queue, and idles on an empty queue (DESIGN CHOICE, notes/assumptions/10.md). -/
def Obligations.StepRunsFront : Prop :=
  (∀ (s : State) (c : Instr) (rest : List Instr), s.pending = c :: rest → step s = exec c { s with pending := rest }) ∧
  ∀ s : State, s.pending = [] → step s = .next s

/-- Every command answers a next state: none is refused and none faults. -/
def Claims.EveryCommandAnswers : Prop := ∀ (c : Instr) (s : State), ∃ t, exec c s = .next t

/-- The machine after reset: every stored register at the reset value of its table (R12), every staged image equal to the
live values (R87), every tile INVALID, every label in class B0 with no reservation (R153), no link failed, nothing listed
in the dies, an empty queue. -/
def Obligations.ResetState : Prop :=
  Sound State.reset ∧ State.reset.pending = [] ∧ State.reset.dies = [] ∧ State.reset.mode = .off ∧
  (∀ k pg i off, State.reset.raw k pg i off = resetAt State.reset.part pg off % 2 ^ 32) ∧
  (∀ k pg i off, 0x100 ≤ off → off < 0x800 → State.reset.raw k pg i (off + 0x700) = State.reset.raw k pg i off) ∧
  (∀ k x, (State.reset.stk k).tileSt x = .invalid) ∧
  (∀ k l, State.reset.labelFld k l F.LABEL_W0_CLASS = 4 ∧ State.reset.labelFld k l F.LABEL_W0_RES = 0) ∧
  (∀ l, State.reset.linkOk l = true) ∧ ∀ k pg i c, State.reset.cntVal k pg i c = 0

/-- No command changes the queue, the part, or how many stacks and ports there are. -/
def Claims.CommandsKeepShape : Prop :=
  ∀ (c : Instr) (s t : State), exec c s = .next t →
    t.pending = s.pending ∧ t.part = s.part ∧ (Shaped s → Shaped t)

/-- No command is refused, none faults, and none changes the queue, the part or the shape. -/
def Obligations.CommandsAnswer : Prop :=
  Claims.EveryCommandAnswers ∧ Claims.CommandsKeepShape

/-- Every step keeps a state sound: its shape, and the canonical form of the dies' bytes. -/
def Obligations.StepKeepsSound : Prop := ∀ s t : State, Sound s → step s = .next t → Sound t

/-! ### Registers (R12, R17, R70, R82 to R91) -/

/-- A write of a register of a stack window follows the access types of R12: RW takes the value, W1C clears, W1S sets, every
other bit stays; no other register, stack, port or byte changes. -/
def Obligations.RegisterWrite : Prop :=
  ∀ (s : State) (src : Source) (a v : Reg32) (k i off : Nat) (pg : Page), Shaped s → Writable s src a k pg i off →
    plainAt pg off = true →
    Runs (.registerWrite src a v) s (fun t =>
      (∀ b, b < 32 → (t.raw k pg i off).testBit b = bitAfter pg off (s.raw k pg i off) v.toNat b) ∧
      (∀ qg j o, regKey qg j o ≠ regKey pg i off → t.raw k qg j o = s.raw k qg j o) ∧
      t = { s with stks := t.stks, mgmtOut := (0, stOk) } ∧ (∀ j, j ≠ k → t.stk j = s.stk j) ∧
      RegsOnly (s.stk k) (t.stk k))

/-- A write of a live register of a package page reaches every copy: the same access types apply in each (R12, R17), and each
stack but the receiver's costs a message and an acknowledgement on the ring (R34). -/
def Obligations.PackagePageWrite : Prop :=
  ∀ (s : State) (src : Source) (a v : Reg32) (i off : Nat) (pg : Page), Shaped s → Leads s a 0 pg i off →
    s.answers src { win := 0, page := pg, inst := i, off := off } = true → s.cmtBusy = false →
    pg.isPkg = true → plainAt pg off = true → s.reachAll (s.srcStack src) = true →
    Runs (.packagePageWrite src a v) s (fun t =>
      (∀ k b, k < s.n → b < 32 → (t.raw k pg i off).testBit b = bitAfter pg off (s.raw k pg i off) v.toNat b) ∧
      (∀ k qg j o, qg.isPkg = true → regKey qg j o ≠ regKey pg i off → t.raw k qg j o = s.raw k qg j o) ∧
      t = { s with stks := t.stks, mgmtOut := (0, stOk) } ∧
      (∀ k, t.stk k = { s.stk k with pkgRegs := (t.stk k).pkgRegs, cnt := (t.stk k).cnt }) ∧
      (∀ k, k < s.n → k ≠ s.srcStack src → s.frozen k .stk 0 = false → s.cntVal k .stk 0 2 < cntMax →
        t.cntVal k .stk 0 2 = s.cntVal k .stk 0 2 + 1) ∧
      ∀ k qg j c, qg.isPkg = false → regKey qg j (0xF00 + 8 * c) ≠ regKey .stk 0 0xF10 →
        t.cntVal k qg j c = s.cntVal k qg j c)

/-- The bits that a write of a staged offset takes: the ST fields of the live register (R87). -/
def stBit (pg : Page) (off b : Nat) : Bool := hasAcc pg (off - 0x700) .st b

/-- A write to a staged offset of a page of a stack window changes only the staged image and sets DIRTY (R91); bits outside
ST fields ignore it (R87). -/
def Claims.StagedWrite : Prop :=
  ∀ (s : State) (src : Source) (a v : Reg32) (k i off : Nat) (pg : Page), Shaped s → Writable s src a k pg i off →
    pg ≠ .adm → pg.isPkg = false → 0x800 ≤ off → off < 0xF00 → (∃ b, b < 32 ∧ stBit pg off b = true) →
    Runs (.stagedWrite src a v) s (fun t =>
      (∀ b, b < 32 → (t.raw k pg i off).testBit b = if stBit pg off b then v.toNat.testBit b else (s.raw k pg i off).testBit b) ∧
      t.dirty k pg i = true ∧
      (∀ qg j o, regKey qg j o ≠ regKey pg i off → regKey qg j o ≠ regKey pg i 0x1C → t.raw k qg j o = s.raw k qg j o) ∧
      t = { s with stks := t.stks, mgmtOut := (0, stOk) } ∧ (∀ j, j ≠ k → t.stk j = s.stk j) ∧
      RegsOnly (s.stk k) (t.stk k))

/-- DISCARD copies every live ST register of the page into the staged image and clears DIRTY; the live values stay (R86, R91). -/
def Claims.Discard : Prop :=
  ∀ (s : State) (src : Source) (a : Reg32) (k i : Nat) (pg : Page), Shaped s → Writable s src a k pg i 0x1C →
    pg ≠ .adm → pg.cap.1 = true → Rising (s.stk k).regs →
    Runs (.discard src a) s (fun t =>
      (∀ off, 0x100 ≤ off → off < 0x800 → isStReg pg off = true →
        t.raw k pg i (off + 0x700) = s.raw k pg i off ∧ t.raw k pg i off = s.raw k pg i off) ∧
      t.dirty k pg i = false ∧
      (∀ qg j o, qg.index j ≠ pg.index i → o < 0x1000 → t.raw k qg j o = s.raw k qg j o) ∧
      t = { s with stks := t.stks, mgmtOut := (0, stOk) } ∧ (∀ j, j ≠ k → t.stk j = s.stk j) ∧
      RegsOnly (s.stk k) (t.stk k))

/-- The staged image of a page: writes to it, and DISCARD (R86, R87, R91). -/
def Obligations.StagedImage : Prop :=
  Claims.StagedWrite ∧ Claims.Discard

/-- COUNTER_CLEAR sets every counter of a page of a stack window to 0 (R82), and leaves every other counter. -/
def Claims.CounterClear : Prop :=
  ∀ (s : State) (src : Source) (a : Reg32) (k i : Nat) (pg : Page), Shaped s → Writable s src a k pg i 8 →
    pg.cap.2.1 = true → pg ≠ .nxl →
    Runs (.counterClear src a) s (fun t =>
      (∀ c, c < pg.cap.2.2 → t.cntVal k pg i c = 0) ∧
      (∀ qg j c, qg.isPkg = false → qg.index j ≠ pg.index i → c < 32 → t.cntVal k qg j c = s.cntVal k qg j c) ∧
      t.frozen k pg i = s.frozen k pg i ∧
      t = { s with stks := t.stks, mgmtOut := (0, stOk) } ∧ (∀ j, j ≠ k → t.stk j = s.stk j) ∧
      t.stk k = { s.stk k with regs := (t.stk k).regs, cnt := (t.stk k).cnt })

/-- Reading the low word of a counter returns its low half and latches the high half for that source only: the source then
reads it as the high word, and every other source reads what it read before (R88). -/
def Claims.CounterLatch : Prop :=
  ∀ (s : State) (src : Source) (a : Reg32) (win i c : Nat) (pg : Page), Shaped s → Leads s a win pg i (0xF00 + 8 * c) →
    s.answers src { win := win, page := pg, inst := i, off := 0xF00 + 8 * c } = true → pg ≠ .label → c < pg.cap.2.2 → c < 32 →
    Runs (.counterLowRead src a) s (fun t =>
      let k := s.holder src { win := win, page := pg, inst := i, off := 0xF00 + 8 * c }
      t.mgmtOut = (BitVec.ofNat 32 (s.counterVal k pg i c), stOk) ∧
      (readCounter t src k pg i (0xF04 + 8 * c)).1 = s.counterVal k pg i c / 2 ^ 32 ∧
      (∀ src', latchKey pg i src' ≠ latchKey pg i src →
        (readCounter t src' k pg i (0xF04 + 8 * c)).1 = (readCounter s src' k pg i (0xF04 + 8 * c)).1) ∧
      t = { s with stks := t.stks, mgmtOut := t.mgmtOut } ∧ (∀ j, j ≠ k → t.stk j = s.stk j) ∧
      t.stk k = { s.stk k with latch := (t.stk k).latch })

/-- Counters: COUNTER_CLEAR and the latch of the high half (R82, R88). -/
def Obligations.Counters : Prop :=
  Claims.CounterClear ∧ Claims.CounterLatch

/-! ### What the stacks share: page events, aggregator, ring (R17, R18, R25, R84, R168, R510, R511) -/

/-- At the tick, the PAGE_ERR events that stack k raised on package pages set their bits in every copy it reaches, and no
other bit; no further report is made (R510). The bits of miss events change with them (R168). -/
def Claims.PageErrBroadcast : Prop :=
  ∀ (s : State) (k : Nat), Shaped s → k < s.n →
    Runs (.pageErrBroadcast k) s (fun t =>
      t.errDue = s.errDue.filter (fun e => e.1 != k || isMissBit e) ∧
      (∀ j pg b, j < s.n → s.reach k j = true → pg.isPkg = true → pg ≠ .label → b < 32 →
        ((t.raw j pg 0 0x10).testBit b = true ↔
          (s.raw j pg 0 0x10).testBit b = true ∨
            ((k, pg.index 0, b) ∈ s.errDue ∧ isMissBit (k, pg.index 0, b) = false))) ∧
      t = { s with stks := t.stks, errDue := t.errDue } ∧
      ∀ j, t.stk j = { s.stk j with pkgRegs := (t.stk j).pkgRegs, cnt := (t.stk j).cnt })

/-- A miss event that the tick has sent is applied to every copy of SCH: its counter, SCH_MISS_LAST, for a late miss SCH_MISS_LABEL, its
PAGE_ERR bit, and an interrupt where the class's bit enables it (R168). -/
def Claims.MissEventApply : Prop :=
  ∀ (s : State) (m : Miss), Shaped s → s.missDue = [m] → m.stack < s.n → s.reachAll m.stack = true →
    m.ch < 32 → m.pc < 2 → m.cls < 4 → m.frame < 65536 → m.label < 4096 → s.frozen m.stack .sch 0 = false → s.irqs.length < 64 →
    Runs .missEventApply s (fun t =>
      t.missDue = [] ∧ t.errDue = s.errDue.filter (fun e => !isMissBit e) ∧
      (∀ k b, k < s.n → b < 32 → ((t.raw k .sch 0 0x10).testBit b = true ↔ (s.raw k .sch 0 0x10).testBit b = true ∨
        ∃ e ∈ s.errDue, isMissBit e = true ∧ e.2.2 = b ∧ s.reach e.1 k = true)) ∧
      t.cntVal m.stack .sch 0 (m.cls + if m.late then 0 else 4) =
        satAdd cntMax (s.cntVal m.stack .sch 0 (m.cls + if m.late then 0 else 4)) 1 ∧
      (∀ k, k < s.n → t.fld k 0 F.SCH_MISS_LAST_KIND = (if m.late then 0 else 1) ∧ t.fld k 0 F.SCH_MISS_LAST_STACK = m.stack ∧
        t.fld k 0 F.SCH_MISS_LAST_CHANNEL = m.ch ∧ t.fld k 0 F.SCH_MISS_LAST_PC = m.pc ∧ t.fld k 0 F.SCH_MISS_LAST_CLASS = m.cls ∧
        t.fld k 0 F.SCH_MISS_LAST_FRAME = m.frame ∧ (m.late = true → t.fld k 0 F.SCH_MISS_LABEL_LABEL = m.label)) ∧
      (bitAt (s.fld m.stack 0 (if m.late then F.SCH_CTRL_LATE_IRQ_EN else F.SCH_CTRL_SHORT_IRQ_EN)) m.cls = false → t.irqs = s.irqs) ∧
      (bitAt (s.fld m.stack 0 (if m.late then F.SCH_CTRL_LATE_IRQ_EN else F.SCH_CTRL_SHORT_IRQ_EN)) m.cls = true →
        ∃ q ∈ t.irqs, q.kind = 2 ∧ q.detail = BitVec.ofNat 32 (b2n (!m.late) * 2 ^ 7 + m.stack * 2 ^ 4 + m.cls)) ∧
      t = { s with stks := t.stks, missDue := t.missDue, errDue := t.errDue, pkgCnt := t.pkgCnt, irqs := t.irqs } ∧
      ∀ k, t.stk k = { s.stk k with pkgRegs := (t.stk k).pkgRegs, cnt := (t.stk k).cnt })

/-- Events on package pages reach every copy at the tick (R84, R168, R510). -/
def Obligations.PageEvents : Prop :=
  Claims.PageErrBroadcast ∧ Claims.MissEventApply

/-- The aggregator is chosen at the first tick after every stack has completed step 6 or entered SAFE: the lowest-numbered
stack that a failed critical block does not hold in SAFE (R18). -/
def Claims.AggregatorSelect : Prop :=
  ∀ (s : State) (k : Nat), s.aggChosen = false → s.mode ≠ .off →
    (∀ j, j < s.n → 6 ≤ (s.stk j).doc.bootStep ∨ s.inSafe j = true ∨ (s.stk j).doc.heldSafe = true) →
    k < s.n → s.mayAggregate k = true → (∀ j, j < k → s.mayAggregate j = false) →
    exec .aggregatorSelect s = .next { s with aggChosen := true, agg := k }

/-- A ring link that fails leaves service and no other link does; every request on its way
whose remaining path used it is gone and has a TIMEOUT response at its arrival port, in RSP egress or waiting for it; no other request
on its way is lost (R25). -/
def Claims.RingLinkFail : Prop :=
  ∀ (s : State) (k : Nat) (up : Bool), Shaped s → k < s.n → s.mode ≠ .off →
    s.linkOk (if up then k else (k + s.n - 1) % s.n) = true →
    Runs (.ringLinkFail k up) s (fun t =>
      t.linkOk (if up then k else (k + s.n - 1) % s.n) = false ∧
      (∀ l, l < s.n → l ≠ (if up then k else (k + s.n - 1) % s.n) → t.linkOk l = s.linkOk l) ∧
      (∀ r, r ∈ t.transit ↔
        r ∈ s.transit ∧ s.pathUses (r.port / 4) r.home r.reqId (if up then k else (k + s.n - 1) % s.n) = false) ∧
      (∀ r, r ∈ s.transit → s.pathUses (r.port / 4) r.home r.reqId (if up then k else (k + s.n - 1) % s.n) = true →
        r.port < 4 * s.n → (s.prt r.port).dropBelow ≤ r.rid →
        respTo r stTimeout (s.frame (r.port / 4)) ∈ (t.prt r.port).rspOut ++ (t.prt r.port).rspWait) ∧
      t.dies = s.dies ∧ t.mode = s.mode)

/-- When the ring is partitioned, every stack outside the part of the reference reports RING_PARTITION, once in a power cycle,
and no other stack changes (R511). -/
def Claims.RingPartition : Prop :=
  ∀ s : State, Shaped s → s.mode ≠ .off →
    Runs .ringPartition s (fun t =>
      (∀ k, k < s.n → s.inPart k = false → (s.stk k).partReported = false → Raised s t k K.STK_RING_PARTITION 0) ∧
      (∀ k, s.inPart k = true ∨ (s.stk k).partReported = true → t.stk k = s.stk k) ∧
      t = { s with stks := t.stks } ∧ ∀ k, t.stk k = { s.stk k with rg := (t.stk k).rg })

/-- The aggregator, a failed ring link, a partition (R18, R25, R511). -/
def Obligations.Ring : Prop :=
  Claims.AggregatorSelect ∧ Claims.RingLinkFail ∧ Claims.RingPartition

/-! ### Time (R35 to R43, R46, R52, R390, R391) -/

/-- A tick of a package in ACTIVE or IDLE adds one to the frame counter and the local ticks of every stack that ticks, unless a
comparison has marked the stack to take the aggregator's value; the counter stays at its largest value; a stack cut off from the
reference keeps both (R35, R39, R52, R82). What waited for the tick is in force: the running level that RUN_LEVEL_CHANGE named, with
its logic-rail voltage, and a stack's tier (R37, R46, R391). The first tick after a stop adds nothing (R53). -/
def Claims.FrameTick : Prop :=
  (∀ s : State, Shaped s → s.mode = .active ∨ s.mode = .idle → s.sync = none → s.afterStop = true →
    Runs .frameTick s (fun t => ∀ k, t.now k = s.now k ∧ t.frame k = s.frame k)) ∧
  ∀ s : State, Shaped s → s.mode = .active ∨ s.mode = .idle → s.sync = none → s.afterStop = false →
    Runs .frameTick s (fun t =>
      (∀ k, k < s.n → s.stackTicks k = true → s.now k ≠ 0 → (s.stk k).tm.align = false →
        t.frame k = satAdd cntMax (s.frame k) 1 ∧ t.now k = s.now k + 1) ∧
      (∀ k, k < s.n → s.stackTicks k = true → (s.stk k).tm.align = true → s.now s.agg ≠ 0 →
        t.frame k = satAdd cntMax (s.frame s.agg) 1) ∧
      (∀ k, s.stackTicks k = false → t.frame k = s.frame k ∧ t.now k = s.now k) ∧
      (∀ l, s.levelNext = some l → t.runLevel = l ∧ t.levelNext = none ∧ ∀ k, k < s.n →
        (t.stk k).pw.railMv = (s.stk k).pw.railMv.set 0 (match l with | 0 => 850 | 1 => 780 | 2 => 720 | _ => 650)) ∧
      (s.levelNext = none → t.runLevel = s.runLevel) ∧
      (∀ k w, k < s.n → s.ref.refPend = none → s.stackTicks k = true → (s.stk k).th.memRead = true → (s.stk k).tm.tierNext = some w →
        (t.stk k).tm.tier = w ∧ (t.stk k).tm.tierNext = none) ∧
      t.longFrame = false ∧ t.dies = s.dies)

/-- TIME_SYNC_APPLY is the tick: the frame that begins takes the number that TIME_SYNC gave, in every stack that ticks; TIME_VALID
is 1 and TIME_ESTIMATED 0 (R42, R54). -/
def Claims.TimeSyncApply : Prop :=
  ∀ (s : State) (f : Nat), Shaped s → s.mode = .active ∨ s.mode = .idle → s.sync = some f →
    Runs .timeSyncApply s (fun t =>
      (∀ k, k < s.n → s.stackTicks k = true → t.frame k = f) ∧
      t.sync = none ∧ t.timeValid = true ∧ t.timeEst = false ∧ t.dies = s.dies)

/-- The two forms of the tick (R35, R39, R42, R52, R54). -/
def Obligations.FrameTicks : Prop :=
  Claims.FrameTick ∧ Claims.TimeSyncApply

/-- A TIME_SYNC on any port but the one that supplies the reference, or with SYNC_ACCEPT 0, has no effect (R40). One that is
accepted names the frame that begins at its edge (R41, R42): f where the edge lies a whole frame or more after the last tick,
else f + 1; a frame number not above the counter is rejected and reported. Where f + 1 passes 2 ^ 64 − 1 the frame takes that number:
the model's choice (notes/assumptions/73.md). -/
def Claims.TimeSync : Prop :=
  (∀ (s : State) (p : Nat) (f : BitVec 64) (e phase : Nat), e ≤ 199 →
    (s.flag (p / 4) 0 F.TIC_CTRL_SYNC_ACCEPT = false ∨ p ≠ s.refPort) → exec (.timeSync p f e phase) s = .next s) ∧
  (∀ (s : State) (p : Nat) (f : BitVec 64) (e phase num : Nat), e ≤ 199 →
    s.flag (p / 4) 0 F.TIC_CTRL_SYNC_ACCEPT = true → p = s.refPort → s.mode ≠ .off →
    num = (if 200 ≤ phase + e then f.toNat else f.toNat + 1) → s.frame (p / 4) < num → s.sync = none →
    Runs (.timeSync p f e phase) s (fun t =>
      t.sync = some (min cntMax num) ∧ (200 < phase + e → t.longFrame = true) ∧ (0 < phase + e → phase + e < 200 → t.longFrame = true) ∧
      (phase + e = 0 ∨ phase + e = 200 → t.longFrame = s.longFrame) ∧
      t.cntVal 0 .tic 0 1 = f.toNat ∧ t.cntVal 0 .tic 0 2 = satAdd cntMax (s.cntVal 0 .tic 0 2) 1 ∧
      t = { s with sync := t.sync, longFrame := t.longFrame, pkgCnt := t.pkgCnt })) ∧
  ∀ (s : State) (p : Nat) (f : BitVec 64) (e phase : Nat), e ≤ 199 →
    s.flag (p / 4) 0 F.TIC_CTRL_SYNC_ACCEPT = true → p = s.refPort → s.mode ≠ .off →
    (if 200 ≤ phase + e then f.toNat else f.toNat + 1) ≤ s.frame (p / 4) →
    Runs (.timeSync p f e phase) s (fun t => t.sync = s.sync ∧ t.frame = s.frame ∧ Raised s t (p / 4) K.TIC_SYNC_REJECT 0)

/-- Every 1,024 frames the aggregator's counter is compared: a stack whose counter differs takes it at the next tick and raises
FRAME_MISMATCH, unless its MISMATCH_CHECK_EN is 0; a stack whose counter agrees is not marked (R39). -/
def Claims.FrameCountAlign : Prop :=
  ∀ s : State, Shaped s → s.serving = true → s.aggChosen = true → 1024 ≤ s.now s.agg - s.alignLast →
    Runs .frameCountAlign s (fun t =>
      (∀ k, k < s.n → k ≠ s.agg → s.inReset k = false → s.reach s.agg k = true → s.flag k 0 F.TIC_CTRL_MISMATCH_CHECK_EN = true →
        s.frame k ≠ s.frame s.agg → (t.stk k).tm.align = true ∧ Raised s t k K.TIC_FRAME_MISMATCH 0) ∧
      (∀ k, s.frame k = s.frame s.agg → (t.stk k).tm = (s.stk k).tm) ∧
      t.alignLast = s.now s.agg ∧ t = { s with stks := t.stks, alignLast := t.alignLast, errPend := t.errPend })

/-- How frame numbers are set and compared (R39 to R42). -/
def Obligations.FrameNumbers : Prop :=
  Claims.TimeSync ∧ Claims.FrameCountAlign

/-- The running P-level that the next tick brings is the slowest of the committed level, the supply cap and the trim cap; nothing
changes before the tick (R37, R390). -/
def Claims.RunLevelChange : Prop :=
  ∀ (s : State) (l : Nat), s.serving = true → l ≠ s.runLevel →
    l = max s.committed (max (if s.supplyCap then 2 else 0) (if s.trimCap then 3 else 0)) → Shaped s →
    exec (.runLevelChange l) s = .next { s with levelNext := some l }

/-- Temperature tiers (R46): at the next tick the tier rises to what the hottest memory die asks for, warm from 85 °C and hot from
105 °C (values in 0.25 °C); it falls one step after 6,250 frames 2 °C below the threshold. Nothing else changes. -/
def Claims.Tiers : Prop :=
  (∀ (s : State) (k w : Nat), Shaped s → k < s.n → (s.stk k).heldHot = false →
    w = (if 420 ≤ (s.stk k).hotDie then 2 else if 340 ≤ (s.stk k).hotDie then 1 else 0) → (s.stk k).tm.tier < w →
    Runs (.tierUp k) s (fun t => OnlyStk k s t ∧ t.stk k = { s.stk k with tm := { (s.stk k).tm with tierNext := some w } })) ∧
  ∀ (s : State) (k : Nat), Shaped s → k < s.n → (s.stk k).heldHot = false → 0 < (s.stk k).tm.tier →
    6250 ≤ (s.stk k).th.tierHold →
    Runs (.tierDown k) s (fun t => OnlyStk k s t ∧
      t.stk k = { s.stk k with tm := { (s.stk k).tm with tierNext := some ((s.stk k).tm.tier - 1) } })

/-- The running P-level and the temperature tiers (R46, R390, R391). -/
def Obligations.LevelsAndTiers : Prop :=
  Claims.RunLevelChange ∧ Claims.Tiers

/-! ### COMMIT (R90 to R103) -/

/-- A GO that is accepted sets BUSY, clears DONE, and records CHECK_ONLY, SOURCE and TAG in every copy; a GO while a COMMIT runs
changes nothing but BUSY_REJECTS (R92 step 1, R95, R99, R100). -/
def Obligations.CommitAccept : Prop :=
  (∀ (s : State) (src : Source) (v : Reg32), Shaped s → v.getLsbD 31 = true → v.getLsbD 30 = false →
    s.winOk (s.srcStack src) = true → s.reach (s.srcStack src) s.agg = true → s.inReset s.agg = false →
    s.mode = .active ∨ s.mode = .idle → s.cmtBusy = false → Source.code src < 64 →
    Runs (.commit src v) s (fun t =>
      (∀ k, k < s.n → s.reach s.agg k = true →
        t.fld k 0 F.CMT_RESULT_BUSY = 1 ∧ t.fld k 0 F.CMT_RESULT_DONE = 0 ∧ t.fld k 0 F.CMT_RESULT_CHECK_ONLY = 0 ∧
        t.fld k 0 F.CMT_RESULT_SOURCE = Source.code src ∧ t.fld k 0 F.CMT_RESULT_TAG = v.toNat % 65536) ∧
      t.commit.phase = .checking ∧ t.commit.checkOnly = false ∧ t = { s with stks := t.stks, commit := t.commit } ∧
      ∀ k, t.stk k = { s.stk k with pkgRegs := (t.stk k).pkgRegs, cnt := (t.stk k).cnt })) ∧
  (∀ (s : State) (src : Source) (v : Reg32), Shaped s → v.getLsbD 31 = true → v.getLsbD 30 = true →
    s.winOk (s.srcStack src) = true → s.reach (s.srcStack src) s.agg = true → s.inReset s.agg = false →
    s.mode = .active ∨ s.mode = .idle → s.cmtBusy = false → Source.code src < 64 →
    Runs (.commitCheckOnly src v) s (fun t =>
      (∀ k, k < s.n → s.reach s.agg k = true →
        t.fld k 0 F.CMT_RESULT_BUSY = 1 ∧ t.fld k 0 F.CMT_RESULT_DONE = 0 ∧ t.fld k 0 F.CMT_RESULT_CHECK_ONLY = 1 ∧
        t.fld k 0 F.CMT_RESULT_SOURCE = Source.code src ∧ t.fld k 0 F.CMT_RESULT_TAG = v.toNat % 65536) ∧
      t.commit.phase = .checking ∧ t.commit.checkOnly = true ∧ t = { s with stks := t.stks, commit := t.commit } ∧
      ∀ k, t.stk k = { s.stk k with pkgRegs := (t.stk k).pkgRegs, cnt := (t.stk k).cnt })) ∧
  ∀ (s : State) (src : Source) (v : Reg32), v.getLsbD 31 = true → s.cmtBusy = true →
    s.winOk (s.srcStack src) = true → s.reach (s.srcStack src) s.agg = true →
    Runs (if v.getLsbD 30 = true then .commitCheckOnly src v else .commit src v) s (fun t => t = { s with pkgCnt := t.pkgCnt } ∧
      (s.frozen s.agg .cmt 0 = false → t.cntVal s.agg .cmt 0 3 = satAdd cntMax (s.cntVal s.agg .cmt 0 3) 1))

/-- The outcome of the check step (R92 step 3, R93, R94): with every check passed a COMMIT is prepared for a target at least two
ticks ahead, and a check-only COMMIT is done; a failed check ends it with its STATUS and FAIL_STACK. No live or staged
configuration changes. -/
def Claims.CommitCheckDone : Prop :=
  ∀ s : State, Shaped s → s.commit.phase = .checking →
    Runs .commitCheckDone s (fun t =>
      (s.commit.status ≠ 10 → runChecks s = none → s.commit.checkOnly = false →
        t.commit.phase = .prepared ∧ s.now s.agg + 2 ≤ t.commit.target ∧ t.commit.applied = s.commit.applied) ∧
      (s.commit.status ≠ 10 → runChecks s = none → s.commit.checkOnly = true → t.commit.phase = .done ∧ t.commit.status = 0) ∧
      (s.commit.status ≠ 10 → ∀ f, runChecks s = some f →
        t.commit.phase = .done ∧ t.commit.status = f.status ∧ t.commit.failStack = f.stack) ∧
      (s.commit.status = 10 → t.commit.phase = .done ∧ t.commit.status = 10 ∧ t.commit.failStack = s.commit.failStack) ∧
      (∀ k pg i off, IsPage pg i → pg ≠ .cmt → off ≠ 0x1C → off < 0x1000 → t.raw k pg i off = s.raw k pg i off) ∧
      (∀ k, (t.stk k).labels = (s.stk k).labels ∧ (t.stk k).stLabels = (s.stk k).stLabels) ∧ t.dies = s.dies)

/-- Prepare and confirm (R92 steps 4 and 5): a stack that receives APPLY acknowledges it and ramps up for a faster level; when
every acknowledgement has arrived before tick T − 1 the aggregator sends CONFIRM, and a later one counts no more; otherwise the COMMIT
aborts, ABORT goes to every stack it reaches, and a stack that acknowledged and does not get it is to raise COMMIT_SPLIT at T (R97).
That the lowest of several is named is the model's choice (notes/assumptions/75.md). -/
def Claims.CommitPrepare : Prop :=
  (∀ (s : State) (k : Nat), Shaped s → s.commit.phase = .prepared → k < s.n → s.inReset k = false → s.reach s.agg k = true →
    k ∉ s.commit.applied →
    Runs (.apply k) s (fun t => t.commit = { s.commit with applied := s.commit.applied ++ [k] } ∧
      t = { s with stks := t.stks, commit := t.commit } ∧ (∀ j, j ≠ k → t.stk j = s.stk j) ∧
      t.stk k = { s.stk k with pw := { (s.stk k).pw with railMv := (t.stk k).pw.railMv } } ∧
      (s.runLevel ≤ s.stagedRun → t.stk k = s.stk k))) ∧
  (∀ (s : State) (k : Nat), Shaped s → s.commit.phase = .prepared → k ∈ s.commit.applied → k ∉ s.commit.acked →
    s.reach k s.agg = true →
    Runs (.applyAck k) s (fun t =>
      (s.commit.target ≤ s.now s.agg + 1 → t.commit = s.commit) ∧
      (s.now s.agg + 1 < s.commit.target → t.commit.acked = s.commit.acked ++ [k] ∧ t.commit.applied = s.commit.applied) ∧
      (t.commit.phase = .confirmed ↔ s.now s.agg + 1 < s.commit.target ∧ ∀ j, j < s.n → j = k ∨ j ∈ s.commit.acked) ∧
      (t.commit.phase = .confirmed → ∀ j, j ∈ t.commit.got ↔ j < s.n ∧ s.reach s.agg j = true ∧ s.inReset j = false) ∧
      t = { s with stks := t.stks, commit := t.commit } ∧ ∀ j, t.stk j = { s.stk j with cnt := (t.stk j).cnt })) ∧
  ∀ (s : State) (k : Nat), Shaped s → s.commit.phase = .prepared → s.commit.target ≤ s.now s.agg + 1 → k < s.n → k ∉ s.commit.acked →
    (∀ j, j < k → j ∈ s.commit.acked) →
    Runs .commitAbort s (fun t =>
      t.commit = { s.commit with phase := .aborted, failStack := k, got := t.commit.got } ∧
      (∀ j, j ∈ t.commit.got ↔ j < s.n ∧ s.reach s.agg j = true ∧ s.inReset j = false) ∧
      (∀ e, e ∈ t.splitDue ↔ e ∈ s.splitDue ∨
        (e.1 = s.commit.target ∧ e.2 ∈ s.commit.acked ∧ e.2 ∉ t.commit.got ∧ s.inReset e.2 = false)) ∧
      t = { s with stks := t.stks, commit := t.commit, splitDue := t.splitDue } ∧ ∀ j, t.stk j = { s.stk j with cnt := (t.stk j).cnt })

/-- The check, prepare and confirm steps of a COMMIT (R92 to R94, R97). -/
def Obligations.CommitRun : Prop :=
  Claims.CommitCheckDone ∧ Claims.CommitPrepare

/-- At tick T every stack that holds CONFIRM copies all staged values into the live registers at once: each ST register and the
label table take the staged image, and DIRTY clears; a stack without CONFIRM keeps its live registers, but for SCH_PAGE_STATUS, and
raises SPLIT; the running level follows (R92 step 6, R97, R391). -/
def Claims.CommitApply : Prop :=
  ∀ s : State, Shaped s → s.commit.phase = .confirmed → s.commit.target ≤ s.now s.agg →
    (∀ k, k < s.n → Rising (s.stk k).regs ∧ Rising (s.stk k).pkgRegs) →
    Runs .commitApply s (fun t =>
      (∀ k, k < s.n → s.inReset k = false → k ∈ s.commit.got →
        (∀ pg i off, IsPage pg i → pg ≠ .label → 0x100 ≤ off → off < 0x800 → isStReg pg off = true → t.raw k pg i off = s.raw k pg i (off + 0x700)) ∧
        (t.stk k).labels = (s.stk k).stLabels ∧ ∀ e ∈ stagedPages, t.dirty k e.1 e.2 = false) ∧
      (∀ k, k < s.n → s.inReset k = false → k ∉ s.commit.got → Raised s t k K.CMT_SPLIT 0 ∧
        (t.stk k).regs = (s.stk k).regs ∧ (t.stk k).labels = (s.stk k).labels ∧
        ∀ pg i off, pg.isPkg = true → IsPage pg i → off < 0x1000 → ¬(pg = .sch ∧ off = 0x0C) → t.raw k pg i off = s.raw k pg i off) ∧
      t.runLevel = t.targetLevel ∧ t.commit.phase = .done ∧ t.commit.status = 0 ∧ t.dies = s.dies)

/-- Completion (R92 step 7, R100): with no write held, BUSY is 0, DONE is 1 and STATUS and FAIL_STACK show the outcome in every
copy that the aggregator reaches, 0xB after an abort; no COMMIT is then in progress. -/
def Claims.CommitComplete : Prop :=
  ∀ s : State, Shaped s → s.commit.phase = .done ∨ s.commit.phase = .aborted → s.commit.held = [] →
    s.commit.status < 16 → s.commit.failStack < 8 →
    Runs .commitComplete s (fun t =>
      (∀ k, k < s.n → s.reach s.agg k = true →
        t.fld k 0 F.CMT_RESULT_BUSY = 0 ∧ t.fld k 0 F.CMT_RESULT_DONE = 1 ∧
        t.fld k 0 F.CMT_RESULT_STATUS = (if s.commit.phase = .aborted then 11 else s.commit.status) ∧
        t.fld k 0 F.CMT_RESULT_FAIL_STACK = s.commit.failStack) ∧
      t.cmtBusy = false ∧ t.dies = s.dies ∧ t.mode = s.mode ∧ ∀ k, (t.stk k).labels = (s.stk k).labels)

/-- The apply step and the completion of a COMMIT (R92, R97, R100). -/
def Obligations.CommitEnd : Prop :=
  Claims.CommitApply ∧ Claims.CommitComplete

/-! ### Memory operations (R108, R109, R115, R124, R126) -/

/-- READ returns zeros from an INVALID tile without an access (R115), RETIRED from a RETIRED tile, and the words that the slice
holds, with POISON if one of them is poisoned (R126). No word changes. -/
def Obligations.ReadReturns : Prop :=
  ∀ (s : State) (k rid : Nat) (e : Entry), Ready s k rid e [0x01] →
    ((s.stk k).tileSt (s.wordLoc k e.req 0).tile = .invalid → 1 ≤ e.req.len →
      Runs (.read k rid none) s (fun t =>
        Answered t k rid e [{ respTo e.req stOk (s.frame k) with data := List.replicate e.req.len (0, false) }] ∧
        OnlyStk k s t ∧ t.stk k = { s.stk k with table := (t.stk k).table })) ∧
    ((s.stk k).tileSt (s.wordLoc k e.req 0).tile = .retired →
      Runs (.read k rid none) s (fun t => Answered t k rid e [respTo e.req stRetired (s.frame k)] ∧
        OnlyStk k s t ∧ t.stk k = { s.stk k with table := (t.stk k).table })) ∧
    ∀ st, st ≠ .invalid → st ≠ .retired → Resident s k e.req st →
      Runs (.read k rid none) s (fun t => SliceFrame k s t ∧ OtherWords k s t [] ∧
        ∃ rs : Resp, Answered t k rid e [rs] ∧ rs.data.length = e.req.len ∧
          (∀ i w p, i < e.req.len → (s.stk k).sectorAt (s.wordLoc k e.req i) = some (w, p) →
            rs.data[i]? = some (if p then (0, true) else (w, false))) ∧
          (rs.status = stPoison ↔ ∃ i w, i < e.req.len ∧ (s.stk k).sectorAt (s.wordLoc k e.req i) = some (w, true)) ∧
          (rs.status = stPoison ∨ rs.status = stOk))

/-- WRITE and WRITE_POSTED store each data word, poisoned where its poison bit or POISON_IN says so, and change no other word; the
acknowledged form is answered with OK, the posted form frees its entry and is no longer outstanding (R108, R109, R126). -/
def Claims.WriteStores : Prop :=
  (∀ (s : State) (k rid : Nat) (e : Entry), Ready s k rid e [0x02] → e.req.formOk = true → e.req.data.length = e.req.len →
    Resident s k e.req .opened →
    Runs (.write k rid none) s (fun t => Answered t k rid e [respTo e.req stOk (s.frame k)] ∧ SliceFrame k s t ∧
      (∀ i d, e.req.data[i]? = some d → (t.stk k).sectorAt (s.wordLoc k e.req i) =
        some (if e.req.poisonIn || d.2 then (0, true) else (d.1, false))) ∧
      OtherWords k s t ((List.range e.req.len).map (s.wordLoc k e.req)))) ∧
  ∀ (s : State) (k rid : Nat) (e : Entry), Ready s k rid e [0x03] → e.req.formOk = true → e.req.data.length = e.req.len →
    Resident s k e.req .opened → isGuar e.req.cls = false → e.req.port < s.ports.length →
    (s.prt e.req.port).dropBelow ≤ rid →
    Runs (.writePosted k rid) s (fun t => t.entry k rid = none ∧ PostedFrame k e.req.port s t ∧
      mget (t.prt e.req.port).outst e.req.reqId 0 = mget (s.prt e.req.port).outst e.req.reqId 0 - 1 ∧
      (∀ i d, e.req.data[i]? = some d → (t.stk k).sectorAt (s.wordLoc k e.req i) =
        some (if e.req.poisonIn || d.2 then (0, true) else (d.1, false))) ∧
      OtherWords k s t ((List.range e.req.len).map (s.wordLoc k e.req)))

/-- WRITE_MASKED replaces the enabled bytes of the word and keeps the others; with no byte enabled it writes nothing; a poisoned
word stays poisoned and answers POISON unless every byte is written (R108, R126). -/
def Claims.WriteMasked : Prop :=
  ∀ (s : State) (k rid : Nat) (e : Entry) (w new : Word) (p : Bool), Ready s k rid e [0x04] → e.req.len = 1 →
    e.req.data = [(new, false)] → Resident s k e.req .opened → (s.stk k).sectorAt (s.wordLoc k e.req 0) = some (w, p) →
    Runs (.writeMasked k rid) s (fun t => SliceFrame k s t ∧ OtherWords k s t [s.wordLoc k e.req 0] ∧
      (p = false → Answered t k rid e [respTo e.req stOk (s.frame k)] ∧
        ∃ w', (t.stk k).sectorAt (s.wordLoc k e.req 0) = some (w', false) ∧
          ∀ b, b < 32 → wordByte w' b = if (e.req.parNum 0 4).testBit b then wordByte new b else wordByte w b) ∧
      (p = true → e.req.parNum 0 4 ≠ 2 ^ 32 - 1 → Answered t k rid e [respTo e.req stPoison (s.frame k)] ∧
        ∃ w', (t.stk k).sectorAt (s.wordLoc k e.req 0) = some (w', true)) ∧
      (p = true → e.req.parNum 0 4 = 2 ^ 32 - 1 → Answered t k rid e [respTo e.req stOk (s.frame k)] ∧
        (t.stk k).sectorAt (s.wordLoc k e.req 0) = some (new, false)))

/-- A write to a tile that is not RETIRED leaves it OPEN, whatever it was (R275, R276). -/
def Claims.WriteOpensTile : Prop :=
  ∀ (s : State) (k rid : Nat) (e : Entry), Ready s k rid e [0x02, 0x03] → 1 ≤ e.req.len →
    (s.stk k).tileSt (s.wordLoc k e.req 0).tile ≠ .retired →
    Runs (if e.req.op = 0x02 then .write k rid none else .writePosted k rid) s (fun t =>
      (t.stk k).tileSt (s.wordLoc k e.req 0).tile = .opened)

/-- The writes of memory (R108, R109, R126, R275, R276). -/
def Obligations.Writes : Prop :=
  Claims.WriteStores ∧ Claims.WriteMasked ∧ Claims.WriteOpensTile

/-- FENCE leaves ingress and holds every later request of its context (R121); its response follows once every earlier request
of the context has completed, and not before. -/
def Obligations.Fence : Prop :=
  (∀ (s : State) (p ctx : Nat) (r : Req), p < s.ports.length → (s.prt p).head ctx = some r → r.op = 0x08 → r.formOk = true →
    (s.prt p).fenced ctx = false → s.mode = .active → s.inReset (p / 4) = false → s.halt = none → s.outAllows p r = true →
    Runs (.fence p ctx) s (fun t =>
      (t.prt p).fences = (s.prt p).fences ++ [r] ∧ (t.prt p).ingress = (s.prt p).ingress.filter (fun q => q.rid != r.rid) ∧
      (∀ q : Req, q.reqId = ctx → t.canLeave p q = false) ∧ OnlyPort p s t ∧
      t.prt p = { s.prt p with
        ingress := (t.prt p).ingress
        fences := (t.prt p).fences
        ctxCred := (t.prt p).ctxCred
        lcrdOut := (t.prt p).lcrdOut })) ∧
  (∀ (s : State) (p ctx : Nat) (f : Req), p < s.ports.length → (s.prt p).fences.find? (fun r => r.reqId == ctx) = some f →
    f.port = p → s.earlierPending f = false → s.rspRoom p 1 = true → (s.prt p).dropBelow ≤ f.rid →
    Runs (.fenceComplete p ctx) s (fun t =>
      (t.prt p).rspOut = (s.prt p).rspOut ++ [respTo f stOk (s.frame (p / 4))] ∧
      (t.prt p).fences = (s.prt p).fences.filter (fun r => r.rid != f.rid) ∧ OnlyPort p s t ∧
      t.prt p = { s.prt p with
        fences := (t.prt p).fences
        rspOut := (t.prt p).rspOut })) ∧
  ∀ (s : State) (p ctx : Nat) (f : Req), (s.prt p).fences.find? (fun r => r.reqId == ctx) = some f →
    s.earlierPending f = true → exec (.fenceComplete p ctx) s = .next s

/-- RANGE_ZERO at a stack: every tile of the span there that is not RETIRED becomes INVALID with none of its lines left; RETIRED
tiles stay and are counted as skipped; tiles outside the span and every die byte stay (R109, R277). The response follows when
every stack has done so, with the skipped count, or STACK_RESET where a stack could not. -/
def Obligations.RangeZero : Prop :=
  (∀ (s : State) (k rid j : Nat) (e : Entry), Ready s k rid e [0x09] → j < s.n → Shaped s → j ∉ e.rzDone →
    s.unreach j = false → s.reach k j = true → Rising (s.stk j).tiles →
    Runs (.rangeZero k rid j) s (fun t =>
      (∀ x, s.tileIn j x e.req.off (e.req.parNum 0 4) = true → (s.stk j).tileSt x ≠ .retired → (t.stk j).tileSt x = .invalid) ∧
      (∀ x, (s.stk j).tileSt x = .retired → (t.stk j).tileSt x = .retired) ∧
      (∀ x, s.tileIn j x e.req.off (e.req.parNum 0 4) = false → (t.stk j).tileSt x = (s.stk j).tileSt x) ∧
      (∀ x, s.tileIn j x e.req.off (e.req.parNum 0 4) = true → x ∈ (s.stk j).tiles.map (·.1) →
        ∀ y ∈ (t.stk j).lines, (y.loc j 0).tile ≠ x) ∧
      (∃ e', t.entry k rid = some e' ∧ e'.rzDone = e.rzDone ++ [j] ∧ e'.done = none ∧
        e'.rzSkip = e.rzSkip + ((s.stk j).tiles.filter (fun x => s.tileIn j x.1 e.req.off (e.req.parNum 0 4) &&
          x.2 == .retired)).length) ∧
      t = { s with stks := t.stks } ∧ ∀ i, i ≠ j → i ≠ k → t.stk i = s.stk i)) ∧
  (∀ (s : State) (k rid : Nat) (e : Entry), Ready s k rid e [0x09] → (∀ j, j < s.n → j ∈ e.rzDone) →
    Runs (.rangeZeroComplete k rid) s (fun t =>
      Answered t k rid e [{ respTo e.req stOk (s.frame k) with inline := BitVec.ofNat 128 (e.rzSkip % 2 ^ 32) }] ∧
      OnlyStk k s t ∧ t.stk k = { s.stk k with table := (t.stk k).table })) ∧
  ∀ (s : State) (k rid j : Nat) (e : Entry), Ready s k rid e [0x09] → j < s.n → j ∉ e.rzDone →
    (∀ i, i < s.n → i ∈ e.rzDone ∨ s.unreach i = true ∨ s.reach k i = false) →
    Runs (.rangeZeroComplete k rid) s (fun t =>
      Answered t k rid e [respTo e.req stStackReset (s.frame k)] ∧
      OnlyStk k s t ∧ t.stk k = { s.stk k with table := (t.stk k).table })

/-! ### Management messages and interrupts (R75, R76, R104, R127, R128) -/

/-- The oldest management read of a port whose context may go on is answered with the register's value and OK; UNSUPPORTED with 0
where the address leads nowhere (R75); STACK_RESET with 0 where the holder cannot answer (R76). The message leaves MGMT ingress and
its slots are owed as credits. A message with an opcode of no management message, or with a reserved field that is not 0, is
answered UNSUPPORTED (R107, R108). -/
def Claims.MgmtRead : Prop :=
  (∀ (s : State) (p : Nat) (m : MgmtMsg), p < s.ports.length → s.nextMgmt p = some m → m.op = 0x80 → m.rsvd = false →
    s.inReset (p / 4) = false → s.mode = .active →
    Runs (.mgmtRead p) s (fun t =>
      (t.prt p).mgmtIn = (s.prt p).mgmtIn.erase m ∧ (t.prt p).mgmtRet = (s.prt p).mgmtRet + m.slots ∧ (∀ q, q ≠ p → t.prt q = s.prt q) ∧
      (s.target m.maddr.toNat = none → (t.prt p).mgmtOut = (s.prt p).mgmtOut ++ [mgmtResp s p m stUnsupported 0]) ∧
      (∀ x, s.target m.maddr.toNat = some x → s.answers (.port p) x = false →
        (t.prt p).mgmtOut = (s.prt p).mgmtOut ++ [mgmtResp s p m stStackReset 0]) ∧
      (∀ x, s.target m.maddr.toNat = some x → s.answers (.port p) x = true →
        (t.prt p).mgmtOut = (s.prt p).mgmtOut ++ [mgmtResp s p m stOk
          (readReg (popMgmt s p m) (.port p) (s.holder (.port p) x) x.page x.inst x.off).1]) ∧
      t.dies = s.dies ∧ t.mode = s.mode)) ∧
  ∀ (s : State) (p : Nat) (m : MgmtMsg), p < s.ports.length → s.nextMgmt p = some m → m.op ≠ 0x81 →
    (m.op ≠ 0x80 ∨ m.rsvd = true) → s.inReset (p / 4) = false →
    Runs (.mgmtRead p) s (fun t =>
      (t.prt p).mgmtIn = (s.prt p).mgmtIn.erase m ∧ (t.prt p).mgmtRet = (s.prt p).mgmtRet + m.slots ∧
      (t.prt p).mgmtOut = (s.prt p).mgmtOut ++ [mgmtResp s p m stUnsupported 0] ∧ (∀ q, q ≠ p → t.prt q = s.prt q) ∧
      (isPosted m.op = false → t = { s with ports := t.ports }) ∧
      (isPosted m.op = true → p / 4 < s.stks.length → Raised s t (p / 4) K.STK_POSTED_FAIL 0))

/-- A management write to a plain register of a stack window takes effect by the access types of R12 and is answered with OK. -/
def Claims.MgmtWrite : Prop :=
  ∀ (s : State) (p : Nat) (m : MgmtMsg) (k i off : Nat) (pg : Page), Shaped s → p < s.ports.length →
    s.nextMgmt p = some m → m.op = 0x81 → m.rsvd = false → s.inReset (p / 4) = false → s.mode = .active →
    Writable s (.port p) m.maddr k pg i off → plainAt pg off = true →
    Runs (.mgmtWrite p) s (fun t =>
      (t.prt p).mgmtIn = (s.prt p).mgmtIn.erase m ∧ (t.prt p).mgmtRet = (s.prt p).mgmtRet + m.slots ∧
      (t.prt p).mgmtOut = (s.prt p).mgmtOut ++ [mgmtResp s p m stOk 0] ∧ (∀ q, q ≠ p → t.prt q = s.prt q) ∧
      (∀ b, b < 32 → (t.raw k pg i off).testBit b = bitAfter pg off (s.raw k pg i off) m.wdata.toNat b) ∧
      t = { s with stks := t.stks, ports := t.ports, mgmtOut := (0, stOk) } ∧ (∀ j, j ≠ k → t.stk j = s.stk j) ∧
      RegsOnly (s.stk k) (t.stk k))

/-- Management messages (R75, R76, R12). -/
def Obligations.Management : Prop :=
  Claims.MgmtRead ∧ Claims.MgmtWrite

/-- The oldest interrupt message goes out on the MGMT channel of the reference's port, at the cost of one credit (R128). An
interrupt or telemetry message from the partner on MGMT is discarded, its slots are owed as credits, and NX_PROTOCOL is raised
(R104). -/
def Obligations.Interrupts : Prop :=
  (∀ (s : State) (e : Irq) (rest : List Irq), s.irqs = e :: rest → s.refPort < s.ports.length → 0 < (s.prt s.refPort).mgmtAvail →
    Runs .irq s (fun t =>
      t.irqs = rest ∧ (t.prt s.refPort).mgmtRaw = (s.prt s.refPort).mgmtRaw ++ [[irqHeader e]] ∧
      (t.prt s.refPort).mgmtAvail = (s.prt s.refPort).mgmtAvail - 1 ∧ t = { s with irqs := t.irqs, ports := t.ports } ∧
      (∀ q, q ≠ s.refPort → t.prt q = s.prt q) ∧ t.prt s.refPort = { s.prt s.refPort with
        mgmtRaw := (t.prt s.refPort).mgmtRaw
        mgmtAvail := (t.prt s.refPort).mgmtAvail })) ∧
  (∀ s : State, (s.prt s.refPort).mgmtAvail = 0 → exec .irq s = .next s) ∧
  ∀ (s : State) (p : Nat) (h : Word), Shaped s → p < s.ports.length → (s.prt p).rxVc = .mgmt →
    wordNum h 0 1 = 0x88 ∨ wordNum h 0 1 = 0x89 →
    Runs (.inboundIrqTelemetry p h) s (fun t =>
      (t.prt p).mgmtRet = (s.prt p).mgmtRet + (if wordNum h 0 1 = 0x89 then 1 + bits (wordNum h 4 2) 15 12 else 1) ∧
      (t.prt p).mgmtCred = (s.prt p).mgmtCred - (if wordNum h 0 1 = 0x89 then 1 + bits (wordNum h 4 2) 15 12 else 1) ∧
      (t.prt p).mgmtIn = (s.prt p).mgmtIn ∧ Raised s t (p / 4) K.NXP_PROTOCOL (p % 4) ∧
      t = { s with stks := t.stks, ports := t.ports } ∧ (∀ q, q ≠ p → t.prt q = s.prt q) ∧ (∀ j, j ≠ p / 4 → t.stk j = s.stk j) ∧
      t.prt p = { s.prt p with
        mgmtRet := (t.prt p).mgmtRet
        mgmtCred := (t.prt p).mgmtCred } ∧ RegsRgOnly (s.stk (p / 4)) (t.stk (p / 4)))

/-! ### The path of a request (R19, R24, R107, R117, R119, R121, R136 to R147, R366 to R370) -/

/-- A head that may leave ingress and that no other head precedes: a form failure ends with UNSUPPORTED (R107), a system stack
without a route-table entry with NO_ROUTE (R366), and a request to a backed offset of a stack that serves goes on its way to
that stack (R19, R136). -/
def Obligations.IngressRelease : Prop :=
  ∀ (s : State) (p ctx : Nat) (r : Req), Shaped s → p < s.ports.length → (s.prt p).head ctx = some r → r.port = p → s.halt = none →
    s.mode = .active → s.inReset (p / 4) = false → s.canLeave p r = true → (s.prt p).dropBelow ≤ r.rid → isPosted r.op = false →
    (r.formOk = false →
      Runs (.ingressRelease p ctx) s (fun t =>
        (t.prt p).rspOut = (s.prt p).rspOut ++ [respTo r stUnsupported (s.frame (p / 4))] ∧
        (t.prt p).ingress = (s.prt p).ingress.filter (fun q => q.rid != r.rid) ∧ t.transit = s.transit ∧ OnlyPort p s t)) ∧
    (r.formOk = true → s.isTurn p r = true →
      (s.routeOf r = .noEntry →
        Runs (.ingressRelease p ctx) s (fun t =>
          (t.prt p).rspOut = (s.prt p).rspOut ++ [respTo r stNoRoute (s.frame (p / 4))] ∧
          (t.prt p).ingress = (s.prt p).ingress.filter (fun q => q.rid != r.rid) ∧ t.transit = s.transit ∧
          Raised s t (p / 4) K.RTE_NO_ENTRY 0)) ∧
      (s.routeOf r = .localPkg → s.reqBacked r = true → s.unreach (s.locOf (p / 4) r.off).stack = false →
        s.reach (p / 4) (s.locOf (p / 4) r.off).stack = true →
        Runs (.ingressRelease p ctx) s (fun t =>
          t.transit = s.transit ++ [{ r with home := (s.locOf (p / 4) r.off).stack }] ∧
          (t.prt p).ingress = (s.prt p).ingress.filter (fun q => q.rid != r.rid) ∧ (t.prt p).rspOut = (s.prt p).rspOut ∧
          (∀ q, q ≠ p → t.prt q = s.prt q) ∧ t = { s with stks := t.stks, ports := t.ports, transit := t.transit } ∧
          ∀ j, t.stk j = { s.stk j with cnt := (t.stk j).cnt })))

/-- A request that reaches its serving stack joins the admission queue; at a stack that cannot serve it ends with STACK_RESET, at
one in MAINTENANCE with ADMIT_HOLD (R24, R139); one behind another on its ring path waits (R23). From the queue an admissible
request takes a table entry (R140, R143), which ends power-down where it waits for a bank (R248); after 2,048 frames in the queue
it ends with ADMIT_HOLD (R144). -/
def Obligations.Admission : Prop :=
  (∀ (s : State) (k rid : Nat) (r : Req), Shaped s → k < s.n → s.transit.find? (fun r => r.rid == rid && r.home == k) = some r →
    (r.port / 4 = k ∨ s.ringOn = true) → s.ringBehind r = false →
    (s.unreach k = false → s.inMaint k = false →
      Runs (.admissionQueueEntry k rid) s (fun t =>
        t = { s with stks := t.stks, transit := s.transit.filter (fun q => q.rid != rid) } ∧
        (t.stk k) = { s.stk k with admQ := (s.stk k).admQ ++ [r] } ∧ ∀ j, j ≠ k → t.stk j = s.stk j)) ∧
    (isPosted r.op = false → r.port < s.ports.length → s.rspRoom r.port 1 = true → (s.prt r.port).dropBelow ≤ r.rid →
      s.reach k (r.port / 4) = true → r.rid ∉ s.timedOut →
      (s.unreach k = true → Runs (.admissionQueueEntry k rid) s (fun t =>
        (t.prt r.port).rspOut = (s.prt r.port).rspOut ++ [respTo r stStackReset (s.frame (r.port / 4))] ∧
        t = { s with stks := t.stks, ports := t.ports, transit := s.transit.filter (fun q => q.rid != rid) } ∧
        ∀ j, t.stk j = { s.stk j with cnt := (t.stk j).cnt })) ∧
      (s.unreach k = false → s.inMaint k = true → Runs (.admissionQueueEntry k rid) s (fun t =>
        (t.prt r.port).rspOut = (s.prt r.port).rspOut ++ [respTo r stAdmitHold (s.frame (r.port / 4))] ∧
        (s.frozen k .stk 0 = false → t.cntVal k .stk 0 1 = satAdd cntMax (s.cntVal k .stk 0 1) 1))))) ∧
  (∀ (s : State) (k rid : Nat) (r : Req), s.transit.find? (fun r => r.rid == rid && r.home == k) = some r →
    s.ringBehind r = true → exec (.admissionQueueEntry k rid) s = .next s) ∧
  (∀ (s : State) (k : Nat) (r : Req), Shaped s → k < s.n → (s.stk k).admQ = [r] → (s.stk k).admits r = true → s.serving = true →
    s.unreach k = false → s.inMaint k = false →
    Runs (.requestTableAllocate k) s (fun t =>
      (t.stk k).admQ = [] ∧ (∃ e : Entry, (t.stk k).table = (s.stk k).table ++ [e] ∧ e.req = r ∧ e.done = none ∧ e.gth = none) ∧
      (s.frozen k .stk 0 = false → t.cntVal k .stk 0 0 = satAdd cntMax (s.cntVal k .stk 0 0) 1) ∧ OnlyStk k s t ∧
      t.stk k = { s.stk k with
        admQ := (t.stk k).admQ
        table := (t.stk k).table
        chans := (t.stk k).chans
        wrr := (t.stk k).wrr
        cnt := (t.stk k).cnt } ∧
      (∀ c, (t.stk k).ch c = { (s.stk k).ch c with pcs := ((t.stk k).ch c).pcs }) ∧
      ∀ c i, t.pcOf k c i = { s.pcOf k c i with powerDown := (t.pcOf k c i).powerDown } ∧
        (s.mode ≠ .idle → isDesc r.op = false → r.op ≠ 0x09 → s.bankBound k r = true → (s.locOf k r.off).ch = c →
          (s.locOf k r.off).pc = i → HasPc s k c i → (t.pcOf k c i).powerDown = false))) ∧
  (∀ (s : State) (k : Nat), (∀ r ∈ (s.stk k).admQ, (s.stk k).admits r = false) → exec (.requestTableAllocate k) s = .next s) ∧
  ∀ (s : State) (k rid : Nat) (r : Req), Shaped s → k < s.n → (s.stk k).admQ.find? (fun r => r.rid == rid) = some r →
    2048 ≤ r.admWait → isPosted r.op = false → r.port < s.ports.length → s.rspRoom r.port 1 = true →
    (s.prt r.port).dropBelow ≤ r.rid → s.reach k (r.port / 4) = true → (r.port / 4 = k ∨ s.ringOn = true) → r.rid ∉ s.timedOut →
    Runs (.admitTimeout k rid) s (fun t =>
      (t.prt r.port).rspOut = (s.prt r.port).rspOut ++ [respTo r stAdmitHold (s.frame (r.port / 4))] ∧
      (t.stk k).admQ = (s.stk k).admQ.filter (fun q => q.rid != rid) ∧ Raised s t k K.STK_ADMIT_TIMEOUT 0 ∧
      t = { s with stks := t.stks, ports := t.ports })

/-- A request that has waited 64 frames since its bucket last allowed it is aged, in ingress, on its way, in an admission queue or in
a request table; no other request and nothing else changes (R142). -/
def Claims.RequestAged : Prop :=
  ∀ (s : State) (rid : Nat),
    Runs (.requestAged rid) s (fun t =>
      t = { s with stks := t.stks, ports := t.ports, transit := s.transit.map (Req.agedBy rid) } ∧
      (∀ p, t.prt p = { s.prt p with ingress := (s.prt p).ingress.map (Req.agedBy rid) }) ∧
      ∀ k, t.stk k = { s.stk k with
        admQ := (s.stk k).admQ.map (Req.agedBy rid)
        table := (s.stk k).table.map (fun e => { e with req := Req.agedBy rid e.req }) })

/-- The next response of a completed request enters RSP egress of its arrival port (R20, R119, R140); with its last response the
request frees its entry, and a best-effort one changes nothing else but RING_TX of its stack. It waits while there is no room (R133)
or an earlier request of its context on a common word has not answered (R119); with no path back it is discarded and its entry freed
(R511). -/
def Claims.ResponseToEgress : Prop :=
  (∀ (s : State) (k rid : Nat) (e : Entry) (r : Resp) (rest : List Resp), s.entry k rid = some e → e.done = some (r :: rest) →
    rid ∉ s.timedOut → s.respBlocked k e.req = false → s.reach k (r.port / 4) = true → (r.port / 4 = k ∨ s.ringOn = true) →
    s.rspRoom r.port r.slots = true → r.port < s.ports.length → (s.prt r.port).dropBelow ≤ r.rid →
    Runs (.responseToEgress k rid) s (fun t =>
      (t.prt r.port).rspOut = (s.prt r.port).rspOut ++ [r] ∧
      t.entry k rid = (if rest = [] then none else some { e with done := some rest }) ∧
      (∀ q, q ≠ r.port → t.prt q = s.prt q) ∧ t.dies = s.dies ∧ t.transit = s.transit ∧
      (∀ j, (t.stk j).lines = (s.stk j).lines ∧ (t.stk j).tiles = (s.stk j).tiles) ∧
      (isGuar e.req.cls = false → t = { s with stks := t.stks, ports := t.ports } ∧ (∀ j, j ≠ k → t.stk j = s.stk j) ∧
        t.prt r.port = { s.prt r.port with rspOut := (t.prt r.port).rspOut } ∧ t.stk k = { s.stk k with
          table := (t.stk k).table
          cnt := (t.stk k).cnt }))) ∧
  (∀ (s : State) (k rid : Nat) (e : Entry) (r : Resp) (rest : List Resp), s.entry k rid = some e → e.done = some (r :: rest) →
    s.reach k (r.port / 4) = true → s.rspRoom r.port r.slots = false ∨ s.respBlocked k e.req = true →
    exec (.responseToEgress k rid) s = .next s) ∧
  ∀ (s : State) (k rid : Nat) (e : Entry) (r : Resp) (rest : List Resp), s.entry k rid = some e → e.done = some (r :: rest) →
    s.reach k (r.port / 4) = false →
    Runs (.responseToEgress k rid) s (fun t => t.entry k rid = none ∧ t.ports = s.ports ∧ OnlyStk k { s with timedOut := t.timedOut } t ∧
      t.stk k = { s.stk k with table := (t.stk k).table })

/-- A response whose request has ended with TIMEOUT is discarded and logged (R117): one that a serving stack holds, and one at the
head of RSP ingress without a forward record. 8,192 frames with responses waiting and no credit raise RSP_STALL once (R147). -/
def Claims.LateAndStalled : Prop :=
  (∀ (s : State) (p rid : Nat) (r : Resp) (rest : List Resp), Shaped s → p < s.ports.length → rid ∉ s.timedOut →
    (s.prt p).rspIn = r :: rest → (∀ f ∈ (s.prt p).fwdRecs, f.idx ≠ r.tag) →
    Runs (.lateRsp p rid) s (fun t =>
      (t.prt p).rspIn = rest ∧ (t.prt p).rspRet = (s.prt p).rspRet + r.slots ∧ Raised s t (p / 4) K.STK_LATE_RSP 0 ∧
      t = { s with stks := t.stks, ports := t.ports } ∧ t.prt p = { s.prt p with
        rspIn := (t.prt p).rspIn
        rspRet := (t.prt p).rspRet
        staleRecs := (t.prt p).staleRecs } ∧ (∀ q, q ≠ p → t.prt q = s.prt q) ∧
      ∀ j, t.stk j = { s.stk j with rg := (t.stk j).rg })) ∧
  (∀ (s : State) (p rid k : Nat) (e : Entry) (rs : List Resp), Shaped s → p < s.ports.length → rid ∈ s.timedOut → k < s.n →
    s.entry k rid = some e → e.done = some rs → (∀ j, j < k → s.entry j rid = none) →
    Runs (.lateRsp p rid) s (fun t =>
      t.entry k rid = none ∧ rid ∉ t.timedOut ∧ Raised s t (p / 4) K.STK_LATE_RSP 0 ∧
      t = { s with stks := t.stks, timedOut := t.timedOut })) ∧
  ∀ (s : State) (p : Nat), Shaped s → p < s.ports.length → 8192 ≤ (s.prt p).rspStallFrames → (s.prt p).rspStalled = false →
    Runs (.rspStall p) s (fun t =>
      t.prt p = { s.prt p with rspStalled := true } ∧ Raised s t (p / 4) K.NXP_RSP_STALL (p % 4) ∧
      (t.raw (p / 4) .nxp (p % 4) 0x0C).testBit 16 = true ∧ (∀ q, q ≠ p → t.prt q = s.prt q) ∧
      t = { s with stks := t.stks, ports := t.ports, irqs := t.irqs })

/-- Ageing, responses, late responses and the stall (R117, R140, R142, R147). -/
def Obligations.Responses : Prop :=
  Claims.RequestAged ∧ Claims.ResponseToEgress ∧ Claims.LateAndStalled

/-- A response to a forwarded request goes back on the arrival port under the request's own REQ_ID and TAG, and frees the record
with its last flit (R368, R369); an OK response to a posted request is absorbed. A record without a response for 8,192 frames
ends its request with TIMEOUT (R370). -/
def Obligations.Forwarding : Prop :=
  (∀ (s : State) (p : Nat) (r : Resp) (rest : List Resp) (f : FwdRec), Shaped s → p < s.ports.length → f.req.port < s.ports.length →
    (s.prt p).rspIn = r :: rest → (s.prt p).fwdRecs.find? (fun f => f.idx == r.tag) = some f → f.posted = false →
    s.reach (p / 4) (f.req.port / 4) = true → (p / 4 = f.req.port / 4 ∨ s.ringOn = true) → s.rspRoom f.req.port r.slots = true →
    (s.prt f.req.port).dropBelow ≤ f.req.rid → isLast r = true → r.op = f.req.op →
    Runs (.forwardResponse p) s (fun t =>
      (t.prt f.req.port).rspOut = (s.prt f.req.port).rspOut ++ [{ r with
        rid := f.req.rid
        port := f.req.port
        posted := false
        reqId := f.req.reqId
        tag := f.req.tag }] ∧
      (t.prt p).rspIn = rest ∧ (t.prt p).fwdRecs = (s.prt p).fwdRecs.filter (fun g => g.idx != f.idx) ∧
      t = { s with stks := t.stks, ports := t.ports } ∧ ∀ j, t.stk j = { s.stk j with cnt := (t.stk j).cnt })) ∧
  (∀ (s : State) (p : Nat) (r : Resp) (rest : List Resp) (f : FwdRec), Shaped s → p < s.ports.length → f.req.port < s.ports.length →
    (s.prt p).rspIn = r :: rest → (s.prt p).fwdRecs.find? (fun f => f.idx == r.tag) = some f → f.posted = true →
    r.status = stOk →
    Runs (.forwardResponse p) s (fun t =>
      (t.prt p).rspIn = rest ∧ (t.prt p).fwdRecs = (s.prt p).fwdRecs.filter (fun g => g.idx != f.idx) ∧
      (∀ q, (t.prt q).rspOut = (s.prt q).rspOut) ∧ t = { s with ports := t.ports })) ∧
  ∀ (s : State) (p rec : Nat) (f : FwdRec), Shaped s → p < s.ports.length → f.req.port < s.ports.length →
    (s.prt p).fwdRecs.find? (fun f => f.idx == rec) = some f → 8192 ≤ f.age → f.posted = false →
    (s.prt f.req.port).dropBelow ≤ f.req.rid → s.rspRoom f.req.port 1 = true →
    Runs (.fwdTimeout p rec) s (fun t =>
      (t.prt f.req.port).rspOut = (s.prt f.req.port).rspOut ++ [respTo f.req stTimeout (s.frame (f.req.port / 4))] ∧
      (t.prt p).fwdRecs = (s.prt p).fwdRecs.filter (fun g => g.idx != f.idx) ∧ Raised s t (p / 4) K.RTE_FWD_TIMEOUT 0 ∧
      t = { s with stks := t.stks, ports := t.ports, pkgCnt := t.pkgCnt, errPend := t.errPend })
/-! ### Near-data operations (R177 to R199) -/

/-- Each integer atomic but CAS replaces the operand at ELEM by its function of the memory value M and the operand A, returns M, and
leaves every other byte of the word and every other word alone; acknowledged and posted forms alike (R182). -/
def Obligations.IntegerAtomics : Prop :=
  ∀ row ∈ intRows, ∀ (s : State) (k rid : Nat) (e : Entry) (ow w : Word), Ready s k rid e [row.op, row.op + 0x20] →
    NduHit s k e ow w → e.req.elem + row.bytes ≤ 32 → (isPosted e.req.op = true → PostedOk s e) →
    Runs (row.cmd k rid) s (fun t => Performed s t k rid e
      (wordSet w e.req.elem row.bytes (row.fn (8 * row.bytes) (BitVec.ofNat _ (wordNum w e.req.elem row.bytes))
        (BitVec.ofNat _ (wordNum ow 0 row.bytes))).toNat)
      (wordNum w e.req.elem row.bytes) 0)

/-- CAS32, CAS64 and CAS128 write the swap value where M equals the compare value; otherwise the word stays and CMP_FAIL is
set; both return M (R182, R184). -/
def Obligations.CompareAndSwap : Prop :=
  ∀ x ∈ ([(.cas32, 0x29, 4, 8), (.cas64, 0x39, 8, 8), (.cas128, 0x3D, 16, 16)] : List ((Nat → Nat → Instr) × Nat × Nat × Nat)),
    ∀ (s : State) (k rid : Nat) (e : Entry) (ow w : Word), Ready s k rid e [x.2.1, x.2.1 + 0x20] →
      NduHit s k e ow w → e.req.elem + x.2.2.1 ≤ 32 → (isPosted e.req.op = true → PostedOk s e) →
      (wordNum w e.req.elem x.2.2.1 = wordNum ow 0 x.2.2.1 →
        Runs (x.1 k rid) s (fun t => Performed s t k rid e
          (wordSet w e.req.elem x.2.2.1 (wordNum ow x.2.2.2 x.2.2.1)) (wordNum w e.req.elem x.2.2.1) 0)) ∧
      (wordNum w e.req.elem x.2.2.1 ≠ wordNum ow 0 x.2.2.1 →
        Runs (x.1 k rid) s (fun t => Performed s t k rid e w (wordNum w e.req.elem x.2.2.1) 0x01))

/-- The floating-point atomics replace the operand by the result of the operation on binary32 or binary64, return M, and report the
operation's exceptions in OP_STATUS (R183, R184). What the operations are: the two claims that follow. -/
def Claims.FloatAtomics : Prop :=
  ∀ x ∈ ([(.fadd32, 0x2A, 4, fp32.add), (.fmin32, 0x2B, 4, fp32.minmax false), (.fmax32, 0x2C, 4, fp32.minmax true),
      (.fadd64, 0x3A, 8, fp64.add), (.fmin64, 0x3B, 8, fp64.minmax false), (.fmax64, 0x3C, 8, fp64.minmax true)] :
      List ((Nat → Nat → Instr) × Nat × Nat × (Nat → Nat → Nat × Nat))),
    ∀ (s : State) (k rid : Nat) (e : Entry) (ow w : Word), Ready s k rid e [x.2.1, x.2.1 + 0x20] →
      NduHit s k e ow w → e.req.elem + x.2.2.1 ≤ 32 → (isPosted e.req.op = true → PostedOk s e) →
      Runs (x.1 k rid) s (fun t => Performed s t k rid e
        (wordSet w e.req.elem x.2.2.1 (x.2.2.2 (wordNum w e.req.elem x.2.2.1) (wordNum ow 0 x.2.2.1)).1)
        (wordNum w e.req.elem x.2.2.1) (x.2.2.2 (wordNum w e.req.elem x.2.2.1) (wordNum ow 0 x.2.2.1)).2)

/-- The special values of R183: every NaN result is the canonical quiet NaN; a signalling NaN operand and ∞ − ∞ set FP_INVALID; in
FMIN and FMAX a quiet NaN loses to a number and −0 orders below +0; adding +0 to a normal number returns it with no exception. -/
def Claims.FloatSpecials : Prop :=
  ∀ f ∈ [fp32, fp64],
    (∀ a b, f.isNan a = true ∨ f.isNan b = true → (f.add a b).1 = f.qnan) ∧
    (∀ a b, f.isNan a = true → f.isNan b = true → ∀ mx, (f.minmax mx a b).1 = f.qnan) ∧
    (∀ a b mx, f.isNan a = true → f.isNan b = false → (f.minmax mx a b).1 = b ∧ (f.minmax mx b a).1 = b) ∧
    (∀ a b, f.isSnan a = true ∨ f.isSnan b = true → (f.add a b).2 = opInvalid) ∧
    f.add (f.inf false) (f.inf true) = (f.qnan, opInvalid) ∧
    f.minmax false (f.zero true) (f.zero false) = (f.zero true, 0) ∧ f.minmax true (f.zero true) (f.zero false) = (f.zero false, 0) ∧
    ∀ a, f.isNan a = false → a < 2 ^ (f.eb + f.mb + 1) → f.ex a ≠ 0 → f.add a (f.zero false) = (a, 0)

/-- FADD of finite operands is the exact sum rounded to nearest with ties to even, subnormals kept, and infinity with FP_OVERFLOW and
FP_INEXACT from half a step above the largest finite value; FP_INEXACT is set where a finite result is not the sum. FMIN and FMAX of
finite operands are the smaller and the larger value (R183, R184). -/
def Claims.FloatRounding : Prop :=
  ∀ f ∈ [fp32, fp64], ∀ a b, f.isFinite a = true → f.isFinite b = true →
    (2 * (f.units a + f.units b).natAbs < f.overflowAt →
      f.isFinite (f.add a b).1 = true ∧
      (∀ x, f.isFinite x = true →
        (f.units (f.add a b).1 - (f.units a + f.units b)).natAbs ≤ (f.units x - (f.units a + f.units b)).natAbs ∧
        ((f.units (f.add a b).1 - (f.units a + f.units b)).natAbs = (f.units x - (f.units a + f.units b)).natAbs →
          f.units x = f.units (f.add a b).1 ∨ (f.add a b).1 % 2 = 0)) ∧
      (f.add a b).2 = (if f.units (f.add a b).1 = f.units a + f.units b then 0 else opInexact)) ∧
    (f.overflowAt ≤ 2 * (f.units a + f.units b).natAbs →
      f.add a b = (f.inf (decide (f.units a + f.units b < 0)), opOverflow ||| opInexact)) ∧
    f.units (f.minmax false a b).1 = min (f.units a) (f.units b) ∧ f.units (f.minmax true a b).1 = max (f.units a) (f.units b) ∧
    ∀ mx, ((f.minmax mx a b).1 = a ∨ (f.minmax mx a b).1 = b) ∧ (f.minmax mx a b).2 = 0

/-- The floating-point atomics (R183, R184). -/
def Obligations.FloatingPoint : Prop :=
  Claims.FloatAtomics ∧ Claims.FloatSpecials ∧ Claims.FloatRounding

/-- A finite addend that is a multiple q of the weight 2^L and below 2^(L+160) adds q to A modulo 2^192 and changes no flag; a NaN, an
infinity or a larger addend leaves A and sets OVF; a zero changes nothing (R185, R188). -/
def Claims.ReproAddend : Prop :=
  ∀ (w : Word) (x : Nat), accInit w = true → x < 2 ^ 64 →
    (fp64.isNan x = true ∨ fp64.isInf x = true ∨ ((fp64.val x).1 ≠ 0 ∧
        accL (wordNum w 24 1) + 160 ≤ ((fp64.val x).1.natAbs.log2 : Nat) + (fp64.val x).2) →
      wordNum (reproStep w x).1 0 24 = wordNum w 0 24 ∧ wordNum (reproStep w x).1 25 1 = wordNum w 25 1 ||| 1) ∧
    (fp64.isNan x = false → fp64.isInf x = false → (fp64.val x).1 = 0 → (reproStep w x).1 = w) ∧
    (∀ q : Int, fp64.isNan x = false → fp64.isInf x = false → q ≠ 0 → q.natAbs < 2 ^ 160 → accL (wordNum w 24 1) ≤ (fp64.val x).2 →
      q = (fp64.val x).1 * 2 ^ ((fp64.val x).2 - accL (wordNum w 24 1)).toNat →
      (wordNum (reproStep w x).1 0 24 : Int) = ((wordNum w 0 24 : Int) + q) % 2 ^ 192 ∧
      wordNum (reproStep w x).1 25 1 = wordNum w 25 1 ∧ wordNum (reproStep w x).1 24 1 = wordNum w 24 1)

/-- A finite addend below 2^(L+160) that is not a multiple of 2^L adds q, its quotient by 2^L rounded to the nearest integer with ties
to even, to A modulo 2^192, and sets INEXACT (R188). -/
def Claims.ReproRounding : Prop :=
  ∀ (w : Word) (x d : Nat), accInit w = true → x < 2 ^ 64 → fp64.isNan x = false → fp64.isInf x = false →
    (fp64.val x).2 < accL (wordNum w 24 1) → d = 2 ^ (accL (wordNum w 24 1) - (fp64.val x).2).toNat → (fp64.val x).1 % (d : Int) ≠ 0 →
    ((fp64.val x).1.natAbs.log2 : Nat) + (fp64.val x).2 < accL (wordNum w 24 1) + 160 →
    ∃ q : Int, 2 * (q * d - (fp64.val x).1).natAbs ≤ d ∧ (2 * (q * d - (fp64.val x).1).natAbs = d → q % 2 = 0) ∧
      (wordNum (reproStep w x).1 0 24 : Int) = ((wordNum w 0 24 : Int) + q) % 2 ^ 192 ∧
      wordNum (reproStep w x).1 25 1 = wordNum w 25 1 ||| 2 ∧ wordNum (reproStep w x).1 24 1 = wordNum w 24 1

/-- The accumulator word after REPRO_ADD is the same in every order of the same addends (R188). -/
def Claims.ReproOrder : Prop :=
  ∀ (w : Word) (xs ys : List Nat), accInit w = true → xs.Perm ys →
    xs.foldl (fun v x => (reproStep v x).1) w = ys.foldl (fun v x => (reproStep v x).1) w

/-- REPRO_ADD (R188): what each addend does to A and the flags, and that the accumulator word is the same in every order of the same
addends. -/
def Obligations.ReproducibleSum : Prop := Claims.ReproAddend ∧ Claims.ReproRounding ∧ Claims.ReproOrder

/-- REPRO_ADD, FOLD and FOLD_CLEAR on a resident accumulator of a slice with no more residents than ACC_LIMIT (R187 to R190):
REPRO_ADD, acknowledged and posted, adds its addend to the initialised word;
FOLD returns the rounded sum with FLAGS and writes nothing; FOLD_CLEAR returns the same and sets A to 0, keeping WBASE and
INIT. -/
def Claims.Accumulators : Prop :=
  ∀ (s : State) (k rid wb : Nat) (e : Entry) (w : Word), Resident s k e.req .opened → e.req.len = 1 →
    (s.stk k).sectorAt (s.wordLoc k e.req 0) = some (w, false) → s.accRegion k e.req.off = some wb →
    ((s.stk k).ch (s.wordLoc k e.req 0).ch).nduUnusable = false →
    (s.wordLoc k e.req 0).accKey ∈ ((s.stk k).ch (s.wordLoc k e.req 0).ch).accs →
    ((s.stk k).ch (s.wordLoc k e.req 0).ch).accs.length ≤ s.accLimit k (s.wordLoc k e.req 0).ch →
    (∀ ow, Ready s k rid e [0x3E] → e.req.data = [(ow, false)] →
      Runs (.reproAdd k rid) s (fun t =>
        (t.stk k).sectorAt (s.wordLoc k e.req 0) = some ((reproStep (accFresh wb w) (wordNum ow 0 8)).1, false) ∧
        OtherWords k s t [s.wordLoc k e.req 0] ∧ OnlyStk k { s with free := t.free } t ∧ (t.stk k).tiles = (s.stk k).tiles ∧
        Answered t k rid e [fetchResp s k e.req 0 (reproStep (accFresh wb w) (wordNum ow 0 8)).2])) ∧
    (∀ ow, Ready s k rid e [0x5E] → e.req.data = [(ow, false)] → PostedOk s e →
      Runs (.reproAdd k rid) s (fun t =>
        (t.stk k).sectorAt (s.wordLoc k e.req 0) = some ((reproStep (accFresh wb w) (wordNum ow 0 8)).1, false) ∧
        OtherWords k s t [s.wordLoc k e.req 0] ∧ (t.stk k).tiles = (s.stk k).tiles ∧ t.entry k rid = none ∧
        t = { s with stks := t.stks, ports := t.ports, free := t.free } ∧ (∀ j, j ≠ k → t.stk j = s.stk j) ∧
        (∀ q, q ≠ e.req.port → t.prt q = s.prt q) ∧
        t.prt e.req.port = { s.prt e.req.port with outst := (t.prt e.req.port).outst })) ∧
    (Ready s k rid e [0x68] → e.req.data = [] →
      Runs (.fold k rid) s (fun t => (t.stk k).sectorAt (s.wordLoc k e.req 0) = some (w, false) ∧ OtherWords k s t [] ∧
        Answered t k rid e [fetchResp s k e.req ((foldVal w).1 + (foldVal w).2.1 * 2 ^ 64) (foldVal w).2.2] ∧
        SliceFrame k { s with free := t.free } t)) ∧
    (Ready s k rid e [0x69] → e.req.data = [] → accInit w = true →
      Runs (.foldClear k rid) s (fun t =>
        (∃ w', (t.stk k).sectorAt (s.wordLoc k e.req 0) = some (w', false) ∧ wordNum w' 0 24 = 0 ∧
          wordNum w' 24 1 = wordNum w 24 1 ∧ wordNum w' 25 1 = 0x80) ∧
        OtherWords k s t [s.wordLoc k e.req 0] ∧ SliceFrame k { s with free := t.free } t ∧
        Answered t k rid e [fetchResp s k e.req ((foldVal w).1 + (foldVal w).2.1 * 2 ^ 64) (foldVal w).2.2]))

/-- REPRO_ADD, FOLD and FOLD_CLEAR on resident accumulators (R187 to R190). -/
def Obligations.AccumulatorWords : Prop := Claims.Accumulators

/-- A STRIDED_GATHER, STRIDED_COPY or PKG_COPY whose turn it is takes a free context, with its elements in index order; a
SCATTER_ACC has an element for each pair of its index and value words, with the operand of the pair (R178, R191, R192). While 16
contexts are busy no descriptor takes one. -/
def Claims.DescriptorStart : Prop :=
  (∀ (s : State) (k rid : Nat) (e : Entry), s.entry k rid = some e → e.req.op ∈ [0x62, 0x63, 0x64] → e.done = none → e.gth = none →
    s.descNext k e.req = true →
    Runs (.gthDescriptorStart k rid) s (fun t => OnlyStk k s t ∧
      t.stk k = { s.stk k with table := (t.stk k).table, wrr := (t.stk k).wrr } ∧
      ∃ g, t.entry k rid = some { e with gth := some g } ∧ g.results = [] ∧ g.fails = [] ∧ g.opStatus = 0 ∧
        g.todo.map (·.idx) = List.range g.todo.length ∧
        g.todo.length = (if e.req.op = 0x64 then wordNum e.req.word0 0 2 + 1 else wordNum e.req.word0 0 2) ∧
        ∀ x ∈ g.todo, (e.req.op = 0x64 → x.src = some ((e.req.off : Int) + 32 * x.idx) ∧
            x.dst = some ((wordNum e.req.word0 4 5 : Int) + 32 * x.idx)) ∧
          (e.req.op ≠ 0x64 → x.src = some ((e.req.off : Int) + x.idx * toSigned 32 (wordNum e.req.word0 4 4)))))  ∧
  (∀ (s : State) (k rid : Nat) (e : Entry), s.entry k rid = some e → e.req.op = 0x60 → e.done = none → e.gth = none →
    s.descNext k e.req = true → bits e.req.param.toNat 2 0 ∈ [0, 2] → (∀ d ∈ e.req.data, d.2 = false) →
    Runs (.gthDescriptorStart k rid) s (fun t => OnlyStk k s t ∧
      t.stk k = { s.stk k with table := (t.stk k).table, wrr := (t.stk k).wrr } ∧
      ∃ g, t.entry k rid = some { e with gth := some g } ∧ g.results = [] ∧ g.fails = [] ∧ g.opStatus = 0 ∧
        g.todo.length = 4 * e.req.data.length ∧ ∀ i j d, e.req.data[i]? = some d → j < 4 → g.todo[4 * i + j]? = some {
          idx := 4 * i + j
          src := some ((e.req.off : Int) + (wordNum d.1 (8 * j) 4 : Int) * 4)
          dst := none
          value := BitVec.ofNat 128 (wordNum d.1 (8 * j + 4) 4) })) ∧
  ∀ (s : State) (k rid : Nat), 16 ≤ ((s.stk k).table.filter (fun e => e.gth.isSome && e.done.isNone)).length →
    exec (.gthDescriptorStart k rid) s = .next s

/-- An element of a gather whose source is out of range, unbacked, in a RETIRED tile or an accumulator region, or on a stack that does
not serve or is out of reach fails: it is counted, noted by its index, and sets ELEM_FAIL, and no word changes (R193); one whose
word the slice of the descriptor's own stack holds appends its value. An element on a paused pseudo-channel waits (R254). -/
def Claims.DescriptorElement : Prop :=
  ∀ (s : State) (k rid : Nat) (e : Entry) (g : Gth) (x : Elem) (rest : List Elem), Shaped s → s.entry k rid = some e →
    e.gth = some g → g.todo = x :: rest → e.req.op = 0x61 ∨ e.req.op = 0x62 → s.serving = true → s.unreach k = false →
    x.dst = none →
    (s.elemServes k x.src = false → exec (.gthElementAccess k rid) s = .next s) ∧
    (∀ o, x.src = some o → s.elemOk k o = false →
      Runs (.gthElementAccess k rid) s (fun t => OtherWords k s t [] ∧ t.dies = s.dies ∧
        t.entry k rid = some { e with gth := some { g with
          todo := rest
          fails := g.fails ++ [x.idx]
          opStatus := g.opStatus ||| opElemFail
          results := g.results ++ [(0, true, false)] } } ∧
        (s.frozen k .gth 0 = false → t.cntVal k .gth 0 2 = satAdd cntMax (s.cntVal k .gth 0 2) 1))) ∧
    (∀ o w, x.src = some o → s.elemOk k o = true → s.elemServes k x.src = true → (s.locOf 0 o.toNat).stack = k →
      (s.stk k).sectorAt (s.locOf 0 o.toNat) = some (w, false) → ((s.stk k).ch (s.locOf 0 o.toNat).ch).viUnusable = false →
      (s.stk k).tileSt (s.locOf 0 o.toNat).tile ≠ .invalid →
      Runs (.gthElementAccess k rid) s (fun t => OtherWords k s t [] ∧ t.dies = s.dies ∧
        t.entry k rid = some { e with gth := some { g with
          todo := rest
          results := g.results ++ [(BitVec.ofNat 256 (wordNum w (o.toNat % 32) (esize e.req.word0)), false, false)] } }))

/-- A descriptor whose elements have all been accessed completes: POISON where a word was poisoned, else OK, with its OP_STATUS; the
scatter answers with its map of failed elements, the copies with their number and the first, the gathers with the sequence of
R194 (R191, R192, R194, R195). -/
def Claims.DescriptorsComplete : Prop :=
  ∀ (s : State) (k rid : Nat) (e : Entry) (g : Gth), Shaped s → s.entry k rid = some e → e.gth = some g → g.todo = [] →
    e.done = none → s.serving = true → s.unreach k = false → g.results.length ≤ 4096 →
    (e.req.op = 0x60 → Runs (.scatterAcc k rid) s (fun t => OnlyStk k s t ∧
      t.stk k = { s.stk k with table := (t.stk k).table, cnt := (t.stk k).cnt } ∧
      t.entry k rid = some { e with
        inRes := false
        done := some [{ respTo e.req (if g.poisoned then stPoison else stOk) (s.frame k) with
          opStatus := g.opStatus
          inline := BitVec.ofNat 128 (maskOf g.fails) }] })) ∧
    (∀ c ∈ ([(.stridedCopy, 0x63), (.pkgCopy, 0x64)] : List ((Nat → Nat → Instr) × Nat)), e.req.op = c.2 →
      Runs (c.1 k rid) s (fun t => OnlyStk k s t ∧
        t.stk k = { s.stk k with table := (t.stk k).table, cnt := (t.stk k).cnt } ∧
        t.entry k rid = some { e with
          inRes := false
          done := some [{ respTo e.req (if g.poisoned then stPoison else stOk) (s.frame k) with
            opStatus := g.opStatus
            inline := BitVec.ofNat 128 (g.fails.length + (g.fails.headD 0xFFFFFFFF) * 2 ^ 32) }] })) ∧
    (∀ c ∈ ([(.gather, 0x61), (.stridedGather, 0x62)] : List ((Nat → Nat → Instr) × Nat)), e.req.op = c.2 →
      Runs (c.1 k rid) s (fun t => OnlyStk k s t ∧
        t.stk k = { s.stk k with table := (t.stk k).table, cnt := (t.stk k).cnt } ∧
        ∃ rs, t.entry k rid = some { e with inRes := false, done := some rs } ∧
          (∀ i r, rs[i]? = some r → r.status = (if g.poisoned then stPoison else stOk) ∧ r.opStatus = g.opStatus ∧
            r.inline.toNat % 2 ^ 16 = i % 2 ^ 16 ∧ r.data.length ≤ 8 ∧ (r.inline.getLsbD 16 = true ↔ i + 1 = rs.length)) ∧
          rs.length = (g.results.length + 256 / esize e.req.word0 - 1) / (256 / esize e.req.word0)))

/-- Descriptors, from start to completion (R178, R191 to R195). -/
def Obligations.Descriptors : Prop :=
  Claims.DescriptorStart ∧ Claims.DescriptorElement ∧ Claims.DescriptorsComplete

/-- ACC_SPILL_ALL spills every resident accumulator of a slice without a forced seal on their tiles: none is resident afterwards, and
the other slices keep theirs (R190, R200). -/
def Claims.AccSpillAll : Prop :=
  ∀ (s : State) (src : Source) (k ch : Nat) (v : Reg32), Shaped s → s.winOk k = true → v.getLsbD 0 = true → ch < 32 →
    (∀ a ∈ ((s.stk k).ch ch).accs, tileCh a.1 = ch ∧ (s.stk k).sealHolds (accLoc k a).tile = false) → (s.stk k).chans.length = 32 →
    Runs (.accSpillAll src k ch v) s (fun t => ((t.stk k).ch ch).accs = [] ∧
      (∀ c, c ≠ ch → ((t.stk k).ch c).accs = ((s.stk k).ch c).accs) ∧ (∀ j, j ≠ k → t.stk j = s.stk j) ∧ t.ports = s.ports)
/-! ### The Vitrine (R200, R208 to R230) -/

/-- FLUSH writes the dirty sectors of every selected line back and leaves the lines clean; INVALIDATE drops the selected lines and
writes nothing; FLUSH_INV does both; parity lines are never selected (R217, R218). BUSY is 1, DONE and REJECTED are 0, LINES is
the number of lines selected (R230). The write-backs queue in their banks, where they wait for their slots (R219). -/
def Claims.VitOps : Prop :=
  ∀ (s : State) (src : Source) (k : Nat) (v : Reg32), Shaped s → s.winOk k = true → v.getLsbD 31 = true →
    s.flag k 0 F.VIT_OP_STATUS_BUSY = false → bits v.toNat 27 26 ≠ 3 → OneLinePerPlace (s.stk k) →
    (∀ y ∈ (s.stk k).lines, y.set < 512) →
    (bits v.toNat 29 28 = 1 → Runs (.vitInvalidate src k v) s (fun t =>
      (t.stk k).lines = (s.stk k).lines.filter (fun y => !vitSelects s k v.toNat y) ∧ t.dies = s.dies ∧
      t.fld k 0 F.VIT_OP_STATUS_BUSY = 1 ∧ t.fld k 0 F.VIT_OP_STATUS_DONE = 0 ∧ t.fld k 0 F.VIT_OP_STATUS_REJECTED = 0 ∧
      t.fld k 0 F.VIT_OP_STATUS_LINES = ((s.stk k).lines.filter (vitSelects s k v.toNat)).length % 2 ^ 19 ∧ OnlyStk k s t)) ∧
    ((∀ c, ((s.stk k).ch c).accs = []) → ∀ c ∈ ([(.vitFlush, 0), (.vitFlushInv, 2)] : List ((Source → Nat → Reg32 → Instr) × Nat)),
      bits v.toNat 29 28 = c.2 → Runs (c.1 src k v) s (fun t =>
        (t.stk k).lines = (if c.2 = 0
          then (s.stk k).lines.map (fun y => if vitSelects s k v.toNat y = true then { y with dirty := 0 } else y)
          else (s.stk k).lines.filter (fun y => !vitSelects s k v.toNat y)) ∧
        (∀ y i, (s.stk k).lines.filter (vitSelects s k v.toNat) = [y] → i < 8 → y.dirty.getLsbD i = true →
          t.dieBytes k (y.loc k i) = if y.poison.getLsbD i = true then marker else encodeWord (y.sector i)) ∧
        t.fld k 0 F.VIT_OP_STATUS_BUSY = 1 ∧ t.fld k 0 F.VIT_OP_STATUS_DONE = 0 ∧
        t.fld k 0 F.VIT_OP_STATUS_LINES = ((s.stk k).lines.filter (vitSelects s k v.toNat)).length % 2 ^ 19 ∧
        t = { s with stks := t.stks, dies := t.dies } ∧ ∀ j, j ≠ k → t.stk j = s.stk j))

/-- When the last write-back of a VIT_OP has been performed BUSY is 0 and DONE is 1, and OP_DONE pulses; before, it stays BUSY
(R219). -/
def Claims.VitOpDone : Prop :=
  (∀ (s : State) (k : Nat), s.opWaits k = true → exec (.vitOpDone k) s = .next s) ∧
  ∀ (s : State) (k : Nat), Shaped s → k < s.n → s.flag k 0 F.VIT_OP_STATUS_BUSY = true → s.opWaits k = false →
    Runs (.vitOpDone k) s (fun t =>
      t.fld k 0 F.VIT_OP_STATUS_BUSY = 0 ∧ t.fld k 0 F.VIT_OP_STATUS_DONE = 1 ∧ Pulsed s t k .vit 0 0 ∧
      t = { s with stks := t.stks, irqs := t.irqs } ∧ (∀ j, j ≠ k → t.stk j = s.stk j) ∧ RegsOnly (s.stk k) (t.stk k))

/-- The operations of VIT_OP and ACC_SPILL_ALL (R200, R217 to R219, R229, R230). -/
def Obligations.VitrineOperations : Prop := Claims.VitOps ∧ Claims.VitOpDone ∧ Claims.AccSpillAll

/-- The scrub of the Vitrine's SRAM (R221, R222): a read without an error only notes its line in the pass of its slice, which ends with
the last of its 8,192 lines; a single-bit error is corrected,
counted and reported; an uncorrectable tag drops a clean line and leaves a dirty one, each with its report; uncorrectable data of
a dirty sector poisons the sector. A slice's pass that is not complete at the end of its period is logged and goes on. -/
def Obligations.VitrineScrub : Prop :=
  (∀ (s : State) (k ch line : Nat), Shaped s → k < s.n → s.flag k 0 F.VIT_CTRL_SCRUB_EN = true → s.unreach k = false →
    s.serving = true → ch < 32 → line < 8192 →
    Runs (.vitSramScrub k ch line none) s (fun t => OnlyStk k s t ∧
      t.stk k = (if (s.stk k).vitScrubSeen.getD ch 0 ||| 2 ^ line = 2 ^ 8192 - 1
        then { s.stk k with
          vitScrubSeen := (s.stk k).vitScrubSeen.set ch 0
          vitScrubStart := (s.stk k).vitScrubStart.set ch (s.now k) }
        else { s.stk k with vitScrubSeen := (s.stk k).vitScrubSeen.set ch ((s.stk k).vitScrubSeen.getD ch 0 ||| 2 ^ line) })) ∧
    Runs (.vitSramScrub k ch line (some .single)) s (fun t => OnlyStk k s t ∧ Raised s t k K.VIT_SRAM_CE 0 ∧
      Counted s t k .vit 0 5 ∧ (t.stk k).lines = (s.stk k).lines ∧ OtherRegs k s t) ∧
    ∀ y, (s.stk k).lines.find? (fun y => y.ch == ch && y.set == line / 16 && y.way == line % 16) = some y →
      (y.dirty = 0 → Runs (.vitSramScrub k ch line (some .tag)) s (fun t => OnlyStk k s t ∧ Raised s t k K.VIT_SRAM_UE 0 ∧
        (t.stk k).lines = (s.stk k).lines.filter (fun z => !z.isAt (y.loc k 0) y.parity))) ∧
      (y.dirty ≠ 0 → Runs (.vitSramScrub k ch line (some .tag)) s (fun t => OnlyStk k s t ∧ Raised s t k K.VIT_TAG_UE 0 ∧
        (t.stk k).lines = (s.stk k).lines)) ∧
      ∀ i, y.dirty.getLsbD i = true → Runs (.vitSramScrub k ch line (some (.data i))) s (fun t => OnlyStk k s t ∧
        Raised s t k K.VIT_SRAM_UE 0 ∧ (t.stk k).lines = (s.stk k).lines.map (fun z =>
          if z.isAt (y.loc k 0) y.parity = true then { z with poison := z.poison ||| (1#8 <<< i) } else z))) ∧
  ∀ (s : State) (k ch : Nat), Shaped s → k < s.n → s.flag k 0 F.VIT_CTRL_SCRUB_EN = true → ch < 32 →
    (s.stk k).vitScrubStart.length = 32 →
    max 1024 (s.fld k 0 F.VIT_SCRUB_SCRUB_FRAMES) ≤ s.now k - (s.stk k).vitScrubStart.getD ch 0 →
    Runs (.vitScrubLate k) s (fun t => OnlyStk k s t ∧ Raised s t k K.VIT_SCRUB_LATE 0 ∧
      (t.stk k).vitScrubStart.getD ch 0 = s.now k ∧
      (∀ c, s.now k - (s.stk k).vitScrubStart.getD c 0 < max 1024 (s.fld k 0 F.VIT_SCRUB_SCRUB_FRAMES) →
        (t.stk k).vitScrubStart.getD c 0 = (s.stk k).vitScrubStart.getD c 0) ∧
      (t.stk k).vitScrubSeen = (s.stk k).vitScrubSeen ∧ OtherRegs k s t)

/-! ### Channels: refresh, activation counts, power-down, training (R240 to R263) -/

/-- Refresh debt (R240, R242): a spacing that has come adds 1 to D of its bank, up to 8, and a refresh that is then due ends
power-down (R248); none comes early. A refresh that is forced, due or ahead of time takes 1 from D and moves the row pointer on, for
2 slots of the window, 1 at P3; a forced one is counted as such. A bank with guaranteed requests pending is left alone below a debt
of 4, and one with an empty queue and a debt of 4 or more is refreshed by force. No other bank changes. -/
def Obligations.Refresh : Prop :=
  (∀ (s : State) (k ch pc bank : Nat), Shaped s → HasPc s k ch pc → s.refreshes k = true → ch < 32 → pc < 2 →
    bank < s.part.banks → (s.pcOf k ch pc).selfRefresh = false → ((s.stk k).ch ch).unusable = false →
    (((s.pcOf k ch pc).bank bank).spaced < s.spacings k bank →
      Runs (.refreshSpacing k ch pc bank) s (fun t =>
        (t.pcOf k ch pc).bank bank = { (s.pcOf k ch pc).bank bank with
          debt := min 8 (((s.pcOf k ch pc).bank bank).debt + 1)
          spaced := ((s.pcOf k ch pc).bank bank).spaced + 1 } ∧
        (∀ b, b ≠ bank → (t.pcOf k ch pc).bank b = (s.pcOf k ch pc).bank b) ∧ OnlyPc k ch pc s t ∧
        (s.mode ≠ .idle → 0 ≤ ((s.pcOf k ch pc).bank bank).debt → (t.pcOf k ch pc).powerDown = false) ∧
        t.pcOf k ch pc = { s.pcOf k ch pc with
          banks := (t.pcOf k ch pc).banks
          powerDown := (t.pcOf k ch pc).powerDown })) ∧
    (s.spacings k bank ≤ ((s.pcOf k ch pc).bank bank).spaced → exec (.refreshSpacing k ch pc bank) s = .next s)) ∧
  (∀ (s : State) (k ch pc bank : Nat), Shaped s → HasPc s k ch pc → s.pcRuns k ch pc = true → bank < s.part.banks →
    ((s.pcOf k ch pc).bank bank).refs < 5 →
    s.refForced k ch pc bank = true ∨ s.refDue k ch pc bank = true ∨ s.refAhead k ch pc bank = true ∨
      (4 ≤ ((s.pcOf k ch pc).bank bank).debt ∧ s.atBank k ch pc bank = []) →
    Runs (.perBankRefresh k ch pc bank) s (fun t =>
      ((t.pcOf k ch pc).bank bank).debt = ((s.pcOf k ch pc).bank bank).debt - 1 ∧
      ((t.pcOf k ch pc).bank bank).ptr = (((s.pcOf k ch pc).bank bank).ptr + 1) % 4096 ∧
      (∀ b, b ≠ bank → (t.pcOf k ch pc).bank b = (s.pcOf k ch pc).bank b) ∧
      (t.pcOf k ch pc).winUsed 1 = (s.pcOf k ch pc).winUsed 1 + (if s.runLevel = 3 then 1 else 2) ∧
      Counted s t k .ctl ch 1 ∧ (s.refForced k ch pc bank = true → Counted s t k .ctl ch 2) ∧ OnlyPc k ch pc s t)) ∧
  ∀ (s : State) (k ch pc bank : Nat), (∃ r ∈ s.atBank k ch pc bank, isGuar r.cls = true) →
    ((s.pcOf k ch pc).bank bank).debt < 4 → exec (.perBankRefresh k ch pc bank) s = .next s

/-- Activation counts and targeted refresh (R244 to R247): a row not yet tracked enters the table with count 1; an activation that
brings a row to a multiple of ACT_THRESH queues a refresh of the rows within two of it; an uncorrectable tracker entry clears the
table and is reported; each opens its row. A targeted refresh that is promoted, or fits its share of the window, is performed and
leaves the queue; one that has waited 4 frames is promoted. -/
def Claims.Activations : Prop :=
  (∀ (s : State) (k ch pc bank row : Nat), Shaped s → HasPc s k ch pc → s.pcRuns k ch pc = true → bank < s.part.banks →
    row < 32768 → ((s.pcOf k ch pc).bank bank).acts < 27 →
    ((∀ e ∈ ((s.pcOf k ch pc).bank bank).track, e.1 ≠ row) → ((s.pcOf k ch pc).bank bank).track.length < 256 →
      ((s.pcOf k ch pc).bank bank).spill = 0 →
      Runs (.activate k ch pc bank row false) s (fun t =>
        ((t.pcOf k ch pc).bank bank).track = ((s.pcOf k ch pc).bank bank).track ++ [(row, 1)] ∧
        ((t.pcOf k ch pc).bank bank).openRow = some row ∧
        (t.pcOf k ch pc).targeted = (s.pcOf k ch pc).targeted ∧ Counted s t k .ctl ch 0 ∧ OnlyPc k ch pc s t)) ∧
    (∀ n, ((s.pcOf k ch pc).bank bank).track.find? (fun e => e.1 == row) = some (row, n) →
      (s.stk k).physOf ch pc bank row = row →
      Runs (.activate k ch pc bank row false) s (fun t =>
        ((t.pcOf k ch pc).bank bank).track.find? (fun e => e.1 == row) = some (row, n + 1) ∧
        ((t.pcOf k ch pc).bank bank).openRow = some row ∧
        ((n + 1) % max 2600 (s.fld k ch F.CTL_ACT_CFG_ACT_THRESH) ≠ 0 → (t.pcOf k ch pc).targeted = (s.pcOf k ch pc).targeted) ∧
        ((n + 1) % max 2600 (s.fld k ch F.CTL_ACT_CFG_ACT_THRESH) = 0 →
          ∃ x : Targeted, (t.pcOf k ch pc).targeted = (s.pcOf k ch pc).targeted ++ [x] ∧ x.bank = bank ∧ x.age = 0 ∧
            ∀ a, a ∈ x.rows ↔ a ≠ row ∧ a ≤ row + 2 ∧ row ≤ a + 2 ∧ a < 32784) ∧
        OnlyPc k ch pc s t)) ∧
    Runs (.activate k ch pc bank row true) s (fun t =>
      ((t.pcOf k ch pc).bank bank).track = [] ∧ ((t.pcOf k ch pc).bank bank).spill = 0 ∧ Raised s t k K.CTL_ACT_TRK_UE ch ∧
      Counted s t k .ctl ch 0 ∧ OnlyPc k ch pc s t)) ∧
  (∀ (s : State) (k ch pc : Nat) (x : Targeted), Shaped s → HasPc s k ch pc → s.pcRuns k ch pc = true →
    s.nextTargeted k ch pc = some x →
    x.promoted = true ∨ s.windowFits k (s.pcOf k ch pc) (s.claims k ch pc) 3 s.refCost = true →
    Runs (.targetedRefresh k ch pc) s (fun t =>
      (t.pcOf k ch pc).targeted = (s.pcOf k ch pc).targeted.erase x ∧
      (∀ b, ((t.pcOf k ch pc).bank b).debt = ((s.pcOf k ch pc).bank b).debt ∧ ((t.pcOf k ch pc).bank b).ptr = ((s.pcOf k ch pc).bank b).ptr ∧
        ((t.pcOf k ch pc).bank b).track = ((s.pcOf k ch pc).bank b).track) ∧
      (t.pcOf k ch pc).winUsed (if x.promoted = true then 1 else 3) =
        (s.pcOf k ch pc).winUsed (if x.promoted = true then 1 else 3) + (if s.runLevel = 3 then 1 else 2) ∧
      Counted s t k .ctl ch 3 ∧ OnlyPc k ch pc s t)) ∧
  ∀ (s : State) (k ch pc : Nat), Shaped s → HasPc s k ch pc →
    Runs (.targetedRefreshPromote k ch pc) s (fun t => OnlyPc k ch pc s t ∧
      t.pcOf k ch pc = { s.pcOf k ch pc with
        targeted := (s.pcOf k ch pc).targeted.map (fun x => { x with promoted := x.promoted || decide (4 ≤ x.age) }) })

/-- A pseudo-channel whose bank queues have been empty for PD_IDLE cycles precharges its banks, enters power-down where PD_EN is 1,
and counts it (R248). -/
def Claims.PowerDown : Prop :=
  ∀ (s : State) (k ch pc : Nat), Shaped s → HasPc s k ch pc → s.mode = .active → s.pcRuns k ch pc = true →
    (s.pcOf k ch pc).powerDown = false → s.flag k ch F.CTL_CTRL_PD_EN = true →
    (∀ b, b < s.part.banks → s.atBank k ch pc b = []) → (s.pcOf k ch pc).wbq = [] → s.idleSpell k ch pc = true →
    Runs (.powerDownEntry k ch pc) s (fun t => (t.pcOf k ch pc).powerDown = true ∧
      t.pcOf k ch pc = { s.pcOf k ch pc with
        powerDown := true
        banks := (s.pcOf k ch pc).banks.map (fun e => (e.1, { e.2 with openRow := none })) } ∧
      Counted s t k .ctl ch 6 ∧ OnlyPc k ch pc s t)

/-- Activation counts, targeted refresh and power-down (R244 to R248). -/
def Obligations.Activation : Prop := Claims.Activations ∧ Claims.PowerDown

/-- Training operations (R250 to R252, R258 to R262): GO from the stack's Docent starts an operation where it is allowed, as its
registers stand, with TARGET 1 through the training row, and is rejected elsewhere; GO from the host does nothing; ABORT ends a
running operation; a pattern operation leaves its error counts, a sweep the pass bits of the steps that ran, with DONE and the pulse
of TRN_DONE, and of the other kind of result nothing stays. -/
def Claims.TrainingOps : Prop :=
  (∀ c ∈ ([(.trnPattern, 0), (.trnSweep, 1), (.trnTrackingPass, 2)] : List ((Source → Nat → Nat → Reg32 → TrnResult → Instr) × Nat)),
    ∀ (s : State) (k ch : Nat) (v : Reg32) (r : TrnResult), Shaped s → HasCh s k ch → s.winOk k = true → ch < 32 →
      v.getLsbD 31 = true → bits v.toNat 21 20 = c.2 → s.flag k ch F.CTL_TRN_STATUS_BUSY = false →
      ((c.2 = 2 ∨ s.trnAllowed k ch (bits v.toNat 24 24) = true) → bits v.toNat 17 16 ≠ 3 →
        ((s.stk k).ch ch).unusable = false →
        Runs (c.1 (.docent k) k ch v r) s (fun t => ((t.stk k).ch ch).trnPend = some (s.trnRun k ch v.toNat r) ∧
          (c.2 < 2 → v.getLsbD 19 = true → HasPc s k ch (bits v.toNat 24 24) →
            ((t.pcOf k ch (bits v.toNat 24 24)).trnRow.map Prod.fst) = some (s.trnRun k ch v.toNat r).pattern) ∧
          t.fld k ch F.CTL_TRN_STATUS_BUSY = 1 ∧ t.fld k ch F.CTL_TRN_STATUS_DONE = 0 ∧
          t.fld k ch F.CTL_TRN_STATUS_REJECTED = 0 ∧ t.fld k ch F.CTL_TRN_STATUS_ABORTED = 0 ∧ OnlyStk k s t ∧
          t.stk k = { s.stk k with regs := (t.stk k).regs, chans := (t.stk k).chans } ∧
          ∀ d, d ≠ ch → (t.stk k).ch d = (s.stk k).ch d)) ∧
      ((c.2 ≠ 2 ∧ s.trnAllowed k ch (bits v.toNat 24 24) = false) ∨ bits v.toNat 17 16 = 3 ∨ ((s.stk k).ch ch).unusable = true →
        Runs (c.1 (.docent k) k ch v r) s (fun t => t.fld k ch F.CTL_TRN_STATUS_REJECTED = 1 ∧
          t.fld k ch F.CTL_TRN_STATUS_BUSY = 0 ∧ OnlyStk k s t ∧ RegsOnly (s.stk k) (t.stk k))) ∧
      ∀ p, Runs (c.1 (.port p) k ch v r) s (fun t => t.fld k ch F.CTL_TRN_STATUS_BUSY = 0 ∧
        t.raw k .ctl ch 0x154 = s.raw k .ctl ch 0x154 ∧ OnlyStk k s t ∧ RegsOnly (s.stk k) (t.stk k))) ∧
  (∀ (s : State) (k ch : Nat) (v : Reg32), Shaped s → HasCh s k ch → s.winOk k = true → ch < 32 → v.getLsbD 30 = true →
    s.flag k ch F.CTL_TRN_STATUS_BUSY = true →
    Runs (.trnAbort (.docent k) k ch v) s (fun t => ((t.stk k).ch ch).trnPend = none ∧
      t.fld k ch F.CTL_TRN_STATUS_BUSY = 0 ∧ t.fld k ch F.CTL_TRN_STATUS_ABORTED = 1 ∧ OnlyStk k s t ∧
      t.stk k = { s.stk k with regs := (t.stk k).regs, chans := (t.stk k).chans })) ∧
  ∀ (s : State) (k ch : Nat) (r : TrnRun), Shaped s → HasCh s k ch → ((s.stk k).ch ch).trnPend = some r → r.mode < 2 →
    Runs (.trnDone k ch) s (fun t =>
      t.fld k ch F.CTL_TRN_STATUS_BUSY = 0 ∧ t.fld k ch F.CTL_TRN_STATUS_DONE = 1 ∧ Pulsed s t k .ctl ch 0 ∧
      ((t.stk k).ch ch).trnPend = none ∧
      (r.mode = 0 → ((t.stk k).ch ch).trnMap = [] ∧ ∀ pin, pin < 36 →
        ((t.stk k).ch ch).trnErr.getD pin 0 = min 65535 (r.res.pinErrors.getD pin 0)) ∧
      (r.mode = 1 → ∀ pin, pin < 36 →
        (∀ i, i < 128 → (((t.stk k).ch ch).trnMap.getD pin 0).getLsbD i = (decide (r.start ≤ i ∧ i ≤ r.stop ∧ (i - r.start) % r.step = 0) &&
          (r.res.passMaps.getD pin 0).getLsbD i)) ∧
        (((t.stk k).ch ch).trnErr.getD pin 0 = 0 ↔ ∀ i, i < 128 → r.start ≤ i → i ≤ r.stop → (i - r.start) % r.step = 0 →
          (r.res.passMaps.getD pin 0).getLsbD i = true)) ∧
      (t.fld k ch F.CTL_TRN_STATUS_FAIL_VALID = 1 ↔ ∃ pin, pin < 36 ∧ ((t.stk k).ch ch).trnErr.getD pin 0 ≠ 0) ∧
      t = { s with stks := t.stks, irqs := t.irqs } ∧ (∀ j, j ≠ k → t.stk j = s.stk j) ∧
      t.stk k = { s.stk k with regs := (t.stk k).regs, chans := (t.stk k).chans })

/-- A tracking pass that is due moves the read delay of a pin that fails on one side only one step away from it, leaves a pin that
fails on neither side, and reports a pin that fails at its own setting; its 48 slots come from the retraining share of the window,
over the frames that this takes (R48, R253). -/
def Claims.Tracking : Prop :=
  ∀ (s : State) (k ch pc : Nat) (r : TrnResult), Shaped s → HasPc s k ch pc → s.pcRuns k ch pc = true →
    (s.pcOf k ch pc).trkDue = true ∨ (s.flag k ch F.CTL_CTRL_TRK_EN = true ∧
      max 64 (s.fld k ch F.CTL_TRK_TRK_FRAMES) ≤ s.now k - (s.pcOf k ch pc).trkLast) →
    s.windowFree k ch pc 5 = true →
    Runs (.trackingPass k ch pc r) s (fun t =>
      (t.pcOf k ch pc).winUsed 5 + mget (t.pcOf k ch pc).owed 5 0 = (s.pcOf k ch pc).winUsed 5 + 48 ∧
      (t.pcOf k ch pc).trkLast = s.now k ∧ (t.pcOf k ch pc).trkDue = false ∧
      (∀ pin, pin < 36 → r.atMinus.getD pin 0 = 0 → r.atPlus.getD pin 0 = 0 →
        (t.pcOf k ch pc).delay pin = (s.pcOf k ch pc).delay pin) ∧
      (∀ pin, pin < 36 → r.atZero.getD pin 0 = 0 → r.atMinus.getD pin 0 ≠ 0 → r.atPlus.getD pin 0 = 0 →
        bits ((s.pcOf k ch pc).delay pin) 6 0 < 127 →
        bits ((t.pcOf k ch pc).delay pin) 6 0 = bits ((s.pcOf k ch pc).delay pin) 6 0 + 1) ∧
      (∀ pin, pin < 36 → r.atZero.getD pin 0 = 0 → r.atMinus.getD pin 0 = 0 → r.atPlus.getD pin 0 ≠ 0 →
        0 < bits ((s.pcOf k ch pc).delay pin) 6 0 →
        bits ((t.pcOf k ch pc).delay pin) 6 0 + 1 = bits ((s.pcOf k ch pc).delay pin) 6 0) ∧
      ((∃ pin, pin < 36 ∧ r.atZero.getD pin 0 ≠ 0) → Raised s t k K.CTL_TRK_FAIL ch) ∧ OnlyPc k ch pc s t)

/-- Retrain pauses and delays (R252, R254): Docent sets and clears PAUSE, the host clears PAUSE_EN; a bank of a paused
pseudo-channel with a debt of 8 ends the pause; a write of CTL_DLY acts at once in MAINTENANCE or a pause, else at the next tick,
and not at all on the pins that do not exist. -/
def Claims.Pauses : Prop :=
  (∀ (s : State) (k ch : Nat) (v : Reg32), Shaped s → s.winOk k = true → ch < 32 → v.getLsbD 30 = false →
    (v.getLsbD 28 = true → Runs (.pauseRequest (.docent k) k ch v) s (fun t => t.fld k ch F.CTL_TRN_CTRL_PAUSE = 1 ∧
      OnlyStk k s t ∧ RegsOnly (s.stk k) (t.stk k))) ∧
    (v.getLsbD 28 = false → Runs (.pauseClear (.docent k) k ch v) s (fun t => t.fld k ch F.CTL_TRN_CTRL_PAUSE = 0 ∧
      OnlyStk k s t ∧ RegsOnly (s.stk k) (t.stk k))) ∧
    ∀ p, v.getLsbD 29 = false → Runs (.pauseEnClear (.port p) k ch v) s (fun t => t.fld k ch F.CTL_TRN_CTRL_PAUSE_EN = 0 ∧
      t.fld k ch F.CTL_TRN_CTRL_PAUSE = s.fld k ch F.CTL_TRN_CTRL_PAUSE ∧ OnlyStk k s t ∧ RegsOnly (s.stk k) (t.stk k))) ∧
  (∀ (s : State) (k ch : Nat), Shaped s → k < s.n → ch < 32 →
    (∃ p ∈ ((s.stk k).ch ch).pcs, p.paused = true ∧ ∃ e ∈ p.banks, 8 ≤ e.2.debt) →
    Runs (.pauseDebt k ch) s (fun t => (∀ p ∈ ((t.stk k).ch ch).pcs, p.paused = false) ∧
      t.fld k ch F.CTL_TRN_CTRL_PAUSE = 0 ∧ Raised s t k K.CTL_PAUSE_DEBT ch ∧ (t.raw k .ctl ch 0x0C).testBit 17 = false ∧
      OnlyStk k s t ∧ ∀ d, d ≠ ch → (t.stk k).ch d = (s.stk k).ch d)) ∧
  ∀ (s : State) (src : Source) (k ch pc pin : Nat) (v : Reg32), Shaped s → HasPc s k ch pc → s.winOk k = true → ch < 32 →
    s.fld k ch F.CTL_DLY_SEL_PC = pc → s.fld k ch F.CTL_DLY_SEL_PIN = pin →
    (pin < 36 → (s.stk k).mode = .maintenance ∨ (s.pcOf k ch pc).paused = true →
      Runs (.ctlDlyWrite src k ch v) s (fun t =>
        (t.pcOf k ch pc).delay pin = bits v.toNat 21 16 * 2 ^ 16 + bits v.toNat 14 8 * 2 ^ 8 + bits v.toNat 6 0 ∧
        (∀ q, q ≠ pin → (t.pcOf k ch pc).delay q = (s.pcOf k ch pc).delay q) ∧ OnlyPc k ch pc s t)) ∧
    (pin < 36 → (s.stk k).mode ≠ .maintenance → (s.pcOf k ch pc).paused = false →
      Runs (.ctlDlyWrite src k ch v) s (fun t => OnlyCh k ch s t ∧ (t.stk k).ch ch = { (s.stk k).ch ch with
        dlyPend := ((s.stk k).ch ch).dlyPend ++ [(pc * 64 + pin, v)] })) ∧
    (36 ≤ pin → exec (.ctlDlyWrite src k ch v) s = .next s)

/-- Training, tracking, retrain pauses and delays (R250 to R263). -/
def Obligations.Training : Prop := Claims.TrainingOps ∧ Claims.Tracking ∧ Claims.Pauses

/-! ### Temperatures (R414 to R420, R425) -/

/-- Memory-die sensors (R241, R415): at least 16 frames after the last read, a reading becomes the value in use of a die that is not
suspect, a failed read keeps it, and each read takes a slot of the thermal-action share of its channel (how many slots: log entry
68); a die that disagrees in a fifth consecutive read is marked at the next tick and reported; 6,250 frames of agreement clear a
suspect die. -/
def Claims.MemorySensors : Prop :=
  (∀ (s : State) (k : Nat) (raw : List (Option Int)), Shaped s → s.thmRuns k = true → raw.length = s.part.dies →
    (s.stk k).th.memRead = false ∨ 16 ≤ s.now k - (s.stk k).th.memLast → (∀ d, d < s.part.dies → ((s.stk k).sensorPc d).isSome = true) →
    Runs (.memoryDieSensorRead k raw) s (fun t =>
      (∀ d r, d < s.part.dies → raw.getD d none = some r → (s.stk k).th.suspect.getD d false = false →
        (t.stk k).th.mem.getD d 0 = r ∧ (t.stk k).th.memUse.getD d 0 = r + (s.stk k).sensorAdd) ∧
      (∀ d, d < s.part.dies → raw.getD d none = none → (s.stk k).th.suspect.getD d false = false →
        (t.stk k).th.memUse.getD d 0 = (s.stk k).th.memUse.getD d 0) ∧
      (∀ d, d < s.part.dies → (s.stk k).th.suspect.getD d false = true →
        (t.stk k).th.memUse.getD d 0 = (t.stk k).th.est.getD d 0 + 16) ∧
      (∀ d, d < s.part.dies → (s.stk k).th.suspect.getD d false = false → (s.stk k).th.memRead = true →
        (s.stk k).th.memDis.getD d 0 = 4 → raw.getD d none = none → (∀ m ∈ (s.stk k).th.memNext, m.1 ≠ d) →
        Raised s t k K.THM_SUSPECT 0 ∧ ∃ u, (d, true, u) ∈ (t.stk k).th.memNext) ∧
      (s.serving = true → ∀ d i, d < s.part.dies → (s.stk k).sensorPc d = some i → HasPc s k d i →
        (t.pcOf k d i).winUsed 2 + mget (t.pcOf k d i).owed 2 0 = (s.pcOf k d i).winUsed 2 + mget (s.pcOf k d i).owed 2 0 + 1) ∧
      (t.stk k).th.memLast = s.now k ∧
      (t.stk k).th.suspect = (s.stk k).th.suspect ∧ (t.stk k).th.stage = (s.stk k).th.stage ∧
      t = { s with stks := t.stks, free := t.free } ∧ (∀ j, j ≠ k → t.stk j = s.stk j) ∧ t.stk k = { s.stk k with
        regs := (t.stk k).regs
        chans := (t.stk k).chans
        cnt := (t.stk k).cnt
        rg := (t.stk k).rg
        th := (t.stk k).th })) ∧
  (∀ (s : State) (k : Nat) (raw : List (Option Int)), (s.stk k).th.memRead = true → s.now k - (s.stk k).th.memLast < 16 →
    exec (.memoryDieSensorRead k raw) s = .next s) ∧
  ∀ (s : State) (k die : Nat), Shaped s → s.thmRuns k = true → (s.stk k).th.suspect.getD die false = true →
    0 < (s.stk k).th.memAgree.getD die 0 → 6250 ≤ s.now k + 1 - (s.stk k).th.memAgree.getD die 0 →
    (∀ m ∈ (s.stk k).th.memNext, m.1 ≠ die) →
    Runs (.suspectClear k die) s (fun t => OnlyStk k s t ∧ t.stk k = { s.stk k with th := { (s.stk k).th with
      memNext := (s.stk k).th.memNext ++ [(die, false, (s.stk k).th.mem.getD die 0 + (s.stk k).sensorAdd)] } })

/-- Base-die sensors (R414, R416, R412): readings and lid become the values in use; a sensor that differs from both neighbours in a
64th consecutive read is excluded for the hotter neighbour plus 4 °C; power and current are recorded. In RETAIN and LOST a value
at T4 asserts THERM_N and is logged (R419). -/
def Claims.BaseSensors : Prop :=
  (∀ (s : State) (k power iin : Nat) (base : List Int) (lid : Int), Shaped s → s.thmRuns k = true → base.length = 32 →
    Runs (.baseSensorRead k base lid power iin) s (fun t =>
      (t.stk k).th.base = base ∧ (t.stk k).th.lid = lid ∧ (t.stk k).th.lidUse = lid + (s.stk k).sensorAdd ∧
      (∀ i, i < 32 → (s.stk k).th.baseExcl.getD i false = false → differs base i = false →
        (t.stk k).th.baseUse.getD i 0 = base.getD i 0 + (s.stk k).sensorAdd ∧ (t.stk k).th.baseDis.getD i 0 = 0) ∧
      (∀ i, i < 32 → differs base i = true → 63 ≤ (s.stk k).th.baseDis.getD i 0 →
        (t.stk k).th.baseExcl.getD i false = true ∧ (t.stk k).th.baseUse.getD i 0 = hotterPlus base i + (s.stk k).sensorAdd) ∧
      (t.stk k).pw = { (s.stk k).pw with
        pin := min 65535 power
        iin := min 65535 iin
        ilimit := decide (16000 ≤ iin) } ∧
      (16000 ≤ iin → (s.stk k).pw.ilimit = false → Counted s t k .pwr 0 1) ∧
      (t.stk k).th.memUse = (s.stk k).th.memUse ∧ (t.stk k).th.stage = (s.stk k).th.stage ∧ OnlyStk k s t ∧
      t.stk k = { s.stk k with
        regs := (t.stk k).regs
        cnt := (t.stk k).cnt
        rg := (t.stk k).rg
        th := (t.stk k).th
        pw := (t.stk k).pw })) ∧
  ∀ (s : State) (k : Nat) (base : List Int) (lid : Int), Shaped s → k < s.n → s.mode = .retain ∨ s.mode = .lost → base.length = 32 →
    (s.stk k).th.t4InLow = false → (s.stk k).bst.phase = 0 → s.stageEntry k 4 ≤ lid + (s.stk k).sensorAdd →
    Runs (.thmLowPowerCheck k base lid) s (fun t =>
      t.pins.thermN = false ∧ (t.stk k).th.t4InLow = true ∧ (t.stk k).th.stage = 4 ∧ Raised s t k K.THM_T4 0 ∧
      t = { s with stks := t.stks, pins := t.pins, pmbus := t.pmbus } ∧ ∀ j, j ≠ k → t.stk j = s.stk j)

/-- Stages and thresholds (R417, R425): after 6,250 cool frames the stage that temperatures hold falls by one level, which the next
tick puts in force, and the count of cool frames starts anew; thresholds take a write only where they rise, and report any other. -/
def Claims.Stages : Prop :=
  (∀ (s : State) (k : Nat), Shaped s → s.thmRuns k = true → 0 < (s.stk k).th.tstage → (s.stk k).th.tstage < 4 →
    6250 ≤ (s.stk k).th.holdDown →
    (s.stk k).th.ror = false → (s.stk k).hottest.2 + 12 ≤ s.stageEntry k (s.stk k).th.tstage →
    Runs (.stageStepDown k) s (fun t => OnlyStk k s t ∧ t.stk k = { s.stk k with th := { (s.stk k).th with
      tstage := (s.stk k).th.tstage - 1
      holdDown := 0 } })) ∧
  (∀ (s : State) (k : Nat), (s.stk k).th.holdDown < 6250 ∨ (s.stk k).th.ror = true → exec (.stageStepDown k) s = .next s) ∧
  ∀ (s : State) (src : Source) (k : Nat) (v : Reg32), Shaped s → s.winOk k = true →
    Runs (.thmThreshWrite src k v) s (fun t => OnlyStk k s t ∧ RegsRgOnly (s.stk k) (t.stk k) ∧
      (bits v.toNat 7 0 < bits v.toNat 15 8 ∧ bits v.toNat 15 8 < bits v.toNat 23 16 ∧ bits v.toNat 23 16 < bits v.toNat 31 24 →
        t.raw k .thm 0 0x100 = v.toNat ∧ (t.stk k).rg = (s.stk k).rg) ∧
      (¬ (bits v.toNat 7 0 < bits v.toNat 15 8 ∧ bits v.toNat 15 8 < bits v.toNat 23 16 ∧ bits v.toNat 23 16 < bits v.toNat 31 24) →
        t.raw k .thm 0 0x100 = s.raw k .thm 0 0x100 ∧ Raised s t k K.THM_THRESH_REJECT 0))

/-- Sensors, stages and thresholds (R412 to R425). -/
def Obligations.Sensors : Prop := Claims.MemorySensors ∧ Claims.BaseSensors ∧ Claims.Stages

/-! ### Tiles (R74, R275 to R299) -/

/-- Seals (R281 to R284): a normal seal starts on the eligible tile written longest ago while no forced seal is due; a forced one on
the tile that has been OPEN longest, in place of a normal one of its pseudo-channel; neither on a paused pseudo-channel (R254). A
seal whose share of the window is free completes and leaves the tile
SEALED, out of the open list, its data lines clean, and its parity line dirty, unpinned, with the parity of its words. -/
def Claims.Seals : Prop :=
  (∀ (s : State) (k tile : Nat) (e : OpenEnt), Shaped s → s.tileServes k tile = true →
    (normalDue s k tile).find? (fun e => e.tile == tile) = some e → sealBusy s k tile = false → forcedDue s k tile = [] →
    (∀ d ∈ normalDue s k tile, e.last ≤ d.last) →
    Runs (.seal k tile) s (fun t => OnlyStk k s t ∧
      t.stk k = { s.stk k with seals := (s.stk k).seals ++ [{ tile := tile, forced := false }] })) ∧
  (∀ (s : State) (k tile : Nat) (e : OpenEnt), Shaped s → s.tileServes k tile = true →
    (forcedDue s k tile).find? (fun e => e.tile == tile) = some e → (∀ d ∈ forcedDue s k tile, e.since ≤ d.since) →
    (∀ d ∈ (s.stk k).seals, tilePc d.tile = tilePc tile → d.forced = false) →
    Runs (.forcedSeal k tile) s (fun t => OnlyStk k s t ∧ t.stk k = { s.stk k with
      seals := (s.stk k).seals.filter (fun d => tilePc d.tile != tilePc tile) ++ [{ tile := tile, forced := true }] })) ∧
  (∀ (s : State) (k tile : Nat), (s.pcOf k (tileCh tile) (tilePc tile % 2)).paused = true →
    exec (.seal k tile) s = .next s ∧ exec (.forcedSeal k tile) s = .next s ∧ exec (.sealComplete k tile) s = .next s) ∧
  ∀ (s : State) (k tile : Nat) (e : Seal), Shaped s → s.tileShare k tile = true →
    (s.stk k).seals.find? (fun e => e.tile == tile) = some e → (s.stk k).tileSt tile = .opened →
    ((s.stk k).ch (s.parLineLoc k tile).ch).viUnusable = false → ((s.stk k).line (s.parLineLoc k tile) true).isSome = true →
    (∀ l ∈ s.tileLocs k tile, Readable s k l) →
    Runs (.sealComplete k tile) s (fun t =>
      (t.stk k).tileSt tile = .sealed ∧ OtherTiles k s t [tile] ∧
      (t.stk k).openList = (s.stk k).openList.filter (fun e => e.tile != tile) ∧
      (t.stk k).seals = (s.stk k).seals.filter (fun e => e.tile != tile) ∧
      (∃ y, (t.stk k).line (s.parLineLoc k tile) true = some y ∧ y.pin = false ∧ y.dirty = 0xFF#8 ∧ y.valid = 0xFF#8 ∧
        ∀ j, j < 8 → y.sector j = (pageParity ((s.tileLocs k tile).map (sealValue s k))).getD j 0) ∧
      (∀ y ∈ (t.stk k).lines, (y.loc k 0).tile = tile → y.parity = false → y.dirty = 0) ∧
      Counted s t k .scb 0 3 ∧ (e.forced = true → Counted s t k .scb 0 5) ∧
      t = { s with stks := t.stks, dies := t.dies, free := t.free } ∧ ∀ j, j ≠ k → t.stk j = s.stk j)

/-- A frame of the sweep that follows an open-list overflow lists the OPEN tile it finds, and OVERFLOW ends with a whole sweep that
found none (R286). -/
def Claims.Sweep : Prop :=
  ∀ (s : State) (k : Nat), Shaped s → s.background k = true → (s.stk k).overflow = true →
    (sweepFound s k = [] →
      Runs (.openListSweep k) s (fun t => OnlyStk k s t ∧ t.stk k = { s.stk k with
        sweepPos := (if 8 * s.part.sids * 32768 ≤ (s.stk k).sweepPos + 1024 then 0 else (s.stk k).sweepPos + 1024)
        sweepDirty := (if 8 * s.part.sids * 32768 ≤ (s.stk k).sweepPos + 1024 then false else (s.stk k).sweepDirty)
        overflow := (if 8 * s.part.sids * 32768 ≤ (s.stk k).sweepPos + 1024 then (s.stk k).sweepDirty else true) })) ∧
    ∀ x, sweepFound s k = [x] → (s.stk k).listed (tileCh x) < 1024 →
      Runs (.openListSweep k) s (fun t => OnlyStk k s t ∧ (t.stk k).overflow = true ∧
        (t.stk k).openList = (s.stk k).openList ++ [{ tile := x, since := s.now k, last := s.now k }] ∧
        t.stk k = { s.stk k with
          openList := (t.stk k).openList
          sweepPos := (t.stk k).sweepPos
          sweepDirty := (t.stk k).sweepDirty })

/-- Sealing and the open list (R281 to R286). -/
def Obligations.Sealing : Prop := Claims.Seals ∧ Claims.Sweep

/-- Patrol scrub (R280, R287): a visit to an OPEN tile whose words are all clean changes none of them, and the visit that completes a
pass counts it and pulses SCRUB_DONE; a late pass is reported. An error in the tile-state map is counted where it is corrected,
and RETIRES the tiles of its group where it is not. -/
def Obligations.PatrolScrub : Prop :=
  (∀ (s : State) (k tile : Nat), Shaped s → s.scbFld k F.SCB_CTRL_SCRUB_EN ≠ 0 → s.tileShare k tile = true →
    sealBusy s k tile = false → tile ∈ (s.stk k).live → (s.stk k).tileSt tile = .opened →
    (∀ l ∈ s.tileLocs k tile, ∃ v, decodeWord (s.dieBytes k l) = .clean v) →
    Runs (.scrubTile k tile) s (fun t => t.dies = s.dies ∧ (t.stk k).lines = (s.stk k).lines ∧ OtherTiles k s t [] ∧
      ((∃ x ∈ (s.stk k).live, x ≠ tile ∧ x ∉ (s.stk k).scrubSeen) →
        (t.stk k).scrubSeen = tile :: (s.stk k).scrubSeen ∧ (t.stk k).scrubStart = (s.stk k).scrubStart ∧ t.irqs = s.irqs) ∧
      ((∀ x ∈ (s.stk k).live, x = tile ∨ x ∈ (s.stk k).scrubSeen) →
        (t.stk k).scrubSeen = [] ∧ (t.stk k).scrubStart = s.now k ∧ Counted s t k .scb 0 6 ∧ Pulsed s t k .scb 0 0) ∧
      t = { s with stks := t.stks, irqs := t.irqs, free := t.free } ∧ (∀ j, j ≠ k → t.stk j = s.stk j) ∧ t.stk k = { s.stk k with
        chans := (t.stk k).chans
        cnt := (t.stk k).cnt
        scrubSeen := (t.stk k).scrubSeen
        scrubStart := (t.stk k).scrubStart })) ∧
  (∀ (s : State) (k : Nat), Shaped s → k < s.n → s.scbFld k F.SCB_CTRL_SCRUB_EN = 1 → (s.stk k).live ≠ [] →
    3125 * max 0x400 (s.scbFld k F.SCB_SCRUB_PERIOD_PERIOD) ≤ s.now k - (s.stk k).scrubStart →
    Runs (.scrubLate k) s (fun t => OnlyStk k s t ∧ Raised s t k K.SCB_SCRUB_LATE 0 ∧ (t.stk k).scrubStart = s.now k ∧
      (t.stk k).scrubSeen = (s.stk k).scrubSeen ∧ OtherRegs k s t)) ∧
  ∀ (s : State) (k group : Nat), Shaped s → s.scbFld k F.SCB_CTRL_SCRUB_EN ≠ 0 → s.background k = true →
    32 * group < tilesPerStack → (32 * group / 32768) % 4 < s.part.sids →
    exec (.tsmMapScrub k group none) s = .next s ∧
    Runs (.tsmMapScrub k group (some false)) s (fun t => OnlyStk k s t ∧ Raised s t k K.TSM_SRAM_CE 0 ∧ Counted s t k .tsm 0 3 ∧
      (t.stk k).tiles = (s.stk k).tiles) ∧
    Runs (.tsmMapScrub k group (some true)) s (fun t => OnlyStk k s t ∧ Raised s t k K.TSM_SRAM_UE 0 ∧
      (∀ i, i < 32 → (t.stk k).tileSt (32 * group + i) = .retired) ∧
      OtherTiles k s t ((List.range 32).map (32 * group + ·)) ∧ (t.stk k).lines = (s.stk k).lines)

/-- Deaccession (R279, R294): over the tiles of its span on the stack, RETIRE makes every tile RETIRED with none of its lines left,
RELEASE makes the RETIRED ones INVALID and REOPEN makes them OPEN, and leaves the others; no other tile changes state; CHANGED
counts the tiles that changed. BUSY is 1 until the operation is done, when DONE is 1 and DEACC_DONE pulses. -/
def Claims.Deaccession : Prop :=
  (∀ c ∈ ([(.retire, 0, .retired), (.release, 1, .invalid), (.reopen, 2, .opened)] : List ((Source → Nat → Reg32 → Instr) × Nat × TileState)),
    ∀ (s : State) (src : Source) (k : Nat) (v : Reg32) (xs : List Nat), Shaped s → s.winOk k = true → v.getLsbD 31 = true →
      bits v.toNat 1 0 = c.2.1 → s.flag k 0 F.TSM_DEACC_STATUS_BUSY = false → xs.Nodup →
      xs = s.spanTiles k (s.fld k 0 F.TSM_DEACC_BASE_LO_BASE_31_12 + s.fld k 0 F.TSM_DEACC_BASE_HI_BASE_39_32 * 2 ^ 20)
        (s.fld k 0 F.TSM_DEACC_TILES_TILES) →
      (∀ x ∈ xs, ((s.stk k).ch (tileCh x)).unusable = false) →
      Runs (c.1 src k v) s (fun t =>
        (∀ x ∈ xs, (t.stk k).tileSt x = if c.2.1 = 0 ∨ (s.stk k).tileSt x = .retired then c.2.2 else (s.stk k).tileSt x) ∧
        OtherTiles k s t xs ∧
        (c.2.1 < 2 → (∀ x ∈ xs, (t.stk k).tileSt x ≠ (s.stk k).tileSt x → ∀ y ∈ (t.stk k).lines, (y.loc k 0).tile ≠ x) ∧
          t.dies = s.dies) ∧
        t.fld k 0 F.TSM_DEACC_STATUS_CHANGED =
          (xs.filter (fun x => ((s.stk k).tileSt x == .retired) != decide (c.2.1 = 0))).length % 2 ^ 28 ∧
        t.fld k 0 F.TSM_DEACC_STATUS_BUSY = 1 ∧ t.fld k 0 F.TSM_DEACC_STATUS_DONE = 0 ∧
        t = { s with stks := t.stks, dies := t.dies, free := t.free } ∧ ∀ j, j ≠ k → t.stk j = s.stk j)) ∧
  ∀ (s : State) (k : Nat), Shaped s → k < s.n → s.flag k 0 F.TSM_DEACC_STATUS_BUSY = true →
    Runs (.deaccDone k) s (fun t => t.fld k 0 F.TSM_DEACC_STATUS_BUSY = 0 ∧ t.fld k 0 F.TSM_DEACC_STATUS_DONE = 1 ∧
      Pulsed s t k .tsm 0 0 ∧ t = { s with stks := t.stks, irqs := t.irqs } ∧ (∀ j, j ≠ k → t.stk j = s.stk j) ∧
      RegsOnly (s.stk k) (t.stk k))

/-- The queries of the tile-state map and of ADM (R74, R293) take their offset; each write of a tile query leaves in TSM_QUERY_RES the
state of the backed tile at the offset, at the time of the write. -/
def Claims.Queries : Prop :=
  (∀ (s : State) (src : Source) (k : Nat) (v : Reg32), Shaped s → s.winOk k = true →
    Runs (.tsmQuery src k false v) s (fun t => t.fld k 0 F.TSM_QUERY_LO_BASE_31_12 = bits v.toNat 31 12 ∧
      OnlyStk k s t ∧ RegsOnly (s.stk k) (t.stk k) ∧
      ∀ o, o = bits v.toNat 31 12 * 2 ^ 12 + s.fld k 0 F.TSM_QUERY_HI_BASE_39_32 * 2 ^ 32 → s.backed o = true →
        (s.locOf k o).stack = k → bits (tsmQueryRes t k) 31 31 = 1 ∧ bits (tsmQueryRes t k) 1 0 =
          match (s.stk k).tileSt (s.locOf k o).tile with | .invalid => 0 | .opened => 1 | .sealed => 2 | .retired => 3) ∧
    Runs (.tsmQuery src k true v) s (fun t => t.fld k 0 F.TSM_QUERY_HI_BASE_39_32 = bits v.toNat 7 0 ∧
      OnlyStk k s t ∧ RegsOnly (s.stk k) (t.stk k) ∧
      ∀ o, o = s.fld k 0 F.TSM_QUERY_LO_BASE_31_12 * 2 ^ 12 + bits v.toNat 7 0 * 2 ^ 32 → s.backed o = true →
        (s.locOf k o).stack = k → bits (tsmQueryRes t k) 31 31 = 1 ∧ bits (tsmQueryRes t k) 1 0 =
          match (s.stk k).tileSt (s.locOf k o).tile with | .invalid => 0 | .opened => 1 | .sealed => 2 | .retired => 3)) ∧
  ∀ (s : State) (src : Source) (k : Nat) (v : Reg32), Shaped s → s.winOk k = true →
    Runs (.admProbe src k 0x200 v) s (fun t => t.fld k 0 F.ADM_PROBE_LO_OFFSET_31_0 = v.toNat ∧ OnlyStk k s t ∧
      RegsOnly (s.stk k) (t.stk k) ∧
      (s.flag k 0 F.ADM_PROBE_CTRL_USE_STAGED = false → (admProbeRes t k).2 =
        (s.locOf k (v.toNat + s.fld k 0 F.ADM_PROBE_HI_OFFSET_39_32 * 2 ^ 32)).row * 2 ^ 5 +
        (s.locOf k (v.toNat + s.fld k 0 F.ADM_PROBE_HI_OFFSET_39_32 * 2 ^ 32)).col)) ∧
    Runs (.admProbe src k 0x204 v) s (fun t => t.fld k 0 F.ADM_PROBE_HI_OFFSET_39_32 = bits v.toNat 7 0 ∧ OnlyStk k s t ∧
      RegsOnly (s.stk k) (t.stk k)) ∧
    Runs (.admProbe src k 0x208 v) s (fun t => t.fld k 0 F.ADM_PROBE_CTRL_USE_STAGED = bits v.toNat 0 0 ∧ OnlyStk k s t ∧
      RegsOnly (s.stk k) (t.stk k))

/-- Deaccession and the queries (R74, R279, R293, R294). -/
def Obligations.TileCommands : Prop := Claims.Deaccession ∧ Claims.Queries

/-! ### Repairs and training by Docent (R290, R291, R480 to R482, R493) -/

/-- DOC_CMD: outside MAINTENANCE every operation is DENIED. ROW_REPAIR takes the lowest free spare of the bank group and an entry,
and the row's words read from the spare what they held. LANE_SHIFT puts the shift in force and trains; a channel whose training
fails gives TRAIN_FAIL. DOC_CMD_DONE shows the result with DONE, pulses CMD_DONE and reports a result other than OK. -/
def Obligations.Repairs : Prop :=
  (∀ c ∈ ([(.rowRepair, 0), (.laneShift, 1), (.trainChannel, 2), (.trainAll, 3)] : List ((Source → Nat → Reg32 → DocOutcome → Instr) × Nat)),
    ∀ (s : State) (src : Source) (k : Nat) (v : Reg32) (out : DocOutcome), Shaped s → s.winOk k = true → v.getLsbD 31 = true →
      bits v.toNat 30 28 = c.2 → (s.stk k).doc.cmd = none →
      ((s.stk k).mode ≠ .maintenance → Runs (c.1 src k v out) s (fun t => (t.stk k).doc.cmd = some (c.2, docDenied) ∧
        t.fld k 0 F.DOC_CMD_STATUS_BUSY = 1 ∧ t.fld k 0 F.DOC_CMD_STATUS_DONE = 0 ∧ OnlyStk k s t ∧
        t.stk k = { s.stk k with regs := (t.stk k).regs, doc := { (s.stk k).doc with cmd := (t.stk k).doc.cmd } })) ∧
      ((s.stk k).mode = .maintenance → ((s.stk k).ch (bits v.toNat 12 8)).unusable = false →
        (c.2 = 2 ∨ c.2 = 3 → Runs (c.1 src k v out) s (fun t =>
          ((∀ d, d ∉ out.failedChs) → (t.stk k).doc.cmd = some (c.2, docOk)) ∧
          (bits v.toNat 12 8 < 32 ∧ bits v.toNat 12 8 ∈ out.failedChs → (t.stk k).doc.cmd = some (c.2, docTrainFail)) ∧
          t.fld k 0 F.DOC_CMD_STATUS_BUSY = 1 ∧ t = { s with stks := t.stks, free := t.free } ∧
          (∀ j, j ≠ k → t.stk j = s.stk j) ∧ t.stk k = { s.stk k with
            regs := (t.stk k).regs
            chans := (t.stk k).chans
            cnt := (t.stk k).cnt
            doc := { (s.stk k).doc with cmd := (t.stk k).doc.cmd } })) ∧
        ∀ w, (s.stk k).otp.nextEntry = some w → (s.stk k).otp.lifecycle ≠ 4 → out.burnOk = true →
          (∀ i sid bg bank row, c.2 = 0 → s.fld k 0 F.DOC_ROW_SID = sid → s.fld k 0 F.DOC_ROW_BG = bg →
            s.fld k 0 F.DOC_ROW_BANK = bank → s.fld k 0 F.DOC_ROW_ROW = row → sid < s.part.sids →
            (List.range 16).find? (fun i => !(s.stk k).rowTaken (bits v.toNat 12 8) (bits v.toNat 7 7) sid bg i) = some i →
            (∀ l : Loc, l.place.take 6 = [bits v.toNat 12 8, bits v.toNat 7 7, bg, bank, sid, row] → l.col < 34 →
              ∃ w, decodeWord (s.dieBytes k l) = .clean w) →
            Runs (c.1 src k v out) s (fun t => (t.stk k).doc.cmd = some (0, docOk) ∧
              (t.stk k).doc.spares = [bits v.toNat 12 8, bits v.toNat 7 7, sid, bg, i, bank, row] :: (s.stk k).doc.spares ∧
              (∀ l : Loc, l.place.take 6 = [bits v.toNat 12 8, bits v.toNat 7 7, bg, bank, sid, row] → l.col < 34 →
                t.dieBytes k l = s.dieBytes k l) ∧
              Counted s t k .doc 0 0 ∧ t.fld k 0 F.DOC_CMD_STATUS_BUSY = 1)) ∧
          (c.2 = 1 → bits v.toNat 5 0 < 36 → (s.stk k).tsvTaken (bits v.toNat 12 8) (bits v.toNat 7 7) (bits v.toNat 5 0) = false →
            Runs (c.1 src k v out) s (fun t =>
              (t.stk k).doc.shifts = (bits v.toNat 12 8, bits v.toNat 7 7, bits v.toNat 5 0) :: (s.stk k).doc.shifts ∧
              (t.stk k).doc.cmd = some (1, if bits v.toNat 12 8 ∈ out.failedChs then docTrainFail else docOk) ∧
              Counted s t k .doc 0 1 ∧ t.fld k 0 F.DOC_CMD_STATUS_BUSY = 1 ∧ t.dies = s.dies)))) ∧
  ∀ (s : State) (k op r : Nat), Shaped s → k < s.n → (s.stk k).doc.cmd = some (op, r) →
    Runs (.docCmdDone k) s (fun t => (t.stk k).doc.cmd = none ∧ t.fld k 0 F.DOC_CMD_STATUS_BUSY = 0 ∧
      t.fld k 0 F.DOC_CMD_STATUS_DONE = 1 ∧ t.fld k 0 F.DOC_CMD_STATUS_RESULT = r % 16 ∧ Pulsed s t k .doc 0 0 ∧
      (r ≠ docOk → Raised s t k K.DOC_CMD_FAIL 0) ∧ (r = docOk → (t.stk k).rg = (s.stk k).rg) ∧
      t = { s with stks := t.stks, irqs := t.irqs } ∧ (∀ j, j ≠ k → t.stk j = s.stk j) ∧ t.stk k = { s.stk k with
        regs := (t.stk k).regs
        rg := (t.stk k).rg
        doc := { (s.stk k).doc with cmd := none } })

/-! ### Nimnex lanes (R302 to R337) -/

/-- Every time-out of bring-up fails the try (R318, R350); that of a port that had been ACTIVE resets its link (R354). -/
def Claims.TryTimeouts : Prop :=
  ∀ (s : State) (p : Nat) (c : Instr),
    (InLane s p .laneMap ∧ c = .laneMapTimeout p) ∨
      (InLane s p .train ∧ (s.prt p).phaseB = false ∧ (s.prt p).rateBSent = false ∧ c = .phaseATimeout p) ∨
      (InLane s p .align ∧ c = .alignTimeout p) ∨ (InLane s p .linkInit ∧ c = .nxInitTimeout p) →
    ((s.prt p).wasActive = false → Runs c s (fun t => TryFailed p s t ∧
      (c = .nxInitTimeout p → Raised s t (p / 4) K.NXP_INIT_TIMEOUT (p % 4)))) ∧
    ((s.prt p).wasActive = true → Runs c s (TryLost p s))

/-- Lane map (R318, R319): the lanes' order and polarity are taken; an order other than direct or reversed fails the try; a held
port maps nothing. A map that holds for 16 frames starts phase A with its preset. -/
def Claims.LaneMap : Prop :=
  (∀ (s : State) (p : Nat) (l : List (Nat × Bool)), InLane s p .detect → (s.prt p).held = false → l.length = 8 →
    (l.map (·.1) = [0, 1, 2, 3, 4, 5, 6, 7] ∨ l.map (·.1) = [7, 6, 5, 4, 3, 2, 1, 0] →
      Runs (.laneMap p l) s (fun t => (t.prt p).lstate = .laneMap ∧ (t.prt p).physLane = l.map (·.1) ∧
        ((t.prt p).reversed = true ↔ l.map (·.1) = [7, 6, 5, 4, 3, 2, 1, 0]) ∧
        (∀ j, j < 8 → (t.prt p).polarity.getLsbD j = (l.getD j (0, false)).2) ∧ OnlyPortErr p s t)) ∧
    (l.map (·.1) ≠ [0, 1, 2, 3, 4, 5, 6, 7] → l.map (·.1) ≠ [7, 6, 5, 4, 3, 2, 1, 0] → (s.prt p).wasActive = false →
      Runs (.laneMap p l) s (fun t => TryFailed p s t ∧ Raised s t (p / 4) K.NXL_LANE_ORDER (p % 4)))) ∧
  (∀ (s : State) (p : Nat) (l : List (Nat × Bool)), (s.prt p).held = true → exec (.laneMap p l) s = .next s) ∧
  ∀ (s : State) (p : Nat), InLane s p .laneMap →
    Runs (.laneMapConsistent p) s (fun t => (t.prt p).lstate = .train ∧ (t.prt p).phaseB = false ∧
      (t.prt p).lanes = (s.prt p).lanes.map (fun l => l.startPhase (s.fld (p / 4) (p % 4) F.NXL_CTRL_INIT_PRESET_A)) ∧ OnlyPortErr p s t)

/-- Training frames (R315 to R321): the measured settings are stored; a block with TYPE 0x4B and a good CHECK has its preset or its
coefficient steps applied within the limits, and its RX_READY, CAP_B and RATE_B noted; a bad block changes no coefficient. The lane's
next frame is sent with the answers and the port's own RX_READY and RATE_B; no other lane changes. -/
def Claims.TrainingFrame : Prop :=
  ∀ (s : State) (p lane : Nat) (v : BitVec 64) (o : LaneObs), InLane s p .train → lane < 8 → lane < (s.prt p).lanes.length →
    Runs (.trainingFrame p lane v o) s (fun t => OnlyPort p { s with free := t.free } t ∧
      t.prt p = { s.prt p with lanes := (t.prt p).lanes, injBusy := (t.prt p).injBusy, txSeq := (t.prt p).txSeq } ∧
      (t.prt p).txSeq = ((s.prt p).txSeq + b2n (lane == 0)) % 16 ∧ (∀ m, m ≠ lane → t.lane p m = s.lane p m) ∧
      (Clear s p lane → ∃ d, (t.lane p lane).line = trainLine lane (b2n (s.prt p).phaseB) (t.prt p).txSeq
        (trainPayload (t.lane p lane) (t.rxReady p) (s.prt p).rateBSent d)) ∧
      (t.lane p lane).eyeHigh = o.eyeHigh ∧ (t.lane p lane).eyeMid = o.eyeMid ∧ (t.lane p lane).eyeLow = o.eyeLow ∧
      (t.lane p lane).vga = o.vga ∧ (t.lane p lane).ctle = o.ctle ∧ (t.lane p lane).dfe1 = o.dfe1 ∧
      (t.lane p lane).dfe2 = o.dfe2 ∧ (t.lane p lane).dfe3 = o.dfe3 ∧
      (bits v.toNat 7 0 ≠ 0x4B ∨ bits v.toNat 63 48 ≠ trainCrc v.toNat →
        (t.lane p lane).pre = (s.lane p lane).pre ∧ (t.lane p lane).post = (s.lane p lane).post ∧
        (t.lane p lane).rdyRun = (s.lane p lane).rdyRun) ∧
      (bits v.toNat 7 0 = 0x4B → bits v.toNat 63 48 = trainCrc v.toNat →
        (t.lane p lane).partnerCapB = v.getLsbD 21 ∧
        (t.lane p lane).partnerRateB = (if v.getLsbD 22 = true then (s.lane p lane).partnerRateB + 1 else 0) ∧
        (t.lane p lane).rdyRun = (if t.rxReady p = true ∧ v.getLsbD 20 = true then (s.lane p lane).rdyRun + 1 else 0) ∧
        (v.getLsbD 15 = true → (t.lane p lane).pre = (firPreset (bits v.toNat 14 12)).1 ∧
          (t.lane p lane).post = (firPreset (bits v.toNat 14 12)).2 ∧ (t.lane p lane).preSts = 1 ∧ (t.lane p lane).postSts = 1) ∧
        (v.getLsbD 15 = false → bits v.toNat 9 8 = 1 → (s.lane p lane).pre < 12 →
          (s.lane p lane).pre + (s.lane p lane).post < 32 →
          (t.lane p lane).pre = (s.lane p lane).pre + 1 ∧ (t.lane p lane).preSts = 1) ∧
        (v.getLsbD 15 = false → bits v.toNat 9 8 = 1 → 12 ≤ (s.lane p lane).pre →
          (t.lane p lane).pre = (s.lane p lane).pre ∧ (t.lane p lane).preSts = 2) ∧
        (v.getLsbD 15 = false → bits v.toNat 9 8 = 0 → bits v.toNat 11 10 = 2 → 0 < (s.lane p lane).post →
          (t.lane p lane).pre = (s.lane p lane).pre ∧ (t.lane p lane).post + 1 = (s.lane p lane).post ∧
          (t.lane p lane).postSts = 1)))

/-- The phases of training (R318, R321): after phase A the port asks for phase B where every partner lane, ALLOW_B and the trims
permit it, else it aligns in framing A; the transmitters switch when RATE_B has been seen; phase B ends in framing B, or in framing
A with a report when it times out. ALIGN begins with a marker; two markers in place on every lane start LINK_INIT. -/
def Claims.Phases : Prop :=
  ∀ (s : State) (p : Nat),
    (InLane s p .train → (s.prt p).phaseB = false → (s.prt p).rateBSent = false → (s.prt p).phaseDone = true →
      (s.selectsB p = true → Runs (.phaseADone p) s (fun t => OnlyPort p s t ∧ t.prt p = { s.prt p with rateBSent := true })) ∧
      (s.selectsB p = false → Runs (.phaseADone p) s (fun t => (t.prt p).lstate = .align ∧ (t.prt p).framingB = false ∧
        (∀ n, n < (s.prt p).lanes.length → Clear s p n → (t.lane p n).line = markerSymbols n 0 0 0) ∧ OnlyPortErr p s t))) ∧
    (InLane s p .train → (s.prt p).rateBSent = true → (s.prt p).phaseB = false → (∀ l ∈ (s.prt p).lanes, 16 ≤ l.partnerRateB) →
      Runs (.phaseBSwitch p) s (fun t => OnlyPort p s t ∧ t.prt p = { s.prt p with
        phaseB := true
        lanes := (s.prt p).lanes.map (fun l => l.startPhase (s.fld (p / 4) (p % 4) F.NXL_CTRL_INIT_PRESET_B)) })) ∧
    (InLane s p .train → (s.prt p).phaseB = true → (s.prt p).phaseDone = true →
      Runs (.phaseBDone p) s (fun t => (t.prt p).lstate = .align ∧ (t.prt p).framingB = true ∧ OnlyPortErr p s t)) ∧
    (InLane s p .train → (s.prt p).phaseB = true ∨ (s.prt p).rateBSent = true →
      Runs (.phaseBTimeout p) s (fun t => (t.prt p).lstate = .align ∧ (t.prt p).framingB = false ∧
        Counted s t (p / 4) .nxl (p % 4) 28 ∧ Raised s t (p / 4) K.NXL_FALLBACK_A (p % 4) ∧ OnlyPortErr p s t)) ∧
    (InLane s p .align → (∀ l ∈ (s.prt p).lanes, 2 ≤ l.markRun) →
      Runs (.alignDone p) s (fun t => (t.prt p).lstate = .linkInit ∧ (t.prt p).seenTx = false ∧ (t.prt p).seenRx = false ∧
        (t.prt p).partnerResume = false ∧ OnlyPortErr p s t))

/-- NXL_CTRL (R318, R332): RESTART clears TRIES and HELD and enters DETECT; setting TEST_EN enters TEST with the checkers unlocked,
clearing it enters DETECT. Where no link is reset nothing else changes. -/
def Claims.NxlControl : Prop :=
  ∀ (s : State) (src : Source) (p : Nat) (v : Reg32), Shaped s → s.winOk (p / 4) = true → (s.prt p).unusable = false →
    (v.getLsbD 31 = true → v.getLsbD 30 = false → s.flag (p / 4) (p % 4) F.NXL_CTRL_TEST_EN = false →
      Runs (.nxlRestart src p v) s (fun t => (t.prt p).lstate = .detect ∧ (t.prt p).tries = 0 ∧ (t.prt p).held = false ∧
        (t.raw (p / 4) .nxl (p % 4) 0x0C).testBit 17 = false ∧ ((s.prt p).wasActive = false → OnlyPortErr p s t))) ∧
    (v.getLsbD 31 = false → v.getLsbD 30 = true → s.flag (p / 4) (p % 4) F.NXL_CTRL_TEST_EN = false →
      Runs (.testEnter src p v) s (fun t => (t.prt p).lstate = .test ∧ t.flag (p / 4) (p % 4) F.NXL_CTRL_TEST_EN = true ∧
        (∀ l ∈ (t.prt p).lanes, l.chkLocked = false) ∧ (t.prt p).txParked = false ∧ t.portUp p = false ∧ OnlyPortErr p s t)) ∧
    (v.getLsbD 31 = false → v.getLsbD 30 = false → s.flag (p / 4) (p % 4) F.NXL_CTRL_TEST_EN = true →
      Runs (.testExit src p v) s (fun t => (t.prt p).lstate = .detect ∧ t.flag (p / 4) (p % 4) F.NXL_CTRL_TEST_EN = false ∧
        ((s.prt p).wasActive = false → OnlyPortErr p s t)))

/-- The bring-up of a port (R302 to R332). -/
def Obligations.PortTraining : Prop :=
  Claims.TryTimeouts ∧ Claims.LaneMap ∧ Claims.TrainingFrame ∧ Claims.Phases ∧ Claims.NxlControl

/-- Alignment markers (R304, R305, R314, R319, R324): every marker that the sender forms is recognised, on an inverted lane inverted.
On a running lane one in place extends the run, one out of place ends it and in ACTIVE is a slip with a flit lost; without one the
period is counted, and four of them retrain the port. On a lane that wakes two markers of KIND 1 qualify it; a parked lane looks for
none. -/
def Claims.Markers : Prop :=
  (∀ lane fr kind seq, (markerInfo (markerSymbols lane fr kind seq)).map (fun v => (bits v 2 0, bits v 3 3, bits v 5 4, bits v 9 6)) =
    some (lane % 8, fr % 2, kind % 4, seq % 16)) ∧
  (∀ (s : State) (p lane : Nat), (InLane s p .align ∨ InLane s p .linkInit ∨ InLane s p .active) → lane < 8 →
    lane < (s.prt p).lanes.length →
    ((s.lane p lane).rx = .running →
      (∀ fr kind seq, Runs (.alignmentMarker p lane ((s.prt p).wire lane (markerSymbols lane fr kind seq)) 0) s (fun t =>
        OnlyPort p s t ∧ (∀ m, m ≠ lane → t.lane p m = s.lane p m) ∧
        t.lane p lane = { s.lane p lane with
          noMarker := 0, failHeld := false, rxRun := (0, 0), markRun := (s.lane p lane).markRun + 1 })) ∧
      (∀ l d, markerInfo ((s.prt p).wire lane l) = none ∨ d < -2048 ∨ 2048 < d → Runs (.alignmentMarker p lane l d) s (fun t =>
        OnlyPort p s t ∧ t.lane p lane = { s.lane p lane with noMarker := (s.lane p lane).noMarker + 1, markRun := 0 } ∧
        ∀ m, m ≠ lane → t.lane p m = s.lane p m)) ∧
      (∀ fr kind seq d, d ≠ 0 → -2048 ≤ d → d ≤ 2048 →
        Runs (.alignmentMarker p lane ((s.prt p).wire lane (markerSymbols lane fr kind seq)) d) s (fun t => OnlyPortErr p s t ∧
          t.lane p lane = { s.lane p lane with noMarker := 0, failHeld := false, rxRun := (0, 0), markRun := 0 } ∧
          ((s.prt p).lstate ≠ .active → OnlyPort p s t) ∧
          ((s.prt p).lstate = .active → (t.prt p).nakPending = true ∧ Counted s t (p / 4) .nxl (p % 4) 30 ∧
            Raised s t (p / 4) K.NXL_SLIP (p % 4))))) ∧
    ((s.lane p lane).rx = .acquiring →
      (∀ fr kind seq, kind % 4 ≠ 1 →
        exec (.alignmentMarker p lane ((s.prt p).wire lane (markerSymbols lane fr kind seq)) 0) s = .next s) ∧
      ∀ fr seq,
        ((s.lane p lane).wakeMarks = 0 →
          Runs (.alignmentMarker p lane ((s.prt p).wire lane (markerSymbols lane fr 1 seq)) 0) s (fun t => OnlyPort p s t ∧
            t.lane p lane = { s.lane p lane with wakeMarks := 1 })) ∧
        (0 < (s.lane p lane).wakeMarks →
          Runs (.alignmentMarker p lane ((s.prt p).wire lane (markerSymbols lane fr 1 seq)) 0) s (fun t =>
            (t.lane p lane).rx = .running ∧ (t.lane p lane).frozen = true ∧ Counted s t (p / 4) .nxl (p % 4) 25 ∧
            OnlyPortErr p s t))) ∧
    ((s.lane p lane).rx = .parked → ∀ l d, exec (.alignmentMarker p lane l d) s = .next s)) ∧
  ∀ (s : State) (p : Nat), InLane s p .active → (∃ l ∈ (s.prt p).lanes, 4 ≤ l.noMarker) → Runs (.alignmentLost p) s (Retrained p s)

/-- The line code (R303, R307, R310, R312, R338, R339): the Gray mapping is undone, the descrambler undoes the scrambler, the receiver
removes exactly the stuff symbols, the encoder's words are systematic and satisfy the parity check, and the blocks of a framing-A
group of 13 flits are a good group that gives the flits back. -/
def Claims.LineCode : Prop :=
  (∀ a b, levelBits (grayLevel a b) = [a, b]) ∧
  (∀ (st : BitVec 58) (l : List Bool), (descramble st (scramble st l).1).1 = l) ∧
  (∀ l : List Nat, (destuff (0, 0) ((stuff (0, 0) l).1.map (fun x => (x, x)))).1.map (·.1) = l) ∧
  (∀ u : BitVec 1920, ldpcOk (ldpcEncode u) = true ∧ (ldpcEncode u).extractLsb' 0 1920 = u) ∧
  ∀ fs : List (List Word), fs.length = 13 → (∀ f ∈ fs, f.length = 8) →
    groupGood (groupBlocks fs) = true ∧ groupFlits (groupBlocks fs) = fs

/-- Codewords (R310, R311, R326, R338): symbols that do not make a codeword change nothing. Of a codeword the lane takes its 30 units,
marked where it failed, and its iterations. A good one ends the lane's run of failures and counts the corrected bits; one that
satisfies the check as received takes no iteration. One that the decoder cannot mend is counted and is a failure; the fourth in a row
unfreezes the gain and holds the count. A flit whose units have then come on every lane is received. -/
def Claims.Codewords : Prop :=
  ∀ (s : State) (p lane : Nat) (soft : List Int), (InLane s p .linkInit ∨ InLane s p .active) → (s.prt p).framingB = true →
    lane < 8 → lane < (s.prt p).lanes.length →
    (codewordOf ((s.prt p).inverted lane) (s.lane p lane).rxRun soft = none → exec (.codeword p lane soft) s = .next s) ∧
    ∀ cw run, codewordOf ((s.prt p).inverted lane) (s.lane p lane).rxRun soft = some (cw, run) →
      (∃ u, OnlyPortErr p s u ∧ (∀ m, m ≠ lane → u.lane p m = s.lane p m) ∧
        (u.lane p lane).iterLast = (ldpcDecode cw).2 ∧ (u.lane p lane).iterPeak = max (s.lane p lane).iterPeak (ldpcDecode cw).2 ∧
        (u.lane p lane).rxRun = run ∧
        (u.lane p lane).rxUnits = (s.lane p lane).rxUnits ++
          (s.lane p lane).codewordUnits (ldpcDecode cw).1 (!ldpcOk (ldpcDecode cw).1) ∧
        (ldpcOk (hardBits cw) = true → (ldpcDecode cw).2 = 0) ∧ (ldpcDecode cw).2 ≤ 8 ∧
        (ldpcOk (ldpcDecode cw).1 = true → (u.lane p lane).fails = 0 ∧
          CountedN s u (p / 4) .nxl (p % 4) (16 + lane) (bitDiff 2048 (ldpcDecode cw).1.toNat (hardBits cw).toNat)) ∧
        (ldpcOk (ldpcDecode cw).1 = false → Counted s u (p / 4) .nxl (p % 4) (8 + lane) ∧
          ((s.lane p lane).failHeld = true → (u.lane p lane).fails = (s.lane p lane).fails) ∧
          ((s.lane p lane).failHeld = false → (s.lane p lane).fails < 3 → (u.lane p lane).fails = (s.lane p lane).fails + 1) ∧
          ((s.lane p lane).failHeld = false → 3 ≤ (s.lane p lane).fails → (u.lane p lane).fails = 0 ∧
            (u.lane p lane).failHeld = true ∧ Counted s u (p / 4) .nxl (p % 4) 26 ∧
            Raised s u (p / 4) K.NXL_UNFREEZE (p % 4))) ∧
        exec (.codeword p lane soft) s = .next (assemble p 8 u) ∧
        ((∃ m, m < (s.prt p).lanes.length ∧ (u.lane p m).rxUnits.length < 4) → assemble p 8 u = u) ∧
        ((s.prt p).lanes.length = 8 → (∀ m, m < 8 → 4 ≤ (u.lane p m).rxUnits.length) →
          ∃ us, us = (List.range 32).map (fun j => (u.lane p (j % 8)).rxUnits.getD (j / 8) (0, true)) ∧
            assemble p 8 u = assemble p 7 (recvFlit (u.modPort p (fun x => { x with
              lanes := x.lanes.map (fun l => { l with rxUnits := l.rxUnits.drop 4 }) })) p (flitOfUnits (us.map (·.1))) (us.any (·.2)))))

/-- Framing-A groups (R306, R326, R339): a good group of fill flits clears the failures of every lane; a failed one is a failure on
every lane and a lost flit, whatever it holds. -/
def Claims.Groups : Prop :=
  ∀ (s : State) (p : Nat) (blocks : List (BitVec 66)) (r : List (Nat × Nat) × List Lane), Shaped s → s.linkUp p = true →
    (s.prt p).framingB = false → (s.prt p).lanes.length = 8 → readBlocks (s.prt p).rxBlock 0 blocks (s.prt p).lanes = r →
    (groupGood r.1 = true → (s.prt p).parse = none → (∀ f ∈ groupFlits r.1, f = fillFlit) →
      Runs (.framingAGroup p blocks) s (fun t => OnlyPort p s t ∧ t.prt p = { s.prt p with
        rxBlock := ((s.prt p).rxBlock + 4) % 8
        lanes := r.2.map (fun l => { l with fails := 0 }) })) ∧
    (groupGood r.1 = false → (s.prt p).nakPending = false → (∀ l ∈ (s.prt p).lanes, l.failHeld = false ∧ l.fails < 3) →
      Runs (.framingAGroup p blocks) s (fun t => (t.prt p).nakPending = true ∧ Counted s t (p / 4) .nxp (p % 4) 3 ∧
        (t.prt p).lanes = r.2.map (fun l => { l with fails := l.fails + 1 }) ∧
        (t.prt p).rxExpect = (s.prt p).rxExpect ∧ OnlyPortErr p s t))

/-- Burst idle (R313, R323 to R327): a transmitter that has had nothing to send for BI_IDLE flit times, with BI_EN, or in IDLE at once,
parks after END_OF_BURST, sent in the trailer's place, and not where the trailer does not fit; it wakes, with a preamble and two
markers of KIND 1, when it has something to send. Squelch starts acquisition on a parked lane; a qualification that ends without
markers, or with squelch, is a false wake and parks the lane; loss of squelch otherwise unfreezes the gain. -/
def Claims.BurstIdle : Prop :=
  ∀ (s : State) (p lane : Nat), Shaped s → s.portLive p = true → lane < 8 → lane < (s.prt p).lanes.length →
    ((s.prt p).lstate = .active → (s.prt p).quiet = true → (s.prt p).txParked = false → (s.prt p).txEvent = 0 →
      (s.mode = .idle ∨ (s.flag (p / 4) (p % 4) F.NXL_CTRL_BI_EN = true ∧
        max 1 (s.fld (p / 4) (p % 4) F.NXL_CTRL_BI_IDLE) ≤ (s.prt p).idleFlits) → (s.prt p).trailerFits = true →
        Runs (.burstIdleEntry p) s (fun t => OnlyPort p s t ∧ LanesSent p s t ∧ t.prt p = { s.prt p with
          lanes := (t.prt p).lanes
          injBusy := (t.prt p).injBusy
          txBlock := 0
          txParked := true
          lastTrailer := trailer (s.prt p).txNext 2 } ∧
          ((s.prt p).framingB = true → Clear s p lane → (t.lane p lane).line = padSymbols ((s.lane p lane).pads - 112) ++
            trailerSymbols ((trailer (s.prt p).txNext 2).getD lane 0)))) ∧
      ((s.prt p).trailerFits = false → exec (.burstIdleEntry p) s = .next s) ∧
      (s.mode ≠ .idle → s.flag (p / 4) (p % 4) F.NXL_CTRL_BI_EN = false ∨
        (s.prt p).idleFlits < max 1 (s.fld (p / 4) (p % 4) F.NXL_CTRL_BI_IDLE) → exec (.burstIdleEntry p) s = .next s)) ∧
    ((s.prt p).lstate = .active → (s.prt p).quiet = false → (s.prt p).txParked = true →
      Runs (.txWake p) s (fun t => OnlyPort p s t ∧ LanesSent p s t ∧ t.prt p = { s.prt p with
        lanes := (t.prt p).lanes
        injBusy := (t.prt p).injBusy
        txParked := false
        txSeq := ((s.prt p).txSeq + 2) % 16
        idleFlits := 0 } ∧
        (Clear s p lane → (t.lane p lane).line = (prbsRun true 512 1).1 ++
          markerSymbols lane (b2n (s.prt p).framingB) 1 ((s.prt p).txSeq + 1) ++
          markerSymbols lane (b2n (s.prt p).framingB) 1 ((s.prt p).txSeq + 2)))) ∧
    ((s.lane p lane).rx = .parked → Runs (.squelchAssert p lane) s (fun t => OnlyPort p s t ∧
      t.lane p lane = { s.lane p lane with rx := .acquiring, wakeMarks := 0 } ∧ ∀ m, m ≠ lane → t.lane p m = s.lane p m)) ∧
    ((s.lane p lane).rx ≠ .acquiring → Runs (.squelchDeassert p lane) s (fun t => OnlyPort p s t ∧
      t.lane p lane = { s.lane p lane with frozen := false } ∧ ∀ m, m ≠ lane → t.lane p m = s.lane p m)) ∧
    ((s.lane p lane).rx = .acquiring → ∀ c ∈ ([.squelchDeassert p lane, .nxFalseWake p lane] : List Instr),
      Runs c s (fun t => (t.lane p lane).rx = .parked ∧ (t.lane p lane).frozen = false ∧ Counted s t (p / 4) .nxl (p % 4) 24 ∧
        Raised s t (p / 4) K.NXL_FALSE_WAKE (p % 4) ∧ (∀ m, m ≠ lane → t.lane p m = s.lane p m) ∧ OnlyPortErr p s t))

/-- Error injection (R329, R335): with GO, a single error or a burst of BURST_LEN becomes pending on the selected lanes in TEST and
ACTIVE; a rate, and a write without GO, only sets the register. -/
def Claims.Injection : Prop :=
  ∀ c ∈ ([(.injectSingle, 0), (.injectBurst, 1), (.injectRate, 2)] : List ((Source → Nat → Reg32 → Instr) × Nat)),
    ∀ (s : State) (src : Source) (p : Nat) (v : Reg32), Shaped s → s.winOk (p / 4) = true → bits v.toNat 30 29 = c.2 →
      Runs (c.1 src p v) s (fun t => t.raw (p / 4) .nxl (p % 4) 0x144 = bits v.toNat 30 8 * 2 ^ 8 ∧ OnlyPortErr p s t ∧
        (c.2 = 2 ∨ v.getLsbD 31 = false ∨ ((s.prt p).lstate ≠ .test ∧ (s.prt p).lstate ≠ .active) → t.prt p = s.prt p) ∧
        (c.2 < 2 → v.getLsbD 31 = true → (s.prt p).lstate = .test ∨ (s.prt p).lstate = .active →
          t.prt p = { s.prt p with lanes := (t.prt p).lanes, injBusy := (t.prt p).injBusy } ∧
          ((t.prt p).injBusy = true ↔ ∃ l ∈ (t.prt p).lanes, 0 < l.injLeft) ∧
          ∀ n, n < (s.prt p).lanes.length → t.lane p n = (if v.getLsbD (8 + n) = true then { s.lane p n with
            injLeft := if c.2 = 0 then 1 else max 1 (bits v.toNat 23 16) } else s.lane p n)))

/-- Symbols in TEST (R328 to R330, R335): on a selected lane a checker whose register follows the pattern locks after 64 error-free
symbols, and once locked counts every symbol and every symbol in error. Near-end loopback gives it the lane's own symbols, whatever
comes in, with the pins idle; far-end loopback sends what comes in. A lane that is not selected does nothing. -/
def Claims.Checker : Prop :=
  ∀ (s : State) (p lane : Nat) (l : List Nat), InLane s p .test → lane < 8 → lane < (s.prt p).lanes.length →
    l.length ≤ s.testSymbols p →
    ((s.fld (p / 4) (p % 4) F.NXL_TEST_LANES).testBit lane = false → exec (.checkerLock p lane l) s = .next s) ∧
    ((s.fld (p / 4) (p % 4) F.NXL_TEST_LANES).testBit lane = true →
      Runs (.checkerLock p lane l) s (fun t => OnlyPortErr p s t ∧ (∀ m, m ≠ lane → t.lane p m = s.lane p m) ∧
        (s.fld (p / 4) (p % 4) F.NXL_TEST_LOOPBACK = 2 → l ≠ [] → Clear s p lane → (t.lane p lane).line = (s.prt p).wire lane l) ∧
        (s.fld (p / 4) (p % 4) F.NXL_TEST_LOOPBACK = 1 → (t.lane p lane).line = [])) ∧
      (s.flag (p / 4) (p % 4) F.NXL_TEST_CHK_EN = true →
        (∀ x n, s.fld (p / 4) (p % 4) F.NXL_TEST_LOOPBACK = 0 → (s.lane p lane).chk = x → 0 < x →
          x < 2 ^ (if s.testQ13 p = true then 13 else 31) → l = (s.prt p).wire lane (prbsRun (s.testQ13 p) n x).1 →
          ((s.lane p lane).chkLocked = false → (s.lane p lane).chkRun = 0 → n = 64 →
            Runs (.checkerLock p lane l) s (fun t => (t.lane p lane).chkLocked = true ∧
              CountedN s t (p / 4) .nxl (p % 4) 31 0 ∧ CountedN s t (p / 4) .nxl (p % 4) lane 0)) ∧
          ((s.lane p lane).chkLocked = true → Runs (.checkerLock p lane l) s (fun t => (t.lane p lane).chkLocked = true ∧
              (t.lane p lane).chk = (prbsRun (s.testQ13 p) n x).2 ∧
              CountedN s t (p / 4) .nxl (p % 4) 31 n ∧ CountedN s t (p / 4) .nxl (p % 4) lane 0))) ∧
        (∀ y, s.fld (p / 4) (p % 4) F.NXL_TEST_LOOPBACK = 0 → (s.lane p lane).chkLocked = true → y < 4 →
          y ≠ (prbsSymbol (s.testQ13 p) (s.lane p lane).chk).1 → l = (s.prt p).wire lane [y] →
          Runs (.checkerLock p lane l) s (fun t => CountedN s t (p / 4) .nxl (p % 4) 31 1 ∧
            CountedN s t (p / 4) .nxl (p % 4) lane 1)) ∧
        (s.fld (p / 4) (p % 4) F.NXL_TEST_LOOPBACK = 1 → s.flag (p / 4) (p % 4) F.NXL_TEST_GEN_EN = true → Clear s p lane →
          (s.lane p lane).chkLocked = true → (s.lane p lane).chk = (s.lane p lane).gen →
          Runs (.checkerLock p lane l) s (fun t => CountedN s t (p / 4) .nxl (p % 4) 31 l.length ∧
            CountedN s t (p / 4) .nxl (p % 4) lane 0 ∧ (t.lane p lane).chk = (t.lane p lane).gen))))

/-- What a port's lanes receive and send (R303 to R339). -/
def Obligations.LaneSignals : Prop :=
  Claims.Markers ∧ Claims.LineCode ∧ Claims.Codewords ∧ Claims.Groups ∧ Claims.BurstIdle ∧ Claims.Injection ∧ Claims.Checker
/-! ### The Nimnex link layer (R338 to R360) -/

/-- Flits (R340 to R344): a fill flit does nothing; one with the expected number is accepted, counted and to be acknowledged; a
duplicate is discarded; a lost flit or a gap sets NAK, after which every flit is discarded until a replay. A response header without
data enters RSP ingress. -/
def Claims.FlitReception : Prop :=
  ∀ (s : State) (p : Nat) (slots : List Word), Shaped s → s.linkUp p = true → slots.length = 8 →
    (∀ lost, (s.prt p).nakPending = true → exec (.flit p slots lost) s = .next s) ∧
    ((s.prt p).nakPending = false → Runs (.flit p slots true) s (fun t => Counted s t (p / 4) .nxp (p % 4) 3 ∧
      OnlyPortErr p s t ∧ t.prt p = { s.prt p with nakPending := true, lackDue := true })) ∧
    ((s.prt p).parse = none → slots = fillFlit → exec (.flit p slots false) s = .next s) ∧
    ((s.prt p).nakPending = false → (s.prt p).parse = none → slots = List.replicate 8 0 →
      (s.prt p).rxPeriodSeq = (s.prt p).rxExpect →
      Runs (.flit p slots false) s (fun t => Counted s t (p / 4) .nxp (p % 4) 1 ∧ OnlyPortErr p s t ∧
        t.prt p = { s.prt p with
          rxExpect := ((s.prt p).rxExpect + 1) % 4096
          rxPeriodSeq := ((s.prt p).rxExpect + 1) % 4096
          unacked := (s.prt p).unacked + 1
          lackDue := (t.prt p).lackDue } ∧
        ((t.prt p).lackDue = true ↔ (s.prt p).lackDue = true ∨
          max 1 (s.fld (p / 4) (p % 4) F.NXP_CTRL_ACK_FLITS) ≤ (s.prt p).unacked + 1))) ∧
    ((s.prt p).nakPending = false → (s.prt p).parse = none → slots = List.replicate 8 0 →
      (s.prt p).rxPeriodSeq ≠ (s.prt p).rxExpect →
      Runs (.flit p slots false) s (fun t =>
        (seqLe (s.prt p).rxPeriodSeq (s.prt p).rxExpect = true → OnlyPort p s t ∧
          t.prt p = { s.prt p with rxPeriodSeq := ((s.prt p).rxPeriodSeq + 1) % 4096 }) ∧
        (seqLe (s.prt p).rxPeriodSeq (s.prt p).rxExpect = false → (t.prt p).nakPending = true ∧
          (t.prt p).rxExpect = (s.prt p).rxExpect ∧ OnlyPortErr p s t))) ∧
    ∀ h : Word, slots = h :: List.replicate 7 0 → (s.prt p).nakPending = false → (s.prt p).parse = none →
      (s.prt p).rxPeriodSeq = (s.prt p).rxExpect → (s.prt p).rxVc = .rsp → 0 < wordNum h 0 1 → wordNum h 0 1 < 0x88 →
      bits (wordNum h 4 2) 15 12 = 0 →
      Runs (.flit p slots false) s (fun t => (t.prt p).rspIn = (s.prt p).rspIn ++ [respOfHeader h p 0 []] ∧
        t.idleFrames = 0 ∧ (t.prt p).rxExpect = ((s.prt p).rxExpect + 1) % 4096)

/-- Acknowledgements (R342 to R346, R355): an ACK drops the stored flits up to its number, and one of no further flit does nothing; a
NAK asks for a replay from its number, unless the replay from it is in its first period; one of a flit already acknowledged or never
sent is a protocol error. -/
def Claims.Acknowledgement : Prop :=
  ∀ (s : State) (p : Nat) (w : Word) (n : Nat), Shaped s → s.linkUp p = true → wordNum w 0 1 = 0xF0 → n = bits (wordNum w 2 2) 11 0 →
    ((wordNum w 1 1).testBit 0 = false →
      (seqLe ((s.prt p).txAcked + 1) n = true → seqLe (s.prt p).txNext n = false →
        Runs (.lack p w) s (fun t => OnlyPort p s t ∧ t.prt p = { s.prt p with
          replay := (s.prt p).replay.filter (fun e => !seqLe e.1 n)
          resend := (s.prt p).resend.filter (fun e => !seqLe e.1 n)
          txAcked := n
          noProgress := 0
          replayRun := 0
          replayFrom := none })) ∧
      (seqLe ((s.prt p).txAcked + 1) n = false ∨ seqLe (s.prt p).txNext n = true → Runs (.lack p w) s (fun t => OnlyPort p s t ∧
        t.prt p = s.prt p))) ∧
    ((wordNum w 1 1).testBit 0 = true →
      (seqLe ((s.prt p).txAcked + 1) n = true → seqLe n (s.prt p).txNext = true →
        ((s.prt p).replayFresh = false ∨ (s.prt p).replayFrom ≠ some n →
          Runs (.lack p w) s (fun t => (t.prt p).nakRx = some n ∧ OnlyPort p s t)) ∧
        ((s.prt p).replayFresh = true → (s.prt p).replayFrom = some n → exec (.lack p w) s = .next s)) ∧
      (seqLe ((s.prt p).txAcked + 1) n = false ∨ seqLe n (s.prt p).txNext = false →
        Runs (.lack p w) s (fun t => t.prt p = s.prt p ∧ Raised s t (p / 4) K.NXP_PROTOCOL (p % 4) ∧ OnlyPortErr p s t)))

/-- Link-control slots (R341, R349, R350, R353 to R355): NOP does nothing; LCRD returns credits up to the grant and no further; VCSEL
selects the channel of the next messages; LINIT takes the partner's grants, and a grant below 9 fails the try; after a retrain one
with RESUME keeps the stored flits, without it the link is reset; in ACTIVE it is a protocol error. -/
def Claims.LinkControl : Prop :=
  ∀ (s : State) (p : Nat) (w : Word), Shaped s → s.linkUp p = true →
    (wordNum w 0 1 = 0 → exec (.nop p w) s = .next s) ∧
    (wordNum w 0 1 = 0xF1 →
      Runs (.lcrd p w) s (fun t => OnlyPortErr p s t ∧
        ((s.prt p).mgmtAvail + wordNum w 4 2 ≤ (s.prt p).mgmtGranted →
          (t.prt p).mgmtAvail = (s.prt p).mgmtAvail + wordNum w 4 2) ∧
        ((s.prt p).mgmtGranted < (s.prt p).mgmtAvail + wordNum w 4 2 →
          (t.prt p).mgmtAvail = (s.prt p).mgmtAvail ∧ Raised s t (p / 4) K.NXP_PROTOCOL (p % 4)) ∧
        ((s.prt p).rspAvail + wordNum w 2 2 ≤ (s.prt p).rspGranted →
          (t.prt p).rspAvail = (s.prt p).rspAvail + wordNum w 2 2) ∧
        ((s.prt p).rspGranted < (s.prt p).rspAvail + wordNum w 2 2 →
          (t.prt p).rspAvail = (s.prt p).rspAvail ∧ Raised s t (p / 4) K.NXP_PROTOCOL (p % 4)) ∧
        ∀ c, mget (t.prt p).peerCred c 0 = mget (s.prt p).peerCred c 0 +
          ((List.range 6).map (fun j => if (lcrdEntry w j).1 = c then (lcrdEntry w j).2 else 0)).sum)) ∧
    (wordNum w 0 1 = 0xF3 → Runs (.vcsel p w) s (fun t => OnlyPort p s t ∧
      t.prt p = { s.prt p with rxVc := vcOf (bits (wordNum w 1 1) 1 0) })) ∧
    (wordNum w 0 1 = 0xF2 → (s.prt p).lstate = .linkInit → (s.prt p).resume = false →
      (9 ≤ (linitGrants w).1 → 9 ≤ (linitGrants w).2 → Runs (.linit p w) s (fun t => OnlyPort p s t ∧
        t.prt p = { s.prt p with
          seenTx := true
          seenRx := (s.prt p).seenRx || (wordNum w 1 1).testBit 0
          partnerResume := (wordNum w 1 1).testBit 1
          rspGranted := (linitGrants w).1
          mgmtGranted := (linitGrants w).2 })) ∧
      ((linitGrants w).1 < 9 ∨ (linitGrants w).2 < 9 →
        ((s.prt p).wasActive = false → Runs (.linit p w) s (fun t => TryFailed p s t ∧
          Raised s t (p / 4) K.NXP_PROTOCOL (p % 4))) ∧
        ((s.prt p).wasActive = true → Runs (.linit p w) s (TryLost p s)))) ∧
    (wordNum w 0 1 = 0xF2 → (s.prt p).lstate = .linkInit → (s.prt p).resume = true →
      ((wordNum w 1 1).testBit 1 = true → Runs (.linit p w) s (fun t => OnlyPort p s t ∧ (t.prt p).seenTx = true ∧
        (t.prt p).partnerResume = true ∧ (t.prt p).resend = (t.prt p).replay ∧ (t.prt p).rspGranted = (s.prt p).rspGranted ∧
        (t.prt p).txNext = (s.prt p).txNext ∧ (t.prt p).rxExpect = (s.prt p).rxExpect)) ∧
      ((wordNum w 1 1).testBit 1 = false → 9 ≤ (linitGrants w).1 → 9 ≤ (linitGrants w).2 → Runs (.linit p w) s (fun t =>
        (t.prt p).lstate = .linkInit ∧ (t.prt p).resume = false ∧ (t.prt p).wasActive = false ∧ (t.prt p).replay = [] ∧
        (t.prt p).ingress = [] ∧ (t.prt p).fwdRecs = [] ∧ (t.prt p).rspGranted = (linitGrants w).1 ∧
        Counted s t (p / 4) .nxp (p % 4) 7 ∧ Raised s t (p / 4) K.NXP_LINK_RESET (p % 4)))) ∧
    (wordNum w 0 1 = 0xF2 → (s.prt p).lstate = .active →
      Runs (.linit p w) s (fun t => t.prt p = s.prt p ∧ Raised s t (p / 4) K.NXP_PROTOCOL (p % 4) ∧ OnlyPortErr p s t))

/-- Period trailers received (R343 to R348): in framing A each lane's descrambler takes its block. A good trailer whose START_SEQ is at
or before the expected number ends the wait for a replay; one beyond it is a loss; END_OF_BURST parks every lane, RETRAIN retrains an
ACTIVE port; one whose CRC fails is counted, reported, and its period lost. -/
def Claims.TrailerReception : Prop :=
  ∀ (s : State) (p phase : Nat) (ws : List (BitVec 56)) (x : Port), Shaped s → s.linkUp p = true → ws.length = 8 →
    x = (trailerBlocks s p ws).prt p →
    ((s.prt p).framingB = true → x = s.prt p) ∧ x = { s.prt p with rxBlock := x.rxBlock, lanes := x.lanes } ∧
    (bits (ws.getD 7 0).toNat 31 0 = trailerCrc ws → seqLe (bits (ws.getD 0 0).toNat 11 0) (s.prt p).rxExpect = true →
      (bits (ws.getD 0 0).toNat 23 16 = 0 ∨ 4 ≤ bits (ws.getD 0 0).toNat 23 16 → Runs (.periodTrailer p ws phase) s (fun t =>
        OnlyPort p s t ∧ t.prt p = { x with nakPending := false, rxPeriodSeq := bits (ws.getD 0 0).toNat 11 0 })) ∧
      (bits (ws.getD 0 0).toNat 23 16 = 2 → Runs (.periodTrailer p ws phase) s (fun t => OnlyPort p s t ∧
        t.prt p = { x with
          nakPending := false
          rxPeriodSeq := bits (ws.getD 0 0).toNat 11 0
          lanes := x.lanes.map (fun l => { l with rx := .parked, frozen := false, fails := 0, wakeMarks := 0 }) })) ∧
      (bits (ws.getD 0 0).toNat 23 16 = 3 → (s.prt p).lstate = .active → Runs (.periodTrailer p ws phase) s (Retrained p s))) ∧
    (bits (ws.getD 7 0).toNat 31 0 = trailerCrc ws → seqLe (bits (ws.getD 0 0).toNat 11 0) (s.prt p).rxExpect = false →
      bits (ws.getD 0 0).toNat 23 16 = 0 → Runs (.periodTrailer p ws phase) s (fun t => (t.prt p).nakPending = true ∧
        (t.prt p).rxExpect = (s.prt p).rxExpect ∧ OnlyPortErr p s t)) ∧
    (bits (ws.getD 7 0).toNat 31 0 ≠ trailerCrc ws → Runs (.periodTrailer p ws phase) s (fun t => (t.prt p).nakPending = true ∧
      Counted s t (p / 4) .nxp (p % 4) 9 ∧ Raised s t (p / 4) K.NXP_TRAILER_CRC (p % 4) ∧
      (t.prt p).rxExpect = (s.prt p).rxExpect ∧ OnlyPortErr p s t))

/-- What a port receives on its link (R338 to R355). -/
def Obligations.LinkReceive : Prop :=
  Claims.FlitReception ∧ Claims.Acknowledgement ∧ Claims.LinkControl ∧ Claims.TrailerReception

/-- Period trailers sent (R305, R345, R347, R352, R357): the lanes end the period, and the next one's markers follow. A NAK that waits
starts a replay of every stored flit from its number, counted and reported; without one START_SEQ is the next number; a RETRAIN event
in the trailer retrains the port. Where no trailer fits, NAK and event wait. -/
def Claims.TrailerSend : Prop :=
  ∀ (s : State) (p : Nat), Shaped s → s.linkUp p = true → (s.prt p).txParked = false →
    ((s.prt p).trailerFits = false → Runs (.periodTrailerSend p) s (fun t => OnlyPort p s t ∧ LanesSent p s t ∧
      t.prt p = { s.prt p with
        lanes := (t.prt p).lanes
        injBusy := (t.prt p).injBusy
        txBlock := 0
        txSeq := ((s.prt p).txSeq + 1) % 16
        noProgress := (if (s.prt p).replay = [] then 0 else (s.prt p).noProgress + 1)
        replayFresh := false })) ∧
    ((s.prt p).trailerFits = true → (s.prt p).txEvent ≠ 3 →
      (∀ q, (s.prt p).nakRx = some q → Runs (.periodTrailerSend p) s (fun t =>
        (t.prt p).lastTrailer = trailer q (s.prt p).txEvent ∧ (t.prt p).resend = (s.prt p).replay ∧
        (t.prt p).replayFrom = some q ∧ (t.prt p).replayRun = (if (s.prt p).replayFrom = some q then (s.prt p).replayRun + 1 else 1) ∧
        (t.prt p).nakRx = none ∧ (t.prt p).txEvent = 0 ∧ (t.prt p).txSeq = ((s.prt p).txSeq + 1) % 16 ∧
        Counted s t (p / 4) .nxp (p % 4) 4 ∧ Raised s t (p / 4) K.NXP_REPLAY (p % 4) ∧ LanesSent p s t ∧ OnlyPortErr p s t)) ∧
      (∀ q, (s.prt p).nakRx = none → q = ((s.prt p).resend.map (·.1)).headD (s.prt p).txNext →
        Runs (.periodTrailerSend p) s (fun t => OnlyPort p s t ∧ LanesSent p s t ∧
          t.prt p = { s.prt p with
            lanes := (t.prt p).lanes
            injBusy := (t.prt p).injBusy
            txBlock := 0
            txSeq := ((s.prt p).txSeq + 1) % 16
            lastTrailer := trailer q (s.prt p).txEvent
            txEvent := 0
            noProgress := (if (s.prt p).replay = [] then 0 else (s.prt p).noProgress + 1)
            replayFresh := false } ∧
          ∀ n, n < (s.prt p).lanes.length → (s.prt p).framingB = true → Clear s p n →
            (t.lane p n).line = padSymbols ((s.lane p n).pads - 112) ++ trailerSymbols ((t.prt p).lastTrailer.getD n 0) ++
              markerSymbols n 1 0 (t.prt p).txSeq))) ∧
    ((s.prt p).trailerFits = true → (s.prt p).txEvent = 3 → (s.prt p).lstate = .active →
      Runs (.periodTrailerSend p) s (fun t => Retrained p s t ∧ bits ((t.prt p).lastTrailer.getD 0 0).toNat 23 16 = 3))

/-- Flits sent (R338 to R351): in LINK_INIT a LINIT; after a NAK, with a full replay buffer or with nothing to send a fill flit, which
takes no number; with a replay in progress its next stored flit; a response that has its credits goes out whole in a numbered flit, is
kept for replay, and pays its slots. A LACK becomes due. -/
def Claims.FlitSend : Prop :=
  (∀ (s : State) (p : Nat), Shaped s → s.linkUp p = true → (s.prt p).txParked = false →
    ((s.prt p).lstate = .linkInit → Runs (.flitTransmit p) s (fun t => FlitSent p s t (padFlit [linitSlot s p]) ∧
      t.prt p = ({ s.prt p with txFlit := (t.prt p).txFlit }).onLanes (t.prt p))) ∧
    ((s.prt p).lstate = .active → (s.prt p).lackDue = false →
      (s.prt p).nakRx ≠ none ∨ ((s.prt p).resend = [] ∧ ((s.prt p).quiet = true ∨ 512 ≤ (s.prt p).replay.length)) →
      Runs (.flitTransmit p) s (fun t => FlitSent p s t fillFlit ∧ Counted s t (p / 4) .nxp (p % 4) 2 ∧
        (t.prt p).idleFlits = (if (s.prt p).quiet = true then (s.prt p).idleFlits + 1 else 0) ∧
        t.prt p = ({ s.prt p with txFlit := (t.prt p).txFlit }).onLanes (t.prt p))) ∧
    (∀ n f rest, (s.prt p).lstate = .active → (s.prt p).nakRx = none → (s.prt p).resend = (n, f) :: rest →
      Runs (.flitTransmit p) s (fun t => FlitSent p s t f ∧ Counted s t (p / 4) .nxp (p % 4) 5 ∧
        t.prt p = ({ s.prt p with txFlit := f, resend := rest }).onLanes (t.prt p))) ∧
    ∀ r, (s.prt p).lstate = .active → (s.prt p).nakRx = none → (s.prt p).resend = [] → (s.prt p).replay.length < 511 →
      (s.prt p).txQueue = [] → (s.prt p).lackDue = false → (s.prt p).owesCredit = false → (s.prt p).mgmtRaw = [] →
      (s.prt p).mgmtOut = [] → (s.prt p).fwdOut = [] → (s.prt p).rspOut = [r] → (s.prt p).rspWait = [] → (s.prt p).txVc = .rsp →
      r.slots ≤ 8 → r.slots ≤ (s.prt p).rspAvail →
      Runs (.flitTransmit p) s (fun t => FlitSent p s t (padFlit (respMessage r)) ∧ (t.prt p).rspOut = [] ∧
        (t.prt p).rspAvail = (s.prt p).rspAvail - r.slots ∧
        (t.prt p).replay = (s.prt p).replay ++ [((s.prt p).txNext, padFlit (respMessage r))] ∧
        (t.prt p).txNext = ((s.prt p).txNext + 1) % 4096 ∧ Counted s t (p / 4) .nxp (p % 4) 0)) ∧
  ∀ (s : State) (p : Nat), Shaped s → s.linkUp p = true →
    (0 < (s.prt p).unacked ∨ (s.prt p).nakPending = true →
      Runs (.lackDue p) s (fun t => OnlyPort p s t ∧ t.prt p = { s.prt p with lackDue := true })) ∧
    ((s.prt p).unacked = 0 → (s.prt p).nakPending = false → exec (.lackDue p) s = .next s)

/-- LINK_INIT and the retrain triggers (R350 to R357): with SEEN sent and received a port that does not resume grants its contexts'
credits, starts its numbers anew and enters ACTIVE, and one that resumes keeps them; as many replays from one number, or periods
without progress, as its limits retrain an ACTIVE port; a write of RETRAIN wakes an ACTIVE transmitter and sends a RETRAIN event in the
next trailer. -/
def Claims.LinkInit : Prop :=
  (∀ (s : State) (p : Nat), InLane s p .linkInit → (s.prt p).seenTx = true → (s.prt p).seenRx = true →
    ((s.prt p).resume = false ∨ (s.prt p).partnerResume = false →
      Runs (.linkInitComplete p) s (fun t => (t.prt p).lstate = .active ∧ t.portUp p = true ∧ (t.prt p).wasActive = true ∧
        (t.prt p).tries = 0 ∧ (t.prt p).lcrdOut = s.grants p ∧ (t.prt p).ctxCred = [] ∧ (t.prt p).peerCred = [] ∧
        (t.prt p).rspAvail = (s.prt p).rspGranted ∧ (t.prt p).mgmtAvail = (s.prt p).mgmtGranted ∧
        (t.prt p).mgmtCred = s.fld (p / 4) (p % 4) F.NXP_CR_VC_MGMT_GRANT ∧ (t.prt p).txNext = 0 ∧
        (t.prt p).rxExpect = 0 ∧ (t.prt p).replay = [] ∧ (t.prt p).txVc = .mgmt ∧ (t.prt p).rxVc = .mgmt ∧
        OnlyPortErr p s t)) ∧
    ((s.prt p).resume = true → (s.prt p).partnerResume = true →
      Runs (.linkInitComplete p) s (fun t => t.portUp p = true ∧ OnlyPortErr p s t ∧ t.prt p = { s.prt p with
        lstate := .active
        tries := 0
        wasActive := true
        resume := false
        noProgress := 0
        replayRun := 0
        replayFrom := none
        replayFresh := false }))) ∧
  (∀ (s : State) (p : Nat), InLane s p .active →
    max 1 (s.fld (p / 4) (p % 4) F.NXP_CTRL_REPLAY_LIMIT) ≤ (s.prt p).replayRun → Runs (.replayLimit p) s (Retrained p s)) ∧
  (∀ (s : State) (p : Nat), InLane s p .active →
    max 1 (s.fld (p / 4) (p % 4) F.NXP_CTRL_PROGRESS_PERIODS) ≤ (s.prt p).noProgress →
    Runs (.progressPeriodsExpiry p) s (Retrained p s)) ∧
  ∀ (s : State) (src : Source) (p : Nat) (v : Reg32), Shaped s → s.winOk (p / 4) = true → v.getLsbD 31 = true →
    Runs (.nxpRetrain src p v) s (fun t => OnlyPortErr p s t ∧
      t.raw (p / 4) .nxp (p % 4) 0x100 = bits v.toNat 23 12 * 2 ^ 12 + bits v.toNat 7 0 ∧
      ((s.prt p).lstate ≠ .active → t.prt p = s.prt p) ∧
      ((s.prt p).lstate = .active → (s.prt p).txParked = false → t.prt p = { s.prt p with txEvent := 3 }) ∧
      ((s.prt p).lstate = .active → (s.prt p).txParked = true → LanesSent p s t ∧ t.prt p = { s.prt p with
        lanes := (t.prt p).lanes
        injBusy := (t.prt p).injBusy
        txParked := false
        txSeq := ((s.prt p).txSeq + 2) % 16
        idleFlits := 0
        txEvent := 3 }))

/-- What a port sends, LINK_INIT and the retrain triggers (R341 to R357). -/
def Obligations.LinkSend : Prop := Claims.TrailerSend ∧ Claims.FlitSend ∧ Claims.LinkInit
/-! ### The reference, PLLs and clock muxes (R380 to R388, R399, R401) -/

/-- Holdover (R382): 64 ns without an edge is counted in every stack and reported by the source's; edges that return end it; after
4 µs the first qualified source other than the lost one becomes current by FAILOVER. -/
def Claims.Holdover : Prop :=
  (∀ s : State, Shaped s → s.ref.state = 0 → s.ref.srcStack < s.n →
    Runs .refHoldover s (fun t => t.ref = { s.ref with state := 1 } ∧ (∀ k, k < s.n → Counted s t k .clk 0 1) ∧
      Raised s t s.ref.srcStack K.CLK_REF_HOLDOVER 0 ∧ t = { s with ref := t.ref, stks := t.stks } ∧
      ∀ k, t.stk k = { s.stk k with regs := (t.stk k).regs, cnt := (t.stk k).cnt, rg := (t.stk k).rg })) ∧
  (∀ s : State, s.ref.state = 1 → exec .refEdgesReturn s = .next { s with ref := { s.ref with state := 0 } }) ∧
  (∀ (s : State) (q : List Bool) (i : Nat), Shaped s → s.ref.state = 1 → s.firstSrc q s.ref.index = some i →
    Runs (.holdoverTimeout q) s (fun t => t.ref.state = 4 ∧ t.ref.index = i ∧ s.srcPort i = some t.ref.port ∧ i ≠ s.ref.index ∧
      t.ref.srcStack = t.ref.port / 4 ∧ (∀ k, k < s.n → Counted s t k .clk 0 2 ) ∧
      Raised s t t.ref.srcStack K.CLK_REF_FAILOVER 0 ∧ t.mode = s.mode ∧
      t = { s with ref := t.ref, stks := t.stks, irqs := t.irqs })) ∧
  (∀ (s : State) (exact : Bool), s.ref.state = 4 →
    exec (.failoverRelock exact) s = .next { s with ref := { s.ref with state := 0 }, longFrame := s.longFrame || !exact }) ∧
  ∀ s : State, Shaped s → s.ref.state = 0 → s.ref.index = 1 ∨ s.ref.index = 2 → s.flag s.agg 0 F.CLK_REF_REVERT = true →
    s.srcOk (true :: s.ref.qual.drop 1) 0 = true →
    Runs .refRevert s (fun t => t.ref.state = 4 ∧ t.ref.index = 0 ∧ t.ref.port = s.fld s.agg 0 F.CLK_REF_PRIMARY ∧
      t = { s with ref := t.ref, stks := t.stks, irqs := t.irqs })

/-- Loss and recovery (R53, R386, R387): without another qualified source the package is LOST, its PLLs without a reference and its
dies in self-refresh; when a source qualifies, the stacks recover, the frame counters advance by the oscillator's estimate, and
ACTIVE follows at the next tick. -/
def Claims.LossAndRecovery : Prop :=
  (∀ (s : State) (q : List Bool), Shaped s → s.ref.state = 1 → s.firstSrc q s.ref.index = none → s.ref.srcStack < s.n →
    Runs (.holdoverTimeout q) s (fun t => t.mode = .lost ∧ t.ref.state = 2 ∧ t.timeValid = false ∧ t.sync = none ∧
      (∀ k, k < s.n → Stopped t k ∧ (t.stk k).clk.corePll = 0 ∧ (t.stk k).clk.fixPll = 0 ∧ t.frame k = s.frame k) ∧
      Raised s t s.ref.srcStack K.CLK_REF_LOST 0 ∧ t.dies = s.dies)) ∧
  ∀ (s : State) (q : List Bool) (osc i : Nat), Shaped s → s.mode = .lost → s.modeNext = none → s.firstSrc q 3 = some i →
    (∃ k, k < s.n ∧ (s.stk k).doc.bootStep = 13) →
    Runs (.refRecovery q osc) s (fun t => t.modeNext = some .active ∧ t.ref.state = 0 ∧ t.ref.index = i ∧ t.timeEst = true ∧
      t.timeValid = false ∧ ∀ k, k < s.n → Resumed t k ∧ t.frame k = s.frame k + wakeFrames s osc)

/-- PLL judgement (R385): a good window clears the count, one bad window is tolerated, a second restarts PLL_CORE or PLL_FIX, or fails
it where it failed within the last 65,536 frames, and stops the stack's clocks; of a port's PLL a second retrains the port. A restarted
PLL that locks with the other recovers the stack, one that cannot is a failure. -/
def Claims.PllJudgement : Prop :=
  (∀ (s : State) (k n : Nat), Shaped s → k < s.n → s.ref.state = 0 → (s.stk k).clk.corePll = 2 →
    (4092 ≤ n → n ≤ 4100 → Runs (.pllCheckWindow k .core n) s (fun t => OnlyStk k s t ∧
      t.stk k = { s.stk k with clk := { (s.stk k).clk with coreBad := 0 } })) ∧
    (n < 4092 ∨ 4100 < n → (s.stk k).clk.coreBad = 0 → Runs (.pllCheckWindow k .core n) s (fun t => OnlyStk k s t ∧
      t.stk k = { s.stk k with clk := { (s.stk k).clk with coreBad := 1 } })) ∧
    (n < 4092 ∨ 4100 < n → 0 < (s.stk k).clk.coreBad → Runs (.pllCheckWindow k .core n) s (fun t =>
      (t.stk k).clk.recovering = true ∧ Stopped t k ∧ (t.stk k).clk.coreLastFail = some (s.now k) ∧
      ((∀ l, (s.stk k).clk.coreLastFail = some l → l + 65536 < s.now k) →
        (t.stk k).clk.corePll = 1 ∧ Raised s t k K.CLK_PLL_RESTART 0) ∧
      (∀ l, (s.stk k).clk.coreLastFail = some l → s.now k ≤ l + 65536 →
        (t.stk k).clk.corePll = 3 ∧ Raised s t k K.CLK_PLL_FAIL 0) ∧ OnlyStk k s t))) ∧
  (∀ (s : State) (k n : Nat), Shaped s → k < s.n → s.ref.state = 0 → (s.stk k).clk.fixPll = 2 →
    (4092 ≤ n → n ≤ 4100 → Runs (.pllCheckWindow k .fix n) s (fun t => OnlyStk k s t ∧
      t.stk k = { s.stk k with clk := { (s.stk k).clk with fixBad := 0 } })) ∧
    (n < 4092 ∨ 4100 < n → (s.stk k).clk.fixBad = 0 → Runs (.pllCheckWindow k .fix n) s (fun t => OnlyStk k s t ∧
      t.stk k = { s.stk k with clk := { (s.stk k).clk with fixBad := 1 } })) ∧
    (n < 4092 ∨ 4100 < n → 0 < (s.stk k).clk.fixBad → Runs (.pllCheckWindow k .fix n) s (fun t =>
      (t.stk k).clk.recovering = true ∧ Stopped t k ∧ ((t.stk k).clk.fixPll = 1 ∨ (t.stk k).clk.fixPll = 3) ∧ OnlyStk k s t))) ∧
  (∀ (s : State) (k i n : Nat), Shaped s → s.ref.state = 0 → i < 4 → s.portLive (4 * k + i) = true →
    (4092 ≤ n → n ≤ 4100 → Runs (.pllCheckWindow k (.port i) n) s (fun t => OnlyStk k s t ∧
      t.stk k = { s.stk k with clk := { (s.stk k).clk with portBad := (s.stk k).clk.portBad.set i 0 } })) ∧
    (n < 4092 ∨ 4100 < n → (s.stk k).clk.portBad.getD i 0 = 0 → Runs (.pllCheckWindow k (.port i) n) s (fun t => OnlyStk k s t ∧
      t.stk k = { s.stk k with clk := { (s.stk k).clk with portBad := (s.stk k).clk.portBad.set i 1 } })) ∧
    (n < 4092 ∨ 4100 < n → 0 < (s.stk k).clk.portBad.getD i 0 → (s.prt (4 * k + i)).lstate = .active →
      Runs (.pllCheckWindow k (.port i) n) s (fun t => (t.prt (4 * k + i)).lstate = .train ∧ (t.prt (4 * k + i)).resume = true ∧
        Raised s t k K.NXP_RETRAIN i))) ∧
  (∀ (s : State) (k : Nat), Shaped s → k < s.n → (s.stk k).clk.corePll = 1 → (s.stk k).clk.recovering = true →
    ((s.stk k).clk.fixPll = 2 → Runs (.pllLock k .core true) s (fun t => Resumed t k)) ∧
    ((s.stk k).clk.fixPll ≠ 2 → Runs (.pllLock k .core true) s (fun t => OnlyStk k s t ∧
      t.stk k = { s.stk k with clk := { (s.stk k).clk with corePll := 2 } })) ∧
    Runs (.pllLock k .core false) s (fun t => (t.stk k).clk.corePll = 3 ∧ Raised s t k K.CLK_PLL_FAIL 0 ∧ OnlyStk k s t))

/-- Clock selection (R388, R399, R401): a forced mux is counted and reported; only the stack's own Docent moves its clock, and not to
a PLL_FIX that is not locked; a CLK_REF value that names the current source, or one that is qualified, waits for the tick, and any
other is rejected. -/
def Claims.ClockSelection : Prop :=
  (∀ (s : State) (k : Nat) (m : ClockMux), Shaped s → k < s.n → s.mode ≠ .off →
    Runs (.clkMuxForced k m) s (fun t => Counted s t k .clk 0 4 ∧ Raised s t k K.CLK_MUX_FORCED 0 ∧ OnlyStk k s t ∧
      t.stk k = { s.stk k with regs := (t.stk k).regs, cnt := (t.stk k).cnt, rg := (t.stk k).rg })) ∧
  (∀ (s : State) (k : Nat) (v : Reg32), Shaped s → s.winOk k = true →
    (v.getLsbD 0 = false → Runs (.clkDocentSel (.docent k) k v) s (fun t => (t.stk k).clk = { (s.stk k).clk with docPll := false } ∧
      t.fld k 0 F.CLK_DOCENT_SEL_SEL_PLL = 0 ∧ OnlyStk k s t)) ∧
    (v.getLsbD 0 = true → (s.stk k).clk.fixPll = 2 →
      Runs (.clkDocentSel (.docent k) k v) s (fun t => (t.stk k).clk = { (s.stk k).clk with docPll := true } ∧
        t.fld k 0 F.CLK_DOCENT_SEL_SEL_PLL = 1 ∧ OnlyStk k s t)) ∧
    (v.getLsbD 0 = true → (s.stk k).clk.fixPll ≠ 2 → exec (.clkDocentSel (.docent k) k v) s = .next s) ∧
    ∀ p, exec (.clkDocentSel (.port p) k v) s = .next s) ∧
  ∀ (s : State) (src : Source) (k : Nat) (v : Reg32) (q : List Bool), Shaped s → s.winOk k = true → s.ref.index < 3 →
    ((∃ i, i < 3 ∧ (refName v.toNat i = some s.ref.port ∨ (q.getD i false = true ∧ ∃ p, refName v.toNat i = some p ∧
        s.portMaySource p = true))) →
      exec (.clkRefWrite src k v q) s = .next { s with ref := { s.ref with refPend := some (v, q) } }) ∧
    ((∀ i, i < 3 → refName v.toNat i ≠ some s.ref.port ∧ (q.getD i false = true → ∀ p, refName v.toNat i = some p →
        s.portMaySource p = false)) →
      Runs (.clkRefWrite src k v q) s (fun t => t.ref = s.ref ∧ Raised s t k K.CLK_REF_SEL_REJECT 0 ∧ OnlyStk k s t ∧
        RegsRgOnly (s.stk k) (t.stk k)))

/-- The reference and its backups (R53, R380 to R387). -/
def Obligations.References : Prop := Claims.Holdover ∧ Claims.LossAndRecovery

/-- PLLs and clock muxes (R385, R388, R399, R401). -/
def Obligations.Clocks : Prop := Claims.PllJudgement ∧ Claims.ClockSelection

/-! ### Power states (R392 to R397, R402, R403) -/

/-- Requests for package modes (R392 to R394, R403): each is REJECTED in every stack during a transition; else ACTIVE wakes IDLE, IDLE
follows ACTIVE, and RETAIN begins at the next tick, waits for a COMMIT or an OTP command, or is rejected where it is barred. AUTO_IDLE
and a wake event in IDLE act at the next tick. -/
def Claims.PackageModes : Prop :=
  (∀ (s : State) (src : Source) (k : Nat) (v : Reg32), Shaped s → s.winOk k = true → v.getLsbD 31 = true →
    (∀ c ∈ ([(.modeActiveRequest, 0), (.modeIdleRequest, 1), (.modeRetainRequest, 2)] : List ((Source → Nat → Reg32 → Instr) × Nat)),
      bits v.toNat 1 0 = c.2 → s.transiting = true → Runs (c.1 src k v) s (fun t =>
        (∀ j, j < s.n → (t.stk j).clk.rejected = true) ∧ t.modeNext = s.modeNext ∧ t = { s with stks := t.stks } ∧
        ∀ j, t.stk j = { s.stk j with regs := (t.stk j).regs, clk := (t.stk j).clk })) ∧
    (s.transiting = false → bits v.toNat 1 0 = 0 → Runs (.modeActiveRequest src k v) s (fun t =>
      (∀ j, j < s.n → (t.stk j).clk.rejected = false) ∧ t.modeNext = (if s.mode = .idle then some .active else none) ∧
      (s.mode = .idle → t.wakeCause = 6) ∧ t = { s with stks := t.stks, modeNext := t.modeNext, wakeCause := t.wakeCause })) ∧
    (s.transiting = false → bits v.toNat 1 0 = 1 → Runs (.modeIdleRequest src k v) s (fun t =>
      (∀ j, j < s.n → (t.stk j).clk.rejected = false) ∧ t.modeNext = (if s.mode = .active then some .idle else none) ∧
      t = { s with stks := t.stks, modeNext := t.modeNext })) ∧
    (s.transiting = false → bits v.toNat 1 0 = 2 → Runs (.modeRetainRequest src k v) s (fun t =>
      (∀ j, j < s.n → (t.stk j).clk.rejected = s.retainBarred) ∧
      (s.retainBarred = false → s.retainHeld = false → t.modeNext = some .enteringRetain) ∧
      (s.retainBarred = false → s.retainHeld = true → t.modeNext = none ∧ t.retainWant = true) ∧
      (s.retainBarred = true → t.modeNext = none ∧ t.retainWant = false) ∧
      t = { s with stks := t.stks, modeNext := t.modeNext, retainWant := t.retainWant }))) ∧
  (∀ s : State, s.mode = .active → s.transiting = false → s.flag s.agg 0 F.CLK_IDLE_CFG_AUTO_EN = true → s.pins.wakeN = true →
    s.demand s.agg = 0 → max 1 (s.fld s.agg 0 F.CLK_IDLE_CFG_IDLE_FRAMES) ≤ s.idleFrames →
    exec .autoIdle s = .next { s with modeNext := some .idle }) ∧
  ∀ (s : State) (c : WakeCause), s.mode = .idle → s.modeNext = none → c ≠ .squelch → c ≠ .mailbox →
    exec (.idleWake c) s = .next { s with wakeCause := WakeCause.code c, modeNext := some .active }

/-- MAINTENANCE (R24, R392, R402): a stack that serves enters it once its request table is empty, and leaves it at a tick unless a
test or training runs; during a transition of the package or of the stack, and in SAFE, the request is rejected. -/
def Claims.Maintenance : Prop :=
  (∀ (s : State) (src : Source) (k : Nat) (v : Reg32), Shaped s → s.winOk k = true → v.getLsbD 31 = true →
    (v.getLsbD 0 = true → s.transiting = false → (s.stk k).stkNext = none → (s.stk k).mode = .asPackage →
      Runs (.maintenanceRequest src k v) s (fun t => (t.stk k).stkNext = some .maintPending ∧ (t.stk k).clk.rejected = false ∧
        OnlyStk k s t ∧ t.stk k = { s.stk k with regs := (t.stk k).regs, stkNext := (t.stk k).stkNext, clk := (t.stk k).clk })) ∧
    (v.getLsbD 0 = true → s.transiting = true ∨ (s.stk k).mode = .safe ∨ (s.stk k).mode = .maintPending ∨
        (s.stk k).stkNext ≠ none →
      Runs (.maintenanceRequest src k v) s (fun t => (t.stk k).clk.rejected = true ∧ (t.stk k).stkNext = (s.stk k).stkNext ∧
        (t.stk k).mode = (s.stk k).mode ∧ OnlyStk k s t)) ∧
    (v.getLsbD 0 = false → s.transiting = false → (s.stk k).stkNext = none → (s.stk k).mode = .maintenance →
      Runs (.maintenanceExit src k v) s (fun t => (t.stk k).stkNext = (if s.testBusy k = true then none else some .asPackage) ∧
        (t.stk k).clk.rejected = s.testBusy k ∧ (t.stk k).mode = .maintenance ∧ OnlyStk k s t))) ∧
  ∀ (s : State) (k : Nat), Shaped s → k < s.n → (s.stk k).mode = .maintPending → (s.stk k).table = [] →
    Runs (.maintenanceEntered k) s (fun t => (t.stk k) = { s.stk k with mode := .maintenance } ∧ Pulsed s t k .clk 0 0 ∧
      t = { s with stks := t.stks, irqs := t.irqs } ∧ ∀ j, j ≠ k → t.stk j = s.stk j)

/-- RETAIN (R53, R394 to R397, R502): entry ends with the counter stopped, seals aborted, the dies in self-refresh, the PLLs off and
every logic rail at 500 mV; a wake event starts the exit, which restores the running level's voltage; its end locks the PLLs, ages
the package by the estimate, and ACTIVE follows at the next tick. A pulse of WAKE_N below 50 ns is ignored, one of 200 ns wakes; a
mailbox write from PMBus wakes too. -/
def Claims.Retain : Prop :=
  (∀ s : State, Shaped s → s.mode = .enteringRetain → s.retainAt + 18 ≤ s.now s.agg → s.wakeInEntry = none →
    Runs .retainEntryComplete s (fun t => t.mode = .retain ∧ t.timeValid = false ∧ t.sync = none ∧ t.dies = s.dies ∧
      ∀ k, k < s.n → Stopped t k ∧ (t.stk k).seals = [] ∧ (t.stk k).pw.railMv = (s.stk k).pw.railMv.set 0 500 ∧
        (t.stk k).pw.tileMode = 1 ∧ (t.stk k).clk.corePll = 0 ∧ (t.stk k).clk.fixPll = 0 ∧ t.frame k = s.frame k ∧
        (t.stk k).lines = (s.stk k).lines ∧ (t.stk k).tiles = (s.stk k).tiles)) ∧
  (∀ (s : State) (c : WakeCause), Shaped s → c = .wakeN ∨ c = .squelch ∨ c = .mailbox →
    (s.mode = .retain → Runs (.retainWake c) s (fun t => t.mode = .leavingRetain ∧ t.wakeCause = WakeCause.code c ∧
      (∀ k, k < s.n → (t.stk k).pw.tileMode = 0 ∧ (t.stk k).pw.railMv = (s.stk k).pw.railMv.set 0 (levelMv s.runLevel)) ∧
      t = { s with stks := t.stks, mode := t.mode, wakeCause := t.wakeCause, wakeInEntry := none })) ∧
    (s.mode = .enteringRetain → s.wakeInEntry = none → exec (.retainWake c) s = .next { s with wakeInEntry := some c })) ∧
  (∀ (s : State) (osc : Nat), Shaped s → s.mode = .leavingRetain → s.modeNext = none →
    Runs (.retainExitComplete osc) s (fun t => t.modeNext = some .active ∧ t.timeEst = true ∧
      ∀ k, k < s.n → Resumed t k ∧ t.frame k = s.frame k + wakeFrames s osc ∧ (t.stk k).tiles = (s.stk k).tiles)) ∧
  (∀ (s : State) (ns : Nat), (ns < 50 → exec (.wakeN ns) s = .next s) ∧
    (200 ≤ ns → s.pins.resetN = true → Shaped s →
      (s.mode = .idle → s.modeNext = none → Runs (.wakeN ns) s (fun t => t.modeNext = some .active ∧ t.wakeCause = 1 ∧
        t = { s with modeNext := t.modeNext, wakeCause := t.wakeCause, wakeLow := t.wakeLow, pins := t.pins })) ∧
      (s.mode = .retain → Runs (.wakeN ns) s (fun t => t.mode = .leavingRetain ∧ t.wakeCause = 1)))) ∧
  ∀ (s : State) (src : Source) (k : Nat) (v : Reg32), Shaped s → s.winOk k = true →
    Runs (.docMboxInWrite src k v) s (fun t => t.fld k 0 F.DOC_MBOX_IN_DATA = v.toNat ∧
      (src = .pmbus → s.mode = .retain → t.mode = .leavingRetain) ∧
      (src ≠ .pmbus ∨ s.mode = .active → OnlyStk k s t ∧ RegsOnly (s.stk k) (t.stk k)))

/-- Requests for package and stack modes (R392 to R394, R402, R403). -/
def Obligations.Modes : Prop := Claims.PackageModes ∧ Claims.Maintenance

/-- RETAIN and the wake events (R53, R394 to R397, R502). -/
def Obligations.RetainAndWake : Prop := Claims.Retain

/-! ### Input supply and rails (R407 to R413, R421 to R424) -/

/-- Supply samples (R407, R408, R421): every tile keeps its latest and lowest sample; any below 6.0 V engages the cap, counted in every
stack, and each tile below it reports once; 1,024 consecutive frames at 6.2 V or more lift it; a read of PWR_VIN returns and restarts
the source's own minimum. -/
def Claims.SupplySamples : Prop :=
  (∀ (s : State) (mv : List Nat), Shaped s → s.mode ≠ .off → mv.length = s.n → Runs (.vinSample mv) s (fun t =>
    (∀ k, k < s.n → (t.stk k).pw.vinMv = min 65535 (mv.getD k 0) ∧
      (t.stk k).pw.vinLow = min (s.stk k).pw.vinLow (min 65535 (mv.getD k 0)) ∧
      (t.stk k).pw.vinMin = (s.stk k).pw.vinMin.map (fun e => (e.1, min e.2 (min 65535 (mv.getD k 0))))) ∧
    (t.supplyCap = true ↔ s.supplyCap = true ∨ ∃ v ∈ mv, v < 6000) ∧
    (s.supplyCap = false → t.supplyCap = true → ∀ k, k < s.n → Counted s t k .pwr 0 0) ∧
    (∀ k, k < s.n → mv.getD k 0 < 6000 → (s.stk k).pw.capReported = false → Raised s t k K.PWR_VIN_CAP 0) ∧
    ((∀ v ∈ mv, 6200 ≤ v) → t.supplyOk = s.supplyOk + 1) ∧ ((∃ v ∈ mv, v < 6200) → t.supplyOk = 0) ∧
    t = { s with stks := t.stks, supplyCap := t.supplyCap, supplyOk := t.supplyOk })) ∧
  (∀ s : State, Shaped s → s.supplyCap = true → 1024 ≤ s.supplyOk → Runs .supplyCapLift s (fun t =>
    t = { s with stks := t.stks, supplyCap := false } ∧
    ∀ k, k < s.n → t.stk k = { s.stk k with pw := { (s.stk k).pw with capReported := false } })) ∧
  ∀ (s : State) (src : Source) (k : Nat), Shaped s → s.winOk k = true → Runs (.pwrVinRead src k) s (fun t =>
    t.mgmtOut = (BitVec.ofNat 32 (mget (s.stk k).pw.vinMin (Source.code src) (s.stk k).pw.vinLow * 2 ^ 16 + (s.stk k).pw.vinMv), stOk) ∧
    (∀ d, mget (t.stk k).pw.vinMin (Source.code src) d = 0xFFFF) ∧
    (∀ c d, c ≠ Source.code src → mget (t.stk k).pw.vinMin c d = mget (s.stk k).pw.vinMin c d) ∧
    t = { s with stks := t.stks, mgmtOut := t.mgmtOut } ∧ ∀ j, j ≠ k → t.stk j = s.stk j)

/-- Shutdowns (R407, R412, R422): VIN below 4.2 V, above 19 V, or a brown-out turns the package OFF with the cause latched in every
stack, and memory and registers are lost while the OTP array stays; a latch forgets below 3.0 V; after an over-voltage the tiles restart
the package, held after step 2 while RESET_N is low. -/
def Claims.Shutdowns : Prop :=
  (∀ s : State, Shaped s → s.mode ≠ .off →
    Runs .uvlo s (fun t => t.mode = .off ∧ t.pmbus.uvFault = true ∧ t.dies = [] ∧ Shaped t ∧ ∀ k, k < s.n →
      (t.stk k).latches.cause = (s.stk k).latches.cause ||| 2 ∧ (t.stk k).regs = [] ∧ (t.stk k).tiles = [] ∧ (t.stk k).lines = [] ∧
      SameCells (s.stk k).otp (t.stk k).otp) ∧
    Runs .ovp s (fun t => t.mode = .off ∧ t.pmbus.ovFault = true ∧ t.pins.ovpHeld = true ∧ t.dies = [] ∧ Shaped t ∧ ∀ k, k < s.n →
      (t.stk k).latches.cause = (s.stk k).latches.cause ||| 4 ∧ (t.stk k).regs = [] ∧ (t.stk k).tiles = [] ∧
      SameCells (s.stk k).otp (t.stk k).otp) ∧
    ∀ k, k < s.n → Runs (.brownout k) s (fun t => t.mode = .off ∧ t.dies = [] ∧ Shaped t ∧ (t.stk k).latches.brownNew = true ∧
      (t.stk k).latches.cause = (s.stk k).latches.cause ||| (if s.mode = .retain then 0x28 else 0x08) ∧
      ∀ j, j < s.n → j ≠ k → (t.stk j).latches.cause = (s.stk j).latches.cause ||| 0x10)) ∧
  (∀ (s : State) (k : Nat), Shaped s → s.mode = .off → k < s.n → Runs (.vinBelow3v k) s (fun t =>
    t.pins.vinAbove3 = false ∧ (t.stk k) = { s.stk k with latches := Latch.reset } ∧
    t = { s with stks := t.stks, pins := t.pins } ∧ ∀ j, j ≠ k → t.stk j = s.stk j)) ∧
  ∀ s : State, Shaped s → s.mode = .off → s.pins.ovpHeld = true → Runs .ovpRestart s (fun t =>
    t.mode = .starting ∧ t.pins.ovpHeld = false ∧ t.pins.pwrGood = true ∧ ∀ k, k < s.n →
      (s.pins.resetN = true → (t.stk k).doc.bootStep = 3) ∧
      (s.pins.resetN = false → (t.stk k).doc.bootStep = 2 ∧ (t.stk k).latches.cause = (s.stk k).latches.cause ||| 1))

/-- Rails and tiles (R412, R417): a rail outside its window is latched, counted and reported, and one of the memory rails takes the
memory's contents with it; a tile held at its input limit is counted once, reported, and holds T3 until 1,024 frames without a limit. -/
def Claims.RailsAndTiles : Prop :=
  (∀ (s : State) (k rail : Nat), Shaped s → s.mode ≠ .off → k < s.n → rail < 4 → Runs (.ivrFault k rail) s (fun t =>
    (t.stk k).pw.railOk = (s.stk k).pw.railOk.set rail false ∧
    ((t.stk k).pw.memFault = true ↔ (s.stk k).pw.memFault = true ∨ 0 < rail) ∧
    ((t.stk k).pw.railsRun = true ↔ (s.stk k).pw.railsRun = true ∧
      ¬(0 < rail ∧ s.inSafe k = true ∧ (s.stk k).safeEntry = false)) ∧
    Counted s t k .pwr 0 3 ∧ Raised s t k K.PWR_IVR_FAULT 0 ∧ t = { s with stks := t.stks, free := t.free } ∧
    (∀ j, j ≠ k → t.stk j = s.stk j) ∧ t.stk k = { s.stk k with
      regs := (t.stk k).regs
      cnt := (t.stk k).cnt
      pw := (t.stk k).pw
      rg := (t.stk k).rg })) ∧
  (∀ (s : State) (k : Nat), Shaped s → s.mode ≠ .off → k < s.n → Runs (.tileIlimit k) s (fun t =>
    (t.stk k).pw = { (s.stk k).pw with ilimit := true, ilimitT3 := true, ilimitFree := 0 } ∧
    ((s.stk k).pw.ilimit = false → Counted s t k .pwr 0 1) ∧ Raised s t k K.PWR_ILIMIT 0 ∧ OnlyStk k s t)) ∧
  ∀ (s : State) (k : Nat), Shaped s → k < s.n → (s.stk k).pw.ilimitT3 = true → 1024 ≤ (s.stk k).pw.ilimitFree →
    Runs (.ilimitT3End k) s (fun t => OnlyStk k s t ∧ t.stk k = { s.stk k with pw := { (s.stk k).pw with ilimitT3 := false } })

/-- The input supply, its shutdowns, tiles and rails (R407 to R413, R421, R422). -/
def Obligations.Supply : Prop := Claims.SupplySamples ∧ Claims.Shutdowns ∧ Claims.RailsAndTiles

/-! ### OTP and calibration (R428 to R446) -/

/-- OTP commands (R429, R430, R434, R436, R437, R443): a GO while another runs answers BUSY; PROGRAM ORs the data into the word where
the lifecycle permits it and the span is not finalized; FINALIZE burns the second header word and the digest unless a burned bit is in
the way; ADVANCE burns the transition word and leaves the lifecycle as sensed; RESENSE takes the new marginal bits. The result shows at
the command's end. -/
def Claims.OtpCommands : Prop :=
  (∀ (s : State) (src : Source) (k : Nat) (v : Reg32) (b : Burn), Shaped s → s.winOk k = true → v.getLsbD 31 = true →
    (∀ c ∈ ([(.otpProgram src k v b, 0), (.otpFinalize src k v b, 1), (.otpAdvance src k v b, 2)] : List (Instr × Nat)),
      bits v.toNat 1 0 = c.2 → s.otpBusy k = true →
        Runs c.1 s (fun t => t.fld k 0 F.OTP_CMD_STATUS_RESULT = 5 ∧ OnlyStk k s t ∧ RegsOnly (s.stk k) (t.stk k))) ∧
    (∀ c ∈ ([(.otpProgram src k v b, 0), (.otpFinalize src k v b, 1), (.otpAdvance src k v b, 2)] : List (Instr × Nat)),
      bits v.toNat 1 0 = c.2 → s.otpBusy k = false → Runs c.1 s (fun t => t.fld k 0 F.OTP_CMD_STATUS_BUSY = 1 ∧
        t.fld k 0 F.OTP_CMD_STATUS_DONE = 0 ∧ (t.stk k).otp.lifecycle = (s.stk k).otp.lifecycle ∧ OtpFrame k s t ∧
        ((s.stk k).mode ≠ .maintenance → SameCells (s.stk k).otp (t.stk k).otp))) ∧
    (bits v.toNat 1 0 = 0 → s.otpBusy k = false → Runs (.otpProgram src k v b) s (fun t =>
      ((s.stk k).mode ≠ .maintenance ∨ (s.stk k).otp.mayProgram (s.fld k 0 F.OTP_PROG_ADDR_WORD) = false →
        (t.stk k).otp.pendRes = some otpDenied ∧ SameCells (s.stk k).otp (t.stk k).otp) ∧
      ((s.stk k).mode = .maintenance → (s.stk k).otp.mayProgram (s.fld k 0 F.OTP_PROG_ADDR_WORD) = true →
        ((s.stk k).otp.inSpan (s.fld k 0 F.OTP_PROG_ADDR_WORD) = true →
          (t.stk k).otp.pendRes = some otpLocked ∧ SameCells (s.stk k).otp (t.stk k).otp) ∧
        ((s.stk k).otp.inSpan (s.fld k 0 F.OTP_PROG_ADDR_WORD) = false → b.verified = true →
          (t.stk k).otp.pendRes = some otpOk ∧
          (∀ w, (t.stk k).otp.word w = (if w = s.fld k 0 F.OTP_PROG_ADDR_WORD
            then (s.stk k).otp.word w ||| s.fld k 0 F.OTP_PROG_DATA_DATA else (s.stk k).otp.word w)) ∧
          (s.fld k 0 F.OTP_PROG_DATA_DATA ≠ 0 → Counted s t k .otp 0 0)) ∧
        ((s.stk k).otp.inSpan (s.fld k 0 F.OTP_PROG_ADDR_WORD) = false → b.verified = false → s.fld k 0 F.OTP_PROG_DATA_DATA ≠ 0 →
          (t.stk k).otp.pendRes = some otpVerifyFail ∧ Raised s t k K.OTP_PROG_FAIL 0 ∧
          (∀ w, (t.stk k).otp.word w ||| (s.stk k).otp.word w = (t.stk k).otp.word w) ∧
          ∀ w, w ≠ s.fld k 0 F.OTP_PROG_ADDR_WORD → (t.stk k).otp.word w = (s.stk k).otp.word w)))) ∧
    (∀ r, bits v.toNat 1 0 = 1 → bits v.toNat 10 8 = r → s.otpBusy k = false → Runs (.otpFinalize src k v b) s (fun t =>
      (r = 0 ∨ r = 5 ∨ 6 < r → (t.stk k).otp.pendRes = some otpBadArg ∧ SameCells (s.stk k).otp (t.stk k).otp) ∧
      (1 ≤ r → r ≤ 6 → r ≠ 5 →
        ((s.stk k).mode ≠ .maintenance ∨ mayFinalize (s.stk k).otp.lifecycle r = false →
          (t.stk k).otp.pendRes = some otpDenied ∧ SameCells (s.stk k).otp (t.stk k).otp) ∧
        ((s.stk k).mode = .maintenance → mayFinalize (s.stk k).otp.lifecycle r = true →
          ((∃ e ∈ finalizeWords (s.stk k).otp r, (s.stk k).otp.word e.1 ||| e.2 ≠ e.2) →
            (t.stk k).otp.pendRes = some otpConflict ∧ SameCells (s.stk k).otp (t.stk k).otp) ∧
          ((∀ e ∈ finalizeWords (s.stk k).otp r, (s.stk k).otp.word e.1 ||| e.2 = e.2) → b.verified = true →
            (t.stk k).otp.pendRes = some otpOk ∧ (∀ e ∈ finalizeWords (s.stk k).otp r, (t.stk k).otp.word e.1 = e.2) ∧
            ∀ w, (∀ e ∈ finalizeWords (s.stk k).otp r, e.1 ≠ w) → (t.stk k).otp.word w = (s.stk k).otp.word w))))) ∧
    ∀ a, bits v.toNat 1 0 = 2 → bits v.toNat 10 8 = a → s.otpBusy k = false → Runs (.otpAdvance src k v b) s (fun t =>
      (3 < a → (t.stk k).otp.pendRes = some otpBadArg ∧ SameCells (s.stk k).otp (t.stk k).otp) ∧
      (a ≤ 3 → (s.stk k).mode ≠ .maintenance ∨ (s.stk k).otp.mayAdvance a = false →
        (t.stk k).otp.pendRes = some otpDenied ∧ SameCells (s.stk k).otp (t.stk k).otp) ∧
      (a ≤ 3 → (s.stk k).mode = .maintenance → (s.stk k).otp.mayAdvance a = true → b.verified = true →
        (t.stk k).otp.pendRes = some otpOk ∧
        (t.stk k).otp.word (2 * a) = (s.stk k).otp.word (2 * a) ||| (0x4C430001 + a) ∧
        (t.stk k).otp.word (2 * a + 1) = (s.stk k).otp.word (2 * a + 1) ||| 0x53544147 ∧
        (a = 3 → (t.stk k).otp.svcOpen = false)))) ∧
  (∀ (s : State) (src : Source) (k : Nat) (v : Reg32) (flips : List Nat), Shaped s → s.winOk k = true → v.getLsbD 31 = true →
    bits v.toNat 1 0 = 3 → s.otpBusy k = false → Runs (.otpResense src k v flips) s (fun t =>
      (t.stk k).otp.weak = flips.filter (· < 65536) ∧ (t.stk k).otp.pendRes = some otpOk ∧ Counted s t k .otp 0 2 ∧
      (∀ r, r < 7 → (t.stk k).otp.marginal.getD r 0 = marginalIn (t.stk k).otp.weak r) ∧
      ((∃ r, r < 7 ∧ marginalIn (t.stk k).otp.weak r ≠ 0) → Raised s t k K.OTP_MARGINAL 0) ∧
      SameCells (s.stk k).otp (t.stk k).otp ∧ OtpFrame k s t)) ∧
  ∀ (s : State) (k r : Nat), Shaped s → k < s.n → (s.stk k).otp.pendRes = some r → (s.stk k).otp.calWait = none →
    s.retainWant = false → Runs (.otpCmdDone k) s (fun t => (t.stk k).otp = { (s.stk k).otp with pendRes := none } ∧
      t.fld k 0 F.OTP_CMD_STATUS_BUSY = 0 ∧ t.fld k 0 F.OTP_CMD_STATUS_DONE = 1 ∧ t.fld k 0 F.OTP_CMD_STATUS_RESULT = r % 16 ∧
      Pulsed s t k .otp 0 0 ∧ OtpFrame k s t)

/-- Service access (R439): a SUBMIT in FIELD draws a new nonce; a valid signature opens service access, a wrong one is counted and
reported, and after three no SUBMIT is judged. -/
def Claims.ServiceUnlock : Prop :=
  ∀ (s : State) (src : Source) (k : Nat) (v : Reg32) (nonce : BitVec 64), Shaped s → s.winOk k = true → v.getLsbD 31 = true →
    ((s.stk k).otp.lifecycle = 3 → (s.stk k).otp.lcFallback = false → (s.stk k).otp.svcFails < 3 →
      Runs (.serviceUnlockSubmit src k v nonce) s (fun t => (t.stk k).otp.nonce = nonce ∧ OtpFrame k s t ∧
        SameCells (s.stk k).otp (t.stk k).otp ∧
        (Config.svcSignatureValid (s.stk k).otp.nonce.toNat (s.stk k).otp.identity (s.stk k).otp.signature = true →
          (t.stk k).otp.svcOpen = true ∧ (t.stk k).otp.svcFails = (s.stk k).otp.svcFails) ∧
        (Config.svcSignatureValid (s.stk k).otp.nonce.toNat (s.stk k).otp.identity (s.stk k).otp.signature = false →
          (t.stk k).otp.svcOpen = (s.stk k).otp.svcOpen ∧ (t.stk k).otp.svcFails = (s.stk k).otp.svcFails + 1 ∧
          Raised s t k K.OTP_SVC_FAIL 0))) ∧
    ((s.stk k).otp.lifecycle ≠ 3 ∨ (s.stk k).otp.lcFallback = true ∨ 3 ≤ (s.stk k).otp.svcFails →
      exec (.serviceUnlockSubmit src k v nonce) s = .next s)

/-- Calibration (R441, R442, R446): a GO for a known type in MAINTENANCE takes the first run, or waits for an OTP command; any other is
BAD. At least 1,024 frames later a second run that disagrees ends DISAGREE; one that agrees is averaged and burned into the next blank
slot with the next SEQ, to take effect at the tick, or ends FULL or VERIFY_FAIL. -/
def Claims.Calibrations : Prop :=
  (∀ (s : State) (src : Source) (k : Nat) (v : Reg32) (run : List Int), Shaped s → s.winOk k = true → v.getLsbD 31 = true →
    (s.stk k).otp.cal = none → (s.stk k).otp.calWait = none →
    (1 ≤ bits v.toNat 7 0 → bits v.toNat 7 0 ≤ 6 → (s.stk k).mode = .maintenance → (s.stk k).otp.lifecycle ≠ 4 →
      Runs (.calibration src k v run) s (fun t => t.fld k 0 F.CAL_STATUS_BUSY = 1 ∧ t.fld k 0 F.CAL_STATUS_DONE = 0 ∧ OtpFrame k s t ∧
        (s.otpBusy k = false → (t.stk k).otp = { (s.stk k).otp with cal := some (bits v.toNat 7 0, run, s.now k) }) ∧
        (s.otpBusy k = true → (t.stk k).otp = { (s.stk k).otp with calWait := some (bits v.toNat 7 0, run) }))) ∧
    (bits v.toNat 7 0 = 0 ∨ 6 < bits v.toNat 7 0 ∨ (s.stk k).mode ≠ .maintenance ∨ (s.stk k).otp.lifecycle = 4 →
      Runs (.calibration src k v run) s (fun t => t.fld k 0 F.CAL_STATUS_BUSY = 0 ∧ t.fld k 0 F.CAL_STATUS_DONE = 1 ∧
        t.fld k 0 F.CAL_STATUS_RESULT = 3 ∧ (t.stk k).otp = (s.stk k).otp ∧ OtpFrame k s t))) ∧
  ∀ (s : State) (k : Nat) (run : List Int) (b : Burn) (y : Nat) (first : List Int) (t0 : Nat), Shaped s → s.regRuns k = true →
    (s.stk k).otp.cal = some (y, first, t0) → 1 ≤ y → y ≤ 6 → t0 + 1024 ≤ s.now k →
    Runs (.calibrationSecondRun k run b) s (fun t => t.fld k 0 F.CAL_STATUS_BUSY = 0 ∧ t.fld k 0 F.CAL_STATUS_DONE = 1 ∧
      (t.stk k).otp.cal = none ∧ OtpFrame k s t ∧
      (¬RunsAgree y first run → t.fld k 0 F.CAL_STATUS_RESULT = 1 ∧ Counted s t k .cal 0 1 ∧ Raised s t k K.CAL_DISAGREE 0 ∧
        SameCells (s.stk k).otp (t.stk k).otp) ∧
      (RunsAgree y first run → (s.stk k).otp.blankSlot y = none ∨ 255 < nextSeq (s.stk k).otp y →
        t.fld k 0 F.CAL_STATUS_RESULT = 2 ∧ Counted s t k .cal 0 2 ∧ SameCells (s.stk k).otp (t.stk k).otp) ∧
      ∀ i, RunsAgree y first run → (s.stk k).otp.blankSlot y = some i → nextSeq (s.stk k).otp y ≤ 255 →
        (b.verified = false → t.fld k 0 F.CAL_STATUS_RESULT = 4) ∧
        (b.verified = true → t.fld k 0 F.CAL_STATUS_RESULT = 0 ∧ t.fld k 0 F.CAL_STATUS_SLOT = i ∧ Counted s t k .cal 0 0 ∧
          slotOk y ((t.stk k).otp.slot y i) = true ∧ bits ((t.stk k).otp.slot y i) 15 8 = nextSeq (s.stk k).otp y ∧
          (t.stk k).otp.calNext = some (y, i, nextSeq (s.stk k).otp y, BitVec.ofNat 224 (bits ((t.stk k).otp.slot y i) 239 16)) ∧
          (∀ j, j < (calShape y).1 → ∃ m : Int, (2 * m - (first.getD j 0 + run.getD j 0)).natAbs ≤ 1 ∧
            bits ((t.stk k).otp.slot y i) (16 + (calShape y).2 * (j + 1) - 1) (16 + (calShape y).2 * j) = ofSigned (calShape y).2 m) ∧
          ∀ w, w < slotAt y i ∨ slotAt y i + 8 ≤ w → (t.stk k).otp.word w = (s.stk k).otp.word w))

/-- OTP commands and service unlock (R428 to R437, R439, R443). -/
def Obligations.OtpArray : Prop := Claims.OtpCommands ∧ Claims.ServiceUnlock

/-- Calibration (R440 to R442, R446). -/
def Obligations.Calibration : Prop := Claims.Calibrations

/-! ### The Registrar (R449 to R463, R469 to R473) -/

/-- Intake (R449, R453 to R460, R463): a report sets its PAGE_ERR bit, and is counted; one report alone at the intake is taken, counted with its tally
and placed in the FIFO with its decided level; NOTIFY and above set the pending bit, latch FIRST and interrupt; FENCE enters SAFE, and
HALT halts. -/
def Claims.Intake : Prop :=
  (∀ (s : State) (k i : Nat) (r : NewReport) (x : Kind), Shaped s → s.regRuns k = true → kindOf r.kind = some x →
    keyPage r.pkgPage (r.page * 4096) = some (x.page, i) → Runs (.faultReport k [r]) s (fun t =>
      (x.bit < 24 → if x.page.isPkg = true then (k, x.page.index i, x.bit) ∈ t.errPend
        else (t.raw k x.page i 0x10).testBit x.bit = true) ∧
      (24 ≤ x.bit → (s.stk k).rg.waiting = [] →
        mget (t.stk k).rg.kcnt x.code 0 = satAdd 65535 (mget (s.stk k).rg.kcnt x.code 0) 1))) ∧
  (∀ (s : State) (k : Nat) (l : List NewReport), s.regRuns k = false → exec (.faultReport k l) s = .next s) ∧
  ∀ (s : State) (k : Nat) (w : Waiting) (x : Kind) (lvl : Nat) (esc : Bool), Shaped s → s.regRuns k = true → s.halt = none →
    (s.stk k).rg.waiting = [w] → w.saturated = false → w.sev < 4 → kindOf w.kind = some x → x ≠ K.REG_OVERFLOW →
    (s.stk k).rg.fifo.length < 60 → s.decision k w = (lvl, esc) → lvl ≤ 3 → Runs (.faultReport k []) s (fun t =>
      (t.stk k).rg.waiting = [] ∧ (t.stk k).rg.fifo = (s.stk k).rg.fifo ++ [recOf s k w lvl esc] ∧
      mget (t.stk k).rg.kcnt w.kind 0 = satAdd 65535 (mget (s.stk k).rg.kcnt w.kind 0) (1 + w.tally) ∧
      (s.frozen k .reg 0 = false → t.cntVal k .reg 0 0 = satAdd cntMax (s.cntVal k .reg 0 0) (1 + w.tally)) ∧
      (esc = true → Counted s t k .reg 0 3) ∧ t.mode = s.mode ∧
      (lvl < 3 ∨ s.cmtBusy = false → ∀ j, j ≠ k → t.stk j = s.stk j) ∧
      (lvl = 0 → t.irqs = s.irqs ∧ t.halt = none ∧ t.inSafe k = s.inSafe k ∧
        t.raw k .reg 0 (0x120 + 4 * w.sev) = s.raw k .reg 0 (0x120 + 4 * w.sev) ∧ t.flag k 0 F.REG_FIRST_VALID = s.flag k 0 F.REG_FIRST_VALID) ∧
      (1 ≤ lvl → (t.raw k .reg 0 (0x120 + 4 * w.sev)).testBit (kindBlock w.kind) = true ∧ t.flag k 0 F.REG_FIRST_VALID = true ∧
        (s.flag k 0 F.REG_FIRST_VALID = false → t.fld k 0 F.REG_FIRST_LEVEL = lvl % 4 ∧ t.fld k 0 F.REG_FIRST_SEVERITY = w.sev ∧
          t.fld k 0 F.REG_FIRST_SOURCE = w.source.toNat ∧ t.fld k 0 F.REG_FIRST_KIND = w.kind) ∧
        (s.flag k 0 F.REG_FIRST_VALID = true → t.flag k 0 F.REG_FIRST_OVF = true ∧
          t.fld k 0 F.REG_FIRST_SOURCE = s.fld k 0 F.REG_FIRST_SOURCE) ∧
        (s.irqs.length < 64 → ∃ q ∈ t.irqs, q.kind = 1 ∧ q.source = BitVec.ofNat 32 (pageAddr .reg k 0 0) ∧
          q.detail = BitVec.ofNat 32 (w.source.toNat * 2 ^ 12 + w.kind * 4 + w.sev))) ∧
      (lvl = 1 → t.halt = none ∧ t.inSafe k = s.inSafe k) ∧
      (lvl = 2 → t.halt = none ∧ t.inSafe k = true ∧ (s.inSafe k = false → t.flag k 0 F.REG_SAFE_STATUS_BY_HALT = false ∧
        t.fld k 0 F.REG_SAFE_STATUS_CAUSE_SRC = w.source.toNat)) ∧
      (lvl = 3 → (∃ h, t.halt = some h ∧ h.kind = w.kind ∧ h.source = w.source ∧ h.got = [k]) ∧ t.inSafe k = true ∧
        t.flag k 0 F.REG_SAFE_STATUS_BY_HALT = true ∧ t.fld k 0 F.REG_SAFE_STATUS_CAUSE_SRC = w.source.toNat) ∧
      ∀ pg b, 2 ≤ lvl → w.bit = some (pg, b) → b < 32 → (mget (t.stk k).rg.marks pg 0#32).getLsbD b = true)

/-- HALT (R463, R464): a stack that receives it enters SAFE with BY_HALT and the cause, and Docent begins its Archive. -/
def Claims.HaltBroadcast : Prop :=
  ∀ (s : State) (k : Nat) (h : Halt), Shaped s → k < s.n → s.halt = some h → k ∉ h.got → Runs (.haltBroadcast k) s (fun t =>
    t.halt = some { h with got := h.got ++ [k] } ∧ t.inSafe k = true ∧ t.flag k 0 F.REG_SAFE_STATUS_BY_HALT = true ∧
    t.flag k 0 F.REG_SAFE_STATUS_SAFE = true ∧ t.fld k 0 F.REG_SAFE_STATUS_CAUSE_SRC = h.source.toNat ∧
    t.flag k 0 F.REG_ARCH_STATUS_WRITING = true ∧ t.flag k 0 F.REG_ARCH_STATUS_VALID = false ∧
    t = { s with stks := t.stks, halt := t.halt } ∧ ∀ j, j ≠ k → t.stk j = s.stk j)

/-- Registrar registers (R452, R457, R460, R471, R473): FORCE_HALT is reported; KCNT_CLEAR clears the per-kind counters; FIRST and pending
bits are cleared by writing 1; a kind's level changes in every stack that the ring reaches, never below a default of FENCE or HALT. -/
def Claims.RegistrarRegisters : Prop :=
  ∀ (s : State) (src : Source) (k : Nat) (v : Reg32), Shaped s → s.winOk k = true →
    (v.getLsbD 31 = true → Runs (.forceHalt src k v) s (fun t => Raised s t k K.REG_FORCED_HALT 0 ∧
      t.fld k 0 F.REG_CTRL_TELEM_EN = bits v.toNat 0 0 ∧ OnlyStk k s t ∧ RegsRgOnly (s.stk k) (t.stk k))) ∧
    (v.getLsbD 30 = true → Runs (.kcntClear src k v) s (fun t => (t.stk k).rg.kcnt = [] ∧
      t.fld k 0 F.REG_CTRL_TELEM_EN = bits v.toNat 0 0 ∧ OnlyStk k s t ∧ RegsRgOnly (s.stk k) (t.stk k))) ∧
    (v.getLsbD 31 = true → Runs (.firstClear src k v) s (fun t => t.flag k 0 F.REG_FIRST_VALID = false ∧
      t.flag k 0 F.REG_FIRST_OVF = false ∧ t.fld k 0 F.REG_FIRST_KIND = s.fld k 0 F.REG_FIRST_KIND ∧ OnlyStk k s t ∧
      RegsOnly (s.stk k) (t.stk k))) ∧
    (v.getLsbD 31 = false → exec (.firstClear src k v) s = .next s) ∧
    (∀ sev, sev < 4 → Runs (.pendAcknowledge src k sev v) s (fun t =>
      (∀ b, b < 32 → (t.raw k .reg 0 (0x120 + 4 * sev)).testBit b = ((s.raw k .reg 0 (0x120 + 4 * sev)).testBit b && !v.getLsbD b)) ∧
      OnlyStk k s t ∧ RegsOnly (s.stk k) (t.stk k))) ∧
    ∀ x, kindOf (s.fld k 0 F.REG_KIND_SEL_KIND) = some x →
      (x.lvl < 2 ∨ x.lvl ≤ bits v.toNat 1 0 → Runs (.kindCfgWrite src k v) s (fun t => t = { s with stks := t.stks } ∧
        ∀ j, j < s.n → (s.reach k j = false → t.stk j = s.stk j) ∧
          (s.reach k j = true → t.level j x = bits v.toNat 1 0 ∧ (∀ y, y.code ≠ x.code → t.level j y = s.level j y) ∧
            (t.stk j) = { s.stk j with rg := { (s.stk j).rg with levels := (t.stk j).rg.levels } }))) ∧
      (2 ≤ x.lvl → bits v.toNat 1 0 < x.lvl → exec (.kindCfgWrite src k v) s = .next s)

/-- SAFE (R461, R462): an entry that cannot complete forces a base-die reset and is reported; EXIT is rejected with its blocker, or the
stack serves again from the next tick; after a memory-rail fault only RETIRED tiles keep their state. -/
def Claims.Safe : Prop :=
  (∀ (s : State) (k : Nat), Shaped s → s.mode ≠ .off → k < s.n → s.inSafe k = true → (s.stk k).safeEntry = true →
    Runs (.safeForcedReset k) s (fun t => t.inReset k = true ∧ Raised s t k K.REG_SAFE_FORCED_RESET 0 ∧
      (s.inReset k = false → (t.stk k).resetRetain = true ∧ (t.stk k).table = []))) ∧
  ∀ (s : State) (src : Source) (k : Nat) (v : Reg32) (railsOk : Bool), Shaped s → s.winOk k = true → v.getLsbD 31 = true →
    s.inSafe k = true → (s.stk k).stkNext = none →
    (s.exitBlock k railsOk ≠ 0 → Runs (.safeExit src k v railsOk) s (fun t => t.flag k 0 F.REG_SAFE_STATUS_EXIT_REJECT = true ∧
      t.fld k 0 F.REG_SAFE_STATUS_BLOCK = s.exitBlock k railsOk ∧ OnlyStk k s t ∧ RegsOnly (s.stk k) (t.stk k))) ∧
    (s.exitBlock k railsOk = 0 → Runs (.safeExit src k v railsOk) s (fun t => (t.stk k).stkNext = some .asPackage ∧
      t.flag k 0 F.REG_SAFE_STATUS_SAFE = false ∧ t.flag k 0 F.REG_SAFE_STATUS_EXIT_REJECT = false ∧
      ((s.stk k).pw.memFault = true → (t.stk k).lines = [] ∧ (t.stk k).tiles = (s.stk k).tiles.filter (fun e => e.2 == .retired)) ∧
      ((s.stk k).pw.memFault = false → (t.stk k).lines = (s.stk k).lines ∧ (t.stk k).tiles = (s.stk k).tiles) ∧
      ∀ c ∈ (t.stk k).chans, c.unusable = false → ∀ p ∈ c.pcs, p.selfRefresh = false))

/-- ALIVE and telemetry (R4, R469, R470): ALIVE toggles every 512 ticks and is held at HALT; with TELEM_EN, every 1,024 frames, each
Docent keeps its stack's record in the ring of its lowest usable channel, and the aggregator sends the message, or counts it as skipped
without credit. -/
def Claims.AliveAndTelemetry : Prop :=
  (∀ s : State, (s.halt.isSome = true → exec .aliveToggle s = .next s) ∧
    (s.halt = none → s.tapHolds = false → s.mode = .active ∨ s.mode = .idle →
      (512 ≤ s.now s.agg - s.aliveLast → exec .aliveToggle s = .next { s with
        pins := { s.pins with alive := !s.pins.alive }
        aliveLast := s.now s.agg }) ∧
      (s.now s.agg - s.aliveLast < 512 → exec .aliveToggle s = .next s))) ∧
  (∀ s : State, s.flag s.agg 0 F.REG_CTRL_TELEM_EN = false ∨ s.now s.agg - s.telLast < 1024 → exec .telemetry s = .next s) ∧
  ∀ s : State, Shaped s → s.mode = .active ∨ s.mode = .idle → s.aggChosen = true → s.flag s.agg 0 F.REG_CTRL_TELEM_EN = true →
    s.agg < s.n → s.refPort < s.ports.length → 1024 ≤ s.now s.agg - s.telLast → Runs .telemetry s (fun t =>
      t.telLast = s.now s.agg ∧ (∀ k, k < s.n → s.inReset k = false →
        mfind (t.stk k).doc.telRing ((s.stk k).ringCh * 65536 + (s.stk k).doc.telPos) = some (BitVec.ofNat 128 (s.telRecord k)) ∧
        (t.stk k).doc.telPos = ((s.stk k).doc.telPos + 1) % 65536) ∧
      (5 ≤ (s.prt s.refPort).mgmtAvail → s.inReset s.agg = false → t.lastTel = s.telMessage ∧ t.telSeq = (s.telSeq + 1) % 65536 ∧
        t.prt s.refPort = { s.prt s.refPort with
          mgmtAvail := (s.prt s.refPort).mgmtAvail - 5
          mgmtRaw := (s.prt s.refPort).mgmtRaw ++ [s.telMessage] } ∧ Counted s t s.agg .reg 0 6 ∧
        ∀ k, s.telCovers k = true → (t.stk k).rg.telCnt = [0, 0, 0, 0] ∧ (t.stk k).rg.telDrop = 0) ∧
      ((s.prt s.refPort).mgmtAvail < 5 ∨ s.inReset s.agg = true → Counted s t s.agg .reg 0 7 ∧ t.ports = s.ports ∧ t.telSeq = s.telSeq))

/-- The Registrar (R449 to R463, R469 to R473). -/
def Obligations.FaultReporting : Prop :=
  Claims.Intake ∧ Claims.HaltBroadcast ∧ Claims.RegistrarRegisters ∧ Claims.Safe ∧ Claims.AliveAndTelemetry

/-! ### Log, mirror and Archive (R454 to R456, R464 to R468, R473, R474) -/

/-- The log and mirror rings (R454 to R456, R473, R511): a record drains from the FIFO with its SEQ into the next place of 4,096; one
overwritten before it was mirrored is counted and reported; the oldest record not mirrored enters the aggregator's mirror, or is
counted where the ring does not reach it; a written index copies a record into the data registers. -/
def Claims.Rings : Prop :=
  (∀ (s : State) (k : Nat) (e : Rec) (rest : List Rec), Shaped s → s.regRuns k = true → (s.stk k).rg.fifo = e :: rest →
    Runs (.logRecordWrite k) s (fun t => (t.stk k).rg.fifo = rest ∧
      mfind (t.stk k).rg.log (s.stk k).rg.logNext = some { e with seq := (s.stk k).rg.seq, sysId := s.sysId k } ∧
      (∀ i, i ≠ (s.stk k).rg.logNext → mfind (t.stk k).rg.log i = mfind (s.stk k).rg.log i) ∧
      (t.stk k).rg.logNext = ((s.stk k).rg.logNext + 1) % 4096 ∧ (t.stk k).rg.seq = ((s.stk k).rg.seq + 1) % 65536 ∧
      Counted s t k .reg 0 1 ∧ { e with seq := (s.stk k).rg.seq, sysId := s.sysId k } ∈ (t.stk k).rg.toMirror ∧
      (∀ o, mfind (s.stk k).rg.log (s.stk k).rg.logNext = some o → o ∈ (s.stk k).rg.toMirror →
        Counted s t k .reg 0 5 ∧ Raised s t k K.REG_MIRROR_LOST 0) ∧ OnlyStk k s t)) ∧
  (∀ (s : State) (k : Nat) (e : Rec) (rest : List Rec), Shaped s → s.regRuns k = true → s.aggChosen = true → s.agg < s.n →
    s.inReset s.agg = false → (s.stk k).rg.toMirror = e :: rest → Runs (.mirrorRecord k) s (fun t => (t.stk k).rg.toMirror = rest ∧
      (s.reach k s.agg = true → mfind (t.stk s.agg).rg.mirror (s.stk s.agg).rg.mirNext = some e ∧
        (∀ i, i ≠ (s.stk s.agg).rg.mirNext → mfind (t.stk s.agg).rg.mirror i = mfind (s.stk s.agg).rg.mirror i) ∧
        (t.stk s.agg).rg.mirNext = ((s.stk s.agg).rg.mirNext + 1) % 16384 ∧ (k ≠ s.agg → Counted s t k .stk 0 2)) ∧
      (s.reach k s.agg = false → Counted s t k .reg 0 5 ∧ OnlyStk k s t) ∧
      t = { s with stks := t.stks } ∧ ∀ j, j ≠ k → j ≠ s.agg → t.stk j = s.stk j)) ∧
  ∀ (s : State) (src : Source) (k : Nat) (v : Reg32), Shaped s → s.winOk k = true →
    Runs (.logRdIdxWrite src k v) s (fun t => t.fld k 0 F.REG_LOG_RD_IDX_INDEX = bits v.toNat 11 0 ∧
      (∀ w, w < 4 → t.raw k .reg 0 (0x158 + 4 * w) =
        (match mfind (s.stk k).rg.log (bits v.toNat 11 0) with | some r => r.word w % 2 ^ 32 | none => 0)) ∧
      OnlyStk k s t ∧ RegsOnly (s.stk k) (t.stk k)) ∧
    Runs (.mirRdIdxWrite src k v) s (fun t => t.fld k 0 F.REG_MIR_RD_IDX_INDEX = bits v.toNat 13 0 ∧
      (∀ w, w < 4 → t.raw k .reg 0 (0x178 + 4 * w) =
        (match mfind (s.stk k).rg.mirror (bits v.toNat 13 0) with | some r => r.word w % 2 ^ 32 | none => 0)) ∧
      OnlyStk k s t ∧ RegsOnly (s.stk k) (t.stk k))

/-- The Archive (R464, R466, R468, R474): it ends VALID, in the channel Docent chooses or as a subset in the Vitrine where none qualifies;
a read of the data register returns the word at the source's own offset and advances it; DISCARD clears it. -/
def Claims.Archives : Prop :=
  (∀ (s : State) (k : Nat), Shaped s → s.regRuns k = true → s.flag k 0 F.REG_ARCH_STATUS_WRITING = true →
    Runs (.archiveDone k) s (fun t => t.flag k 0 F.REG_ARCH_STATUS_VALID = true ∧ t.flag k 0 F.REG_ARCH_STATUS_WRITING = false ∧
      t.fld k 0 F.REG_ARCH_STATUS_SUBSET = b2n (archChannel s k).isNone ∧
      t.fld k 0 F.REG_ARCH_STATUS_CHANNEL = (archChannel s k).getD 0 ∧ (mget (t.stk k).rg.archWords 0 0#32).toNat = 0x41524356)) ∧
  ∀ (s : State) (src : Source) (k : Nat) (v : Reg32), Shaped s → s.winOk k = true →
    Runs (.archDataRead src k) s (fun t => t.mgmtOut = (BitVec.ofNat 32 (s.archWord k (s.archOffset k src)), stOk) ∧
      t.archOffset k src = (s.archOffset k src + 1) % 2 ^ 22 ∧
      (∀ q, Source.code q ≠ Source.code src → t.archOffset k q = s.archOffset k q) ∧
      t = { s with stks := t.stks, mgmtOut := t.mgmtOut } ∧ (∀ j, j ≠ k → t.stk j = s.stk j)) ∧
    (v.getLsbD 31 = true → Runs (.archDiscard src k v) s (fun t => (t.stk k).rg.archWords = [] ∧
      t.flag k 0 F.REG_ARCH_STATUS_VALID = false ∧ (t.raw k .reg 0 0x0C).testBit 16 = false ∧ OnlyStk k s t ∧
      RegsRgOnly (s.stk k) (t.stk k))) ∧
    (v.getLsbD 31 = false → exec (.archDiscard src k v) s = .next s)

/-- Log, mirror and Archive (R454 to R456, R464, R466, R468, R473, R474). -/
def Obligations.LogAndArchive : Prop := Claims.Rings ∧ Claims.Archives

/-! ### Start-up (R407, R437, R477 to R482) -/

/-- Every part of the start check is good (R478). -/
def checkOk : StartCheck := { docentOk := true, otpOk := true, powerOk := true, timerOk := true }

/-- Steps 1 to 4 (R407, R477 to R479): VIN_VALID starts the package; with RESET_N low the sequence holds after step 2; else OTP is sensed
and the lifecycle decided, and Docent boots, or a part of the start check that fails holds its stack in SAFE. -/
def Claims.VinValid : Prop :=
  ∀ (s : State) (chks : List StartCheck), Shaped s → s.mode = .off → s.pins.ovpHeld = false → Runs (.vinValid chks) s (fun t =>
    t.mode = .starting ∧ t.pins.pwrGood = true ∧ Shaped t ∧
    (s.pins.resetN = false → ∀ k, k < s.n → (t.stk k).doc.bootStep = 2 ∧ (t.stk k).latches.cause = (s.stk k).latches.cause ||| 1) ∧
    (s.pins.resetN = true → ∀ k, k < s.n → (s.stk k).doc.startFail = false →
      (t.stk k).otp.lifecycle = (s.stk k).otp.decideLc.1 ∧ SameCells (s.stk k).otp (t.stk k).otp ∧
      ∀ c, chks[k]? = some c →
        ((c.docentOk && c.otpOk && c.powerOk) = true → (t.stk k).doc.bootStep = 4 ∧
          ((s.stk k).latches.critFail = true → t.inSafe k = true ∧ (t.stk k).doc.heldSafe = true)) ∧
        ((c.docentOk && c.otpOk && c.powerOk) = false → (t.stk k).doc.bootStep = 3 ∧ (t.stk k).doc.startFail = true ∧
          (t.stk k).doc.heldSafe = true ∧ t.inSafe k = true ∧ Raised s t k K.DOC_START_FAIL 0)))

/-- Steps 5 to 11 (R380, R385, R411, R477 to R482): with a qualified source, PLLs that lock and good checks, a stack that is not held
completes step 11; without a lock it is held in SAFE; without a source the sequence waits. -/
def Claims.StartReference : Prop :=
  ∀ (s : State) (k : Nat) (qual : List Bool) (failed : List Nat), Shaped s → s.mode = .starting → k < s.n →
    s.pins.resetN = true → (s.stk k).doc.bootStep = 4 → (s.stk k).doc.startFail = false → 3 ≤ s.ref.index →
    (∀ i, s.firstSrc qual 3 = some i → (s.stk k).latches.critFail = false → (s.stk k).otp.checkFail.getD 3 false = false →
      Runs (.startReference k qual checkOk true failed) s (fun t => (t.stk k).doc.bootStep = 11 ∧ (t.stk k).clk.corePll = 2 ∧
        (t.stk k).clk.fixPll = 2 ∧ (t.stk k).clk.docPll = true ∧ t.ref.index = i ∧ t.ref.state = 0 ∧ s.srcPort i = some t.ref.port ∧
        (t.stk k).pw.railOk = [true, true, true, true] ∧ (t.stk k).pw.railsRun = true ∧ (t.stk k).lines = [] ∧ (t.stk k).openList = [] ∧
        ∀ x, (t.stk k).tileSt x = .invalid ∨ (t.stk k).tileSt x = .retired)) ∧
    (∀ i, s.firstSrc qual 3 = some i → Runs (.startReference k qual checkOk false failed) s (fun t =>
      (t.stk k).doc.bootStep = 5 ∧ (t.stk k).clk.corePll = 3 ∧ (t.stk k).doc.startFail = true ∧ t.inSafe k = true ∧
      Raised s t k K.CLK_PLL_FAIL 0 ∧ t.ref.index = i)) ∧
    (s.firstSrc qual 3 = none → ∀ chk locked, exec (.startReference k qual chk locked failed) s =
      .next { s with ref := { s.ref with qual := qual } })

/-- A step that takes too long holds its stack in SAFE; the package is ACTIVE once every other stack has completed step 11 and the
timing port's link is up (R477, R479). -/
def Claims.StartEnd : Prop :=
  (∀ (s : State) (k : Nat), Shaped s → s.mode = .starting → k < s.n → 5 ≤ (s.stk k).doc.bootStep → (s.stk k).doc.bootStep < 11 →
    (s.stk k).doc.heldSafe = false → Runs (.startWatchdog k) s (fun t => (t.stk k).doc.startFail = true ∧
      (t.stk k).doc.heldSafe = true ∧ t.inSafe k = true ∧ Raised s t k K.DOC_START_FAIL 0 ∧ OnlyStk k s t)) ∧
  ∀ s : State, Shaped s → s.mode = .starting → s.ref.index < 3 → (s.prt s.ref.port).lstate = .active →
    (∀ k, k < s.n → (s.stk k).doc.heldSafe = true ∨ 11 ≤ (s.stk k).doc.bootStep) → Runs .packageActive s (fun t =>
      t.mode = .active ∧ t.idleFrames = 0 ∧ t = { s with mode := .active, idleFrames := 0, stks := t.stks } ∧
      ∀ k, k < s.n → ((s.stk k).doc.heldSafe = true → t.stk k = s.stk k) ∧
        ((s.stk k).doc.heldSafe = false → t.stk k = { s.stk k with doc := { (s.stk k).doc with bootStep := 13 } }))

/-- Start-up (R407, R437, R477 to R482). -/
def Obligations.StartUp : Prop := Claims.VinValid ∧ Claims.StartReference ∧ Claims.StartEnd

/-! ### Resets (R412, R483, R484, R494, R502) -/

/-- A package reset has brought the package to start: the dies' contents, the OTP array and the latches stay, requests and registers do
not, and tiles are INVALID (R483). -/
def PackageWasReset (s t : State) : Prop :=
  t.mode = .starting ∧ t.dies = s.dies ∧ Shaped t ∧ t.halt = none ∧ t.aggChosen = false ∧ ∀ k, k < s.n →
    (t.stk k).table = [] ∧ (t.stk k).lines = [] ∧ (t.stk k).tiles = [] ∧ (t.stk k).labels = [] ∧ (t.stk k).admQ = [] ∧
    (t.stk k).latches.cause = (s.stk k).latches.cause ||| 1 ∧ SameCells (s.stk k).otp (t.stk k).otp ∧
    t.fld k 0 F.STK_RESET_STATUS_LAST = 3

/-- Package resets (R477, R483, R494, R502): RESET_N low for 1 µs resets the package and holds it after step 2 until the pin rises; below
100 ns it is ignored, and between them either holds; in OFF it only holds the start. PKG_RESET with its key does the same without the
hold. -/
def Claims.PackageResets : Prop :=
  (∀ (s : State) (ns : Nat), Shaped s →
    (ns < 100 → exec (.resetN ns) s = .next s) ∧
    (1000 ≤ ns → s.mode ≠ .off → Runs (.resetN ns) s (fun t => PackageWasReset s t ∧ t.pins.resetN = false ∧
      ∀ k, k < s.n → (t.stk k).doc.bootStep = 2)) ∧
    (100 ≤ ns → ns < 1000 → s.mode ≠ .off → Runs (.resetN ns) s (fun t => t = { s with free := s.free + 1 } ∨
      (PackageWasReset s t ∧ t.pins.resetN = false))) ∧
    (1000 ≤ ns → s.mode = .off → Runs (.resetN ns) s (fun t => t.mode = .off ∧ t.pins.resetN = false))) ∧
  (∀ s : State, Shaped s → Runs .resetNRelease s (fun t => t.pins.resetN = true ∧ t.mode = s.mode ∧
    (s.mode = .starting → ∀ k, k < s.n → (s.stk k).doc.bootStep = 2 → (t.stk k).doc.bootStep = 3 ∧
      (t.stk k).otp.lifecycle = (s.stk k).otp.decideLc.1) ∧
    (s.mode ≠ .starting → t = { s with pins := { s.pins with resetN := true } }))) ∧
  ∀ (s : State) (src : Source) (k : Nat) (v : Reg32), Shaped s → s.winOk k = true →
    (v.getLsbD 29 = true → bits v.toNat 7 0 = 0xA5 → Runs (.pkgReset src k v) s (fun t => PackageWasReset s t ∧
      ∀ j, j < s.n → (t.stk j).doc.bootStep = 3)) ∧
    (v.getLsbD 29 = false ∨ bits v.toNat 7 0 ≠ 0xA5 → exec (.pkgReset src k v) s = .next s)

/-- Base-die resets (R484, R494): GO empties the stack's tables, drops its links and puts its dies into self-refresh; at the release the
stack serves again, with its tiles and lines where the reset ran with retention, and counts the reset; one that stops a self-test runs
with retention where the save image is valid, and restores the tile states from it. -/
def Claims.BaseDieResets : Prop :=
  (∀ (s : State) (src : Source) (k : Nat) (v : Reg32), Shaped s → s.winOk k = true → v.getLsbD 31 = true →
    pkgResetAsked v.toNat = false →
    ∀ c ∈ ([(.warmResetRetain src k v, true), (.warmResetNoRetain src k v, false)] : List (Instr × Bool)), v.getLsbD 30 = c.2 →
      Runs c.1 s (fun t => t.inReset k = true ∧ (t.stk k).resetRetain = c.2 ∧ (t.stk k).table = [] ∧ (t.stk k).admQ = [] ∧
        (t.stk k).seals = [] ∧ (t.stk k).tiles = (s.stk k).tiles ∧ (t.stk k).lines = (s.stk k).lines ∧ t.dies = s.dies ∧
        (∀ x ∈ (t.stk k).chans, ∀ p ∈ x.pcs, p.selfRefresh = true) ∧
        ∀ i, i < 4 → (t.prt (4 * k + i)).lstate = .detect ∧ (t.prt (4 * k + i)).ingress = [])) ∧
  (∀ (s : State) (k : Nat), Shaped s → k < s.n → s.inReset k = true → (s.stk k).bst.phase ≠ 0 →
    Runs (.baseDieResetRelease k) s (fun t => t.inReset k = false ∧ (t.stk k).bst.phase = 0 ∧
      ((s.stk k).bst.saveValid = true → t.fld k 0 F.STK_RESET_STATUS_LAST = 1 ∧ t.fld k 0 F.STK_RESET_STATUS_FROM_SAVE = 1 ∧
        ((∀ c, c < 32 → ((s.stk k).ch c).unusable = false) → (t.stk k).tiles = (s.stk k).bst.saveTiles)) ∧
      ((s.stk k).bst.saveValid = false → t.fld k 0 F.STK_RESET_STATUS_LAST = 2 ∧ t.fld k 0 F.STK_RESET_STATUS_FROM_SAVE = 0 ∧
        (t.stk k).lines = []))) ∧
  ∀ (s : State) (k : Nat), Shaped s → k < s.n → s.inReset k = true → (s.stk k).bst.phase = 0 →
    Runs (.baseDieResetRelease k) s (fun t => t.inReset k = false ∧ t.dies = s.dies ∧
      t.fld k 0 F.STK_RESET_STATUS_WARM_COUNT = min 65535 (s.fld k 0 F.STK_RESET_STATUS_WARM_COUNT + 1) ∧
      (t.stk k).labels = (s.stk (s.copyFrom k)).labels ∧
      ((s.stk k).resetRetain = true → t.fld k 0 F.STK_RESET_STATUS_LAST = 1 ∧ (t.stk k).tiles = (s.stk k).tiles ∧
        (t.stk k).lines = (s.stk k).lines ∧ (t.stk k).openList = (s.stk k).openList) ∧
      ((s.stk k).resetRetain = false → t.fld k 0 F.STK_RESET_STATUS_LAST = 2 ∧ (t.stk k).lines = [] ∧ (t.stk k).openList = [] ∧
        ∀ x, (t.stk k).tileSt x = .invalid ∨ (t.stk k).tileSt x = .retired) ∧
      ∀ i, i < 4 → (t.prt (4 * k + i)).lstate =
        (if (s.prt (4 * k + i)).physLane ≠ [] ∧ (s.prt (4 * k + i)).unusable = false then .train else .detect))

/-- Package and base-die resets (R483, R484, R494, R502). -/
def Obligations.Resets : Prop := Claims.PackageResets ∧ Claims.BaseDieResets

/-! ### Self-test (R485 to R490) -/

/-- Self-test requests (R485, R489, R490): a GO is rejected with its reason, or begins with SAVE; CANCEL waits for a phase that can
stop. -/
def Claims.BstRequests : Prop :=
  ∀ (s : State) (src : Source) (k : Nat) (v : Reg32), Shaped s → s.winOk k = true →
    (∀ c ∈ ([(.bstRequest src k v, false), (.bstShutdown src k v, true)] : List (Instr × Bool)), v.getLsbD 31 = true →
      v.getLsbD 29 = c.2 → v.getLsbD 30 = false →
      (s.bstReject k (bits v.toNat 5 0) ≠ 0 → Runs c.1 s (fun t => t.flag k 0 F.BST_STATUS_REJECTED = true ∧
        t.fld k 0 F.BST_STATUS_REJECT_WHY = s.bstReject k (bits v.toNat 5 0) ∧ OnlyStk k s t ∧ RegsOnly (s.stk k) (t.stk k))) ∧
      (s.bstReject k (bits v.toNat 5 0) = 0 → Runs c.1 s (fun t => (t.stk k).bst.phase = 1 ∧
        (t.stk k).bst.sel = bits v.toNat 5 0 ∧ (t.stk k).bst.mode = c.2 ∧ (t.stk k).bst.noBurn = v.getLsbD 28 ∧ (t.stk k).bst.fails = [] ∧
        (t.stk k).bst.saveValid = false ∧ t.flag k 0 F.BST_STATUS_BUSY = true ∧ t.fld k 0 F.BST_STATUS_PHASE = 1 ∧
        Counted s t k .bst 0 0 ∧ OnlyStk k s t))) ∧
    (v.getLsbD 30 = true → v.getLsbD 31 = false → Runs (.bstCancel src k v) s (fun t =>
      (t.stk k).bst = { (s.stk k).bst with
        cancelPend := (s.stk k).bst.cancelPend || decide (1 ≤ (s.stk k).bst.phase ∧ (s.stk k).bst.phase ≤ 4) } ∧
      OnlyStk k s t ∧ t.stk k = { s.stk k with regs := (t.stk k).regs, bst := (t.stk k).bst }))

/-- Self-test phases (R486, R488, R490): SAVE empties the Vitrine and puts the dies into self-refresh; a failure found is listed,
reported, and takes its block out of use, once; a CANCEL goes on with RESTORE, which brings back the saved tile states and wakes the
dies; RECORD ends the test with its result, a SHUTDOWN one with the dies in self-refresh. -/
def Claims.BstPhases : Prop :=
  (∀ (s : State) (k : Nat) (fails : List BstFinding), Shaped s → k < s.n → (s.stk k).bst.phase = 1 → (s.stk k).bst.cancelPend = false →
    Runs (.bstPhaseDone k fails) s (fun t => (t.stk k).lines = [] ∧ (t.stk k).bst.saveValid = true ∧
      (t.stk k).bst.phase = nextPhase (s.stk k).bst.sel 1 ∧ ∀ c ∈ (t.stk k).chans, c.accs = [] ∧ ∀ p ∈ c.pcs, p.selfRefresh = true)) ∧
  (∀ (s : State) (k : Nat), Shaped s → k < s.n → 2 ≤ (s.stk k).bst.phase → (s.stk k).bst.phase ≤ 4 →
    ((s.stk k).bst.cancelPend = true → Runs (.bstPhaseDone k []) s (fun t => (t.stk k).bst.phase = 5 ∧
      (t.stk k).bst.cancelPend = false ∧ t.flag k 0 F.BST_STATUS_CANCELLED = true ∧ Counted s t k .bst 0 2 ∧ OnlyStk k s t)) ∧
    ∀ f : BstFinding, (s.stk k).bst.cancelPend = false → findingOk (s.stk k).bst.sel (s.stk k).bst.phase f = true →
      (s.stk k).bst.fails.length < 64 → f.inst < (s.stk k).chans.length → Runs (.bstPhaseDone k [f]) s (fun t =>
        (t.stk k).bst.phase = nextPhase (s.stk k).bst.sel (s.stk k).bst.phase ∧
        (t.stk k).bst.fails = (if s.isUnusable k f.kind f.inst = true then (s.stk k).bst.fails
          else (s.stk k).bst.fails ++ [(f, false)]) ∧
        (s.isUnusable k f.kind f.inst = false → f.kind ≠ 5 → Raised s t k K.BST_BLOCK_FAIL 0) ∧
        (f.kind = 1 → ((t.stk k).ch f.inst).unusable = true) ∧ (f.kind = 2 → ((t.stk k).ch f.inst).viUnusable = true) ∧
        (f.kind = 3 → (t.prt (4 * k + f.inst)).unusable = true) ∧ (f.kind = 4 → ((t.stk k).ch f.inst).nduUnusable = true))) ∧
  (∀ (s : State) (k : Nat), Shaped s → k < s.n → (s.stk k).bst.phase = 5 → Runs (.bstPhaseDone k []) s (fun t =>
    (t.stk k).bst.phase = 6 ∧
    ((s.stk k).bst.saveValid = true → (∀ c, c < 32 → ((s.stk k).ch c).unusable = false) → (t.stk k).tiles = (s.stk k).bst.saveTiles) ∧
    (∀ c ∈ (t.stk k).chans, c.unusable = false → ∀ p ∈ c.pcs, p.selfRefresh = false ∧ p.trkDue = true) ∧
    ((s.stk k).bst.critical = true → (t.stk k).latches.critFail = true ∧ Raised s t k K.BST_CRIT_FAIL 0))) ∧
  ∀ (s : State) (k : Nat), Shaped s → k < s.n → (s.stk k).bst.phase = 6 →
    Runs (.bstPhaseDone k []) s (fun t => (t.stk k).bst.phase = 0 ∧ (t.stk k).bst.saveValid = false ∧
      (t.stk k).bst.shutdown = (s.stk k).bst.mode ∧ (t.stk k).bst.fails.map (·.1) = (s.stk k).bst.fails.map (·.1) ∧ t.flag k 0 F.BST_STATUS_BUSY = false ∧ t.flag k 0 F.BST_STATUS_DONE = true ∧
      (t.stk k).latches.critFail = (s.stk k).bst.critical ∧
      (s.flag k 0 F.BST_STATUS_CANCELLED = false → (t.stk k).latches.lastPass = (s.stk k).bst.fails.isEmpty ∧
        ((s.stk k).bst.fails = [] → Counted s t k .bst 0 1)) ∧
      (s.flag k 0 F.BST_STATUS_CANCELLED = true → (t.stk k).latches.lastPass = (s.stk k).latches.lastPass) ∧
      ((s.stk k).bst.mode = true → ∀ c ∈ (t.stk k).chans, ∀ p ∈ c.pcs, p.selfRefresh = true) ∧
      ((s.stk k).bst.noBurn = true → (s.stk k).bst.mode = false → (t.stk k).bst.fails = (s.stk k).bst.fails ∧
        Pulsed s t k .bst 0 0 ∧ t = { s with stks := t.stks, irqs := t.irqs } ∧ ∀ j, j ≠ k → t.stk j = s.stk j))

/-- Self-test (R485 to R490). -/
def Obligations.SelfTest : Prop := Claims.BstRequests ∧ Claims.BstPhases

/-! ### PMBus (R392, R395, R504, R505) -/

/-- The words of a LINEAR11 reading: out stands for x / d to within one unit of its mantissa (R505; PRESUMED, notes/assumptions/20.md). -/
def ReadsAs (out : Nat) (x : Int) (d : Nat) : Prop :=
  ∃ (e : Nat) (m : Int), out = ofSigned 5 ((e : Int) - 16) * 2 ^ 11 + ofSigned 11 m ∧ (m * (d * 2 ^ e : Nat) - x * 2 ^ 16).natAbs < d * 2 ^ e

/-- PMBus reads (R392, R395, R504, R505): the aggregator answers, an access in IDLE wakes the package, and in RETAIN only the telemetry
reads are acknowledged; an unlisted code is not and sets CML. The LINEAR11 exponent and the STATUS_WORD places are the model's
(PRESUMED, notes/assumptions/20.md). -/
def Claims.PmbusReads : Prop :=
  (∀ s : State, ∀ c ∈ ([(.capability, 0xC0), (.statusWord, statusWord s), (.pmbusRevision, 0x33), (.mfrMgmtStatus, s.pmbus.mgmt)] :
      List (Instr × Nat)),
    (s.pmbusUp = true → s.mode ≠ .idle → s.mode ≠ .retain →
      exec c.1 s = .next { s with pmbus := { s.pmbus with ack := true, out := c.2 } }) ∧
    (s.pmbusUp = true → s.mode = .idle → s.modeNext = none → exec c.1 s = .next { s with
      pmbus := { s.pmbus with ack := true, out := c.2 }
      modeNext := some .active
      wakeCause := 5 }) ∧
    (s.pmbusUp = false ∨ s.mode = .retain → exec c.1 s = .next { s with pmbus := { s.pmbus with ack := false } })) ∧
  (∀ s : State, s.agg < s.n → s.mode ≠ .idle →
    (∀ c ∈ ([.readVin, .readIin, .readTemperature1, .readTemperature2, .readPin] : List Instr),
      (s.pmbusUp = false → exec c s = .next { s with pmbus := { s.pmbus with ack := false } }) ∧
      (s.pmbusUp = true → Runs c s (fun t => t.pmbus.ack = true ∧
        t = { s with free := s.free + 1, pmbus := { s.pmbus with ack := true, out := t.pmbus.out } }))) ∧
    (s.pmbusUp = true →
      Runs .readVin s (fun t => ∃ v, (∃ x ∈ s.covered, x.pw.vinMv = v) ∧ (∀ x ∈ s.covered, v ≤ x.pw.vinMv) ∧ ReadsAs t.pmbus.out v 1000) ∧
      Runs .readIin s (fun t => ReadsAs t.pmbus.out (s.covered.map (fun x => (x.pw.iin : Int))).sum 1000) ∧
      Runs .readTemperature1 s (fun t => ∃ v, (∃ x ∈ s.covered, x.hottest.2 = v) ∧ (∀ x ∈ s.covered, x.hottest.2 ≤ v) ∧
        ReadsAs t.pmbus.out v 4) ∧
      Runs .readTemperature2 s (fun t => ∃ v, (∃ x ∈ s.covered, x.th.lidUse = v) ∧ (∀ x ∈ s.covered, x.th.lidUse ≤ v) ∧
        ReadsAs t.pmbus.out v 4) ∧
      Runs .readPin s (fun t => ReadsAs t.pmbus.out (s.covered.map (fun x => (x.pw.pin : Int))).sum 10))) ∧
  (∀ s : State, s.pmbusUp = true → s.mode ≠ .idle → s.mode ≠ .retain → exec .clearFaults s = .next { s with pmbus := { s.pmbus with
    ack := true
    out := 0
    uvFault := false
    ovFault := false
    tempFault := !s.pins.thermN
    cml := false } }) ∧
  ∀ (s : State) (code : Byte), (pmbusCodes.contains code.toNat = true → exec (.pmbusUnsupported code) s = .next s) ∧
    (pmbusCodes.contains code.toNat = false → s.pmbusUp = true → s.mode ≠ .idle →
      exec (.pmbusUnsupported code) s = .next { s with pmbus := { s.pmbus with ack := false, cml := true } })

/-- Management over PMBus (R12, R75, R88, R395, R505): the address is held; a read returns value and status; a write of a plain register
takes it by the access types; in RETAIN only a mailbox write is acknowledged, and wakes the package. -/
def Claims.PmbusManagement : Prop :=
  (∀ (s : State) (v : Reg32), s.pmbusUp = true → s.mode ≠ .idle →
    exec (.mfrMgmtAddr v) s = .next { s with pmbus := { s.pmbus with ack := true, out := 0, addr := v } }) ∧
  (∀ s : State, s.pmbusUp = true → s.mode ≠ .idle → s.mode ≠ .retain →
    Runs .mfrMgmtDataRead s (fun t => t.pmbus.ack = true ∧ t.pmbus.out = (mgmtRd s .pmbus s.pmbus.addr.toNat).1.2 ∧
      t.pmbus.mgmt = mfrStatus (mgmtRd s .pmbus s.pmbus.addr.toNat).1.1 ∧ t.pmbus.addr = s.pmbus.addr ∧
      (s.target s.pmbus.addr.toNat = none → t.pmbus.mgmt = 1)) ∧
    (s.target s.pmbus.addr.toNat = none → ∀ v, Runs (.mfrMgmtDataWrite v) s (fun t => t.pmbus.ack = true ∧ t.pmbus.mgmt = 1 ∧
      t.stks = s.stks))) ∧
  (∀ (s : State) (v : Reg32) (k i off : Nat) (pg : Page), Shaped s → s.pmbusUp = true → s.mode ≠ .idle → s.mode ≠ .retain →
    Writable s .pmbus s.pmbus.addr k pg i off → plainAt pg off = true → Runs (.mfrMgmtDataWrite v) s (fun t =>
      (∀ b, b < 32 → (t.raw k pg i off).testBit b = bitAfter pg off (s.raw k pg i off) v.toNat b) ∧
      t = { s with
        stks := t.stks
        mgmtOut := (0, stOk)
        pmbus := { s.pmbus with ack := true, out := 0, mgmt := 0 } } ∧
      (∀ j, j ≠ k → t.stk j = s.stk j) ∧ RegsOnly (s.stk k) (t.stk k))) ∧
  ∀ (s : State) (v : Reg32), Shaped s → s.pmbusUp = true → s.mode = .retain →
    exec .mfrMgmtDataRead s = .next { s with pmbus := { s.pmbus with ack := false } } ∧
    (∀ k, k < s.n → Leads s s.pmbus.addr (k + 1) .doc 0 0x120 → Runs (.mfrMgmtDataWrite v) s (fun t => t.pmbus.ack = true ∧
      t.pmbus.mgmt = 0 ∧ t.mode = .leavingRetain ∧ t.wakeCause = 3 ∧ t.fld k 0 F.DOC_MBOX_IN_DATA = v.toNat)) ∧
    ((∀ k, ¬Leads s s.pmbus.addr (k + 1) .doc 0 0x120) →
      exec (.mfrMgmtDataWrite v) s = .next { s with pmbus := { s.pmbus with ack := false } })

/-- PMBus (R392, R395, R504, R505). -/
def Obligations.Pmbus : Prop := Claims.PmbusReads ∧ Claims.PmbusManagement

/-! ### Test access (R506, R507) -/

/-- TAP k is y, every other is as before, and nothing else changed but what f says. -/
def OnlyTap (k : Nat) (s t : State) (y : Tap) : Prop := t.taps = s.taps.set k y ∧ t = { s with taps := t.taps, free := t.free }

/-- Test access ports (R506, R507): BYPASS and IDCODE always load; the boundary instructions except in SCRAPPED, with the sideband outputs
of the first such stack following its boundary register; the wrappers and logic scan with full access only, and a scanned stack stops;
any instruction that is not permitted, and any unlisted code, loads BYPASS. -/
def Obligations.TestAccess : Prop :=
  ∀ (s : State) (k : Nat) (x : Tap), Shaped s → s.mode ≠ .off → k < s.n → s.taps[k]? = some x →
    Runs (.bypass k) s (fun t => OnlyTap k s t { x with ir := 0xFF, dr := 0 }) ∧
    Runs (.idcode k) s (fun t => OnlyTap k s t { x with ir := 0x01, dr := 0x10000C4B + s.part.code * 2 ^ 12 }) ∧
    (∀ pins : BitVec 9, ∀ c ∈ ([(.samplePreload k pins, 2), (.extest k pins, 3)] : List (Instr × Nat)),
      (s.tapAllows k c.2 = true → Runs c.1 s (fun t => ∃ d, OnlyTap k s t { ir := BitVec.ofNat 8 c.2, dr := d, boundary := pins } ∧
        d.testBit 0 = s.pins.resetN ∧ d.testBit 1 = s.pins.wakeN ∧ d.testBit 2 = s.sideband.1 ∧ d.testBit 3 = s.sideband.2.1 ∧
        d.testBit 4 = s.sideband.2.2 ∧ d.testBit 7 = s.pmbus.strap.testBit 0 ∧ d.testBit 8 = s.pmbus.strap.testBit 1 ∧
        (c.2 = 3 → k = 0 → t.sideband = (pins.getLsbD 2, pins.getLsbD 3, pins.getLsbD 4)))) ∧
      (s.tapAllows k c.2 = false → Runs c.1 s (fun t => OnlyTap k s t { x with ir := 0xFF, dr := 0 }))) ∧
    (∀ c ∈ ([(.clamp k, 4), (.highz k, 5)] : List (Instr × Nat)),
      (s.tapAllows k c.2 = true → Runs c.1 s (fun t => OnlyTap k s t { x with ir := BitVec.ofNat 8 c.2, dr := 0 } ∧
        (k = 0 → t.sideband = (x.boundary.getLsbD 2, x.boundary.getLsbD 3, x.boundary.getLsbD 4)))) ∧
      (s.tapAllows k c.2 = false → Runs c.1 s (fun t => OnlyTap k s t { x with ir := 0xFF, dr := 0 }))) ∧
    ∀ code : Byte,
      (0x10 ≤ code.toNat → code.toNat < 0x20 → s.tapFull k = true →
        Runs (.ieee1500WrapperAccess k code) s (fun t => OnlyTap k s t { x with ir := code })) ∧
      (0x20 ≤ code.toNat → code.toNat < 0x30 → s.tapFull k = true → Runs (.logicScan k code) s (fun t =>
        t.taps = s.taps.set k { x with ir := code } ∧ t.stk k = { s.stk k with scanned := true } ∧ t.unreach k = true ∧
        t = { s with taps := t.taps, stks := t.stks } ∧ ∀ j, j ≠ k → t.stk j = s.stk j)) ∧
      (s.tapFull k = false → (∀ c ∈ ([.ieee1500WrapperAccess k code, .logicScan k code] : List Instr),
        Runs c s (fun t => OnlyTap k s t { x with ir := 0xFF, dr := 0 })))
end

