-- ==== Sys2Proof/Laws/Maps.lean ====
section
/-! SUPPORT. Sparse maps: what a key reads as after a key is listed, removed or written canonically. -/

namespace Sys2Proof.Machine

@[simp] theorem mfind_nil {α : Type} (k : Nat) : mfind ([] : SMap α) k = none := rfl

theorem mfind_cons {α : Type} (j : Nat) (v : α) (m : SMap α) (k : Nat) :
    mfind ((j, v) :: m) k = if j = k then some v else mfind m k := rfl

@[simp] theorem mfind_mset_same {α : Type} (m : SMap α) (k : Nat) (v : α) : mfind (mset m k v) k = some v := by
  induction m with
  | nil => simp [mset, mfind]
  | cons e m ih =>
    obtain ⟨j, w⟩ := e
    unfold mset
    split
    · simp [mfind]
    · split
      · simp [mfind]
      · rename_i h1 h2
        simp [mfind, Ne.symm h2, ih]

theorem mfind_mset_other {α : Type} (m : SMap α) (k j : Nat) (v : α) (h : j ≠ k) :
    mfind (mset m k v) j = mfind m j := by
  induction m with
  | nil => simp [mset, mfind, Ne.symm h]
  | cons e m ih =>
    obtain ⟨i, w⟩ := e
    unfold mset
    split
    · simp [mfind, Ne.symm h]
    · split
      · rename_i h1 h2
        subst h2
        simp [mfind, Ne.symm h]
      · simp only [mfind_cons, ih]

@[simp] theorem mfind_mdel_same {α : Type} (m : SMap α) (k : Nat) : mfind (mdel m k) k = none := by
  induction m with
  | nil => rfl
  | cons e m ih =>
    obtain ⟨i, w⟩ := e
    unfold mdel
    split
    · exact ih
    · rename_i h; simp [mfind, h, ih]

theorem mfind_mdel_other {α : Type} (m : SMap α) (k j : Nat) (h : j ≠ k) : mfind (mdel m k) j = mfind m j := by
  induction m with
  | nil => rfl
  | cons e m ih =>
    obtain ⟨i, w⟩ := e
    unfold mdel
    split
    · rename_i h2; subst h2; simp [mfind, Ne.symm h, ih]
    · simp [mfind, ih]

@[simp] theorem mget_mset_same {α : Type} (m : SMap α) (k : Nat) (v d : α) : mget (mset m k v) k d = v := by
  simp [mget]

theorem mget_mset_other {α : Type} (m : SMap α) (k j : Nat) (v d : α) (h : j ≠ k) :
    mget (mset m k v) j d = mget m j d := by
  simp [mget, mfind_mset_other m k j v h]

/-- A key written canonically reads as the value written. -/
@[simp] theorem mget_mput_same {α : Type} [DecidableEq α] (m : SMap α) (k : Nat) (v d : α) :
    mget (mput m k v d) k d = v := by
  unfold mput
  split
  · rename_i h; simp [mget, h]
  · simp

/-- Another key reads as before, whatever it reads as unlisted. -/
theorem mget_mput_other {α : Type} [DecidableEq α] (m : SMap α) (k j : Nat) (v d e : α) (h : j ≠ k) :
    mget (mput m k v d) j e = mget m j e := by
  unfold mput
  split
  · simp [mget, mfind_mdel_other m k j h]
  · exact mget_mset_other m k j v e h

end Sys2Proof.Machine
end

