-- ==== Sys2Proof/Laws/Bits.lean ====
section
/-! SUPPORT. Bit fields of a register value: what a field reads as after a field is replaced. -/

namespace Sys2Proof.Machine

/-- A replaced field splits the number at its ends. -/
theorem putBits_eq (n hi lo v : Nat) (h : lo ≤ hi + 1) :
    putBits n hi lo v = n / 2 ^ (hi + 1) * 2 ^ (hi + 1) + v % 2 ^ (hi + 1 - lo) * 2 ^ lo + n % 2 ^ lo := by
  have hp : 2 ^ (hi + 1) = 2 ^ lo * 2 ^ (hi + 1 - lo) := by
    rw [← Nat.pow_add]; congr 1; omega
  have h1 : n = n / 2 ^ (hi + 1) * 2 ^ (hi + 1) + (n / 2 ^ lo % 2 ^ (hi + 1 - lo)) * 2 ^ lo + n % 2 ^ lo := by
    have a := Nat.div_add_mod n (2 ^ lo)
    have b := Nat.div_add_mod (n / 2 ^ lo) (2 ^ (hi + 1 - lo))
    have c : n / 2 ^ lo / 2 ^ (hi + 1 - lo) = n / 2 ^ (hi + 1) := by rw [Nat.div_div_eq_div_mul, ← hp]
    rw [c] at b
    calc n = 2 ^ lo * (n / 2 ^ lo) + n % 2 ^ lo := a.symm
      _ = 2 ^ lo * (2 ^ (hi + 1 - lo) * (n / 2 ^ (hi + 1)) + n / 2 ^ lo % 2 ^ (hi + 1 - lo)) + n % 2 ^ lo := by rw [b]
      _ = _ := by rw [hp]; ring
  unfold putBits bits
  simp only [Nat.shiftRight_eq_div_pow, Nat.shiftLeft_eq]
  omega

/-- A field reads as the value put into it. -/
theorem bits_putBits_same (n hi lo v : Nat) (h : lo ≤ hi + 1) :
    bits (putBits n hi lo v) hi lo = v % 2 ^ (hi + 1 - lo) := by
  rw [putBits_eq n hi lo v h]
  unfold bits
  have hp : 2 ^ (hi + 1) = 2 ^ lo * 2 ^ (hi + 1 - lo) := by
    rw [← Nat.pow_add]; congr 1; omega
  have hl : 0 < 2 ^ lo := by positivity
  rw [Nat.shiftRight_eq_div_pow, hp,
    show n / (2 ^ lo * 2 ^ (hi + 1 - lo)) * (2 ^ lo * 2 ^ (hi + 1 - lo)) + v % 2 ^ (hi + 1 - lo) * 2 ^ lo + n % 2 ^ lo =
      n % 2 ^ lo + 2 ^ lo * (v % 2 ^ (hi + 1 - lo) + 2 ^ (hi + 1 - lo) * (n / (2 ^ lo * 2 ^ (hi + 1 - lo)))) by ring,
    Nat.add_mul_div_left _ _ hl, Nat.div_eq_of_lt (Nat.mod_lt _ hl), Nat.zero_add, Nat.add_mul_mod_self_left, Nat.mod_mod]

/-- A field below the one replaced reads as before. -/
theorem bits_putBits_below (n hi lo v a b : Nat) (h : lo ≤ hi + 1) (ha : a < lo) (hb : b ≤ a + 1) :
    bits (putBits n hi lo v) a b = bits n a b := by
  have key : ∀ x y : Nat, x % 2 ^ lo = y % 2 ^ lo → bits x a b = bits y a b := by
    intro x y hxy
    unfold bits
    rw [Nat.shiftRight_eq_div_pow, Nat.shiftRight_eq_div_pow]
    have e : 2 ^ (a + 1) = 2 ^ b * 2 ^ (a + 1 - b) := by rw [← Nat.pow_add]; congr 1; omega
    have f : ∀ z : Nat, z / 2 ^ b % 2 ^ (a + 1 - b) = z % 2 ^ (a + 1) / 2 ^ b := by
      intro z; rw [e, Nat.mod_mul_right_div_self]
    have g : ∀ z : Nat, z % 2 ^ (a + 1) = z % 2 ^ lo % 2 ^ (a + 1) := by
      intro z; rw [Nat.mod_mod_of_dvd]; exact Nat.pow_dvd_pow 2 (by omega)
    rw [f, f, g x, g y, hxy]
  apply key
  rw [putBits_eq n hi lo v h]
  have hp : 2 ^ (hi + 1) = 2 ^ lo * 2 ^ (hi + 1 - lo) := by
    rw [← Nat.pow_add]; congr 1; omega
  rw [hp, show n / (2 ^ lo * 2 ^ (hi + 1 - lo)) * (2 ^ lo * 2 ^ (hi + 1 - lo)) + v % 2 ^ (hi + 1 - lo) * 2 ^ lo + n % 2 ^ lo =
      n % 2 ^ lo + 2 ^ lo * (v % 2 ^ (hi + 1 - lo) + 2 ^ (hi + 1 - lo) * (n / (2 ^ lo * 2 ^ (hi + 1 - lo)))) by ring,
    Nat.add_mul_mod_self_left, Nat.mod_mod]

/-- A field above the one replaced reads as before. -/
theorem bits_putBits_above (n hi lo v a b : Nat) (h : lo ≤ hi + 1) (hb : hi < b) :
    bits (putBits n hi lo v) a b = bits n a b := by
  unfold bits
  congr 1
  rw [Nat.shiftRight_eq_div_pow, Nat.shiftRight_eq_div_pow, putBits_eq n hi lo v h]
  have e : 2 ^ b = 2 ^ (hi + 1) * 2 ^ (b - (hi + 1)) := by rw [← Nat.pow_add]; congr 1; omega
  rw [e, ← Nat.div_div_eq_div_mul, ← Nat.div_div_eq_div_mul]
  congr 1
  have hp : 2 ^ (hi + 1) = 2 ^ lo * 2 ^ (hi + 1 - lo) := by
    rw [← Nat.pow_add]; congr 1; omega
  have hl : 0 < 2 ^ lo := by positivity
  have hw : 0 < 2 ^ (hi + 1 - lo) := by positivity
  have lt : v % 2 ^ (hi + 1 - lo) * 2 ^ lo + n % 2 ^ lo < 2 ^ (hi + 1) := by
    have a1 := Nat.mod_lt v hw
    have a2 := Nat.mod_lt n hl
    rw [hp]
    calc v % 2 ^ (hi + 1 - lo) * 2 ^ lo + n % 2 ^ lo < v % 2 ^ (hi + 1 - lo) * 2 ^ lo + 2 ^ lo := by omega
      _ = (v % 2 ^ (hi + 1 - lo) + 1) * 2 ^ lo := by ring
      _ ≤ 2 ^ (hi + 1 - lo) * 2 ^ lo := Nat.mul_le_mul_right _ a1
      _ = 2 ^ lo * 2 ^ (hi + 1 - lo) := by ring
  rw [Nat.add_assoc, Nat.add_comm, Nat.add_mul_div_right _ _ (by positivity), Nat.div_eq_of_lt lt, Nat.zero_add]

/-- Replacing a field of a 32-bit number gives a 32-bit number. -/
theorem putBits_lt (n hi lo v : Nat) (h : lo ≤ hi + 1) (hh : hi < 32) (hn : n < 2 ^ 32) : putBits n hi lo v < 2 ^ 32 := by
  have e : bits (putBits n hi lo v) (31 + (putBits n hi lo v)) 32 = bits n (31 + (putBits n hi lo v)) 32 :=
    bits_putBits_above n hi lo v _ 32 h hh
  have z : n / 2 ^ 32 = 0 := Nat.div_eq_of_lt hn
  unfold bits at e
  rw [Nat.shiftRight_eq_div_pow, Nat.shiftRight_eq_div_pow, z, Nat.zero_mod] at e
  by_contra hc
  have hq : putBits n hi lo v / 2 ^ 32 < 2 ^ (31 + putBits n hi lo v + 1 - 32) := by
    have : 31 + putBits n hi lo v + 1 - 32 = putBits n hi lo v := by omega
    rw [this]
    calc putBits n hi lo v / 2 ^ 32 ≤ putBits n hi lo v := Nat.div_le_self _ _
      _ < 2 ^ putBits n hi lo v := Nat.lt_two_pow_self
  rw [Nat.mod_eq_of_lt hq] at e
  have := Nat.div_pos (Nat.le_of_not_lt hc) (by positivity : 0 < 2 ^ 32)
  omega

end Sys2Proof.Machine
end

