-- ==== Sys2Proof/Laws/Coding.lean ====
section
/-! SUPPORT. The line coding: how many symbols and bits each operation gives. -/

namespace Sys2Proof.Machine

@[simp] theorem length_lowBits (n v : Nat) : (lowBits n v).length = n := by simp [lowBits]

/-- n bits make a number below 2^n. -/
theorem ofBits_lt (l : List Bool) : ofBits l < 2 ^ l.length := by
  induction l with
  | nil => decide
  | cons b l ih => simp only [ofBits, List.length_cons, Nat.pow_succ]; cases b <;> simp [b2n] <;> omega

/-- Bit i of the number is bit i of the list. -/
theorem ofBits_testBit (l : List Bool) : ∀ i, (ofBits l).testBit i = l.getD i false := by
  induction l with
  | nil => intro i; simp [ofBits]
  | cons b l ih =>
    intro i
    cases i with
    | zero => simp only [ofBits, Nat.testBit_zero]; cases b <;> simp [b2n]
    | succ i =>
      have : (b2n b + 2 * ofBits l) / 2 = ofBits l := by cases b <;> simp [b2n]; omega
      rw [ofBits, Nat.testBit_succ, this, ih]; simp

/-- The bits of a number made of bits are those bits. -/
theorem lowBits_ofBits (l : List Bool) : lowBits l.length (ofBits l) = l := by
  apply List.ext_getElem
  · simp [lowBits]
  · intro i h1 h2; simp [lowBits, ofBits_testBit, h2]

/-- A number below 2^n is made of its n low bits. -/
theorem ofBits_lowBits (n v : Nat) (h : v < 2 ^ n) : ofBits (lowBits n v) = v := by
  apply Nat.eq_of_testBit_eq
  intro i
  rw [ofBits_testBit]
  by_cases hi : i < n
  · simp [lowBits, hi]
  · have hv : v.testBit i = false := Nat.testBit_lt_two_pow (Nat.lt_of_lt_of_le h (Nat.pow_le_pow_right (by decide) (by omega)))
    simp [lowBits, hi, hv]

/-- A marker has 64 symbols (R304). -/
@[simp] theorem length_markerSymbols (lane fr kind seq : Nat) : (markerSymbols lane fr kind seq).length = 64 := by
  have h : ∀ b, (pairSymbols b).length = 2 := by intro b; cases b <;> rfl
  simp [markerSymbols, comma, List.length_flatMap, h]

/-- The scrambler gives as many bits as it takes (R307). -/
@[simp] theorem length_scramble (l : List Bool) : ∀ st, (scramble st l).1.length = l.length := by
  induction l with
  | nil => intro st; rfl
  | cons d l ih => intro st; simp [scramble, ih]

/-- So does the descrambler (R307). -/
@[simp] theorem length_descramble (l : List Bool) : ∀ st, (descramble st l).1.length = l.length := by
  induction l with
  | nil => intro st; rfl
  | cons d l ih => intro st; simp [descramble, ih]

/-- Stuffing only adds symbols, as many as it counts (R312). -/
theorem length_stuff (l : List Nat) : ∀ c, (stuff c l).1.length = l.length + (stuff c l).2.2 := by
  induction l with
  | nil => intro c; rfl
  | cons x l ih =>
    intro c
    simp only [stuff]
    split
    · simp [ih]; omega
    · simp [ih]; omega

/-- A generator gives as many symbols as it is asked for (R328). -/
@[simp] theorem length_prbsRun (q13 : Bool) (n : Nat) : ∀ r, (prbsRun q13 n r).1.length = n := by
  induction n with
  | zero => intro r; rfl
  | succ n ih => intro r; simp [prbsRun, ih]

/-- Injected errors replace symbols, they add none (R329). -/
@[simp] theorem length_injectLine (rate : Option Nat) (l : List Nat) : ∀ left c, (injectLine rate left c l).1.length = l.length := by
  induction l with
  | nil => intro left c; rfl
  | cons x l ih => intro left c; simp [injectLine, ih]

/-- A CRC-32 is a 32-bit number. -/
theorem crc32_lt (bs : List Byte) : crc32 bs < 2 ^ 32 := by
  have h : ∀ (l : List Bool) (r : Nat), r < 2 ^ 32 → crcShr 0xEDB88320 r l < 2 ^ 32 := by
    intro l
    induction l with
    | nil => intro r h; exact h
    | cons b l ih =>
      intro r hr
      simp only [crcShr, List.foldl_cons] at ih ⊢
      split
      · exact ih _ (Nat.xor_lt_two_pow (by omega) (by decide))
      · exact ih _ (by omega)
  exact Nat.xor_lt_two_pow (h _ _ (by decide)) (by decide)

end Sys2Proof.Machine
end

