-- ==== Sys2Proof/Laws/Memory.lean ====
section
/-! SUPPORT. The bytes of the memory dies: every memory operation keeps the canonical form, a read after a write gives the
byte written, and a write leaves every other address alone. -/

namespace Sys2Proof.Machine

theorem Memory.wfFrom_mono (m : Memory) (lo lo' : Nat) (h : lo' ≤ lo) (hw : Memory.wfFrom lo m = true) :
    Memory.wfFrom lo' m = true := by
  cases m with
  | nil => rfl
  | cons e m =>
    obtain ⟨a, b⟩ := e
    simp only [Memory.wfFrom, Bool.and_eq_true, decide_eq_true_eq] at hw ⊢
    exact ⟨⟨by omega, hw.1.2⟩, hw.2⟩

theorem Memory.wfFrom_mdel (m : Memory) (lo a : Nat) (h : Memory.wfFrom lo m = true) :
    Memory.wfFrom lo (mdel m a) = true := by
  induction m generalizing lo with
  | nil => exact h
  | cons e m ih =>
    obtain ⟨c, b⟩ := e
    simp only [Memory.wfFrom, Bool.and_eq_true, decide_eq_true_eq] at h
    unfold mdel
    split
    · exact ih lo (Memory.wfFrom_mono m (c + 1) lo (by omega) h.2)
    · simp only [Memory.wfFrom, Bool.and_eq_true, decide_eq_true_eq]
      exact ⟨h.1, ih (c + 1) h.2⟩

theorem Memory.wfFrom_mset (m : Memory) (lo a : Nat) (v : Byte) (hv : v ≠ 0) (ha : lo ≤ a)
    (h : Memory.wfFrom lo m = true) : Memory.wfFrom lo (mset m a v) = true := by
  induction m generalizing lo with
  | nil =>
    simp only [mset, Memory.wfFrom, Bool.and_eq_true, decide_eq_true_eq]
    exact ⟨⟨ha, hv⟩, trivial⟩
  | cons e m ih =>
    obtain ⟨c, b⟩ := e
    simp only [Memory.wfFrom, Bool.and_eq_true, decide_eq_true_eq] at h
    unfold mset
    split
    · simp only [Memory.wfFrom, Bool.and_eq_true, decide_eq_true_eq]
      exact ⟨⟨ha, hv⟩, ⟨⟨by omega, h.1.2⟩, h.2⟩⟩
    · split
      · rename_i h1 h2
        subst h2
        simp only [Memory.wfFrom, Bool.and_eq_true, decide_eq_true_eq]
        exact ⟨⟨ha, hv⟩, h.2⟩
      · simp only [Memory.wfFrom, Bool.and_eq_true, decide_eq_true_eq]
        exact ⟨h.1, ih (c + 1) (by omega) h.2⟩

/-- Writing a byte keeps the canonical form. -/
theorem memWr_wf (m : Memory) (a : Nat) (v : Byte) (h : m.wf = true) : (memWr m a v).wf = true := by
  unfold memWr mput
  split
  · exact Memory.wfFrom_mdel m 0 a h
  · rename_i hv; exact Memory.wfFrom_mset m 0 a v hv (Nat.zero_le a) h

/-- Writing consecutive bytes keeps the canonical form. -/
theorem memWrs_wf (m : Memory) (a : Nat) (bs : List Byte) (h : m.wf = true) : (memWrs m a bs).wf = true := by
  induction bs generalizing m a with
  | nil => exact h
  | cons b bs ih => exact ih (memWr m a b) (a + 1) (memWr_wf m a b h)

/-- The byte written is the byte read. -/
@[simp] theorem memRd_memWr_same (m : Memory) (a : Nat) (v : Byte) : memRd (memWr m a v) a = v := by
  simp [memRd, memWr]

/-- A byte write leaves every other address alone. -/
theorem memRd_memWr_other (m : Memory) (a c : Nat) (v : Byte) (h : c ≠ a) : memRd (memWr m a v) c = memRd m c := by
  exact mget_mput_other m a c v 0 0 h

/-- Consecutive writes leave every address outside them alone. -/
theorem memRd_memWrs_outside (m : Memory) (a c : Nat) (bs : List Byte) (h : c < a ∨ a + bs.length ≤ c) :
    memRd (memWrs m a bs) c = memRd m c := by
  induction bs generalizing m a with
  | nil => rfl
  | cons b bs ih =>
    simp only [List.length_cons] at h
    simp only [memWrs]
    rw [ih (memWr m a b) (a + 1) (by omega), memRd_memWr_other m a c b (by omega)]

/-- Consecutive writes give the bytes written. -/
theorem memRd_memWrs_inside (m : Memory) (a i : Nat) (bs : List Byte) (h : i < bs.length) :
    memRd (memWrs m a bs) (a + i) = bs.getD i 0 := by
  induction bs generalizing m a i with
  | nil => simp at h
  | cons b bs ih =>
    cases i with
    | zero =>
      simp only [memWrs, Nat.add_zero, List.getD_cons_zero]
      rw [memRd_memWrs_outside (memWr m a b) (a + 1) a bs (by omega), memRd_memWr_same]
    | succ i =>
      simp only [List.length_cons] at h
      have := ih (memWr m a b) (a + 1) i (by omega)
      simp only [memWrs, List.getD_cons_succ]
      rw [← this]
      congr 1
      omega

/-- Bytes written are the bytes read back. -/
theorem memRds_memWrs (m : Memory) (a : Nat) (bs : List Byte) : memRds (memWrs m a bs) a bs.length = bs := by
  apply List.ext_getElem
  · simp [memRds]
  · intro i h1 h2
    simp only [memRds, List.getElem_map, List.getElem_range]
    rw [memRd_memWrs_inside m a i bs h2]
    simp [List.getD, h2]

end Sys2Proof.Machine
end

