-- ==== Sys2Proof/Laws/State.lean ====
section
/-! SUPPORT. One lemma per field per update: what each update of the state leaves as it was, and what it writes. -/

namespace Sys2Proof.Machine

@[simp] theorem State.modStk_pending (s : State) (k : Nat) (f : Stack → Stack) : (s.modStk k f).pending = s.pending := rfl
@[simp] theorem State.modStk_part (s : State) (k : Nat) (f : Stack → Stack) : (s.modStk k f).part = s.part := rfl
@[simp] theorem State.modStk_lid (s : State) (k : Nat) (f : Stack → Stack) : (s.modStk k f).lid = s.lid := rfl
@[simp] theorem State.modStk_free (s : State) (k : Nat) (f : Stack → Stack) : (s.modStk k f).free = s.free := rfl
@[simp] theorem State.modStk_ports (s : State) (k : Nat) (f : Stack → Stack) : (s.modStk k f).ports = s.ports := rfl
@[simp] theorem State.modStk_dies (s : State) (k : Nat) (f : Stack → Stack) : (s.modStk k f).dies = s.dies := rfl
@[simp] theorem State.modStk_transit (s : State) (k : Nat) (f : Stack → Stack) : (s.modStk k f).transit = s.transit := rfl
@[simp] theorem State.modStk_nextRid (s : State) (k : Nat) (f : Stack → Stack) : (s.modStk k f).nextRid = s.nextRid := rfl
@[simp] theorem State.modStk_timedOut (s : State) (k : Nat) (f : Stack → Stack) : (s.modStk k f).timedOut = s.timedOut := rfl
@[simp] theorem State.modStk_mode (s : State) (k : Nat) (f : Stack → Stack) : (s.modStk k f).mode = s.mode := rfl
@[simp] theorem State.modStk_agg (s : State) (k : Nat) (f : Stack → Stack) : (s.modStk k f).agg = s.agg := rfl
@[simp] theorem State.modStk_aggChosen (s : State) (k : Nat) (f : Stack → Stack) : (s.modStk k f).aggChosen = s.aggChosen := rfl
@[simp] theorem State.modStk_runLevel (s : State) (k : Nat) (f : Stack → Stack) : (s.modStk k f).runLevel = s.runLevel := rfl
@[simp] theorem State.modStk_supplyCap (s : State) (k : Nat) (f : Stack → Stack) : (s.modStk k f).supplyCap = s.supplyCap := rfl
@[simp] theorem State.modStk_supplyOk (s : State) (k : Nat) (f : Stack → Stack) : (s.modStk k f).supplyOk = s.supplyOk := rfl
@[simp] theorem State.modStk_pkgCnt (s : State) (k : Nat) (f : Stack → Stack) : (s.modStk k f).pkgCnt = s.pkgCnt := rfl
@[simp] theorem State.modStk_commit (s : State) (k : Nat) (f : Stack → Stack) : (s.modStk k f).commit = s.commit := rfl
@[simp] theorem State.modStk_miss (s : State) (k : Nat) (f : Stack → Stack) : (s.modStk k f).miss = s.miss := rfl
@[simp] theorem State.modStk_errPend (s : State) (k : Nat) (f : Stack → Stack) : (s.modStk k f).errPend = s.errPend := rfl
@[simp] theorem State.modStk_sync (s : State) (k : Nat) (f : Stack → Stack) : (s.modStk k f).sync = s.sync := rfl
@[simp] theorem State.modStk_longFrame (s : State) (k : Nat) (f : Stack → Stack) : (s.modStk k f).longFrame = s.longFrame := rfl
@[simp] theorem State.modStk_timeValid (s : State) (k : Nat) (f : Stack → Stack) : (s.modStk k f).timeValid = s.timeValid := rfl
@[simp] theorem State.modStk_timeEst (s : State) (k : Nat) (f : Stack → Stack) : (s.modStk k f).timeEst = s.timeEst := rfl
@[simp] theorem State.modStk_ref (s : State) (k : Nat) (f : Stack → Stack) : (s.modStk k f).ref = s.ref := rfl
@[simp] theorem State.modStk_irqs (s : State) (k : Nat) (f : Stack → Stack) : (s.modStk k f).irqs = s.irqs := rfl
@[simp] theorem State.modStk_telSeq (s : State) (k : Nat) (f : Stack → Stack) : (s.modStk k f).telSeq = s.telSeq := rfl
@[simp] theorem State.modStk_telLast (s : State) (k : Nat) (f : Stack → Stack) : (s.modStk k f).telLast = s.telLast := rfl
@[simp] theorem State.modStk_aliveLast (s : State) (k : Nat) (f : Stack → Stack) : (s.modStk k f).aliveLast = s.aliveLast := rfl
@[simp] theorem State.modStk_alignLast (s : State) (k : Nat) (f : Stack → Stack) : (s.modStk k f).alignLast = s.alignLast := rfl
@[simp] theorem State.modStk_lastTel (s : State) (k : Nat) (f : Stack → Stack) : (s.modStk k f).lastTel = s.lastTel := rfl
@[simp] theorem State.modStk_halt (s : State) (k : Nat) (f : Stack → Stack) : (s.modStk k f).halt = s.halt := rfl
@[simp] theorem State.modStk_idleFrames (s : State) (k : Nat) (f : Stack → Stack) : (s.modStk k f).idleFrames = s.idleFrames := rfl
@[simp] theorem State.modStk_wakeCause (s : State) (k : Nat) (f : Stack → Stack) : (s.modStk k f).wakeCause = s.wakeCause := rfl
@[simp] theorem State.modStk_modeNext (s : State) (k : Nat) (f : Stack → Stack) : (s.modStk k f).modeNext = s.modeNext := rfl
@[simp] theorem State.modStk_retainAt (s : State) (k : Nat) (f : Stack → Stack) : (s.modStk k f).retainAt = s.retainAt := rfl
@[simp] theorem State.modStk_retainWant (s : State) (k : Nat) (f : Stack → Stack) : (s.modStk k f).retainWant = s.retainWant := rfl
@[simp] theorem State.modStk_wakeInEntry (s : State) (k : Nat) (f : Stack → Stack) : (s.modStk k f).wakeInEntry = s.wakeInEntry := rfl
@[simp] theorem State.modStk_wakeLow (s : State) (k : Nat) (f : Stack → Stack) : (s.modStk k f).wakeLow = s.wakeLow := rfl
@[simp] theorem State.modStk_pins (s : State) (k : Nat) (f : Stack → Stack) : (s.modStk k f).pins = s.pins := rfl
@[simp] theorem State.modStk_pmbus (s : State) (k : Nat) (f : Stack → Stack) : (s.modStk k f).pmbus = s.pmbus := rfl
@[simp] theorem State.modStk_taps (s : State) (k : Nat) (f : Stack → Stack) : (s.modStk k f).taps = s.taps := rfl
@[simp] theorem State.modStk_mgmtOut (s : State) (k : Nat) (f : Stack → Stack) : (s.modStk k f).mgmtOut = s.mgmtOut := rfl
@[simp] theorem State.modStk_stks (s : State) (k : Nat) (f : Stack → Stack) : (s.modStk k f).stks = s.stks.modify k f := rfl
@[simp] theorem State.modStk_levelNext (s : State) (k : Nat) (f : Stack → Stack) : (s.modStk k f).levelNext = s.levelNext := rfl
@[simp] theorem State.modStk_splitDue (s : State) (k : Nat) (f : Stack → Stack) : (s.modStk k f).splitDue = s.splitDue := rfl
@[simp] theorem State.modStk_missDue (s : State) (k : Nat) (f : Stack → Stack) : (s.modStk k f).missDue = s.missDue := rfl
@[simp] theorem State.modStk_errDue (s : State) (k : Nat) (f : Stack → Stack) : (s.modStk k f).errDue = s.errDue := rfl
@[simp] theorem State.modStk_afterStop (s : State) (k : Nat) (f : Stack → Stack) : (s.modStk k f).afterStop = s.afterStop := rfl
@[simp] theorem State.modPort_pending (s : State) (p : Nat) (f : Port → Port) : (s.modPort p f).pending = s.pending := rfl
@[simp] theorem State.modPort_part (s : State) (p : Nat) (f : Port → Port) : (s.modPort p f).part = s.part := rfl
@[simp] theorem State.modPort_lid (s : State) (p : Nat) (f : Port → Port) : (s.modPort p f).lid = s.lid := rfl
@[simp] theorem State.modPort_free (s : State) (p : Nat) (f : Port → Port) : (s.modPort p f).free = s.free := rfl
@[simp] theorem State.modPort_stks (s : State) (p : Nat) (f : Port → Port) : (s.modPort p f).stks = s.stks := rfl
@[simp] theorem State.modPort_dies (s : State) (p : Nat) (f : Port → Port) : (s.modPort p f).dies = s.dies := rfl
@[simp] theorem State.modPort_transit (s : State) (p : Nat) (f : Port → Port) : (s.modPort p f).transit = s.transit := rfl
@[simp] theorem State.modPort_nextRid (s : State) (p : Nat) (f : Port → Port) : (s.modPort p f).nextRid = s.nextRid := rfl
@[simp] theorem State.modPort_timedOut (s : State) (p : Nat) (f : Port → Port) : (s.modPort p f).timedOut = s.timedOut := rfl
@[simp] theorem State.modPort_mode (s : State) (p : Nat) (f : Port → Port) : (s.modPort p f).mode = s.mode := rfl
@[simp] theorem State.modPort_agg (s : State) (p : Nat) (f : Port → Port) : (s.modPort p f).agg = s.agg := rfl
@[simp] theorem State.modPort_aggChosen (s : State) (p : Nat) (f : Port → Port) : (s.modPort p f).aggChosen = s.aggChosen := rfl
@[simp] theorem State.modPort_runLevel (s : State) (p : Nat) (f : Port → Port) : (s.modPort p f).runLevel = s.runLevel := rfl
@[simp] theorem State.modPort_supplyCap (s : State) (p : Nat) (f : Port → Port) : (s.modPort p f).supplyCap = s.supplyCap := rfl
@[simp] theorem State.modPort_supplyOk (s : State) (p : Nat) (f : Port → Port) : (s.modPort p f).supplyOk = s.supplyOk := rfl
@[simp] theorem State.modPort_pkgCnt (s : State) (p : Nat) (f : Port → Port) : (s.modPort p f).pkgCnt = s.pkgCnt := rfl
@[simp] theorem State.modPort_commit (s : State) (p : Nat) (f : Port → Port) : (s.modPort p f).commit = s.commit := rfl
@[simp] theorem State.modPort_miss (s : State) (p : Nat) (f : Port → Port) : (s.modPort p f).miss = s.miss := rfl
@[simp] theorem State.modPort_errPend (s : State) (p : Nat) (f : Port → Port) : (s.modPort p f).errPend = s.errPend := rfl
@[simp] theorem State.modPort_sync (s : State) (p : Nat) (f : Port → Port) : (s.modPort p f).sync = s.sync := rfl
@[simp] theorem State.modPort_longFrame (s : State) (p : Nat) (f : Port → Port) : (s.modPort p f).longFrame = s.longFrame := rfl
@[simp] theorem State.modPort_timeValid (s : State) (p : Nat) (f : Port → Port) : (s.modPort p f).timeValid = s.timeValid := rfl
@[simp] theorem State.modPort_timeEst (s : State) (p : Nat) (f : Port → Port) : (s.modPort p f).timeEst = s.timeEst := rfl
@[simp] theorem State.modPort_ref (s : State) (p : Nat) (f : Port → Port) : (s.modPort p f).ref = s.ref := rfl
@[simp] theorem State.modPort_irqs (s : State) (p : Nat) (f : Port → Port) : (s.modPort p f).irqs = s.irqs := rfl
@[simp] theorem State.modPort_telSeq (s : State) (p : Nat) (f : Port → Port) : (s.modPort p f).telSeq = s.telSeq := rfl
@[simp] theorem State.modPort_telLast (s : State) (p : Nat) (f : Port → Port) : (s.modPort p f).telLast = s.telLast := rfl
@[simp] theorem State.modPort_aliveLast (s : State) (p : Nat) (f : Port → Port) : (s.modPort p f).aliveLast = s.aliveLast := rfl
@[simp] theorem State.modPort_alignLast (s : State) (p : Nat) (f : Port → Port) : (s.modPort p f).alignLast = s.alignLast := rfl
@[simp] theorem State.modPort_lastTel (s : State) (p : Nat) (f : Port → Port) : (s.modPort p f).lastTel = s.lastTel := rfl
@[simp] theorem State.modPort_halt (s : State) (p : Nat) (f : Port → Port) : (s.modPort p f).halt = s.halt := rfl
@[simp] theorem State.modPort_idleFrames (s : State) (p : Nat) (f : Port → Port) : (s.modPort p f).idleFrames = s.idleFrames := rfl
@[simp] theorem State.modPort_wakeCause (s : State) (p : Nat) (f : Port → Port) : (s.modPort p f).wakeCause = s.wakeCause := rfl
@[simp] theorem State.modPort_modeNext (s : State) (p : Nat) (f : Port → Port) : (s.modPort p f).modeNext = s.modeNext := rfl
@[simp] theorem State.modPort_retainAt (s : State) (p : Nat) (f : Port → Port) : (s.modPort p f).retainAt = s.retainAt := rfl
@[simp] theorem State.modPort_retainWant (s : State) (p : Nat) (f : Port → Port) : (s.modPort p f).retainWant = s.retainWant := rfl
@[simp] theorem State.modPort_wakeInEntry (s : State) (p : Nat) (f : Port → Port) : (s.modPort p f).wakeInEntry = s.wakeInEntry := rfl
@[simp] theorem State.modPort_wakeLow (s : State) (p : Nat) (f : Port → Port) : (s.modPort p f).wakeLow = s.wakeLow := rfl
@[simp] theorem State.modPort_pins (s : State) (p : Nat) (f : Port → Port) : (s.modPort p f).pins = s.pins := rfl
@[simp] theorem State.modPort_pmbus (s : State) (p : Nat) (f : Port → Port) : (s.modPort p f).pmbus = s.pmbus := rfl
@[simp] theorem State.modPort_taps (s : State) (p : Nat) (f : Port → Port) : (s.modPort p f).taps = s.taps := rfl
@[simp] theorem State.modPort_mgmtOut (s : State) (p : Nat) (f : Port → Port) : (s.modPort p f).mgmtOut = s.mgmtOut := rfl
@[simp] theorem State.modPort_ports (s : State) (p : Nat) (f : Port → Port) : (s.modPort p f).ports = s.ports.modify p f := rfl
@[simp] theorem State.modPort_levelNext (s : State) (p : Nat) (f : Port → Port) : (s.modPort p f).levelNext = s.levelNext := rfl
@[simp] theorem State.modPort_splitDue (s : State) (p : Nat) (f : Port → Port) : (s.modPort p f).splitDue = s.splitDue := rfl
@[simp] theorem State.modPort_missDue (s : State) (p : Nat) (f : Port → Port) : (s.modPort p f).missDue = s.missDue := rfl
@[simp] theorem State.modPort_errDue (s : State) (p : Nat) (f : Port → Port) : (s.modPort p f).errDue = s.errDue := rfl
@[simp] theorem State.modPort_afterStop (s : State) (p : Nat) (f : Port → Port) : (s.modPort p f).afterStop = s.afterStop := rfl
@[simp] theorem State.setRaw_pending (s : State) (k : Nat) (pg : Page) (i off v : Nat) : (s.setRaw k pg i off v).pending = s.pending := rfl
@[simp] theorem State.setRaw_part (s : State) (k : Nat) (pg : Page) (i off v : Nat) : (s.setRaw k pg i off v).part = s.part := rfl
@[simp] theorem State.setRaw_lid (s : State) (k : Nat) (pg : Page) (i off v : Nat) : (s.setRaw k pg i off v).lid = s.lid := rfl
@[simp] theorem State.setRaw_free (s : State) (k : Nat) (pg : Page) (i off v : Nat) : (s.setRaw k pg i off v).free = s.free := rfl
@[simp] theorem State.setRaw_ports (s : State) (k : Nat) (pg : Page) (i off v : Nat) : (s.setRaw k pg i off v).ports = s.ports := rfl
@[simp] theorem State.setRaw_dies (s : State) (k : Nat) (pg : Page) (i off v : Nat) : (s.setRaw k pg i off v).dies = s.dies := rfl
@[simp] theorem State.setRaw_transit (s : State) (k : Nat) (pg : Page) (i off v : Nat) : (s.setRaw k pg i off v).transit = s.transit := rfl
@[simp] theorem State.setRaw_nextRid (s : State) (k : Nat) (pg : Page) (i off v : Nat) : (s.setRaw k pg i off v).nextRid = s.nextRid := rfl
@[simp] theorem State.setRaw_timedOut (s : State) (k : Nat) (pg : Page) (i off v : Nat) : (s.setRaw k pg i off v).timedOut = s.timedOut := rfl
@[simp] theorem State.setRaw_mode (s : State) (k : Nat) (pg : Page) (i off v : Nat) : (s.setRaw k pg i off v).mode = s.mode := rfl
@[simp] theorem State.setRaw_agg (s : State) (k : Nat) (pg : Page) (i off v : Nat) : (s.setRaw k pg i off v).agg = s.agg := rfl
@[simp] theorem State.setRaw_aggChosen (s : State) (k : Nat) (pg : Page) (i off v : Nat) : (s.setRaw k pg i off v).aggChosen = s.aggChosen := rfl
@[simp] theorem State.setRaw_runLevel (s : State) (k : Nat) (pg : Page) (i off v : Nat) : (s.setRaw k pg i off v).runLevel = s.runLevel := rfl
@[simp] theorem State.setRaw_supplyCap (s : State) (k : Nat) (pg : Page) (i off v : Nat) : (s.setRaw k pg i off v).supplyCap = s.supplyCap := rfl
@[simp] theorem State.setRaw_supplyOk (s : State) (k : Nat) (pg : Page) (i off v : Nat) : (s.setRaw k pg i off v).supplyOk = s.supplyOk := rfl
@[simp] theorem State.setRaw_pkgCnt (s : State) (k : Nat) (pg : Page) (i off v : Nat) : (s.setRaw k pg i off v).pkgCnt = s.pkgCnt := rfl
@[simp] theorem State.setRaw_commit (s : State) (k : Nat) (pg : Page) (i off v : Nat) : (s.setRaw k pg i off v).commit = s.commit := rfl
@[simp] theorem State.setRaw_miss (s : State) (k : Nat) (pg : Page) (i off v : Nat) : (s.setRaw k pg i off v).miss = s.miss := rfl
@[simp] theorem State.setRaw_errPend (s : State) (k : Nat) (pg : Page) (i off v : Nat) : (s.setRaw k pg i off v).errPend = s.errPend := rfl
@[simp] theorem State.setRaw_sync (s : State) (k : Nat) (pg : Page) (i off v : Nat) : (s.setRaw k pg i off v).sync = s.sync := rfl
@[simp] theorem State.setRaw_longFrame (s : State) (k : Nat) (pg : Page) (i off v : Nat) : (s.setRaw k pg i off v).longFrame = s.longFrame := rfl
@[simp] theorem State.setRaw_timeValid (s : State) (k : Nat) (pg : Page) (i off v : Nat) : (s.setRaw k pg i off v).timeValid = s.timeValid := rfl
@[simp] theorem State.setRaw_timeEst (s : State) (k : Nat) (pg : Page) (i off v : Nat) : (s.setRaw k pg i off v).timeEst = s.timeEst := rfl
@[simp] theorem State.setRaw_ref (s : State) (k : Nat) (pg : Page) (i off v : Nat) : (s.setRaw k pg i off v).ref = s.ref := rfl
@[simp] theorem State.setRaw_irqs (s : State) (k : Nat) (pg : Page) (i off v : Nat) : (s.setRaw k pg i off v).irqs = s.irqs := rfl
@[simp] theorem State.setRaw_telSeq (s : State) (k : Nat) (pg : Page) (i off v : Nat) : (s.setRaw k pg i off v).telSeq = s.telSeq := rfl
@[simp] theorem State.setRaw_telLast (s : State) (k : Nat) (pg : Page) (i off v : Nat) : (s.setRaw k pg i off v).telLast = s.telLast := rfl
@[simp] theorem State.setRaw_aliveLast (s : State) (k : Nat) (pg : Page) (i off v : Nat) : (s.setRaw k pg i off v).aliveLast = s.aliveLast := rfl
@[simp] theorem State.setRaw_alignLast (s : State) (k : Nat) (pg : Page) (i off v : Nat) : (s.setRaw k pg i off v).alignLast = s.alignLast := rfl
@[simp] theorem State.setRaw_lastTel (s : State) (k : Nat) (pg : Page) (i off v : Nat) : (s.setRaw k pg i off v).lastTel = s.lastTel := rfl
@[simp] theorem State.setRaw_halt (s : State) (k : Nat) (pg : Page) (i off v : Nat) : (s.setRaw k pg i off v).halt = s.halt := rfl
@[simp] theorem State.setRaw_idleFrames (s : State) (k : Nat) (pg : Page) (i off v : Nat) : (s.setRaw k pg i off v).idleFrames = s.idleFrames := rfl
@[simp] theorem State.setRaw_wakeCause (s : State) (k : Nat) (pg : Page) (i off v : Nat) : (s.setRaw k pg i off v).wakeCause = s.wakeCause := rfl
@[simp] theorem State.setRaw_modeNext (s : State) (k : Nat) (pg : Page) (i off v : Nat) : (s.setRaw k pg i off v).modeNext = s.modeNext := rfl
@[simp] theorem State.setRaw_retainAt (s : State) (k : Nat) (pg : Page) (i off v : Nat) : (s.setRaw k pg i off v).retainAt = s.retainAt := rfl
@[simp] theorem State.setRaw_retainWant (s : State) (k : Nat) (pg : Page) (i off v : Nat) : (s.setRaw k pg i off v).retainWant = s.retainWant := rfl
@[simp] theorem State.setRaw_wakeInEntry (s : State) (k : Nat) (pg : Page) (i off v : Nat) : (s.setRaw k pg i off v).wakeInEntry = s.wakeInEntry := rfl
@[simp] theorem State.setRaw_wakeLow (s : State) (k : Nat) (pg : Page) (i off v : Nat) : (s.setRaw k pg i off v).wakeLow = s.wakeLow := rfl
@[simp] theorem State.setRaw_pins (s : State) (k : Nat) (pg : Page) (i off v : Nat) : (s.setRaw k pg i off v).pins = s.pins := rfl
@[simp] theorem State.setRaw_pmbus (s : State) (k : Nat) (pg : Page) (i off v : Nat) : (s.setRaw k pg i off v).pmbus = s.pmbus := rfl
@[simp] theorem State.setRaw_taps (s : State) (k : Nat) (pg : Page) (i off v : Nat) : (s.setRaw k pg i off v).taps = s.taps := rfl
@[simp] theorem State.setRaw_mgmtOut (s : State) (k : Nat) (pg : Page) (i off v : Nat) : (s.setRaw k pg i off v).mgmtOut = s.mgmtOut := rfl
@[simp] theorem State.setRaw_levelNext (s : State) (k : Nat) (pg : Page) (i off v : Nat) : (s.setRaw k pg i off v).levelNext = s.levelNext := rfl
@[simp] theorem State.setRaw_splitDue (s : State) (k : Nat) (pg : Page) (i off v : Nat) : (s.setRaw k pg i off v).splitDue = s.splitDue := rfl
@[simp] theorem State.setRaw_missDue (s : State) (k : Nat) (pg : Page) (i off v : Nat) : (s.setRaw k pg i off v).missDue = s.missDue := rfl
@[simp] theorem State.setRaw_errDue (s : State) (k : Nat) (pg : Page) (i off v : Nat) : (s.setRaw k pg i off v).errDue = s.errDue := rfl
@[simp] theorem State.setRaw_afterStop (s : State) (k : Nat) (pg : Page) (i off v : Nat) : (s.setRaw k pg i off v).afterStop = s.afterStop := rfl
@[simp] theorem State.setFld_pending (s : State) (k i : Nat) (x : FRef) (v : Nat) : (s.setFld k i x v).pending = s.pending := rfl
@[simp] theorem State.setFld_part (s : State) (k i : Nat) (x : FRef) (v : Nat) : (s.setFld k i x v).part = s.part := rfl
@[simp] theorem State.setFld_lid (s : State) (k i : Nat) (x : FRef) (v : Nat) : (s.setFld k i x v).lid = s.lid := rfl
@[simp] theorem State.setFld_free (s : State) (k i : Nat) (x : FRef) (v : Nat) : (s.setFld k i x v).free = s.free := rfl
@[simp] theorem State.setFld_ports (s : State) (k i : Nat) (x : FRef) (v : Nat) : (s.setFld k i x v).ports = s.ports := rfl
@[simp] theorem State.setFld_dies (s : State) (k i : Nat) (x : FRef) (v : Nat) : (s.setFld k i x v).dies = s.dies := rfl
@[simp] theorem State.setFld_transit (s : State) (k i : Nat) (x : FRef) (v : Nat) : (s.setFld k i x v).transit = s.transit := rfl
@[simp] theorem State.setFld_nextRid (s : State) (k i : Nat) (x : FRef) (v : Nat) : (s.setFld k i x v).nextRid = s.nextRid := rfl
@[simp] theorem State.setFld_timedOut (s : State) (k i : Nat) (x : FRef) (v : Nat) : (s.setFld k i x v).timedOut = s.timedOut := rfl
@[simp] theorem State.setFld_mode (s : State) (k i : Nat) (x : FRef) (v : Nat) : (s.setFld k i x v).mode = s.mode := rfl
@[simp] theorem State.setFld_agg (s : State) (k i : Nat) (x : FRef) (v : Nat) : (s.setFld k i x v).agg = s.agg := rfl
@[simp] theorem State.setFld_aggChosen (s : State) (k i : Nat) (x : FRef) (v : Nat) : (s.setFld k i x v).aggChosen = s.aggChosen := rfl
@[simp] theorem State.setFld_runLevel (s : State) (k i : Nat) (x : FRef) (v : Nat) : (s.setFld k i x v).runLevel = s.runLevel := rfl
@[simp] theorem State.setFld_supplyCap (s : State) (k i : Nat) (x : FRef) (v : Nat) : (s.setFld k i x v).supplyCap = s.supplyCap := rfl
@[simp] theorem State.setFld_supplyOk (s : State) (k i : Nat) (x : FRef) (v : Nat) : (s.setFld k i x v).supplyOk = s.supplyOk := rfl
@[simp] theorem State.setFld_pkgCnt (s : State) (k i : Nat) (x : FRef) (v : Nat) : (s.setFld k i x v).pkgCnt = s.pkgCnt := rfl
@[simp] theorem State.setFld_commit (s : State) (k i : Nat) (x : FRef) (v : Nat) : (s.setFld k i x v).commit = s.commit := rfl
@[simp] theorem State.setFld_miss (s : State) (k i : Nat) (x : FRef) (v : Nat) : (s.setFld k i x v).miss = s.miss := rfl
@[simp] theorem State.setFld_errPend (s : State) (k i : Nat) (x : FRef) (v : Nat) : (s.setFld k i x v).errPend = s.errPend := rfl
@[simp] theorem State.setFld_sync (s : State) (k i : Nat) (x : FRef) (v : Nat) : (s.setFld k i x v).sync = s.sync := rfl
@[simp] theorem State.setFld_longFrame (s : State) (k i : Nat) (x : FRef) (v : Nat) : (s.setFld k i x v).longFrame = s.longFrame := rfl
@[simp] theorem State.setFld_timeValid (s : State) (k i : Nat) (x : FRef) (v : Nat) : (s.setFld k i x v).timeValid = s.timeValid := rfl
@[simp] theorem State.setFld_timeEst (s : State) (k i : Nat) (x : FRef) (v : Nat) : (s.setFld k i x v).timeEst = s.timeEst := rfl
@[simp] theorem State.setFld_ref (s : State) (k i : Nat) (x : FRef) (v : Nat) : (s.setFld k i x v).ref = s.ref := rfl
@[simp] theorem State.setFld_irqs (s : State) (k i : Nat) (x : FRef) (v : Nat) : (s.setFld k i x v).irqs = s.irqs := rfl
@[simp] theorem State.setFld_telSeq (s : State) (k i : Nat) (x : FRef) (v : Nat) : (s.setFld k i x v).telSeq = s.telSeq := rfl
@[simp] theorem State.setFld_telLast (s : State) (k i : Nat) (x : FRef) (v : Nat) : (s.setFld k i x v).telLast = s.telLast := rfl
@[simp] theorem State.setFld_aliveLast (s : State) (k i : Nat) (x : FRef) (v : Nat) : (s.setFld k i x v).aliveLast = s.aliveLast := rfl
@[simp] theorem State.setFld_alignLast (s : State) (k i : Nat) (x : FRef) (v : Nat) : (s.setFld k i x v).alignLast = s.alignLast := rfl
@[simp] theorem State.setFld_lastTel (s : State) (k i : Nat) (x : FRef) (v : Nat) : (s.setFld k i x v).lastTel = s.lastTel := rfl
@[simp] theorem State.setFld_halt (s : State) (k i : Nat) (x : FRef) (v : Nat) : (s.setFld k i x v).halt = s.halt := rfl
@[simp] theorem State.setFld_idleFrames (s : State) (k i : Nat) (x : FRef) (v : Nat) : (s.setFld k i x v).idleFrames = s.idleFrames := rfl
@[simp] theorem State.setFld_wakeCause (s : State) (k i : Nat) (x : FRef) (v : Nat) : (s.setFld k i x v).wakeCause = s.wakeCause := rfl
@[simp] theorem State.setFld_modeNext (s : State) (k i : Nat) (x : FRef) (v : Nat) : (s.setFld k i x v).modeNext = s.modeNext := rfl
@[simp] theorem State.setFld_retainAt (s : State) (k i : Nat) (x : FRef) (v : Nat) : (s.setFld k i x v).retainAt = s.retainAt := rfl
@[simp] theorem State.setFld_retainWant (s : State) (k i : Nat) (x : FRef) (v : Nat) : (s.setFld k i x v).retainWant = s.retainWant := rfl
@[simp] theorem State.setFld_wakeInEntry (s : State) (k i : Nat) (x : FRef) (v : Nat) : (s.setFld k i x v).wakeInEntry = s.wakeInEntry := rfl
@[simp] theorem State.setFld_wakeLow (s : State) (k i : Nat) (x : FRef) (v : Nat) : (s.setFld k i x v).wakeLow = s.wakeLow := rfl
@[simp] theorem State.setFld_pins (s : State) (k i : Nat) (x : FRef) (v : Nat) : (s.setFld k i x v).pins = s.pins := rfl
@[simp] theorem State.setFld_pmbus (s : State) (k i : Nat) (x : FRef) (v : Nat) : (s.setFld k i x v).pmbus = s.pmbus := rfl
@[simp] theorem State.setFld_taps (s : State) (k i : Nat) (x : FRef) (v : Nat) : (s.setFld k i x v).taps = s.taps := rfl
@[simp] theorem State.setFld_mgmtOut (s : State) (k i : Nat) (x : FRef) (v : Nat) : (s.setFld k i x v).mgmtOut = s.mgmtOut := rfl
@[simp] theorem State.setFld_levelNext (s : State) (k i : Nat) (x : FRef) (v : Nat) : (s.setFld k i x v).levelNext = s.levelNext := rfl
@[simp] theorem State.setFld_splitDue (s : State) (k i : Nat) (x : FRef) (v : Nat) : (s.setFld k i x v).splitDue = s.splitDue := rfl
@[simp] theorem State.setFld_missDue (s : State) (k i : Nat) (x : FRef) (v : Nat) : (s.setFld k i x v).missDue = s.missDue := rfl
@[simp] theorem State.setFld_errDue (s : State) (k i : Nat) (x : FRef) (v : Nat) : (s.setFld k i x v).errDue = s.errDue := rfl
@[simp] theorem State.setFld_afterStop (s : State) (k i : Nat) (x : FRef) (v : Nat) : (s.setFld k i x v).afterStop = s.afterStop := rfl
@[simp] theorem State.modRg_pending (s : State) (k : Nat) (f : Registrar → Registrar) : (s.modRg k f).pending = s.pending := rfl
@[simp] theorem State.modRg_part (s : State) (k : Nat) (f : Registrar → Registrar) : (s.modRg k f).part = s.part := rfl
@[simp] theorem State.modRg_lid (s : State) (k : Nat) (f : Registrar → Registrar) : (s.modRg k f).lid = s.lid := rfl
@[simp] theorem State.modRg_free (s : State) (k : Nat) (f : Registrar → Registrar) : (s.modRg k f).free = s.free := rfl
@[simp] theorem State.modRg_ports (s : State) (k : Nat) (f : Registrar → Registrar) : (s.modRg k f).ports = s.ports := rfl
@[simp] theorem State.modRg_dies (s : State) (k : Nat) (f : Registrar → Registrar) : (s.modRg k f).dies = s.dies := rfl
@[simp] theorem State.modRg_transit (s : State) (k : Nat) (f : Registrar → Registrar) : (s.modRg k f).transit = s.transit := rfl
@[simp] theorem State.modRg_nextRid (s : State) (k : Nat) (f : Registrar → Registrar) : (s.modRg k f).nextRid = s.nextRid := rfl
@[simp] theorem State.modRg_timedOut (s : State) (k : Nat) (f : Registrar → Registrar) : (s.modRg k f).timedOut = s.timedOut := rfl
@[simp] theorem State.modRg_mode (s : State) (k : Nat) (f : Registrar → Registrar) : (s.modRg k f).mode = s.mode := rfl
@[simp] theorem State.modRg_agg (s : State) (k : Nat) (f : Registrar → Registrar) : (s.modRg k f).agg = s.agg := rfl
@[simp] theorem State.modRg_aggChosen (s : State) (k : Nat) (f : Registrar → Registrar) : (s.modRg k f).aggChosen = s.aggChosen := rfl
@[simp] theorem State.modRg_runLevel (s : State) (k : Nat) (f : Registrar → Registrar) : (s.modRg k f).runLevel = s.runLevel := rfl
@[simp] theorem State.modRg_supplyCap (s : State) (k : Nat) (f : Registrar → Registrar) : (s.modRg k f).supplyCap = s.supplyCap := rfl
@[simp] theorem State.modRg_supplyOk (s : State) (k : Nat) (f : Registrar → Registrar) : (s.modRg k f).supplyOk = s.supplyOk := rfl
@[simp] theorem State.modRg_pkgCnt (s : State) (k : Nat) (f : Registrar → Registrar) : (s.modRg k f).pkgCnt = s.pkgCnt := rfl
@[simp] theorem State.modRg_commit (s : State) (k : Nat) (f : Registrar → Registrar) : (s.modRg k f).commit = s.commit := rfl
@[simp] theorem State.modRg_miss (s : State) (k : Nat) (f : Registrar → Registrar) : (s.modRg k f).miss = s.miss := rfl
@[simp] theorem State.modRg_errPend (s : State) (k : Nat) (f : Registrar → Registrar) : (s.modRg k f).errPend = s.errPend := rfl
@[simp] theorem State.modRg_sync (s : State) (k : Nat) (f : Registrar → Registrar) : (s.modRg k f).sync = s.sync := rfl
@[simp] theorem State.modRg_longFrame (s : State) (k : Nat) (f : Registrar → Registrar) : (s.modRg k f).longFrame = s.longFrame := rfl
@[simp] theorem State.modRg_timeValid (s : State) (k : Nat) (f : Registrar → Registrar) : (s.modRg k f).timeValid = s.timeValid := rfl
@[simp] theorem State.modRg_timeEst (s : State) (k : Nat) (f : Registrar → Registrar) : (s.modRg k f).timeEst = s.timeEst := rfl
@[simp] theorem State.modRg_ref (s : State) (k : Nat) (f : Registrar → Registrar) : (s.modRg k f).ref = s.ref := rfl
@[simp] theorem State.modRg_irqs (s : State) (k : Nat) (f : Registrar → Registrar) : (s.modRg k f).irqs = s.irqs := rfl
@[simp] theorem State.modRg_telSeq (s : State) (k : Nat) (f : Registrar → Registrar) : (s.modRg k f).telSeq = s.telSeq := rfl
@[simp] theorem State.modRg_telLast (s : State) (k : Nat) (f : Registrar → Registrar) : (s.modRg k f).telLast = s.telLast := rfl
@[simp] theorem State.modRg_aliveLast (s : State) (k : Nat) (f : Registrar → Registrar) : (s.modRg k f).aliveLast = s.aliveLast := rfl
@[simp] theorem State.modRg_alignLast (s : State) (k : Nat) (f : Registrar → Registrar) : (s.modRg k f).alignLast = s.alignLast := rfl
@[simp] theorem State.modRg_lastTel (s : State) (k : Nat) (f : Registrar → Registrar) : (s.modRg k f).lastTel = s.lastTel := rfl
@[simp] theorem State.modRg_halt (s : State) (k : Nat) (f : Registrar → Registrar) : (s.modRg k f).halt = s.halt := rfl
@[simp] theorem State.modRg_idleFrames (s : State) (k : Nat) (f : Registrar → Registrar) : (s.modRg k f).idleFrames = s.idleFrames := rfl
@[simp] theorem State.modRg_wakeCause (s : State) (k : Nat) (f : Registrar → Registrar) : (s.modRg k f).wakeCause = s.wakeCause := rfl
@[simp] theorem State.modRg_modeNext (s : State) (k : Nat) (f : Registrar → Registrar) : (s.modRg k f).modeNext = s.modeNext := rfl
@[simp] theorem State.modRg_retainAt (s : State) (k : Nat) (f : Registrar → Registrar) : (s.modRg k f).retainAt = s.retainAt := rfl
@[simp] theorem State.modRg_retainWant (s : State) (k : Nat) (f : Registrar → Registrar) : (s.modRg k f).retainWant = s.retainWant := rfl
@[simp] theorem State.modRg_wakeInEntry (s : State) (k : Nat) (f : Registrar → Registrar) : (s.modRg k f).wakeInEntry = s.wakeInEntry := rfl
@[simp] theorem State.modRg_wakeLow (s : State) (k : Nat) (f : Registrar → Registrar) : (s.modRg k f).wakeLow = s.wakeLow := rfl
@[simp] theorem State.modRg_pins (s : State) (k : Nat) (f : Registrar → Registrar) : (s.modRg k f).pins = s.pins := rfl
@[simp] theorem State.modRg_pmbus (s : State) (k : Nat) (f : Registrar → Registrar) : (s.modRg k f).pmbus = s.pmbus := rfl
@[simp] theorem State.modRg_taps (s : State) (k : Nat) (f : Registrar → Registrar) : (s.modRg k f).taps = s.taps := rfl
@[simp] theorem State.modRg_mgmtOut (s : State) (k : Nat) (f : Registrar → Registrar) : (s.modRg k f).mgmtOut = s.mgmtOut := rfl
@[simp] theorem State.modRg_levelNext (s : State) (k : Nat) (f : Registrar → Registrar) : (s.modRg k f).levelNext = s.levelNext := rfl
@[simp] theorem State.modRg_splitDue (s : State) (k : Nat) (f : Registrar → Registrar) : (s.modRg k f).splitDue = s.splitDue := rfl
@[simp] theorem State.modRg_missDue (s : State) (k : Nat) (f : Registrar → Registrar) : (s.modRg k f).missDue = s.missDue := rfl
@[simp] theorem State.modRg_errDue (s : State) (k : Nat) (f : Registrar → Registrar) : (s.modRg k f).errDue = s.errDue := rfl
@[simp] theorem State.modRg_afterStop (s : State) (k : Nat) (f : Registrar → Registrar) : (s.modRg k f).afterStop = s.afterStop := rfl
@[simp] theorem State.irq_pending (s : State) (k a b c : Nat) : (s.irq k a b c).pending = s.pending := rfl
@[simp] theorem State.irq_part (s : State) (k a b c : Nat) : (s.irq k a b c).part = s.part := rfl
@[simp] theorem State.irq_lid (s : State) (k a b c : Nat) : (s.irq k a b c).lid = s.lid := rfl
@[simp] theorem State.irq_free (s : State) (k a b c : Nat) : (s.irq k a b c).free = s.free := rfl
@[simp] theorem State.irq_stks (s : State) (k a b c : Nat) : (s.irq k a b c).stks = s.stks := rfl
@[simp] theorem State.irq_ports (s : State) (k a b c : Nat) : (s.irq k a b c).ports = s.ports := rfl
@[simp] theorem State.irq_dies (s : State) (k a b c : Nat) : (s.irq k a b c).dies = s.dies := rfl
@[simp] theorem State.irq_transit (s : State) (k a b c : Nat) : (s.irq k a b c).transit = s.transit := rfl
@[simp] theorem State.irq_nextRid (s : State) (k a b c : Nat) : (s.irq k a b c).nextRid = s.nextRid := rfl
@[simp] theorem State.irq_timedOut (s : State) (k a b c : Nat) : (s.irq k a b c).timedOut = s.timedOut := rfl
@[simp] theorem State.irq_mode (s : State) (k a b c : Nat) : (s.irq k a b c).mode = s.mode := rfl
@[simp] theorem State.irq_agg (s : State) (k a b c : Nat) : (s.irq k a b c).agg = s.agg := rfl
@[simp] theorem State.irq_aggChosen (s : State) (k a b c : Nat) : (s.irq k a b c).aggChosen = s.aggChosen := rfl
@[simp] theorem State.irq_runLevel (s : State) (k a b c : Nat) : (s.irq k a b c).runLevel = s.runLevel := rfl
@[simp] theorem State.irq_supplyCap (s : State) (k a b c : Nat) : (s.irq k a b c).supplyCap = s.supplyCap := rfl
@[simp] theorem State.irq_supplyOk (s : State) (k a b c : Nat) : (s.irq k a b c).supplyOk = s.supplyOk := rfl
@[simp] theorem State.irq_pkgCnt (s : State) (k a b c : Nat) : (s.irq k a b c).pkgCnt = s.pkgCnt := rfl
@[simp] theorem State.irq_commit (s : State) (k a b c : Nat) : (s.irq k a b c).commit = s.commit := rfl
@[simp] theorem State.irq_miss (s : State) (k a b c : Nat) : (s.irq k a b c).miss = s.miss := rfl
@[simp] theorem State.irq_errPend (s : State) (k a b c : Nat) : (s.irq k a b c).errPend = s.errPend := rfl
@[simp] theorem State.irq_sync (s : State) (k a b c : Nat) : (s.irq k a b c).sync = s.sync := rfl
@[simp] theorem State.irq_longFrame (s : State) (k a b c : Nat) : (s.irq k a b c).longFrame = s.longFrame := rfl
@[simp] theorem State.irq_timeValid (s : State) (k a b c : Nat) : (s.irq k a b c).timeValid = s.timeValid := rfl
@[simp] theorem State.irq_timeEst (s : State) (k a b c : Nat) : (s.irq k a b c).timeEst = s.timeEst := rfl
@[simp] theorem State.irq_ref (s : State) (k a b c : Nat) : (s.irq k a b c).ref = s.ref := rfl
@[simp] theorem State.irq_telSeq (s : State) (k a b c : Nat) : (s.irq k a b c).telSeq = s.telSeq := rfl
@[simp] theorem State.irq_telLast (s : State) (k a b c : Nat) : (s.irq k a b c).telLast = s.telLast := rfl
@[simp] theorem State.irq_aliveLast (s : State) (k a b c : Nat) : (s.irq k a b c).aliveLast = s.aliveLast := rfl
@[simp] theorem State.irq_alignLast (s : State) (k a b c : Nat) : (s.irq k a b c).alignLast = s.alignLast := rfl
@[simp] theorem State.irq_lastTel (s : State) (k a b c : Nat) : (s.irq k a b c).lastTel = s.lastTel := rfl
@[simp] theorem State.irq_halt (s : State) (k a b c : Nat) : (s.irq k a b c).halt = s.halt := rfl
@[simp] theorem State.irq_idleFrames (s : State) (k a b c : Nat) : (s.irq k a b c).idleFrames = s.idleFrames := rfl
@[simp] theorem State.irq_wakeCause (s : State) (k a b c : Nat) : (s.irq k a b c).wakeCause = s.wakeCause := rfl
@[simp] theorem State.irq_modeNext (s : State) (k a b c : Nat) : (s.irq k a b c).modeNext = s.modeNext := rfl
@[simp] theorem State.irq_retainAt (s : State) (k a b c : Nat) : (s.irq k a b c).retainAt = s.retainAt := rfl
@[simp] theorem State.irq_retainWant (s : State) (k a b c : Nat) : (s.irq k a b c).retainWant = s.retainWant := rfl
@[simp] theorem State.irq_wakeInEntry (s : State) (k a b c : Nat) : (s.irq k a b c).wakeInEntry = s.wakeInEntry := rfl
@[simp] theorem State.irq_wakeLow (s : State) (k a b c : Nat) : (s.irq k a b c).wakeLow = s.wakeLow := rfl
@[simp] theorem State.irq_pins (s : State) (k a b c : Nat) : (s.irq k a b c).pins = s.pins := rfl
@[simp] theorem State.irq_pmbus (s : State) (k a b c : Nat) : (s.irq k a b c).pmbus = s.pmbus := rfl
@[simp] theorem State.irq_taps (s : State) (k a b c : Nat) : (s.irq k a b c).taps = s.taps := rfl
@[simp] theorem State.irq_mgmtOut (s : State) (k a b c : Nat) : (s.irq k a b c).mgmtOut = s.mgmtOut := rfl
@[simp] theorem State.irq_levelNext (s : State) (k a b c : Nat) : (s.irq k a b c).levelNext = s.levelNext := rfl
@[simp] theorem State.irq_splitDue (s : State) (k a b c : Nat) : (s.irq k a b c).splitDue = s.splitDue := rfl
@[simp] theorem State.irq_missDue (s : State) (k a b c : Nat) : (s.irq k a b c).missDue = s.missDue := rfl
@[simp] theorem State.irq_errDue (s : State) (k a b c : Nat) : (s.irq k a b c).errDue = s.errDue := rfl
@[simp] theorem State.irq_afterStop (s : State) (k a b c : Nat) : (s.irq k a b c).afterStop = s.afterStop := rfl
@[simp] theorem State.draw_pending (s : State) : s.draw.2.pending = s.pending := rfl
@[simp] theorem State.draw_part (s : State) : s.draw.2.part = s.part := rfl
@[simp] theorem State.draw_lid (s : State) : s.draw.2.lid = s.lid := rfl
@[simp] theorem State.draw_stks (s : State) : s.draw.2.stks = s.stks := rfl
@[simp] theorem State.draw_ports (s : State) : s.draw.2.ports = s.ports := rfl
@[simp] theorem State.draw_dies (s : State) : s.draw.2.dies = s.dies := rfl
@[simp] theorem State.draw_transit (s : State) : s.draw.2.transit = s.transit := rfl
@[simp] theorem State.draw_nextRid (s : State) : s.draw.2.nextRid = s.nextRid := rfl
@[simp] theorem State.draw_timedOut (s : State) : s.draw.2.timedOut = s.timedOut := rfl
@[simp] theorem State.draw_mode (s : State) : s.draw.2.mode = s.mode := rfl
@[simp] theorem State.draw_agg (s : State) : s.draw.2.agg = s.agg := rfl
@[simp] theorem State.draw_aggChosen (s : State) : s.draw.2.aggChosen = s.aggChosen := rfl
@[simp] theorem State.draw_runLevel (s : State) : s.draw.2.runLevel = s.runLevel := rfl
@[simp] theorem State.draw_supplyCap (s : State) : s.draw.2.supplyCap = s.supplyCap := rfl
@[simp] theorem State.draw_supplyOk (s : State) : s.draw.2.supplyOk = s.supplyOk := rfl
@[simp] theorem State.draw_pkgCnt (s : State) : s.draw.2.pkgCnt = s.pkgCnt := rfl
@[simp] theorem State.draw_commit (s : State) : s.draw.2.commit = s.commit := rfl
@[simp] theorem State.draw_miss (s : State) : s.draw.2.miss = s.miss := rfl
@[simp] theorem State.draw_errPend (s : State) : s.draw.2.errPend = s.errPend := rfl
@[simp] theorem State.draw_sync (s : State) : s.draw.2.sync = s.sync := rfl
@[simp] theorem State.draw_longFrame (s : State) : s.draw.2.longFrame = s.longFrame := rfl
@[simp] theorem State.draw_timeValid (s : State) : s.draw.2.timeValid = s.timeValid := rfl
@[simp] theorem State.draw_timeEst (s : State) : s.draw.2.timeEst = s.timeEst := rfl
@[simp] theorem State.draw_ref (s : State) : s.draw.2.ref = s.ref := rfl
@[simp] theorem State.draw_irqs (s : State) : s.draw.2.irqs = s.irqs := rfl
@[simp] theorem State.draw_telSeq (s : State) : s.draw.2.telSeq = s.telSeq := rfl
@[simp] theorem State.draw_telLast (s : State) : s.draw.2.telLast = s.telLast := rfl
@[simp] theorem State.draw_aliveLast (s : State) : s.draw.2.aliveLast = s.aliveLast := rfl
@[simp] theorem State.draw_alignLast (s : State) : s.draw.2.alignLast = s.alignLast := rfl
@[simp] theorem State.draw_lastTel (s : State) : s.draw.2.lastTel = s.lastTel := rfl
@[simp] theorem State.draw_halt (s : State) : s.draw.2.halt = s.halt := rfl
@[simp] theorem State.draw_idleFrames (s : State) : s.draw.2.idleFrames = s.idleFrames := rfl
@[simp] theorem State.draw_wakeCause (s : State) : s.draw.2.wakeCause = s.wakeCause := rfl
@[simp] theorem State.draw_modeNext (s : State) : s.draw.2.modeNext = s.modeNext := rfl
@[simp] theorem State.draw_retainAt (s : State) : s.draw.2.retainAt = s.retainAt := rfl
@[simp] theorem State.draw_retainWant (s : State) : s.draw.2.retainWant = s.retainWant := rfl
@[simp] theorem State.draw_wakeInEntry (s : State) : s.draw.2.wakeInEntry = s.wakeInEntry := rfl
@[simp] theorem State.draw_wakeLow (s : State) : s.draw.2.wakeLow = s.wakeLow := rfl
@[simp] theorem State.draw_pins (s : State) : s.draw.2.pins = s.pins := rfl
@[simp] theorem State.draw_pmbus (s : State) : s.draw.2.pmbus = s.pmbus := rfl
@[simp] theorem State.draw_taps (s : State) : s.draw.2.taps = s.taps := rfl
@[simp] theorem State.draw_mgmtOut (s : State) : s.draw.2.mgmtOut = s.mgmtOut := rfl
@[simp] theorem State.draw_free (s : State) : s.draw.2.free = s.free + 1 := rfl
@[simp] theorem State.draw_levelNext (s : State) : s.draw.2.levelNext = s.levelNext := rfl
@[simp] theorem State.draw_splitDue (s : State) : s.draw.2.splitDue = s.splitDue := rfl
@[simp] theorem State.draw_missDue (s : State) : s.draw.2.missDue = s.missDue := rfl
@[simp] theorem State.draw_errDue (s : State) : s.draw.2.errDue = s.errDue := rfl
@[simp] theorem State.draw_afterStop (s : State) : s.draw.2.afterStop = s.afterStop := rfl
@[simp] theorem Stack.modCh_regs (x : Stack) (c : Nat) (f : Chan → Chan) : (x.modCh c f).regs = x.regs := rfl
@[simp] theorem Stack.modCh_pkgRegs (x : Stack) (c : Nat) (f : Chan → Chan) : (x.modCh c f).pkgRegs = x.pkgRegs := rfl
@[simp] theorem Stack.modCh_labels (x : Stack) (c : Nat) (f : Chan → Chan) : (x.modCh c f).labels = x.labels := rfl
@[simp] theorem Stack.modCh_stLabels (x : Stack) (c : Nat) (f : Chan → Chan) : (x.modCh c f).stLabels = x.stLabels := rfl
@[simp] theorem Stack.modCh_cnt (x : Stack) (c : Nat) (f : Chan → Chan) : (x.modCh c f).cnt = x.cnt := rfl
@[simp] theorem Stack.modCh_latch (x : Stack) (c : Nat) (f : Chan → Chan) : (x.modCh c f).latch = x.latch := rfl
@[simp] theorem Stack.modCh_mode (x : Stack) (c : Nat) (f : Chan → Chan) : (x.modCh c f).mode = x.mode := rfl
@[simp] theorem Stack.modCh_stkNext (x : Stack) (c : Nat) (f : Chan → Chan) : (x.modCh c f).stkNext = x.stkNext := rfl
@[simp] theorem Stack.modCh_rst (x : Stack) (c : Nat) (f : Chan → Chan) : (x.modCh c f).rst = x.rst := rfl
@[simp] theorem Stack.modCh_resetRetain (x : Stack) (c : Nat) (f : Chan → Chan) : (x.modCh c f).resetRetain = x.resetRetain := rfl
@[simp] theorem Stack.modCh_safeEntry (x : Stack) (c : Nat) (f : Chan → Chan) : (x.modCh c f).safeEntry = x.safeEntry := rfl
@[simp] theorem Stack.modCh_upFailed (x : Stack) (c : Nat) (f : Chan → Chan) : (x.modCh c f).upFailed = x.upFailed := rfl
@[simp] theorem Stack.modCh_downFailed (x : Stack) (c : Nat) (f : Chan → Chan) : (x.modCh c f).downFailed = x.downFailed := rfl
@[simp] theorem Stack.modCh_admQ (x : Stack) (c : Nat) (f : Chan → Chan) : (x.modCh c f).admQ = x.admQ := rfl
@[simp] theorem Stack.modCh_table (x : Stack) (c : Nat) (f : Chan → Chan) : (x.modCh c f).table = x.table := rfl
@[simp] theorem Stack.modCh_tiles (x : Stack) (c : Nat) (f : Chan → Chan) : (x.modCh c f).tiles = x.tiles := rfl
@[simp] theorem Stack.modCh_openList (x : Stack) (c : Nat) (f : Chan → Chan) : (x.modCh c f).openList = x.openList := rfl
@[simp] theorem Stack.modCh_seals (x : Stack) (c : Nat) (f : Chan → Chan) : (x.modCh c f).seals = x.seals := rfl
@[simp] theorem Stack.modCh_overflow (x : Stack) (c : Nat) (f : Chan → Chan) : (x.modCh c f).overflow = x.overflow := rfl
@[simp] theorem Stack.modCh_sweepPos (x : Stack) (c : Nat) (f : Chan → Chan) : (x.modCh c f).sweepPos = x.sweepPos := rfl
@[simp] theorem Stack.modCh_sweepDirty (x : Stack) (c : Nat) (f : Chan → Chan) : (x.modCh c f).sweepDirty = x.sweepDirty := rfl
@[simp] theorem Stack.modCh_scrubSeen (x : Stack) (c : Nat) (f : Chan → Chan) : (x.modCh c f).scrubSeen = x.scrubSeen := rfl
@[simp] theorem Stack.modCh_scrubStart (x : Stack) (c : Nat) (f : Chan → Chan) : (x.modCh c f).scrubStart = x.scrubStart := rfl
@[simp] theorem Stack.modCh_vitScrubStart (x : Stack) (c : Nat) (f : Chan → Chan) : (x.modCh c f).vitScrubStart = x.vitScrubStart := rfl
@[simp] theorem Stack.modCh_lines (x : Stack) (c : Nat) (f : Chan → Chan) : (x.modCh c f).lines = x.lines := rfl
@[simp] theorem Stack.modCh_scanned (x : Stack) (c : Nat) (f : Chan → Chan) : (x.modCh c f).scanned = x.scanned := rfl
@[simp] theorem Stack.modCh_budget (x : Stack) (c : Nat) (f : Chan → Chan) : (x.modCh c f).budget = x.budget := rfl
@[simp] theorem Stack.modCh_scb (x : Stack) (c : Nat) (f : Chan → Chan) : (x.modCh c f).scb = x.scb := rfl
@[simp] theorem Stack.modCh_rowEvts (x : Stack) (c : Nat) (f : Chan → Chan) : (x.modCh c f).rowEvts = x.rowEvts := rfl
@[simp] theorem Stack.modCh_laneEvts (x : Stack) (c : Nat) (f : Chan → Chan) : (x.modCh c f).laneEvts = x.laneEvts := rfl
@[simp] theorem Stack.modCh_rg (x : Stack) (c : Nat) (f : Chan → Chan) : (x.modCh c f).rg = x.rg := rfl
@[simp] theorem Stack.modCh_th (x : Stack) (c : Nat) (f : Chan → Chan) : (x.modCh c f).th = x.th := rfl
@[simp] theorem Stack.modCh_pw (x : Stack) (c : Nat) (f : Chan → Chan) : (x.modCh c f).pw = x.pw := rfl
@[simp] theorem Stack.modCh_latches (x : Stack) (c : Nat) (f : Chan → Chan) : (x.modCh c f).latches = x.latches := rfl
@[simp] theorem Stack.modCh_clk (x : Stack) (c : Nat) (f : Chan → Chan) : (x.modCh c f).clk = x.clk := rfl
@[simp] theorem Stack.modCh_otp (x : Stack) (c : Nat) (f : Chan → Chan) : (x.modCh c f).otp = x.otp := rfl
@[simp] theorem Stack.modCh_bst (x : Stack) (c : Nat) (f : Chan → Chan) : (x.modCh c f).bst = x.bst := rfl
@[simp] theorem Stack.modCh_doc (x : Stack) (c : Nat) (f : Chan → Chan) : (x.modCh c f).doc = x.doc := rfl
@[simp] theorem Stack.modCh_tm (x : Stack) (c : Nat) (f : Chan → Chan) : (x.modCh c f).tm = x.tm := rfl
@[simp] theorem Stack.modCh_chans (x : Stack) (c : Nat) (f : Chan → Chan) : (x.modCh c f).chans = x.chans.modify c f := rfl
@[simp] theorem Stack.modCh_wrr (x : Stack) (c : Nat) (f : Chan → Chan) : (x.modCh c f).wrr = x.wrr := rfl
@[simp] theorem Stack.modCh_refPhase (x : Stack) (c : Nat) (f : Chan → Chan) : (x.modCh c f).refPhase = x.refPhase := rfl
@[simp] theorem Stack.modCh_sidIv (x : Stack) (c : Nat) (f : Chan → Chan) : (x.modCh c f).sidIv = x.sidIv := rfl
@[simp] theorem Stack.modCh_vitScrubSeen (x : Stack) (c : Nat) (f : Chan → Chan) : (x.modCh c f).vitScrubSeen = x.vitScrubSeen := rfl
@[simp] theorem Chan.modPc_trnErr (c : Chan) (i : Nat) (f : PChan → PChan) : (c.modPc i f).trnErr = c.trnErr := rfl
@[simp] theorem Chan.modPc_trnMap (c : Chan) (i : Nat) (f : PChan → PChan) : (c.modPc i f).trnMap = c.trnMap := rfl
@[simp] theorem Chan.modPc_unusable (c : Chan) (i : Nat) (f : PChan → PChan) : (c.modPc i f).unusable = c.unusable := rfl
@[simp] theorem Chan.modPc_viUnusable (c : Chan) (i : Nat) (f : PChan → PChan) : (c.modPc i f).viUnusable = c.viUnusable := rfl
@[simp] theorem Chan.modPc_nduUnusable (c : Chan) (i : Nat) (f : PChan → PChan) : (c.modPc i f).nduUnusable = c.nduUnusable := rfl
@[simp] theorem Chan.modPc_dlyPend (c : Chan) (i : Nat) (f : PChan → PChan) : (c.modPc i f).dlyPend = c.dlyPend := rfl
@[simp] theorem Chan.modPc_trnPend (c : Chan) (i : Nat) (f : PChan → PChan) : (c.modPc i f).trnPend = c.trnPend := rfl
@[simp] theorem Chan.modPc_accs (c : Chan) (i : Nat) (f : PChan → PChan) : (c.modPc i f).accs = c.accs := rfl
@[simp] theorem Chan.modPc_plru (c : Chan) (i : Nat) (f : PChan → PChan) : (c.modPc i f).plru = c.plru := rfl
@[simp] theorem Chan.modPc_pcs (c : Chan) (i : Nat) (f : PChan → PChan) : (c.modPc i f).pcs = c.pcs.modify i f := rfl

end Sys2Proof.Machine
end

