-- ==== Sys2Proof/Laws/Ops.lean ====
section
/-! SUPPORT. The shared operations, each with what it can do: stacks and ports, registers and fields, counters, reports. -/

namespace Sys2Proof.Machine

theorem getD_modify_same {α : Type} (l : List α) (i : Nat) (f : α → α) (d : α) (h : i < l.length) :
    (l.modify i f).getD i d = f (l.getD i d) := by
  simp [List.getD, h]

theorem getD_modify_other {α : Type} (l : List α) (i j : Nat) (f : α → α) (d : α) (h : j ≠ i) :
    (l.modify i f).getD j d = l.getD j d := by
  simp [List.getD, Ne.symm h]

/-- The changed stack. -/
theorem State.stk_modStk_same (s : State) (k : Nat) (f : Stack → Stack) (h : k < s.stks.length) :
    (s.modStk k f).stk k = f (s.stk k) := getD_modify_same _ _ _ _ h

/-- Every other stack is as before. -/
theorem State.stk_modStk_other (s : State) (k j : Nat) (f : Stack → Stack) (h : j ≠ k) :
    (s.modStk k f).stk j = s.stk j := getD_modify_other _ _ _ _ _ h

/-- Changing a port leaves the stacks. -/
@[simp] theorem State.stk_modPort (s : State) (p j : Nat) (f : Port → Port) : (s.modPort p f).stk j = s.stk j := rfl

/-- The changed port. -/
theorem State.prt_modPort_same (s : State) (p : Nat) (f : Port → Port) (h : p < s.ports.length) :
    (s.modPort p f).prt p = f (s.prt p) := getD_modify_same _ _ _ _ h

/-- Every other port is as before. -/
theorem State.prt_modPort_other (s : State) (p q : Nat) (f : Port → Port) (h : q ≠ p) :
    (s.modPort p f).prt q = s.prt q := getD_modify_other _ _ _ _ _ h

/-- Changing a stack leaves the ports. -/
@[simp] theorem State.prt_modStk (s : State) (k q : Nat) (f : Stack → Stack) : (s.modStk k f).prt q = s.prt q := rfl

/-- A register that is stored reads as stored, in 32 bits. -/
theorem State.raw_setRaw_same (s : State) (k : Nat) (pg : Page) (i off v : Nat) (h : k < s.stks.length) :
    (s.setRaw k pg i off v).raw k pg i off = v % 2 ^ 32 := by
  unfold State.raw
  simp only [State.setRaw_part]
  unfold State.setRaw
  rw [State.stk_modStk_same s k _ h]
  cases hp : pg.isPkg <;> simp

/-- Any other register reads as before. -/
theorem State.raw_setRaw_other (s : State) (k j : Nat) (pg qg : Page) (i i' off off' v : Nat)
    (h : j ≠ k ∨ pg.isPkg ≠ qg.isPkg ∨ regKey qg i' off' ≠ regKey pg i off) :
    (s.setRaw k pg i off v).raw j qg i' off' = s.raw j qg i' off' := by
  unfold State.raw
  simp only [State.setRaw_part]
  by_cases hj : j = k
  · subst hj
    by_cases hk : j < s.stks.length
    · unfold State.setRaw
      rw [State.stk_modStk_same s j _ hk]
      cases hp : pg.isPkg <;> cases hq : qg.isPkg <;> simp_all [mget_mput_other]
    · have : (s.setRaw j pg i off v).stks = s.stks := by
        unfold State.setRaw State.modStk
        simp only
        exact List.modify_eq_self (by omega)
      simp [State.stk, this]
  · unfold State.setRaw
    rw [State.stk_modStk_other s k j _ hj]

/-- A stored register is below 2 ^ 32. -/
theorem State.raw_lt (s : State) (k : Nat) (pg : Page) (i off : Nat) : s.raw k pg i off < 2 ^ 32 := BitVec.isLt _

/-- A field that is written reads as written. -/
theorem State.fld_setFld_same (s : State) (k i : Nat) (f : FRef) (v : Nat) (hk : k < s.stks.length)
    (hlo : f.lo ≤ f.hi + 1) (hhi : f.hi < 32) : (s.setFld k i f v).fld k i f = v % 2 ^ (f.hi + 1 - f.lo) := by
  unfold State.fld State.setFld
  rw [State.raw_setRaw_same s k f.page i f.off _ hk,
    Nat.mod_eq_of_lt (putBits_lt _ _ _ _ hlo hhi (State.raw_lt s k f.page i f.off)), bits_putBits_same _ _ _ _ hlo]

/-- A field of another register reads as before. -/
theorem State.fld_setFld_other (s : State) (k j i i' : Nat) (f g : FRef) (v : Nat)
    (h : j ≠ k ∨ f.page.isPkg ≠ g.page.isPkg ∨ regKey g.page i' g.off ≠ regKey f.page i f.off) :
    (s.setFld k i f v).fld j i' g = s.fld j i' g := by
  unfold State.fld
  rw [show (s.setFld k i f v).raw j g.page i' g.off = s.raw j g.page i' g.off from
    State.raw_setRaw_other s k j f.page g.page i i' f.off g.off _ h]

/-- Another field of the same register reads as before. -/
theorem State.fld_setFld_sibling (s : State) (k i : Nat) (f g : FRef) (v : Nat) (hk : k < s.stks.length)
    (hp : g.page = f.page) (ho : g.off = f.off) (hlo : f.lo ≤ f.hi + 1) (hhi : f.hi < 32)
    (h : f.hi < g.lo ∨ (g.hi < f.lo ∧ g.lo ≤ g.hi + 1)) : (s.setFld k i f v).fld k i g = s.fld k i g := by
  unfold State.fld State.setFld
  rw [hp, ho, State.raw_setRaw_same s k f.page i f.off _ hk,
    Nat.mod_eq_of_lt (putBits_lt _ _ _ _ hlo hhi (State.raw_lt s k f.page i f.off))]
  rcases h with h | h
  · exact bits_putBits_above _ _ _ _ _ _ hlo h
  · exact bits_putBits_below _ _ _ _ _ _ hlo h.1 h.2

/-- A counter that is set reads as set. -/
theorem State.cntVal_setCnt_same (s : State) (k : Nat) (pg : Page) (i c v : Nat) (h : k < s.stks.length) :
    (s.setCnt k pg i c v).cntVal k pg i c = v := by
  unfold State.cntVal State.setCnt
  cases hp : pg.isPkg
  · simp only [Bool.false_eq_true, if_false]
    rw [State.stk_modStk_same s k _ h]
    simp
  · simp

/-- Counting adds, and stops at the largest value (R82). -/
theorem State.cntVal_count_same (s : State) (k : Nat) (pg : Page) (i c n : Nat) (h : k < s.stks.length)
    (hf : s.frozen k pg i = false) : (s.count k pg i c n).cntVal k pg i c = satAdd cntMax (s.cntVal k pg i c) n := by
  unfold State.count
  rw [if_neg (by simp [hf])]
  exact State.cntVal_setCnt_same s k pg i c _ h

/-- A frozen page counts nothing (R82). -/
theorem State.count_frozen (s : State) (k : Nat) (pg : Page) (i c n : Nat) (hf : s.frozen k pg i = true) :
    s.count k pg i c n = s := by
  unfold State.count
  rw [if_pos hf]

theorem length_modify' {α : Type} (l : List α) (i : Nat) (f : α → α) : (l.modify i f).length = l.length :=
  List.length_modify f l i

/-- A report leaves everything of the package but the stacks' registers and intakes and the events to broadcast. -/
theorem State.report_eq (s : State) (k : Nat) (x : Kind) (i sub addr : Nat) :
    ∃ (st : List Stack) (ep : List (Nat × Nat × Nat)),
      s.report k x i sub addr = { s with
        stks := st
        errPend := ep } ∧ st.length = s.stks.length := by
  refine ⟨(s.report k x i sub addr).stks, (s.report k x i sub addr).errPend, ?_, ?_⟩ <;>
    unfold State.report State.reportSev <;> dsimp only <;> split <;> split <;> (try split) <;>
    first
      | rfl
      | simp [State.modRg, State.modStk, State.setRaw]

end Sys2Proof.Machine
end

