-- ==== Sys2Proof/Laws/Order.lean ====
section
/-! SUPPORT. The order of service: what holds back a request, how long a bank's queue is, when writes drain, and what serving an
entry of the request table does. -/

namespace Sys2Proof.Machine

/-! ### Bank queues and drains -/

/-- A bank's queue holds at most 16 requests (R239). -/
theorem State.length_bankQueue (s : State) (k ch pc b : Nat) : (s.bankQueue k ch pc b).length ≤ 16 := by
  simp [State.bankQueue, List.length_take]

/-- Every request of a bank's queue moves words of the bank (R239). -/
theorem State.bankBound_of_mem_bankQueue (s : State) (k ch pc b : Nat) (r : Req) (h : r ∈ s.bankQueue k ch pc b) :
    s.bankBound k r = true :=
  (List.mem_filter.mp (List.mem_of_mem_take h)).2

/-- WR_LOW acts below WR_HIGH (R256). -/
theorem State.wrLow_lt (s : State) (k ch : Nat) (h : 0 < s.wrHigh k ch) : s.wrLow k ch < s.wrHigh k ch := by
  unfold State.wrLow
  split <;> omega

/-- Without a pending write there is no drain (R237). -/
theorem State.drainOn_none (s : State) (k ch pc : Nat) (h : s.pendingWrites k ch pc = 0) : s.drainOn k ch pc = false := by
  simp [State.drainOn, h]

/-- From WR_HIGH pending writes on, a drain begins while the turnaround reserve lasts (R237, R238). -/
theorem State.drainOn_high (s : State) (k ch pc : Nat) (h : s.wrHigh k ch ≤ s.pendingWrites k ch pc)
    (hp : 0 < s.pendingWrites k ch pc) (ht : (s.pcOf k ch pc).turnUsed < s.turnNow k) :
    s.drainOn k ch pc = true := by
  simp [State.drainOn, h, hp, ht]

/-- A pseudo-channel that is paused serves nothing (R254). -/
theorem State.chanServes_paused (s : State) (k ch pc : Nat) (h : (((s.stk k).ch ch).pc pc).paused = true) :
    s.chanServes k ch pc = false := by
  simp [State.chanServes, h]

/-- Nor does one in self-refresh (R249). -/
theorem State.chanServes_selfRefresh (s : State) (k ch pc : Nat) (h : (((s.stk k).ch ch).pc pc).selfRefresh = true) :
    s.chanServes k ch pc = false := by
  simp [State.chanServes, h]

/-- Nor one whose tracking pass after self-refresh is due (R249). -/
theorem State.chanServes_trkDue (s : State) (k ch pc : Nat) (h : (((s.stk k).ch ch).pc pc).trkDue = true) :
    s.chanServes k ch pc = false := by
  simp [State.chanServes, h]

/-! ### Serving an entry -/

/-- A request that is held behind an earlier one is not served (R119). -/
theorem State.servable_blocked (s : State) (k : Nat) (r : Req) (h : s.blocked k r = true) : s.servable k r = false := by
  simp [State.servable, h]

/-- A request that moves words of a bank is served only as the next of its pseudo-channel (R155, R236). -/
theorem State.isNext_of_servable (s : State) (k : Nat) (r : Req) (h : s.servable k r = true) (hd : isDesc r.op = false)
    (hz : r.op ≠ 0x09) (hb : s.bankBound k r = true) : s.isNext k r = true := by
  simp [State.servable, hd, hz, hb] at h
  exact h.2.2

/-- Without its entry a command that serves one does nothing. -/
theorem serve_none (s : State) (k rid : Nat) (ops : List Nat) (f : State → Req → State) (h : s.entry k rid = none) :
    serve s k rid ops f = s := by
  simp [serve, h]

/-- An entry that has been completed is not served again. -/
theorem serve_done (s : State) (k rid : Nat) (ops : List Nat) (f : State → Req → State) (e : Entry) (h : s.entry k rid = some e)
    (hd : e.done.isSome = true) : serve s k rid ops f = s := by
  cases hx : e.done <;> simp_all [serve]

/-- An entry that may be served and needs nothing from a bank is served at once. -/
theorem serve_slice (s : State) (k rid : Nat) (ops : List Nat) (f : State → Req → State) (e : Entry) (h : s.entry k rid = some e)
    (ho : e.req.op ∈ ops) (hd : e.done = none) (hg : e.gth = none) (hs : s.servable k e.req = true)
    (hb : s.bankBound k e.req = false) : serve s k rid ops f = f s e.req := by
  simp [serve, h, ho, hd, hg, hs, hb]

/-- An entry that may be served and moves words of a bank is served in the order of the bank's queue (R122, R237). -/
theorem serve_bank (s : State) (k rid : Nat) (ops : List Nat) (f : State → Req → State) (e : Entry) (h : s.entry k rid = some e)
    (ho : e.req.op ∈ ops) (hd : e.done = none) (hg : e.gth = none) (hs : s.servable k e.req = true)
    (hb : s.bankBound k e.req = true) : serve s k rid ops f = endBank (f (beginBank s k e.req) e.req) k e.req := by
  simp [serve, h, ho, hd, hg, hs, hb]

end Sys2Proof.Machine
end

