-- ==== Sys2Proof/WellFormed.lean ====
section
/-! DEFINITION. Well-formed commands: every operand within the range that the spec gives it, on a part of n stacks and
`dies` memory dies per stack (R1, R5, R11, R16). -/

namespace Sys2Proof

/-- The source exists on the part (R11, R88). -/
def Source.wf (n : Nat) : Source → Bool
  | .port p => decide (p < 4 * n)
  | .pmbus => true
  | .docent k => decide (k < n)

/-- Pass maps and error counts of at most the 36 pins of a group (R251, R252, R262). -/
def TrnResult.wf (r : TrnResult) : Bool :=
  decide (r.pinErrors.length ≤ 36) && r.pinErrors.all (fun x => decide (x < 2 ^ 32)) &&
  decide (r.passMaps.length ≤ 36) && decide (r.atMinus.length ≤ 36) && decide (r.atZero.length ≤ 36) &&
  decide (r.atPlus.length ≤ 36)

/-- Failed channels exist (R16). -/
def DocOutcome.wf (o : DocOutcome) : Bool := o.failedChs.all (fun c => decide (c < 32))

/-- A burn uses 1 to 4 pulses (R429). -/
def Burn.wf (b : Burn) : Bool := decide (1 ≤ b.pulses ∧ b.pulses ≤ 4)

/-- A report names a severity and a SUB of 4 bits (R449). -/
def NewReport.wf (r : NewReport) : Bool := decide (r.sev < 4) && decide (r.sub < 16) && decide (r.kind < 1024)

/-- A line has 8 sectors (R208). -/
def sramOk : Option SramErr → Bool
  | some (.data i) => decide (i < 8)
  | _ => true

/-- A well-formed command. -/
def Instr.wf (n dies : Nat) : Instr → Bool
  | .registerWrite src _ _ => src.wf n
  | .packagePageWrite src _ _ => src.wf n
  | .stagedWrite src _ _ => src.wf n
  | .discard src _ => src.wf n
  | .counterClear src _ => src.wf n
  | .counterLowRead src _ => src.wf n
  | .pageErrBroadcast k => decide (k < n)
  | .aggregatorSelect => true
  | .ringLinkFail k _ => decide (k < n)
  | .ringPartition => true
  | .frameTick => true
  | .missEventApply => true
  | .runLevelChange level => decide (level < 4)
  | .frameCountAlign => true
  | .timeSync p _ e _ => decide (p < 4 * n) && decide (e < 200)
  | .timeSyncApply => true
  | .tierUp k => decide (k < n)
  | .tierDown k => decide (k < n)
  | .commit src _ => src.wf n
  | .commitCheckOnly src _ => src.wf n
  | .commitCheckDone => true
  | .apply k => decide (k < n)
  | .applyAck k => decide (k < n)
  | .commitAbort => true
  | .commitApply => true
  | .commitComplete => true
  | .read k _ e => decide (k < n) && sramOk e
  | .write k _ e => decide (k < n) && sramOk e
  | .writePosted k _ => decide (k < n)
  | .writeMasked k _ => decide (k < n)
  | .fence p ctx => decide (p < 4 * n) && decide (ctx < 1024)
  | .fenceComplete p ctx => decide (p < 4 * n) && decide (ctx < 1024)
  | .rangeZero k _ j => decide (k < n) && decide (j < n)
  | .rangeZeroComplete k _ => decide (k < n)
  | .mgmtRead p => decide (p < 4 * n)
  | .mgmtWrite p => decide (p < 4 * n)
  | .irq => true
  | .inboundIrqTelemetry p _ => decide (p < 4 * n)
  | .lateRsp p _ => decide (p < 4 * n)
  | .ingressRelease p ctx => decide (p < 4 * n) && decide (ctx < 1024)
  | .admissionQueueEntry k _ => decide (k < n)
  | .requestTableAllocate k => decide (k < n)
  | .requestAged _ => true
  | .admitTimeout k _ => decide (k < n)
  | .responseToEgress k _ => decide (k < n)
  | .rspStall p => decide (p < 4 * n)
  | .add32 k _ => decide (k < n)
  | .and32 k _ => decide (k < n)
  | .or32 k _ => decide (k < n)
  | .xor32 k _ => decide (k < n)
  | .smin32 k _ => decide (k < n)
  | .smax32 k _ => decide (k < n)
  | .umin32 k _ => decide (k < n)
  | .umax32 k _ => decide (k < n)
  | .swap32 k _ => decide (k < n)
  | .cas32 k _ => decide (k < n)
  | .fadd32 k _ => decide (k < n)
  | .fmin32 k _ => decide (k < n)
  | .fmax32 k _ => decide (k < n)
  | .add64 k _ => decide (k < n)
  | .and64 k _ => decide (k < n)
  | .or64 k _ => decide (k < n)
  | .xor64 k _ => decide (k < n)
  | .smin64 k _ => decide (k < n)
  | .smax64 k _ => decide (k < n)
  | .umin64 k _ => decide (k < n)
  | .umax64 k _ => decide (k < n)
  | .swap64 k _ => decide (k < n)
  | .cas64 k _ => decide (k < n)
  | .fadd64 k _ => decide (k < n)
  | .fmin64 k _ => decide (k < n)
  | .fmax64 k _ => decide (k < n)
  | .cas128 k _ => decide (k < n)
  | .reproAdd k _ => decide (k < n)
  | .fold k _ => decide (k < n)
  | .foldClear k _ => decide (k < n)
  | .scatterAcc k _ => decide (k < n)
  | .gather k _ => decide (k < n)
  | .stridedGather k _ => decide (k < n)
  | .stridedCopy k _ => decide (k < n)
  | .pkgCopy k _ => decide (k < n)
  | .gthDescriptorStart k _ => decide (k < n)
  | .gthElementAccess k _ => decide (k < n)
  | .accSpillAll src k ch _ => src.wf n && decide (k < n) && decide (ch < 32)
  | .vitFlush src k _ => src.wf n && decide (k < n)
  | .vitInvalidate src k _ => src.wf n && decide (k < n)
  | .vitFlushInv src k _ => src.wf n && decide (k < n)
  | .vitOpDone k => decide (k < n)
  | .vitSramScrub k ch line e => decide (k < n) && decide (ch < 32) && decide (line < 8192) && sramOk e
  | .vitScrubLate k => decide (k < n)
  | .refreshSpacing k ch pc bank => decide (k < n) && decide (ch < 32) && decide (pc < 2) && decide (bank < 4 * dies)
  | .perBankRefresh k ch pc bank => decide (k < n) && decide (ch < 32) && decide (pc < 2) && decide (bank < 4 * dies)
  | .activate k ch pc bank row _ => decide (k < n) && decide (ch < 32) && decide (pc < 2) && decide (bank < 4 * dies) && decide (row < 32768)
  | .targetedRefresh k ch pc => decide (k < n) && decide (ch < 32) && decide (pc < 2)
  | .targetedRefreshPromote k ch pc => decide (k < n) && decide (ch < 32) && decide (pc < 2)
  | .powerDownEntry k ch pc => decide (k < n) && decide (ch < 32) && decide (pc < 2)
  | .trnPattern src k ch _ res => src.wf n && decide (k < n) && decide (ch < 32) && res.wf
  | .trnSweep src k ch _ res => src.wf n && decide (k < n) && decide (ch < 32) && res.wf
  | .trnTrackingPass src k ch _ res => src.wf n && decide (k < n) && decide (ch < 32) && res.wf
  | .trnAbort src k ch _ => src.wf n && decide (k < n) && decide (ch < 32)
  | .trnDone k ch => decide (k < n) && decide (ch < 32)
  | .trackingPass k ch pc res => decide (k < n) && decide (ch < 32) && decide (pc < 2) && res.wf
  | .pauseRequest src k ch _ => src.wf n && decide (k < n) && decide (ch < 32)
  | .pauseClear src k ch _ => src.wf n && decide (k < n) && decide (ch < 32)
  | .pauseEnClear src k ch _ => src.wf n && decide (k < n) && decide (ch < 32)
  | .pauseDebt k ch => decide (k < n) && decide (ch < 32)
  | .ctlDlyWrite src k ch _ => src.wf n && decide (k < n) && decide (ch < 32)
  | .memoryDieSensorRead k raw => decide (k < n) && decide (raw.length = dies)
  | .suspectClear k die => decide (k < n) && decide (die < dies)
  | .seal k tile => decide (k < n) && decide (tile < 8388608 * 4)
  | .forcedSeal k tile => decide (k < n) && decide (tile < 8388608 * 4)
  | .sealComplete k tile => decide (k < n) && decide (tile < 8388608 * 4)
  | .openListSweep k => decide (k < n)
  | .scrubTile k tile => decide (k < n) && decide (tile < 8388608 * 4)
  | .scrubLate k => decide (k < n)
  | .tsmMapScrub k group _ => decide (k < n) && decide (group < 1048576)
  | .retire src k _ => src.wf n && decide (k < n)
  | .release src k _ => src.wf n && decide (k < n)
  | .reopen src k _ => src.wf n && decide (k < n)
  | .deaccDone k => decide (k < n)
  | .tsmQuery src k _ _ => src.wf n && decide (k < n)
  | .admProbe src k _ _ => src.wf n && decide (k < n)
  | .rowRepair src k _ out => src.wf n && decide (k < n) && out.wf
  | .laneShift src k _ out => src.wf n && decide (k < n) && out.wf
  | .trainChannel src k _ out => src.wf n && decide (k < n) && out.wf
  | .trainAll src k _ out => src.wf n && decide (k < n) && out.wf
  | .laneMap p lanes => decide (p < 4 * n) && lanes.length == 8 && lanes.all (fun x => decide (x.1 < 8))
  | .laneMapConsistent p => decide (p < 4 * n)
  | .laneMapTimeout p => decide (p < 4 * n)
  | .trainingFrame p lane _ _ => decide (p < 4 * n) && decide (lane < 8)
  | .phaseADone p => decide (p < 4 * n)
  | .phaseATimeout p => decide (p < 4 * n)
  | .phaseBSwitch p => decide (p < 4 * n)
  | .phaseBDone p => decide (p < 4 * n)
  | .phaseBTimeout p => decide (p < 4 * n)
  | .alignDone p => decide (p < 4 * n)
  | .alignTimeout p => decide (p < 4 * n)
  | .nxlRestart src p _ => src.wf n && decide (p < 4 * n)
  | .testEnter src p _ => src.wf n && decide (p < 4 * n)
  | .testExit src p _ => src.wf n && decide (p < 4 * n)
  | .alignmentMarker p lane symbols _ => decide (p < 4 * n) && decide (lane < 8) && symbols.all (fun x => decide (x < 4))
  | .alignmentLost p => decide (p < 4 * n)
  | .codeword p lane soft => decide (p < 4 * n) && decide (lane < 8) && soft.length % 2 == 0 && decide (2048 ≤ soft.length ∧ soft.length ≤ 2236) && soft.all (fun x => decide (-32 ≤ x ∧ x ≤ 31))
  | .framingAGroup p blocks => decide (p < 4 * n) && decide (blocks.length = 420)
  | .burstIdleEntry p => decide (p < 4 * n)
  | .txWake p => decide (p < 4 * n)
  | .squelchAssert p lane => decide (p < 4 * n) && decide (lane < 8)
  | .squelchDeassert p lane => decide (p < 4 * n) && decide (lane < 8)
  | .nxFalseWake p lane => decide (p < 4 * n) && decide (lane < 8)
  | .injectSingle src p _ => src.wf n && decide (p < 4 * n)
  | .injectBurst src p _ => src.wf n && decide (p < 4 * n)
  | .injectRate src p _ => src.wf n && decide (p < 4 * n)
  | .flit p slots _ => decide (p < 4 * n) && decide (slots.length = 8)
  | .nop p _ => decide (p < 4 * n)
  | .lack p _ => decide (p < 4 * n)
  | .lcrd p _ => decide (p < 4 * n)
  | .linit p _ => decide (p < 4 * n)
  | .vcsel p _ => decide (p < 4 * n)
  | .lackDue p => decide (p < 4 * n)
  | .periodTrailer p words _ => decide (p < 4 * n) && decide (words.length = 8)
  | .periodTrailerSend p => decide (p < 4 * n)
  | .flitTransmit p => decide (p < 4 * n)
  | .linkInitComplete p => decide (p < 4 * n)
  | .nxInitTimeout p => decide (p < 4 * n)
  | .replayLimit p => decide (p < 4 * n)
  | .progressPeriodsExpiry p => decide (p < 4 * n)
  | .nxpRetrain src p _ => src.wf n && decide (p < 4 * n)
  | .forwardResponse p => decide (p < 4 * n)
  | .fwdTimeout p rec => decide (p < 4 * n) && decide (rec < 4096)
  | .refHoldover => true
  | .refEdgesReturn => true
  | .holdoverTimeout qual => decide (qual.length = 3)
  | .failoverRelock _ => true
  | .refRevert => true
  | .refRecovery qual _ => decide (qual.length = 3)
  | .pllCheckWindow k _ _ => decide (k < n)
  | .clkMuxForced k _ => decide (k < n)
  | .clkDocentSel src k _ => src.wf n && decide (k < n)
  | .clkRefWrite src k _ qual => src.wf n && decide (k < n) && decide (qual.length = 3)
  | .modeActiveRequest src k _ => src.wf n && decide (k < n)
  | .modeIdleRequest src k _ => src.wf n && decide (k < n)
  | .modeRetainRequest src k _ => src.wf n && decide (k < n)
  | .maintenanceRequest src k _ => src.wf n && decide (k < n)
  | .maintenanceEntered k => decide (k < n)
  | .maintenanceExit src k _ => src.wf n && decide (k < n)
  | .autoIdle => true
  | .idleWake _ => true
  | .retainEntryComplete => true
  | .retainWake _ => true
  | .retainExitComplete _ => true
  | .vinSample mv => decide (mv.length = n)
  | .supplyCapLift => true
  | .uvlo => true
  | .ovp => true
  | .ivrFault k rail => decide (k < n) && decide (rail < 4)
  | .tileIlimit k => decide (k < n)
  | .ilimitT3End k => decide (k < n)
  | .brownout k => decide (k < n)
  | .baseSensorRead k base _ _ _ => decide (k < n) && decide (base.length = 32)
  | .stageStepDown k => decide (k < n)
  | .thmLowPowerCheck k base _ => decide (k < n) && decide (base.length = 32)
  | .thmThreshWrite src k _ => src.wf n && decide (k < n)
  | .pwrVinRead src k => src.wf n && decide (k < n)
  | .otpProgram src k _ burn => src.wf n && decide (k < n) && burn.wf
  | .otpFinalize src k _ burn => src.wf n && decide (k < n) && burn.wf
  | .otpAdvance src k _ burn => src.wf n && decide (k < n) && burn.wf
  | .otpResense src k _ _ => src.wf n && decide (k < n)
  | .serviceUnlockSubmit src k _ _ => src.wf n && decide (k < n)
  | .calibration src k _ _ => src.wf n && decide (k < n)
  | .calibrationSecondRun k _ burn => decide (k < n) && burn.wf
  | .faultReport k new => decide (k < n) && new.all (fun x => x.wf)
  | .logRecordWrite k => decide (k < n)
  | .mirrorRecord k => decide (k < n)
  | .safeForcedReset k => decide (k < n)
  | .safeExit src k _ _ => src.wf n && decide (k < n)
  | .haltBroadcast k => decide (k < n)
  | .archiveDone k => decide (k < n)
  | .forceHalt src k _ => src.wf n && decide (k < n)
  | .kcntClear src k _ => src.wf n && decide (k < n)
  | .firstClear src k _ => src.wf n && decide (k < n)
  | .pendAcknowledge src k sev _ => src.wf n && decide (k < n) && decide (sev < 4)
  | .kindCfgWrite src k _ => src.wf n && decide (k < n)
  | .logRdIdxWrite src k _ => src.wf n && decide (k < n)
  | .mirRdIdxWrite src k _ => src.wf n && decide (k < n)
  | .archDataRead src k => src.wf n && decide (k < n)
  | .archDiscard src k _ => src.wf n && decide (k < n)
  | .aliveToggle => true
  | .telemetry => true
  | .vinValid chks => decide (chks.length = n)
  | .startReference k qual _ _ failedChs => decide (k < n) && decide (qual.length = 3) && failedChs.all (fun c => decide (c < 32))
  | .startWatchdog k => decide (k < n)
  | .packageActive => true
  | .resetN _ => true
  | .pkgReset src k _ => src.wf n && decide (k < n)
  | .warmResetRetain src k _ => src.wf n && decide (k < n)
  | .warmResetNoRetain src k _ => src.wf n && decide (k < n)
  | .baseDieResetRelease k => decide (k < n)
  | .bstRequest src k _ => src.wf n && decide (k < n)
  | .bstShutdown src k _ => src.wf n && decide (k < n)
  | .bstCancel src k _ => src.wf n && decide (k < n)
  | .bstPhaseDone k _ => decide (k < n)
  | .docMboxInWrite src k _ => src.wf n && decide (k < n)
  | .wakeN _ => true
  | .clearFaults => true
  | .capability => true
  | .statusWord => true
  | .readVin => true
  | .readIin => true
  | .readTemperature1 => true
  | .readTemperature2 => true
  | .readPin => true
  | .pmbusRevision => true
  | .mfrMgmtAddr _ => true
  | .mfrMgmtDataRead => true
  | .mfrMgmtDataWrite _ => true
  | .mfrMgmtStatus => true
  | .pmbusUnsupported _ => true
  | .bypass k => decide (k < n)
  | .idcode k => decide (k < n)
  | .samplePreload k _ => decide (k < n)
  | .extest k _ => decide (k < n)
  | .clamp k => decide (k < n)
  | .highz k => decide (k < n)
  | .ieee1500WrapperAccess k _ => decide (k < n)
  | .logicScan k _ => decide (k < n)
  | .ovpRestart => true
  | .vinBelow3v k => decide (k < n)
  | .resetNRelease => true
  | .pllLock k _ _ => decide (k < n)
  | .otpCmdDone k => decide (k < n)
  | .docCmdDone k => decide (k < n)
  | .checkerLock p lane symbols => decide (p < 4 * n) && decide (lane < 8) && symbols.all (fun x => decide (x < 4))

end Sys2Proof
end

