-- ==== Sys2Proof/Tests/Slice0.lean ====
section
/-! SUPPORT. Tests: for every statement with hypotheses, states and operands that meet them together (test_has_...); a term that each
check of WellFormed refuses; and small effects, with the value that the cited rule gives. -/

open Sys2Proof Sys2Proof.Machine

namespace Tests

set_option Elab.async false

/-! ### States -/

/-- A part of two stacks in ACTIVE: started, its PLLs locked, its rails in their windows. -/
def up : State :=
  let b := State.resetOf .ax2h16 .c
  { b with
    mode := .active
    aggChosen := true
    runLevel := 0
    ref := { b.ref with state := 0, index := 0, qual := [true, true, true] }
    stks := b.stks.map (fun x => { x with
      clk := { x.clk with corePll := 2, fixPll := 2, docPll := true }
      doc := { x.doc with bootStep := 13, startOk := true }
      tm := { x.tm with frame := 5000, ticks := 30000000000, tier := 0, tierKnown := true }
      pw := { x.pw with railsRun := true, railOk := [true, true, true, true], vinMv := 12000 } }) }

/-- Stack 0 changed. -/
abbrev onStk (f : Stack → Stack) : State := up.modStk 0 f

/-- Port 0 changed. -/
abbrev onPort (f : Port → Port) : State := up.modPort 0 f

/-- Channel 0 of stack 0 changed. -/
abbrev onCh (f : Chan → Chan) : State := up.modCh 0 0 f

/-- Pseudo-channel 0 of channel 0 of stack 0 changed. -/
abbrev onPc (f : PChan → PChan) : State := up.modPc 0 0 0 f

/-- A request of one word to offset 0, arrived on port 0. -/
def rq (op : Nat) (data : List (Word × Bool)) : Req :=
  { rid := 5, port := 0, vc := .req, role := 1, op := op, reqId := 7, tag := 3, len := 1, label := 0, addr := 0, dlValid := false,
    dlFrame := 0, dlSlot := 0, poisonIn := false, hops := 0, param := 0, rsvd := false, data := data, cls := 4, ovf := 4,
    dlTicks := 0, dlOff := 0, wait := 0, aged := false, admWait := 0, home := 0 }

/-- Its table entry. -/
def en (r : Req) : Entry := { req := r, inRes := false, done := none, rzDone := [], rzSkip := 0, gth := none, seen := 0 }

/-- The line of a location, with its first word and that word's poison bit. -/
def lineAt (l : Loc) (w : Word) (p : Bool) : Line :=
  { ch := l.ch, sid := l.sid, pc := l.pc, bg := l.bg, bank := l.bank, row := l.row, line := l.col / 8, parity := false, way := 0,
    valid := 0xFF, dirty := 0xFF, poison := if p then 1 else 0, data := w.setWidth 2048, pin := false, label := 0, cls := 4 }

/-- The first word of the part. -/
def loc0 : Loc := up.locOf 0 0

/-- Request r in the table of stack 0; the slice holds the first line, its tile is in state st. -/
def held (r : Req) (w : Word) (p : Bool) (st : TileState) : State := onStk (fun x => { x with
  table := [en r]
  lines := [lineAt loc0 w p]
  tiles := [(loc0.tile, st)] })

/-- The address of a register as a management address. -/
def adr (pg : Page) (i off : Nat) : Reg32 := BitVec.ofNat 32 (pageAddr pg 0 i off)

/-! ### Hypotheses that are met: the machine, registers, COMMIT -/

theorem test_has_step : ({ up with pending := [.frameTick, .irq] } : State).pending = .frameTick :: [.irq] := rfl

theorem test_has_sound : Sound up ∧ step up = .next up := ⟨by unfold Sound Shaped; decide +kernel, rfl⟩

theorem test_has_registerWrite : Shaped up ∧ Writable up (.port 0) (adr .ctl 0 0x100) 0 .ctl 0 0x100 ∧ plainAt .ctl 0x100 = true ∧
    Writable up (.docent 0) (adr .nxp 3 0x7FC) 0 .nxp 3 0x7FC ∧ plainAt .nxp 0x7FC = true := by
  unfold Shaped Writable Leads; decide +kernel

theorem test_has_packagePageWrite : Shaped up ∧ Leads up (adr .tic 0 0x100) 0 .tic 0 0x100 ∧
    up.answers (.port 4) { win := 0, page := .tic, inst := 0, off := 0x100 } = true ∧ up.cmtBusy = false ∧ Page.isPkg .tic = true ∧
    plainAt .tic 0x100 = true ∧ up.reachAll (up.srcStack (.port 4)) = true := by
  unfold Shaped Leads; decide +kernel

theorem test_has_stagedWrite : Shaped up ∧ Writable up .pmbus (adr .nxp 3 0xB00) 0 .nxp 3 0xB00 ∧
    (∃ b, b < 32 ∧ hasAcc .nxp 0x400 .st b = true) := by
  unfold Shaped Writable Leads; decide +kernel

theorem test_has_discard : Shaped up ∧ Writable up .pmbus (adr .nxp 3 0x1C) 0 .nxp 3 0x1C ∧ (Page.cap .nxp).1 = true ∧
    Rising (up.stk 0).regs := by
  unfold Shaped Writable Leads Rising; decide +kernel

theorem test_has_counterClear : Shaped up ∧ Writable up (.port 7) (adr .vit 0 8) 0 .vit 0 8 ∧ (Page.cap .vit).2.1 = true := by
  unfold Shaped Writable Leads; decide +kernel

theorem test_has_counterLatch : Shaped up ∧ Leads up (adr .vit 0 0xF00) 1 .vit 0 0xF00 ∧
    up.answers (.port 7) { win := 1, page := .vit, inst := 0, off := 0xF00 } = true ∧ 0 < (Page.cap .vit).2.2 ∧
    latchKey .vit 0 (.port 7) ≠ latchKey .vit 0 .pmbus := by
  unfold Shaped Leads; decide +kernel

/-- A miss event at the last value of every field. -/
def lastMiss : Miss := { late := true, stack := 1, ch := 31, pc := 1, cls := 3, frame := 65535, label := 4095 }

theorem test_has_missEventApply : let s := { up with missDue := [lastMiss] }
    Shaped s ∧ s.missDue = [lastMiss] ∧ lastMiss.stack < s.n ∧ s.reachAll lastMiss.stack = true ∧ lastMiss.ch < 32 ∧ lastMiss.pc < 2 ∧
      lastMiss.cls < 4 ∧ lastMiss.frame < 65536 ∧ lastMiss.label < 4096 ∧ s.frozen 1 .sch 0 = false ∧ s.irqs.length < 64 ∧
      0 < s.n ∧ ({ up with errDue := [(0, Page.index 0 .rte, 1)] } : State).reach 0 1 = true := by
  unfold Shaped; decide +kernel

/-- Starting, stack 0 held in SAFE by a failed block, stack 1 past step 6. -/
def choosing : State :=
  { onStk (fun x => { x with doc := { x.doc with startOk := false, heldSafe := true, bootStep := 3 } }) with
    mode := .starting
    aggChosen := false }

theorem test_has_aggregatorSelect : choosing.aggChosen = false ∧ choosing.mode ≠ .off ∧
    (∀ j, j < choosing.n → 6 ≤ (choosing.stk j).doc.bootStep ∨ choosing.inSafe j = true ∨ (choosing.stk j).doc.heldSafe = true) ∧
    1 < choosing.n ∧ choosing.mayAggregate 1 = true ∧ ∀ j, j < 1 → choosing.mayAggregate j = false := by decide +kernel

/-- A request of port 4 on its way to stack 0, in a package of two stacks. -/
def onTheWay : State := { up with transit := [{ rq 1 [] with port := 4, home := 0 }] }

theorem test_has_ringLinkFail : Shaped onTheWay ∧ 1 < onTheWay.n ∧ onTheWay.linkOk 1 = true ∧ onTheWay.linkOk ((1 + onTheWay.n - 1) % onTheWay.n) = true ∧
    (∃ r ∈ onTheWay.transit, onTheWay.pathUses (r.port / 4) r.home r.reqId 0 = true ∨ onTheWay.pathUses (r.port / 4) r.home r.reqId 1 = true) := by
  unfold Shaped; decide +kernel

theorem test_has_ringPartition : let s := (up.modStk 0 (fun x => { x with upFailed := true, downFailed := true }))
    Shaped s ∧ s.mode ≠ .off ∧ ∃ k, k < s.n ∧ s.inPart k = false ∧ (s.stk k).partReported = false := by
  unfold Shaped; decide +kernel

theorem test_has_frameTick : Shaped up ∧ up.mode = .active ∧ up.sync = none ∧ up.afterStop = false ∧
    ({ up with afterStop := true } : State).afterStop = true ∧ ({ up with levelNext := some 2 } : State).levelNext = some 2 ∧
    up.ref.refPend = none ∧ (let s := onStk (fun x => { x with th := { x.th with memRead := true }, tm := { x.tm with tierNext := some 1 } });
      (s.stk 0).th.memRead = true ∧ (s.stk 0).tm.tierNext = some 1) ∧ up.stackTicks 1 = true ∧ up.now 1 ≠ 0 ∧
    (up.stk 1).tm.align = false ∧ (onStk (fun x => { x with tm := { x.tm with align := true } })).stackTicks 0 = true ∧
    (onStk (fun x => { x with doc := { x.doc with bootStep := 5 } })).stackTicks 0 = false := by
  unfold Shaped; decide +kernel

theorem test_has_timeSyncApply : ({ up with sync := some 9000 } : State).sync = some 9000 ∧ Shaped { up with sync := some 9000 } := by
  unfold Shaped; decide +kernel

theorem test_has_timeSync : up.flag 0 0 F.TIC_CTRL_SYNC_ACCEPT = true ∧ 0 = up.refPort ∧ 1 ≠ up.refPort ∧ up.sync = none ∧
    up.frame 0 < (9000#64).toNat ∧ (4999#64).toNat + 1 ≤ up.frame 0 ∧ up.frame 0 < (0xFFFFFFFFFFFFFFFF#64).toNat + 1 := by decide +kernel

theorem test_has_frameCountAlign : let s := up.modStk 1 (fun x => { x with tm := { x.tm with frame := 5001 } })
    Shaped s ∧ s.serving = true ∧ s.aggChosen = true ∧ 1024 ≤ s.now s.agg - s.alignLast ∧ s.inReset 1 = false ∧
      s.reach s.agg 1 = true ∧ s.flag 1 0 F.TIC_CTRL_MISMATCH_CHECK_EN = true ∧ s.frame 1 ≠ s.frame s.agg := by
  unfold Shaped; decide +kernel

theorem test_has_runLevelChange : let s := { up with supplyCap := true }
    s.serving = true ∧ s.committed ≤ 3 ∧ max s.committed (max (if s.supplyCap then 2 else 0) (if s.trimCap then 3 else 0)) ≠ s.runLevel ∧
      Shaped s := by
  unfold Shaped; decide +kernel

theorem test_has_tiers : let hot := onStk (fun x => { x with th := { x.th with memUse := 420 :: x.th.memUse.drop 1 } })
    let cool := onStk (fun x => { x with tm := { x.tm with tier := 1 }, th := { x.th with tierHold := 6250 } })
    Shaped hot ∧ (hot.stk 0).heldHot = false ∧ 420 ≤ (hot.stk 0).hotDie ∧ (hot.stk 0).tm.tier < 2 ∧
    Shaped cool ∧ (cool.stk 0).heldHot = false ∧ 0 < (cool.stk 0).tm.tier ∧ 6250 ≤ (cool.stk 0).th.tierHold := by
  unfold Shaped; decide +kernel

theorem test_has_commit : Shaped up ∧ (0x80000001#32).getLsbD 31 = true ∧ (0x80000001#32).getLsbD 30 = false ∧
    (0xC0000001#32).getLsbD 30 = true ∧ up.mode = .active ∧ up.winOk (up.srcStack (.port 4)) = true ∧
    up.reach (up.srcStack (.port 4)) up.agg = true ∧ up.inReset up.agg = false ∧ up.cmtBusy = false ∧ Source.code (.docent 7) < 64 ∧
    ({ up with commit := { up.commit with phase := .checking } } : State).cmtBusy = true := by
  unfold Shaped; decide +kernel

/-- A COMMIT in a phase, with stacks that have received APPLY and acknowledged it, and a target. -/
def cmt (ph : CommitPhase) (applied acked got : List Nat) (target : Nat) : State :=
  { up with commit := { up.commit with
    phase := ph
    applied := applied
    acked := acked
    got := got
    target := target } }

theorem test_has_commitCheck : (cmt .checking [] [] [] 0).commit.phase = .checking ∧ Shaped (cmt .checking [] [] [] 0) ∧
    runChecks (cmt .checking [] [] [] 0) = none ∧
    (runChecks ((cmt .checking [] [] [] 0).setAll F.PKG_PLEVEL_LEVEL.staged 0 |>.modStk 0 (fun x => { x with pw := { x.pw with vinMv := 1 } }))).isSome = true := by
  unfold Shaped; decide +kernel

theorem test_has_commitPrepare : (cmt .prepared [0] [0] [] 30000000002).inReset 1 = false ∧ (cmt .prepared [0] [0] [] 30000000002).reach 0 1 = true ∧
    (cmt .prepared [0, 1] [0] [] 30000000002).reach 1 0 = true ∧ (cmt .prepared [0, 1] [0] [] 30000000002).now 0 + 1 < 30000000002 ∧
    (cmt .prepared [0, 1] [0] [] 30000000001).commit.target ≤ (cmt .prepared [0, 1] [0] [] 30000000001).now 0 + 1 ∧
    Shaped (cmt .prepared [0] [0] [] 30000000002) ∧ 1 ∉ (cmt .prepared [0, 1] [0] [] 30000000001).commit.acked := by
  unfold Shaped; decide +kernel

theorem test_has_commitApply : let s := cmt .confirmed [0, 1] [0, 1] [0] 30000000000
    Shaped s ∧ s.commit.target ≤ s.now s.agg ∧ (∀ k, k < s.n → Rising (s.stk k).regs ∧ Rising (s.stk k).pkgRegs) ∧
      s.inReset 0 = false ∧ 0 ∈ s.commit.got ∧ s.inReset 1 = false ∧ 1 ∉ s.commit.got := by
  unfold Shaped Rising; decide +kernel

theorem test_has_commitComplete : let s := cmt .aborted [0, 1] [0] [] 30000000000
    Shaped s ∧ s.commit.held = [] ∧ s.commit.status < 16 ∧ s.commit.failStack < 8 ∧ s.reach s.agg 1 = true := by
  unfold Shaped; decide +kernel

/-! ### Hypotheses that are met: requests -/

theorem test_has_readInvalid : Ready (held (rq 1 []) 0 false .invalid) 0 5 (en (rq 1 [])) [1] ∧
    ((held (rq 1 []) 0 false .invalid).stk 0).tileSt ((held (rq 1 []) 0 false .invalid).wordLoc 0 (rq 1 []) 0).tile = .invalid := by
  unfold Ready; decide +kernel

theorem test_has_readRetired : Ready (held (rq 1 []) 0 false .retired) 0 5 (en (rq 1 [])) [1] ∧
    ((held (rq 1 []) 0 false .retired).stk 0).tileSt ((held (rq 1 []) 0 false .retired).wordLoc 0 (rq 1 []) 0).tile = .retired := by
  unfold Ready; decide +kernel

theorem test_has_readHit : Ready (held (rq 1 []) 7 true .sealed) 0 5 (en (rq 1 [])) [1] ∧
    Resident (held (rq 1 []) 7 true .sealed) 0 (rq 1 []) .sealed ∧
    ((held (rq 1 []) 7 true .sealed).stk 0).sectorAt ((held (rq 1 []) 7 true .sealed).wordLoc 0 (rq 1 []) 0) = some (7, true) := by
  unfold Ready Resident; decide +kernel

/-- One word of data. -/
def oneWord : List (Word × Bool) := [(9, false)]

theorem test_has_write : Ready (held (rq 2 oneWord) 7 false .opened) 0 5 (en (rq 2 oneWord)) [2] ∧ (rq 2 oneWord).formOk = true ∧
    (rq 2 oneWord).data.length = (rq 2 oneWord).len ∧ Resident (held (rq 2 oneWord) 7 false .opened) 0 (rq 2 oneWord) .opened := by
  unfold Ready Resident; decide +kernel

theorem test_has_writePosted : Ready (held (rq 3 oneWord) 7 false .opened) 0 5 (en (rq 3 oneWord)) [3] ∧ (rq 3 oneWord).formOk = true ∧
    Resident (held (rq 3 oneWord) 7 false .opened) 0 (rq 3 oneWord) .opened ∧ isGuar (rq 3 oneWord).cls = false ∧
    (rq 3 oneWord).port < up.ports.length ∧ (up.prt (rq 3 oneWord).port).dropBelow ≤ 5 := by
  unfold Ready Resident; decide +kernel

theorem test_has_writeMasked : Ready (held (rq 4 oneWord) 7 true .opened) 0 5 (en (rq 4 oneWord)) [4] ∧
    Resident (held (rq 4 oneWord) 7 true .opened) 0 (rq 4 oneWord) .opened ∧
    ((held (rq 4 oneWord) 7 true .opened).stk 0).sectorAt ((held (rq 4 oneWord) 7 true .opened).wordLoc 0 (rq 4 oneWord) 0) =
      some (7, true) ∧ (rq 4 oneWord).parNum 0 4 ≠ 2 ^ 32 - 1 ∧
    ({ rq 4 oneWord with param := 0xFFFFFFFF } : Req).parNum 0 4 = 2 ^ 32 - 1 := by
  unfold Ready Resident; decide +kernel

theorem test_has_writeOpensTile : Ready (held (rq 2 oneWord) 7 false .sealed) 0 5 (en (rq 2 oneWord)) [2, 3] ∧
    ((held (rq 2 oneWord) 7 false .sealed).stk 0).tileSt
      ((held (rq 2 oneWord) 7 false .sealed).wordLoc 0 (rq 2 oneWord) 0).tile = .sealed := by
  unfold Ready; decide +kernel

/-- Port 0 holds requests in ingress and FENCEs that have left it; one request is on its way. -/
def fencing (ing fences : List Req) (out : List Req) : State :=
  { onPort (fun x => { x with ingress := ing, fences := fences }) with transit := out }

theorem test_has_fence : let r := { rq 8 [] with len := 0 }
    let s := fencing [r] [] [];
    0 < s.ports.length ∧ s.mode = .active ∧ (s.prt 0).head 7 = some r ∧ r.formOk = true ∧ (s.prt 0).fenced 7 = false ∧ s.inReset 0 = false ∧
      s.halt = none ∧ s.outAllows 0 r = true := by decide +kernel

theorem test_has_fenceComplete : let f := rq 8 [];
    (((fencing [] [f] []).prt 0).fences.find? (fun r => r.reqId == 7)) = some f ∧ (fencing [] [f] []).earlierPending f = false ∧
      (fencing [] [f] []).rspRoom 0 1 = true ∧ ((fencing [] [f] []).prt 0).dropBelow ≤ f.rid ∧
      (fencing [] [f] [{ rq 2 oneWord with rid := 4 }]).earlierPending f = true := by decide +kernel

/-- A RANGE_ZERO of one tile, held by stack 0, which stacks have performed. -/
def zeroing (done : List Nat) : State := onStk (fun x => { x with
  table := [{ en { rq 9 [] with param := 1 } with rzDone := done }]
  tiles := [(loc0.tile, .opened)] })

theorem test_has_rangeZero : let e := { en { rq 9 [] with param := 1 } with rzDone := [1] }
    Ready (zeroing [1]) 0 5 e [9] ∧ 0 < (zeroing [1]).n ∧ Shaped (zeroing [1]) ∧ 0 ∉ e.rzDone ∧ (zeroing [1]).unreach 0 = false ∧
      (zeroing [1]).reach 0 0 = true ∧
      Rising ((zeroing [1]).stk 0).tiles ∧ (zeroing [1]).tileIn 0 loc0.tile e.req.off (e.req.parNum 0 4) = true ∧
      (zeroing [1]).tileIn 0 (loc0.tile + 1) e.req.off (e.req.parNum 0 4) = false := by
  unfold Ready Rising Shaped; decide +kernel

theorem test_has_rangeZeroComplete : Ready (zeroing [1, 0]) 0 5 { en { rq 9 [] with param := 1 } with rzDone := [1, 0] } [9] ∧
    (∀ j, j < (zeroing [1, 0]).n → j ∈ [1, 0]) ∧
    (let s := (zeroing [0]).modStk 1 (fun x => { x with mode := .safe });
      Ready s 0 5 { en { rq 9 [] with param := 1 } with rzDone := [0] } [9] ∧ ∀ i, i < s.n → i ∈ [0] ∨ s.unreach i = true) := by
  unfold Ready; decide +kernel

/-- A management message at port 0. -/
def mg (op : Nat) (a v : Reg32) : MgmtMsg :=
  { op := op, reqId := 1, tag := 2, addr := 0, maddr := a, wdata := v, rsvd := false, slots := 1 }

/-- Port 0 holds one management message. -/
def managed (m : MgmtMsg) : State := onPort (fun x => { x with mgmtIn := [m] })

theorem test_has_mgmtRead : (managed (mg 0x80 0 0)).nextMgmt 0 = some (mg 0x80 0 0) ∧ (mg 0x80 0 0).rsvd = false ∧
    (managed (mg 0x43 0 0)).nextMgmt 0 = some (mg 0x43 0 0) ∧ isPosted (mg 0x43 0 0).op = true ∧ isPosted (mg 1 0 0).op = false ∧
    (managed { mg 0x80 0 0 with rsvd := true }).nextMgmt 0 = some { mg 0x80 0 0 with rsvd := true } ∧ (managed (mg 0x80 0 0)).inReset 0 = false ∧
    (managed (mg 0x80 0 0)).mode = .active ∧ up.target 1 = none ∧ up.target 0x300000 = none ∧
    (match up.target (adr .ctl 0 0x100).toNat with | some x => up.answers (.port 0) x | none => false) = true ∧
    (match up.target (adr .ctl 0 0x100).toNat with
      | some x => (onStk (fun y => { y with rst := true })).answers (.port 4) x | none => true) = false := by decide +kernel

theorem test_has_mgmtWrite : let m := mg 0x81 (adr .ctl 0 0x100) 1;
    Shaped (managed m) ∧ (managed m).nextMgmt 0 = some m ∧ m.rsvd = false ∧ (managed m).inReset 0 = false ∧ (managed m).mode = .active ∧
      Writable (managed m) (.port 0) m.maddr 0 .ctl 0 0x100 ∧ plainAt .ctl 0x100 = true := by
  unfold Shaped Writable Leads; decide +kernel

theorem test_has_irq : let e : Irq := { kind := 0, count := 0, source := 0, detail := 0, frame := 0 };
    let s := { onPort (fun x => { x with mgmtAvail := 1 }) with irqs := [e] }
    s.irqs = [e] ∧ s.refPort < s.ports.length ∧ 0 < (s.prt s.refPort).mgmtAvail ∧ (up.prt up.refPort).mgmtAvail = 0 ∧
      (up.prt 0).rxVc = .mgmt ∧ wordNum 0x88 0 1 = 0x88 ∧ wordNum 0x89 0 1 = 0x89 := by decide +kernel

/-- A read at the head of a context of port 0, with nothing else there. -/
def arriving (r : Req) : State := onPort (fun x => { x with ingress := [r] })

theorem test_has_ingressRelease : let r := rq 1 [];
    Shaped (arriving r) ∧ ((arriving r).prt 0).head 7 = some r ∧ r.formOk = true ∧ (arriving r).canLeave 0 r = true ∧
      (arriving r).isTurn 0 r = true ∧ (arriving r).halt = none ∧ (arriving r).mode = .active ∧ isPosted r.op = false ∧
      (arriving r).routeOf r = .localPkg ∧ (arriving r).reqBacked r = true ∧ (arriving r).unreach ((arriving r).locOf 0 r.off).stack = false ∧
      (arriving r).reach 0 ((arriving r).locOf 0 r.off).stack = true := by
  unfold Shaped; decide +kernel

theorem test_has_ingressFails : let bad := { rq 1 [] with len := 9 }
    let far := { rq 1 [] with addr := BitVec.ofNat 48 (3 * 2 ^ 40) }
    bad.formOk = false ∧ (arriving bad).canLeave 0 bad = true ∧ ((arriving bad).prt 0).head 7 = some bad ∧
      far.formOk = true ∧ (arriving far).canLeave 0 far = true ∧ (arriving far).routeOf far = .noEntry ∧
      (arriving far).isTurn 0 far = true := by decide +kernel

theorem test_has_admission : let s := { up with transit := [rq 1 []] }
    let safe := s.modStk 0 (fun x => { x with mode := .safe });
    let maint := s.modStk 0 (fun x => { x with mode := .maintenance });
    Shaped s ∧ s.transit.find? (fun r => r.rid == 5 && r.home == 0) = some (rq 1 []) ∧ s.unreach 0 = false ∧ s.inMaint 0 = false ∧
      s.ringBehind (rq 1 []) = false ∧ 5 ∉ s.timedOut ∧ s.reach 0 0 = true ∧
      (let a := { rq 1 [] with rid := 4, port := 4 }; let b := { rq 1 [] with port := 4 };
        ({ up with transit := [a, b] } : State).transit.find? (fun r => r.rid == 5 && r.home == 0) = some b ∧
        ({ up with transit := [a, b] } : State).ringBehind b = true ∧ up.ringOn = true) ∧
      safe.unreach 0 = true ∧ maint.unreach 0 = false ∧ maint.inMaint 0 = true ∧ s.rspRoom 0 1 = true := by
  unfold Shaped; decide +kernel

/-- A request in the admission queue of stack 0. -/
def queued (r : Req) : State := onStk (fun x => { x with admQ := [r] })

theorem test_has_allocate : let r := { rq 1 [] with admWait := 2048 }
    let full := (queued r).modStk 0 (fun x => { x with table := List.replicate 7168 (en { rq 1 [] with rid := 1 }) });
    let opn := (queued r).modStk 0 (fun x => { x with tiles := [(loc0.tile, .opened)] });
    (∀ q ∈ (full.stk 0).admQ, (full.stk 0).admits q = false) ∧
    Shaped (queued r) ∧ ((queued r).stk 0).admQ = [r] ∧ ((queued r).stk 0).admits r = true ∧ (queued r).serving = true ∧
      (queued r).unreach 0 = false ∧ (queued r).inMaint 0 = false ∧ 2048 ≤ r.admWait ∧
      ((queued r).stk 0).admQ.find? (fun q => q.rid == 5) = some r ∧ (queued r).rspRoom 0 1 = true ∧
      opn.bankBound 0 r = true ∧ HasPc opn 0 (opn.locOf 0 r.off).ch (opn.locOf 0 r.off).pc := by
  unfold Shaped HasPc HasCh; decide +kernel

theorem test_has_requestAged : ((held { rq 1 [] with wait := 64 } 0 false .opened).stk 0).table = [en { rq 1 [] with wait := 64 }] ∧
    64 ≤ ({ rq 1 [] with wait := 64 } : Req).wait := by decide +kernel

/-- A completed request of stack 0 with one response. -/
def answered : State := onStk (fun x => { x with table := [{ en (rq 1 []) with done := some [respTo (rq 1 []) stOk 5000] }] })

theorem test_has_responseToEgress : (answered.entry 0 5).isSome = true ∧ 5 ∉ answered.timedOut ∧ answered.respBlocked 0 (rq 1 []) = false ∧
    answered.reach 0 0 = true ∧ answered.rspRoom 0 (respTo (rq 1 []) stOk 5000).slots = true ∧
    (let full := answered.modPort 0 (fun x => { x with rspOut := List.replicate 4096 (respTo (rq 1 []) stOk 5000) });
      full.rspRoom 0 (respTo (rq 1 []) stOk 5000).slots = false) ∧
    (let cut := (onStk (fun x => { x with
        upFailed := true, downFailed := true
        table := [{ en { rq 1 [] with port := 4 } with done := some [respTo { rq 1 [] with port := 4 } stOk 5000] }] }));
      (cut.entry 0 5).isSome = true ∧ cut.reach 0 1 = false) := by decide +kernel

theorem test_has_lateRsp : let r := respTo (rq 1 []) stOk 5000
    let s := onPort (fun x => { x with rspIn := [r] });
    let t := { answered with timedOut := [5] }
    Shaped s ∧ 5 ∉ s.timedOut ∧ (s.prt 0).rspIn = [r] ∧ (∀ f ∈ (s.prt 0).fwdRecs, f.idx ≠ r.tag) ∧
      Shaped t ∧ 5 ∈ t.timedOut ∧ (t.entry 0 5).isSome = true ∧
      (onPort (fun x => { x with rspStallFrames := 8192 })).prt 0 = { up.prt 0 with rspStallFrames := 8192 } ∧
      (up.prt 0).rspStalled = false := by
  unfold Shaped; decide +kernel

/-- A forward record of port 4 for a request that arrived on port 0, and its response. -/
def forwarded (posted : Bool) : State := up.modPort 4 (fun x => { x with
  rspIn := [{ respTo (rq 1 []) stOk 5000 with tag := 0 }]
  fwdRecs := [{ idx := 0, req := rq 1 [], age := 8192, posted := posted }] })

theorem test_has_forwarding : let r := { respTo (rq 1 []) stOk 5000 with tag := 0 }
    Shaped (forwarded false) ∧ ((forwarded false).prt 4).rspIn = [r] ∧
      ((forwarded false).prt 4).fwdRecs.find? (fun f => f.idx == r.tag) = some { idx := 0, req := rq 1 [], age := 8192, posted := false } ∧
      (forwarded false).reach 1 0 = true ∧ (forwarded false).rspRoom 0 r.slots = true ∧ isLast r = true ∧ r.op = (rq 1 []).op ∧
      r.status = stOk ∧ ((forwarded true).prt 4).fwdRecs.find? (fun f => f.idx == r.tag) =
        some { idx := 0, req := rq 1 [], age := 8192, posted := true } := by
  unfold Shaped; decide +kernel

/-! ### Hypotheses that are met: near-data operations and the Vitrine -/

/-- An operand word. -/
def opnd (w : Word) : List (Word × Bool) := [(w, false)]

theorem test_has_integerAtomics : ∀ row ∈ intRows, ∀ op ∈ [row.op, row.op + 0x20],
    let r := { rq op (opnd 3) with param := BitVec.ofNat 112 (32 - row.bytes) };
    Ready (held r 7 false .opened) 0 5 (en r) [row.op, row.op + 0x20] ∧ NduHit (held r 7 false .opened) 0 (en r) 3 7 ∧
      r.elem + row.bytes ≤ 32 ∧ (isPosted r.op = true → PostedOk (held r 7 false .opened) (en r)) := by
  unfold Ready NduHit Resident PostedOk; decide +kernel

theorem test_has_compareAndSwap : ∀ x ∈ [(0x29, 4), (0x39, 8), (0x3D, 16)], ∀ op ∈ [x.1, x.1 + 0x20],
    Ready (held (rq op (opnd 3)) 7 false .opened) 0 5 (en (rq op (opnd 3))) [x.1, x.1 + 0x20] ∧
      NduHit (held (rq op (opnd 3)) 7 false .opened) 0 (en (rq op (opnd 3))) 3 7 ∧ (rq op (opnd 3)).elem + x.2 ≤ 32 ∧
      wordNum 7 0 x.2 ≠ wordNum 3 0 x.2 := by
  unfold Ready NduHit Resident; decide +kernel

theorem test_has_compareEqual : ∀ x ∈ [(0x29, 4), (0x39, 8), (0x3D, 16)], ∀ op ∈ [x.1, x.1 + 0x20],
    Ready (held (rq op (opnd 7)) 7 false .opened) 0 5 (en (rq op (opnd 7))) [x.1, x.1 + 0x20] ∧
      NduHit (held (rq op (opnd 7)) 7 false .opened) 0 (en (rq op (opnd 7))) 7 7 := by
  unfold Ready NduHit Resident; decide +kernel

theorem test_has_floatAtomics : ∀ op ∈ [0x2A, 0x2B, 0x2C, 0x3A, 0x3B, 0x3C],
    Ready (held (rq op (opnd 3)) 7 false .opened) 0 5 (en (rq op (opnd 3))) [op, op + 0x20] ∧
      NduHit (held (rq op (opnd 3)) 7 false .opened) 0 (en (rq op (opnd 3))) 3 7 := by
  unfold Ready NduHit Resident; decide +kernel

theorem test_has_floatSpecials : ∀ f ∈ [fp32, fp64], f.isNan f.qnan = true ∧ f.isSnan (f.qnan - 2 ^ (f.mb - 1) + 1) = true ∧
    f.isNan (f.zero false) = false ∧ f.ex (2 ^ f.mb) ≠ 0 ∧ f.isNan (2 ^ f.mb) = false ∧ 2 ^ f.mb < 2 ^ (f.eb + f.mb + 1) := by
  decide +kernel

theorem test_has_floatRounding : ∀ f ∈ [fp32, fp64], let big := (2 ^ f.eb - 1) * 2 ^ f.mb - 1;
    f.isFinite 1 = true ∧ 2 * (f.units 1 + f.units 1).natAbs < f.overflowAt ∧ f.isFinite big = true ∧
      f.overflowAt ≤ 2 * (f.units big + f.units big).natAbs := by
  decide +kernel

/-- An initialised accumulator with sum 1 and window base 128: its weight is 2^-56 (R185). -/
def acc1 : Word := accFresh 128 0 + 1

theorem test_has_reproAdd : accInit acc1 = true ∧ fp64.isNan 0x7FF8000000000000 = true ∧ fp64.isInf 0x7FF0000000000000 = true ∧
    ((fp64.val 0x7FE0000000000000).1 ≠ 0 ∧ accL (wordNum acc1 24 1) + 160 ≤
      ((fp64.val 0x7FE0000000000000).1.natAbs.log2 : Nat) + (fp64.val 0x7FE0000000000000).2) ∧
    (fp64.val 0x8000000000000000).1 = 0 ∧ List.Perm [0x3FF0000000000000, 3] [3, 0x3FF0000000000000] := by decide +kernel

/-- 2^100, a multiple of the weight, and the least positive number, not a multiple of it. -/
theorem test_has_reproCases : let x := (1023 + 100) * 2 ^ 52;
    accL (wordNum acc1 24 1) ≤ (fp64.val x).2 ∧
      ((fp64.val x).1 * 2 ^ ((fp64.val x).2 - accL (wordNum acc1 24 1)).toNat).natAbs < 2 ^ 160 ∧ (fp64.val x).1 ≠ 0 ∧
      (fp64.val 1).2 < accL (wordNum acc1 24 1) ∧
      (fp64.val 1).1 % ((2 ^ (accL (wordNum acc1 24 1) - (fp64.val 1).2).toNat : Nat) : Int) ≠ 0 ∧
      ((fp64.val 1).1.natAbs.log2 : Nat) + (fp64.val 1).2 < accL (wordNum acc1 24 1) + 160 := by decide +kernel

/-- Accumulator region 0 of stack 0 covers the first tile, whose first word is resident; stack 0 holds request r. -/
def accumulating (r : Req) : State :=
  ((((held r acc1 false .opened).setFld 0 0 F.GTH_ACCR_CFG_EN 1).setFld 0 0 F.GTH_ACCR_SIZE_TILES 1).setFld 0 0 F.GTH_ACCR_CFG_WBASE 128).modCh
    0 loc0.ch (fun c => { c with accs := [loc0.accKey] })

theorem test_has_accumulators : ∀ x ∈ [(0x3E, opnd 1), (0x5E, opnd 1), (0x68, []), (0x69, [])],
    let s := accumulating (rq x.1 x.2);
    let e := en (rq x.1 x.2);
    Ready s 0 5 e [x.1] ∧ Resident s 0 e.req .opened ∧ (s.stk 0).sectorAt (s.wordLoc 0 e.req 0) = some (acc1, false) ∧
      (s.accRegion 0 e.req.off).isSome = true ∧ ((s.stk 0).ch (s.wordLoc 0 e.req 0).ch).nduUnusable = false ∧
      (s.wordLoc 0 e.req 0).accKey ∈ ((s.stk 0).ch (s.wordLoc 0 e.req 0).ch).accs ∧ accInit acc1 = true ∧ PostedOk s e ∧
      ((s.stk 0).ch (s.wordLoc 0 e.req 0).ch).accs.length ≤ s.accLimit 0 (s.wordLoc 0 e.req 0).ch := by
  unfold Ready Resident PostedOk; decide +kernel

/-- A descriptor request of stack 0, waiting or in a context. -/
def describing (op : Nat) (g : Option Gth) : State := onStk (fun x => { x with
  table := [{ en (rq op (opnd 1)) with gth := g }]
  lines := [lineAt loc0 7 false]
  tiles := [(loc0.tile, .opened)] })

/-- A context with elements to do. -/
def ctxOf (l : List Elem) : Gth := { todo := l, results := [], fails := [], poisoned := false, opStatus := 0 }

/-- Element 0 of a gather, from a package offset. -/
def from_ (o : Int) : Elem := { idx := 0, src := some o, dst := none, value := 0 }

theorem test_has_descriptorStart : ∀ op ∈ [0x60, 0x62, 0x63, 0x64],
    (describing op none).entry 0 5 = some (en (rq op (opnd 1))) ∧ (describing op none).descNext 0 (rq op (opnd 1)) = true ∧
      bits (rq op (opnd 1)).param.toNat 2 0 ∈ [0, 2] ∧ (rq op (opnd 1)).data = [(1, false)] := by decide +kernel

theorem test_has_descriptorFull : 16 ≤ ((onStk (fun x => { x with
    table := (List.range 16).map (fun i => { en { rq 0x62 [] with rid := i } with gth := some (ctxOf []) }) })).stk 0 |>.table.filter
      (fun e => e.gth.isSome && e.done.isNone)).length := by decide +kernel

theorem test_has_descriptorElement : Shaped (describing 0x62 (some (ctxOf [from_ (-1)]))) ∧
    (describing 0x62 (some (ctxOf [from_ (-1)]))).entry 0 5 = some { en (rq 0x62 (opnd 1)) with gth := some (ctxOf [from_ (-1)]) } ∧
    up.elemOk 0 (-1) = false ∧ up.elemOk 0 (2 ^ 40) = false ∧ (describing 0x62 (some (ctxOf [from_ 0]))).elemOk 0 0 = true ∧
    (describing 0x62 (some (ctxOf [from_ 0]))).elemServes 0 (some 0) = true ∧
    ((describing 0x62 (some (ctxOf [from_ 0]))).modPc 0 loc0.ch loc0.pc (fun p => { p with paused := true })).elemServes 0 (some 0) = false ∧
    (((describing 0x62 none).stk 0).ch (up.locOf 0 0).ch).viUnusable = false ∧
    (up.locOf 0 0).stack = 0 ∧ ((describing 0x62 none).stk 0).sectorAt (up.locOf 0 0) = some (7, false) ∧
    ((describing 0x62 none).stk 0).tileSt (up.locOf 0 0).tile ≠ .invalid := by
  unfold Shaped; decide +kernel

theorem test_has_descriptorsComplete : ∀ op ∈ [0x60, 0x61, 0x62, 0x63, 0x64],
    let s := describing op (some (ctxOf []));
    Shaped s ∧ s.entry 0 5 = some { en (rq op (opnd 1)) with gth := some (ctxOf []) } ∧ s.serving = true ∧ s.unreach 0 = false := by
  unfold Shaped; decide +kernel

theorem test_has_accSpillAll : let s := onCh (fun c => { c with accs := [(0, 0)] })
    Shaped s ∧ s.winOk 0 = true ∧ (1#32).getLsbD 0 = true ∧ (∀ a ∈ ((s.stk 0).ch 0).accs, tileCh a.1 = 0 ∧ (s.stk 0).sealHolds (accLoc 0 a).tile = false) ∧
      (s.stk 0).chans.length = 32 := by
  unfold Shaped; decide +kernel

/-- A slice that holds two lines: data and its parity. -/
def twoLines : State := onStk (fun x => { x with lines := [lineAt loc0 7 false, { lineAt loc0 8 false with parity := true }] })

theorem test_has_vitOps : Shaped twoLines ∧ twoLines.winOk 0 = true ∧ twoLines.flag 0 0 F.VIT_OP_STATUS_BUSY = false ∧
    OneLinePerPlace (twoLines.stk 0) ∧ (∀ y ∈ (twoLines.stk 0).lines, y.set < 512) ∧ (∀ a ∈ [0, 1, 2], let v := BitVec.ofNat 32 (2 ^ 31 + a * 2 ^ 28);
      v.getLsbD 31 = true ∧ bits v.toNat 29 28 = a ∧ bits v.toNat 27 26 ≠ 3 ∧
        (twoLines.stk 0).lines.filter (vitSelects twoLines 0 v.toNat) = [lineAt loc0 7 false]) := by
  unfold Shaped OneLinePerPlace; decide +kernel

theorem test_has_noAccumulators : ∀ c, ((twoLines.stk 0).ch c).accs = [] := by
  intro c
  by_cases h : c < 32
  · exact (by decide +kernel : ∀ c, c < 32 → ((twoLines.stk 0).ch c).accs = []) c h
  · have hl : (twoLines.stk 0).chans.length = 32 := by decide +kernel
    simp [Stack.ch, List.getElem?_eq_none (by omega : (twoLines.stk 0).chans.length ≤ c), Chan.reset]

theorem test_has_vitOpDone : let s := up.setFld 0 0 F.VIT_OP_STATUS_BUSY 1
    Shaped s ∧ s.flag 0 0 F.VIT_OP_STATUS_BUSY = true ∧ s.opWaits 0 = false ∧
      (onPc (fun p => { p with wbq := [{ bank := 0, row := 0, cls := 4, label := 0, wait := 0, op := true, older := [] }] })).opWaits 0 = true := by
  unfold Shaped; decide +kernel

theorem test_has_vitScrub : twoLines.flag 0 0 F.VIT_CTRL_SCRUB_EN = true ∧ twoLines.unreach 0 = false ∧ twoLines.serving = true ∧
    (let y := lineAt loc0 7 false;
      y.ch < 32 ∧ 16 * y.set < 8192 ∧
      (twoLines.stk 0).lines.find? (fun z => z.ch == y.ch && z.set == (16 * y.set) / 16 && z.way == (16 * y.set) % 16) = some y ∧
      y.dirty ≠ 0 ∧ y.dirty.getLsbD 7 = true ∧ ({ y with dirty := 0 } : Line).dirty = 0) ∧
    max 1024 (twoLines.fld 0 0 F.VIT_SCRUB_SCRUB_FRAMES) ≤ twoLines.now 0 - (twoLines.stk 0).vitScrubStart.getD 31 0 ∧
    (twoLines.stk 0).vitScrubStart.length = 32 := by decide +kernel

/-! ### Hypotheses that are met: channels, temperatures, tiles, repairs -/

theorem test_has_refresh : let s := onStk (fun x => { x with refPhase := [30000, 30000, 30000, 30000] });
    Shaped s ∧ HasPc s 0 31 1 ∧ s.refreshes 0 = true ∧ 63 < s.part.banks ∧ (s.pcOf 0 31 1).selfRefresh = false ∧
      ((s.stk 0).ch 31).unusable = false ∧ ((s.pcOf 0 31 1).bank 0).spaced < s.spacings 0 0 ∧
      up.spacings 0 63 ≤ ((up.pcOf 0 31 1).bank 63).spaced := by
  unfold Shaped HasPc HasCh; decide +kernel

/-- Bank 63 of channel 31 with a debt. -/
def owing (d : Int) : State := up.modPc 0 31 1 (fun p => { p with banks := [(63, { Bank.reset with debt := d })] })

theorem test_has_bankRefresh : Shaped (owing 1) ∧ HasPc (owing 1) 0 31 1 ∧ (owing 1).pcRuns 0 31 1 = true ∧
    (((owing 1).pcOf 0 31 1).bank 63).refs < 5 ∧ (owing 6).refForced 0 31 1 63 = true ∧ (owing 1).refDue 0 31 1 63 = true ∧
    (owing (-3)).refAhead 0 31 1 63 = true ∧ (owing (-4)).refAhead 0 31 1 63 = false ∧ (owing 4).atBank 0 31 1 63 = [] := by
  unfold Shaped HasPc HasCh; decide +kernel

theorem test_has_refreshHeldBack : let s := held { rq 1 [] with cls := 0 } 0 false .opened;
    (∃ r ∈ s.atBank 0 loc0.ch loc0.pc loc0.bankIx, isGuar r.cls = true) ∧ ((s.pcOf 0 loc0.ch loc0.pc).bank loc0.bankIx).debt < 4 := by
  decide +kernel

/-- Bank 0 has tracked row 32767 once below the least threshold, and a targeted refresh waits. -/
def tracking : State := onPc (fun p => { p with
  banks := [(0, { Bank.reset with track := [(32767, 2599)] })]
  targeted := [{ bank := 0, rows := [1], age := 4, promoted := false }] })

theorem test_has_activate : Shaped tracking ∧ HasPc tracking 0 0 0 ∧ tracking.pcRuns 0 0 0 = true ∧
    (∀ e ∈ ((tracking.pcOf 0 0 0).bank 0).track, e.1 ≠ 0) ∧ ((tracking.pcOf 0 0 0).bank 0).track.length < 256 ∧
    ((tracking.pcOf 0 0 0).bank 0).spill = 0 ∧ ((tracking.pcOf 0 0 0).bank 0).track.find? (fun e => e.1 == 32767) = some (32767, 2599) ∧
    (tracking.stk 0).physOf 0 0 0 32767 = 32767 ∧ tracking.nextTargeted 0 0 0 = some { bank := 0, rows := [1], age := 4, promoted := false } ∧
    tracking.windowFits 0 (tracking.pcOf 0 0 0) (tracking.claims 0 0 0) 3 tracking.refCost = true ∧
    ((tracking.pcOf 0 0 0).bank 0).acts < 27 := by
  unfold Shaped HasPc HasCh; decide +kernel

theorem test_has_powerDown : let s := up.setFld 0 0 F.CTL_CTRL_PD_EN 1
    Shaped s ∧ HasPc s 0 0 0 ∧ s.mode = .active ∧ s.pcRuns 0 0 0 = true ∧ (s.pcOf 0 0 0).powerDown = false ∧
      s.flag 0 0 F.CTL_CTRL_PD_EN = true ∧ (∀ b, b < s.part.banks → s.atBank 0 0 0 b = []) ∧ (s.pcOf 0 0 0).wbq = [] ∧ s.idleSpell 0 0 0 = true := by
  unfold Shaped HasPc HasCh; decide +kernel

/-- Stack 0 in MAINTENANCE. -/
def maint : State := onStk (fun x => { x with mode := .maintenance })

theorem test_has_training : ∀ m ∈ [0, 1, 2], let v := BitVec.ofNat 32 (2 ^ 31 + m * 2 ^ 20);
    Shaped maint ∧ HasCh maint 0 31 ∧ maint.winOk 0 = true ∧ v.getLsbD 31 = true ∧ bits v.toNat 21 20 = m ∧ bits v.toNat 17 16 ≠ 3 ∧
      maint.flag 0 31 F.CTL_TRN_STATUS_BUSY = false ∧ maint.trnAllowed 0 31 (bits v.toNat 24 24) = true ∧
      ((maint.stk 0).ch 31).unusable = false ∧ HasPc maint 0 31 (bits v.toNat 24 24) ∧ bits (0x80030000#32).toNat 17 16 = 3 ∧ up.trnAllowed 0 31 (bits v.toNat 24 24) = false := by
  unfold Shaped HasPc HasCh; decide +kernel

/-- The results of a training operation that found nothing. -/
def quietTrn : TrnResult :=
  { pinErrors := [], firstFail := none, failMask := 0, passMaps := [], atMinus := [1], atZero := [0], atPlus := [0] }

/-- A training operation as GO starts it. -/
def trn (mode : Nat) : TrnRun := maint.trnRun 0 0 (2 ^ 31 + mode * 2 ^ 20) quietTrn

theorem test_has_trnDone : let s := (onCh (fun c => { c with trnPend := some (trn 1) })).setFld 0 0 F.CTL_TRN_STATUS_BUSY 1
    Shaped s ∧ HasCh s 0 0 ∧ ((s.stk 0).ch 0).trnPend = some (trn 1) ∧ (trn 1).mode = 1 ∧ (trn 0).mode = 0 ∧ s.flag 0 0 F.CTL_TRN_STATUS_BUSY = true ∧
      (0x40000000#32).getLsbD 30 = true := by
  unfold Shaped HasCh; decide +kernel

theorem test_has_tracking : let s := onPc (fun p => { p with trkDue := true })
    Shaped s ∧ HasPc s 0 0 0 ∧ s.pcRuns 0 0 0 = true ∧ (s.pcOf 0 0 0).trkDue = true ∧ s.windowFree 0 0 0 5 = true ∧ quietTrn.atZero.getD 0 0 = 0 ∧ quietTrn.atMinus.getD 0 0 ≠ 0 ∧
      quietTrn.atPlus.getD 0 0 = 0 ∧ bits ((s.pcOf 0 0 0).delay 0) 6 0 < 127 ∧ 0 < bits ((s.pcOf 0 0 0).delay 0) 6 0 := by unfold Shaped HasPc HasCh; decide +kernel

theorem test_has_pauses : (0x10000000#32).getLsbD 30 = false ∧ (0x10000000#32).getLsbD 28 = true ∧ (0x10000000#32).getLsbD 29 = false ∧
    (let s := onPc (fun p => { p with paused := true, banks := [(0, { Bank.reset with debt := 8 })] });
      Shaped s ∧ ∃ p ∈ ((s.stk 0).ch 0).pcs, p.paused = true ∧ ∃ e ∈ p.banks, 8 ≤ e.2.debt) ∧
    (let s := up.setFld 0 0 F.CTL_DLY_SEL_PIN 36; s.fld 0 0 F.CTL_DLY_SEL_PIN = 36 ∧ s.fld 0 0 F.CTL_DLY_SEL_PC = 0) ∧
    (let s := maint.setFld 0 0 F.CTL_DLY_SEL_PIN 35; s.fld 0 0 F.CTL_DLY_SEL_PIN = 35 ∧ (s.stk 0).mode = .maintenance) := by
  unfold Shaped; decide +kernel

theorem test_has_memorySensors : let s := onStk (fun x => { x with th := { x.th with
      memRead := true
      memDis := 4 :: x.th.memDis.drop 1
      suspect := x.th.suspect.set 15 true
      memAgree := x.th.memAgree.set 15 1 } })
    Shaped s ∧ s.thmRuns 0 = true ∧ (List.replicate 16 (none : Option Int)).length = s.part.dies ∧
      (s.stk 0).th.suspect.getD 0 false = false ∧ (s.stk 0).th.memDis.getD 0 0 = 4 ∧ (∀ m ∈ (s.stk 0).th.memNext, m.1 ≠ 0) ∧
      (s.stk 0).th.suspect.getD 15 false = true ∧ 0 < (s.stk 0).th.memAgree.getD 15 0 ∧
      6250 ≤ s.now 0 + 1 - (s.stk 0).th.memAgree.getD 15 0 ∧ (∀ m ∈ (s.stk 0).th.memNext, m.1 ≠ 15) ∧
      16 ≤ s.now 0 - (s.stk 0).th.memLast ∧ (∀ d, d < s.part.dies → ((s.stk 0).sensorPc d).isSome = true) ∧ s.serving = true ∧
      (let t := onStk (fun x => { x with th := { x.th with memRead := true, memLast := 29999999985 } });
        (t.stk 0).th.memRead = true ∧ t.now 0 - (t.stk 0).th.memLast < 16) := by
  unfold Shaped; decide +kernel

theorem test_has_baseSensors : let s := { onStk (fun x => { x with th := { x.th with baseDis := 63 :: x.th.baseDis.drop 1 } }) with
      mode := .retain }
    let base : List Int := 400 :: List.replicate 31 100;
    Shaped s ∧ s.mode = .retain ∧ base.length = 32 ∧ differs base 0 = true ∧ differs base 16 = false ∧
      63 ≤ (s.stk 0).th.baseDis.getD 0 0 ∧ (s.stk 0).th.t4InLow = false ∧ (s.stk 0).bst.phase = 0 ∧
      s.stageEntry 0 4 ≤ 1000 + (s.stk 0).sensorAdd ∧ up.thmRuns 0 = true := by
  unfold Shaped; decide +kernel

theorem test_has_stages : let s := onStk (fun x => { x with th := { x.th with stage := 3, tstage := 3, holdDown := 6250 } })
    Shaped s ∧ s.thmRuns 0 = true ∧ 0 < (s.stk 0).th.tstage ∧ (s.stk 0).th.tstage < 4 ∧ 6250 ≤ (s.stk 0).th.holdDown ∧ (up.stk 0).th.holdDown < 6250 ∧
      (s.stk 0).th.ror = false ∧ (s.stk 0).hottest.2 + 12 ≤ s.stageEntry 0 (s.stk 0).th.tstage ∧ s.winOk 0 = true := by
  unfold Shaped; decide +kernel

/-- Tile of the first word OPEN and listed since frame 0; a seal of it is in progress. -/
def sealing (since last : Nat) (l : List Seal) : State := onStk (fun x => { x with
  tiles := [(loc0.tile, .opened)]
  openList := [{ tile := loc0.tile, since := since, last := last }]
  seals := l
  lines := [{ lineAt loc0 7 false with parity := true, pin := true }] })

theorem test_has_seal : let s := sealing 29999990000 29999990000 []
    Shaped s ∧ s.tileServes 0 loc0.tile = true ∧
      (let p := s.modPc 0 loc0.ch loc0.pc (fun p => { p with paused := true });
        (p.pcOf 0 (tileCh loc0.tile) (tilePc loc0.tile % 2)).paused = true) ∧
      (normalDue s 0 loc0.tile).find? (fun e => e.tile == loc0.tile) = some { tile := loc0.tile, since := 29999990000, last := 29999990000 } ∧
      sealBusy s 0 loc0.tile = false ∧ forcedDue s 0 loc0.tile = [] ∧ ∀ d ∈ normalDue s 0 loc0.tile, 29999990000 ≤ d.last := by
  unfold Shaped; decide +kernel

theorem test_has_forcedSeal : let s := sealing 0 0 [{ tile := loc0.tile, forced := false }]
    Shaped s ∧ s.tileServes 0 loc0.tile = true ∧
      (forcedDue s 0 loc0.tile).find? (fun e => e.tile == loc0.tile) = some { tile := loc0.tile, since := 0, last := 0 } ∧
      (∀ d ∈ forcedDue s 0 loc0.tile, 0 ≤ d.since) ∧ (∀ d ∈ (s.stk 0).seals, tilePc d.tile = tilePc loc0.tile → d.forced = false) := by
  unfold Shaped; decide +kernel

/-- Dies that nothing has written hold clean words of zeros. -/
theorem zeros_clean (s : State) (h : s.dies = []) (k : Nat) (l : Loc) : decodeWord (s.dieBytes k l) = .clean 0 := by
  have : s.dieBytes k l = List.replicate 36 0 := by
    simp [State.dieBytes, h, memRds, memRd, mget, List.map_const']
  rw [this]
  decide +kernel

theorem test_has_sealComplete : let s := sealing 0 0 [{ tile := loc0.tile, forced := false }]
    (Shaped s ∧ s.tileShare 0 loc0.tile = true ∧ (s.stk 0).seals.find? (fun e => e.tile == loc0.tile) = some { tile := loc0.tile, forced := false } ∧
      (s.stk 0).tileSt loc0.tile = .opened ∧ ((s.stk 0).ch (s.parLineLoc 0 loc0.tile).ch).viUnusable = false ∧
      ((s.stk 0).line (s.parLineLoc 0 loc0.tile) true).isSome = true) ∧ ∀ l ∈ s.tileLocs 0 loc0.tile, Readable s 0 l :=
  ⟨by unfold Shaped; decide +kernel, fun l _ => Or.inr ⟨0, zeros_clean _ rfl 0 l⟩⟩

theorem test_has_sweep : let s := onStk (fun x => { x with overflow := true, tiles := [(0, .opened)] })
    Shaped s ∧ s.background 0 = true ∧ (s.stk 0).overflow = true ∧ sweepFound s 0 = [0] ∧ (s.stk 0).listed (tileCh 0) < 1024 ∧
      sweepFound (onStk (fun x => { x with overflow := true })) 0 = [] := by
  unfold Shaped; decide +kernel

theorem test_has_patrol : let s := onStk (fun x => { x with tiles := [(0, .opened), (1, .sealed)] })
    (Shaped s ∧ s.scbFld 0 F.SCB_CTRL_SCRUB_EN = 1 ∧ s.background 0 = true ∧ s.tileShare 0 0 = true ∧ sealBusy s 0 0 = false ∧ 0 ∈ (s.stk 0).live ∧ (s.stk 0).tileSt 0 = .opened ∧
      (∃ x ∈ (s.stk 0).live, x ≠ 0 ∧ x ∉ (s.stk 0).scrubSeen) ∧
      (∀ x ∈ ((onStk (fun x => { x with tiles := [(0, .opened)] })).stk 0).live, x = 0) ∧ (s.stk 0).live ≠ [] ∧
      3125 * max 0x400 (s.scbFld 0 F.SCB_SCRUB_PERIOD_PERIOD) ≤ s.now 0 - (s.stk 0).scrubStart ∧
      32 * 1048575 < tilesPerStack ∧ (32 * 1048575 / 32768) % 4 < s.part.sids) ∧
    ∀ l ∈ s.tileLocs 0 0, ∃ v, decodeWord (s.dieBytes 0 l) = .clean v :=
  ⟨by unfold Shaped; decide +kernel, fun l _ => ⟨0, zeros_clean _ rfl 0 l⟩⟩

/-- A de-accession span of two tiles is set up. -/
def spanned : State := (onStk (fun x => { x with tiles := [(loc0.tile, .retired)] })).setFld 0 0 F.TSM_DEACC_TILES_TILES 2

theorem test_has_deaccession : Shaped spanned ∧ spanned.winOk 0 = true ∧ spanned.flag 0 0 F.TSM_DEACC_STATUS_BUSY = false ∧
    (spanned.spanTiles 0 (spanned.fld 0 0 F.TSM_DEACC_BASE_LO_BASE_31_12 + spanned.fld 0 0 F.TSM_DEACC_BASE_HI_BASE_39_32 * 2 ^ 20)
      (spanned.fld 0 0 F.TSM_DEACC_TILES_TILES)).Nodup ∧
    loc0.tile ∈ spanned.spanTiles 0 0 2 ∧ (∀ x ∈ spanned.spanTiles 0 0 2, ((spanned.stk 0).ch (tileCh x)).unusable = false) ∧
    (∀ a ∈ [0, 1, 2], bits (BitVec.ofNat 32 (2 ^ 31 + a)).toNat 1 0 = a ∧ (BitVec.ofNat 32 (2 ^ 31 + a)).getLsbD 31 = true) ∧
    (spanned.setFld 0 0 F.TSM_DEACC_STATUS_BUSY 1).flag 0 0 F.TSM_DEACC_STATUS_BUSY = true := by
  unfold Shaped; decide +kernel

theorem test_has_queries : Shaped up ∧ up.winOk 0 = true ∧ up.backed 0 = true ∧ (up.locOf 0 0).stack = 0 ∧ up.flag 0 0 F.ADM_PROBE_CTRL_USE_STAGED = false := by
  unfold Shaped; decide +kernel

theorem test_has_repairs : ∀ op ∈ [0, 1, 2, 3], let v := BitVec.ofNat 32 (2 ^ 31 + op * 2 ^ 28);
    Shaped maint ∧ maint.winOk 0 = true ∧ v.getLsbD 31 = true ∧ bits v.toNat 30 28 = op ∧ (maint.stk 0).doc.cmd = none ∧
      (up.stk 0).mode ≠ .maintenance ∧ ((maint.stk 0).ch (bits v.toNat 12 8)).unusable = false ∧
      (maint.stk 0).otp.nextEntry = some 106 ∧ (maint.stk 0).otp.lifecycle ≠ 4 ∧ maint.fld 0 0 F.DOC_ROW_SID < maint.part.sids ∧
      (List.range 16).find? (fun i => !(maint.stk 0).rowTaken (bits v.toNat 12 8) (bits v.toNat 7 7) 0 0 i) = some 0 ∧
      (maint.stk 0).tsvTaken (bits v.toNat 12 8) (bits v.toNat 7 7) (bits v.toNat 5 0) = false := by
  unfold Shaped; decide +kernel

theorem test_has_repairWords : ∀ l : Loc, ∃ w, decodeWord (maint.dieBytes 0 l) = .clean w := fun l => ⟨0, zeros_clean _ rfl 0 l⟩

theorem test_has_docCmdDone : ((onStk (fun x => { x with doc := { x.doc with cmd := some (3, docTrainFail) } })).stk 0).doc.cmd =
    some (3, docTrainFail) ∧ docTrainFail ≠ docOk := by decide +kernel

/-! ### Hypotheses that are met: ports -/

/-- Port 0 in a state, changed further. -/
def inState (st : LaneState) (f : Port → Port) : State := onPort (fun x => f { x with lstate := st })

/-- Port 0 ACTIVE. -/
def active (f : Port → Port) : State := inState .active f

theorem test_has_laneStates : ∀ st ∈ [LaneState.detect, .laneMap, .train, .align, .linkInit, .active, .test],
    InLane (inState st id) 0 st ∧ ((inState st id).prt 0).wasActive = false ∧ ((inState st id).prt 0).phaseB = false ∧
      ((inState st id).prt 0).rateBSent = false ∧ ((inState st id).prt 0).held = false ∧
      InLane (inState st (fun x => { x with wasActive := true })) 0 st ∧
      ((inState st (fun x => { x with wasActive := true })).prt 0).wasActive = true ∧
      ((inState st (fun x => { x with held := true })).prt 0).held = true := by
  unfold InLane Shaped; decide +kernel

/-- A lane order with its polarities. -/
def order (l : List Nat) : List (Nat × Bool) := l.map (fun i => (i, i == 0))

theorem test_has_laneMap : (order [0, 1, 2, 3, 4, 5, 6, 7]).length = 8 ∧
    (order [7, 6, 5, 4, 3, 2, 1, 0]).map (·.1) = [7, 6, 5, 4, 3, 2, 1, 0] ∧
    (order [1, 0, 2, 3, 4, 5, 6, 7]).map (·.1) ≠ [0, 1, 2, 3, 4, 5, 6, 7] ∧
    (order [1, 0, 2, 3, 4, 5, 6, 7]).map (·.1) ≠ [7, 6, 5, 4, 3, 2, 1, 0] := by decide +kernel

/-- A 16-bit CRC register stays below 2^16. -/
theorem crcShl_lt (p : Nat) (hp : p < 2 ^ 16) (l : List Bool) : ∀ c, c < 2 ^ 16 → crcShl 16 p c l < 2 ^ 16 := by
  induction l with
  | nil => intro c h; exact h
  | cons b l ih =>
    intro c _
    have hm : (2 * c) % 2 ^ 16 < 2 ^ 16 := Nat.mod_lt _ (by decide)
    simp only [crcShl, List.foldl_cons] at ih ⊢
    split
    · exact ih _ (Nat.xor_lt_two_pow hm hp)
    · exact ih _ hm

/-- A training block of TYPE 0x4B with given bits above and a good CHECK (R320). -/
def block (x : Nat) : BitVec 64 := BitVec.ofNat 64 (0x4B + x + trainCrc (0x4B + x) * 2 ^ 48)

/-- Its CHECK is the CRC of its payload, whatever the initial value. -/
theorem block_good (x : Nat) (h : 0x4B + x < 2 ^ 48) : bits (block x).toNat 63 48 = trainCrc (block x).toNat := by
  have hc : trainCrc (0x4B + x) < 2 ^ 16 := crcShl_lt _ (by decide) _ _ (Nat.mod_lt _ (by decide))
  have hv : (block x).toNat = 0x4B + x + trainCrc (0x4B + x) * 2 ^ 48 := by
    simp only [block, BitVec.toNat_ofNat]; omega
  have hb : ∀ i, i < 48 → (block x).toNat.testBit i = (0x4B + x).testBit i := by
    intro i hi
    rw [hv, Nat.add_comm, Nat.mul_comm, Nat.testBit_two_pow_mul_add _ h, if_pos hi]
  have ht : trainCrc (block x).toNat = trainCrc (0x4B + x) := by
    simp only [trainCrc]
    congr 1
    exact List.map_congr_left (fun i hi => hb i (List.mem_range.mp hi))
  rw [ht, hv]
  simp only [bits, Nat.shiftRight_eq_div_pow]
  omega

theorem test_has_trainingFrame : (bits (block (2 ^ 15)).toNat 63 48 = trainCrc (block (2 ^ 15)).toNat ∧
    bits (block (2 ^ 8)).toNat 63 48 = trainCrc (block (2 ^ 8)).toNat ∧ bits (block (2 ^ 11)).toNat 63 48 = trainCrc (block (2 ^ 11)).toNat) ∧
    7 < ((inState .train id).prt 0).lanes.length ∧
    (∀ x ∈ [2 ^ 15, 2 ^ 8, 2 ^ 11, 2 ^ 20 + 2 ^ 21], bits (0x4B + x) 7 0 = 0x4B) ∧ (0x4B + 2 ^ 15 : Nat).testBit 15 = true ∧
    bits (0x4B + 2 ^ 8) 9 8 = 1 ∧ bits (0x4B + 2 ^ 11) 9 8 = 0 ∧ bits (0x4B + 2 ^ 11) 11 10 = 2 ∧
    (((inState .train id).lane 0 7).injLeft = 0 ∧ (inState .train id).injRate 0 7 = none) ∧
    ((inState .train id).lane 0 7).pre < 12 ∧ ((inState .train id).lane 0 7).pre + ((inState .train id).lane 0 7).post < 32 ∧
    0 < ((inState .train id).lane 0 7).post ∧
    12 ≤ ((inState .train (fun x => { x with lanes := x.lanes.map (fun l => { l with pre := 12 }) })).lane 0 7).pre :=
  ⟨⟨block_good _ (by decide), block_good _ (by decide), block_good _ (by decide)⟩, by decide +kernel⟩

/-- Every lane of a port changed. -/
def lanesOf (f : Lane → Lane) (x : Port) : Port := { x with lanes := x.lanes.map f }

theorem test_has_phaseA : let s := inState .train (lanesOf (fun l => { l with rdyRun := 16, partnerCapB := true }))
    InLane s 0 .train ∧ (s.prt 0).phaseDone = true ∧ s.selectsB 0 = true ∧
      (inState .train (lanesOf (fun l => { l with rdyRun := 16 }))).selectsB 0 = false ∧
      ((inState .train (lanesOf (fun l => { l with rdyRun := 16 }))).prt 0).phaseDone = true := by
  unfold InLane Shaped; decide +kernel

theorem test_has_phaseB : let s := inState .train (fun x => lanesOf (fun l => { l with partnerRateB := 16 }) { x with rateBSent := true })
    let t := inState .train (fun x => lanesOf (fun l => { l with rdyRun := 16 }) { x with phaseB := true })
    InLane s 0 .train ∧ (s.prt 0).rateBSent = true ∧ (s.prt 0).phaseB = false ∧ (∀ l ∈ (s.prt 0).lanes, 16 ≤ l.partnerRateB) ∧
      (t.prt 0).phaseB = true ∧ (t.prt 0).phaseDone = true ∧
      (∀ l ∈ ((inState .align (lanesOf (fun l => { l with markRun := 2 }))).prt 0).lanes, 2 ≤ l.markRun) := by
  unfold InLane Shaped; decide +kernel

theorem test_has_nxlControl : let s := up.setFld 0 0 F.NXL_CTRL_TEST_EN 1
    Shaped up ∧ up.winOk 0 = true ∧ (up.prt 0).unusable = false ∧ (up.prt 0).wasActive = false ∧
      up.flag 0 0 F.NXL_CTRL_TEST_EN = false ∧ s.flag 0 0 F.NXL_CTRL_TEST_EN = true := by
  unfold Shaped; decide +kernel

theorem test_has_markers : (∀ st ∈ [LaneState.align, .linkInit, .active], InLane (inState st id) 0 st ∧
      7 < ((inState st id).prt 0).lanes.length ∧ ((inState st id).lane 0 7).rx = .running) ∧
    markerInfo (((active id).prt 0).wire 7 (List.replicate (markerSymbols 0 0 0 0).length 0)) = none ∧
    (let s := active (lanesOf (fun l => { l with rx := .acquiring, wakeMarks := 1, noMarker := 4 }));
      (s.lane 0 7).rx = .acquiring ∧ 0 < (s.lane 0 7).wakeMarks ∧ (∃ l ∈ (s.prt 0).lanes, 4 ≤ l.noMarker) ∧
        ((active (lanesOf (fun l => { l with rx := .acquiring }))).lane 0 7).wakeMarks = 0 ∧
        ((active (lanesOf (fun l => { l with rx := .parked }))).lane 0 7).rx = .parked) := by
  unfold InLane Shaped; decide +kernel

/-! A framing-A group that every lane descrambles into 13 fill flits. -/

/-- A group of fill flits. -/
def fills : List (List Word) := List.replicate 13 fillFlit

/-- The units of a group of fill flits as blocks. -/
def fillUnits : List (Nat × Nat) := fills.flatMap (fun f => (List.range 32).map (fun j => (1, (flitUnit f j).toNat)))

theorem fillUnits_length : fillUnits.length = 416 := by decide +kernel

theorem fillUnits_data : fillUnits.all (fun x => x.1 == 1 && decide (x.2 < 2 ^ 64)) = true := by decide +kernel

theorem fills_back : groupFlits (groupBlocks fills) = fills := by decide +kernel

/-- The blocks of a group of fill flits are a good group. -/
theorem fills_good : groupGood (groupBlocks fills) = true := by
  have hc := crc32_lt (flitBytes fills)
  have hb : groupBlocks fills = fillUnits ++ (List.range 4).map (fun i => (2, groupTrailer i (crc32 (flitBytes fills)))) := rfl
  have hall : fillUnits.all (fun x => x.1 == 1) = true := by
    have h := fillUnits_data
    simp only [List.all_eq_true, Bool.and_eq_true] at h ⊢
    exact fun x hx => (h x hx).1
  unfold groupGood
  rw [fills_back]
  generalize crc32 (flitBytes fills) = c at *
  rw [hb, ← fillUnits_length, List.take_left, List.drop_left, hall]
  have hx : ∀ i, i < 4 → bits (groupTrailer i c) 7 0 = 0x1E ∧ bits (groupTrailer i c) 15 8 = i ∧ bits (groupTrailer i c) 47 16 = c := by
    intro i hi
    simp only [bits, groupTrailer, Nat.shiftRight_eq_div_pow]
    omega
  simp [List.range, List.range.loop, List.zipIdx, fillUnits_length, hx 0 (by decide), hx 1 (by decide), hx 2 (by decide), hx 3 (by decide)]

/-- The descrambler can give every list of bits. -/
theorem scrambled_onto (l : List Bool) : ∀ st, ∃ m, m.length = l.length ∧ (descramble st m).1 = l := by
  induction l with
  | nil => intro st; exact ⟨[], rfl, rfl⟩
  | cons d l ih =>
    intro st
    obtain ⟨m, hm, h⟩ := ih ((st <<< 1) ||| (if d ^^ st.getLsbD 38 ^^ st.getLsbD 57 then 1 else 0))
    refine ⟨(d ^^ st.getLsbD 38 ^^ st.getLsbD 57) :: m, by simp [hm], ?_⟩
    rw [descramble]
    simp only [h]
    cases d <;> cases st.getLsbD 38 <;> cases st.getLsbD 57 <;> rfl

/-- A block can carry every header and payload. -/
theorem block_onto (st : BitVec 58) (x : Nat × Nat) (h1 : x.1 < 4) (h2 : x.2 < 2 ^ 64) : ∃ b, (readBlock st b).1 = x := by
  obtain ⟨m, hm, h⟩ := scrambled_onto (lowBits 64 x.2) st
  have hl : m.length = 64 := by rw [hm]; simp [lowBits]
  have hlt := ofBits_lt m
  rw [hl] at hlt
  refine ⟨BitVec.ofNat 66 (x.1 + 4 * ofBits m), ?_⟩
  have ht : (BitVec.ofNat 66 (x.1 + 4 * ofBits m)).toNat = x.1 + 4 * ofBits m := by rw [BitVec.toNat_ofNat]; omega
  have hd : (x.1 + 4 * ofBits m) / 4 = ofBits m := by omega
  have hm4 : (x.1 + 4 * ofBits m) % 4 = x.1 := by omega
  have hlo : lowBits 64 (ofBits m) = m := by rw [← hl]; exact lowBits_ofBits m
  simp only [readBlock, ht, hd, hm4, hlo, h, ofBits_lowBits _ _ h2]

/-- And a group's blocks every list of them. -/
theorem blocks_onto (b : Nat) (l : List (Nat × Nat)) : ∀ j ls, (∀ x ∈ l, x.1 < 4 ∧ x.2 < 2 ^ 64) →
    ∃ bs, (readBlocks b j bs ls).1 = l := by
  induction l with
  | nil => intro j ls _; exact ⟨[], rfl⟩
  | cons x l ih =>
    intro j ls h
    obtain ⟨hx, hl⟩ := List.forall_mem_cons.mp h
    obtain ⟨c, hc⟩ := block_onto (ls.getD ((b + j) % 8) Lane.reset).scramRx x hx.1 hx.2
    obtain ⟨bs, hbs⟩ := ih (j + 1) (ls.modify ((b + j) % 8) (fun z =>
      { z with scramRx := (readBlock (ls.getD ((b + j) % 8) Lane.reset).scramRx c).2 })) hl
    exact ⟨c :: bs, by simp only [readBlocks, hc, hbs]⟩

/-- Some blocks are received as a good group of fill flits. -/
theorem fills_received (b : Nat) (ls : List Lane) : ∃ bs, groupGood (readBlocks b 0 bs ls).1 = true ∧
    groupFlits (readBlocks b 0 bs ls).1 = fills := by
  have h : ∀ x ∈ groupBlocks fills, x.1 < 4 ∧ x.2 < 2 ^ 64 := by
    intro x hx
    rcases List.mem_append.mp hx with hx | hx
    · have := List.all_eq_true.mp fillUnits_data x hx
      simp at this
      omega
    · obtain ⟨i, hi, rfl⟩ := List.mem_map.mp hx
      have := crc32_lt (flitBytes fills)
      have := List.mem_range.mp hi
      refine ⟨by show 2 < 4; decide, ?_⟩
      show groupTrailer i (crc32 (flitBytes fills)) < 2 ^ 64
      generalize crc32 (flitBytes fills) = c at *
      simp only [groupTrailer]
      omega
  obtain ⟨bs, hbs⟩ := blocks_onto b _ 0 ls h
  exact ⟨bs, by rw [hbs]; exact fills_good, by rw [hbs]; exact fills_back⟩

theorem test_has_lineCode : fills.length = 13 ∧ ∀ f ∈ fills, f.length = 8 := by decide +kernel

theorem test_has_groups : Shaped (active id) ∧ (active id).linkUp 0 = true ∧ ((active id).prt 0).framingB = false ∧
    ((active id).prt 0).lanes.length = 8 ∧ ((active id).prt 0).parse = none ∧ ((active id).prt 0).nakPending = false ∧
    (∀ l ∈ ((active id).prt 0).lanes, l.failHeld = false ∧ l.fails < 3) ∧
    groupGood (readBlocks ((active id).prt 0).rxBlock 0 [0] ((active id).prt 0).lanes).1 = false ∧
    (∀ f ∈ fills, f = fillFlit) ∧
    ∃ bs, groupGood (readBlocks ((active id).prt 0).rxBlock 0 bs ((active id).prt 0).lanes).1 = true ∧
      groupFlits (readBlocks ((active id).prt 0).rxBlock 0 bs ((active id).prt 0).lanes).1 = fills := by
  refine ⟨by unfold Shaped; decide +kernel, by decide +kernel, by decide +kernel, by decide +kernel, by decide +kernel,
    by decide +kernel, by decide +kernel, by decide +kernel, fun f hf => List.eq_of_mem_replicate hf, fills_received _ _⟩

/-- Soft values of a line's levels. -/
def softs (l : List Nat) : List Int := l.flatMap (fun x => if x = 0 then [1, 1] else if x = 1 then [1, -1] else if x = 2 then [-1, -1] else [-1, 1])

/-- The line of the codeword of zeros. -/
def zeroLine : List Int := softs (stuff (0, 0) (List.replicate 1024 0)).1

theorem test_has_codewords : let s := active (fun x => { x with framingB := true })
    InLane s 0 .active ∧ (s.prt 0).framingB = true ∧ 7 < (s.prt 0).lanes.length ∧
      codewordOf ((s.prt 0).inverted 7) (s.lane 0 7).rxRun (softs (List.replicate 1024 0)) = none ∧
      (codewordOf ((s.prt 0).inverted 7) (s.lane 0 7).rxRun zeroLine).any (fun r => ldpcOk (hardBits r.1)) = true ∧
      (s.lane 0 7).failHeld = false ∧ (s.lane 0 7).fails < 3 ∧ (s.lane 0 6).rxUnits.length < 4 ∧
      (let t := active (lanesOf (fun l => { l with rxUnits := List.replicate 4 (0, false), fails := 3, failHeld := false }));
        (∀ m, m < 8 → 4 ≤ (t.lane 0 m).rxUnits.length) ∧ 3 ≤ (t.lane 0 7).fails) := by
  unfold InLane Shaped; decide +kernel

theorem test_has_burstIdle : let s := (active (fun x => { x with framingB := true, idleFlits := 2 ^ 16 })).setFld 0 0 F.NXL_CTRL_BI_EN 1
    Shaped s ∧ s.portLive 0 = true ∧ 7 < (s.prt 0).lanes.length ∧ s.flag 0 0 F.NXL_CTRL_BI_EN = true ∧ (s.prt 0).quiet = true ∧
      (s.prt 0).txParked = false ∧ max 1 (s.fld 0 0 F.NXL_CTRL_BI_IDLE) ≤ (s.prt 0).idleFlits ∧ (s.prt 0).trailerFits = true ∧
      (s.prt 0).txEvent = 0 ∧ (s.lane 0 7).rx ≠ .acquiring ∧ ((s.lane 0 7).injLeft = 0 ∧ s.injRate 0 7 = none) ∧
      ((active id).mode ≠ .idle ∧ ((active id).setFld 0 0 F.NXL_CTRL_BI_EN 0).flag 0 0 F.NXL_CTRL_BI_EN = false) ∧
      ((active (fun x => lanesOf (fun l => { l with txStuffs := 1361 }) { x with framingB := true })).prt 0).trailerFits = false ∧
      (let t := active (fun x => lanesOf (fun l => { l with rx := .parked }) { x with txParked := true, lackDue := true });
        (t.prt 0).quiet = false ∧ (t.prt 0).txParked = true ∧ (t.lane 0 7).rx = .parked) ∧
      ((active (lanesOf (fun l => { l with rx := .acquiring }))).lane 0 7).rx = .acquiring := by
  unfold Shaped; decide +kernel

theorem test_has_injection : (∀ a ∈ [0, 1, 2], bits (BitVec.ofNat 32 (2 ^ 31 + a * 2 ^ 29)).toNat 30 29 = a) ∧
    Shaped (active id) ∧ (active id).winOk 0 = true ∧ (0x80008000#32).getLsbD 31 = true ∧ (0x00008000#32).getLsbD 31 = false ∧
    ((active id).prt 0).lstate = .active ∧ (up.prt 0).lstate ≠ .test ∧ (up.prt 0).lstate ≠ .active := by
  unfold Shaped; decide +kernel

/-- Port 0 in TEST with lane 7 selected, the checker on, and the lanes changed. -/
def inTest (f : Lane → Lane) : State :=
  ((inState .test (lanesOf f)).setFld 0 0 F.NXL_TEST_CHK_EN 1).setFld 0 0 F.NXL_TEST_LANES 0x80

theorem test_has_checker : let s := inTest (fun l => { l with chk := 5 })
    InLane s 0 .test ∧ s.flag 0 0 F.NXL_TEST_CHK_EN = true ∧ (s.fld 0 0 F.NXL_TEST_LANES).testBit 7 = true ∧
      (s.fld 0 0 F.NXL_TEST_LANES).testBit 6 = false ∧ 7 < (s.prt 0).lanes.length ∧ s.fld 0 0 F.NXL_TEST_LOOPBACK = 0 ∧
      ((s.prt 0).wire 7 (prbsRun (s.testQ13 0) 64 5).1).length ≤ s.testSymbols 0 ∧
      5 < 2 ^ (if s.testQ13 0 = true then 13 else 31) ∧ (s.lane 0 7).chk = 5 ∧ (s.lane 0 7).chkLocked = false ∧ (s.lane 0 7).chkRun = 0 ∧
      (let t := inTest (fun l => { l with chk := 5, chkLocked := true }); (t.lane 0 7).chkLocked = true ∧
        ∃ y, y < 4 ∧ y ≠ (prbsSymbol (t.testQ13 0) (t.lane 0 7).chk).1) ∧
      ((inTest id).setFld 0 0 F.NXL_TEST_LOOPBACK 2).fld 0 0 F.NXL_TEST_LOOPBACK = 2 ∧
      (let t := ((inTest (fun l => { l with chkLocked := true, chk := 1 })).setFld 0 0 F.NXL_TEST_LOOPBACK 1).setFld 0 0 F.NXL_TEST_GEN_EN 1;
        t.fld 0 0 F.NXL_TEST_LOOPBACK = 1 ∧ t.flag 0 0 F.NXL_TEST_GEN_EN = true ∧ t.flag 0 0 F.NXL_TEST_CHK_EN = true ∧
        ((t.lane 0 7).injLeft = 0 ∧ t.injRate 0 7 = none) ∧ (t.lane 0 7).chkLocked = true ∧ (t.lane 0 7).chk = (t.lane 0 7).gen ∧
        (t.fld 0 0 F.NXL_TEST_LANES).testBit 7 = true) := by
  unfold InLane Shaped; decide +kernel

theorem test_has_flit : Shaped (active id) ∧ (active id).linkUp 0 = true ∧ ((active id).prt 0).rxPeriodSeq = ((active id).prt 0).rxExpect ∧
    (let s := active (fun x => { x with rxPeriodSeq := 4095, rxVc := .rsp }); (s.prt 0).rxPeriodSeq ≠ (s.prt 0).rxExpect ∧
      seqLe (s.prt 0).rxPeriodSeq (s.prt 0).rxExpect = true ∧ (s.prt 0).rxVc = .rsp) ∧
    seqLe 1 0 = false ∧ ((active (fun x => { x with nakPending := true })).prt 0).nakPending = true ∧
    0 < wordNum 1 0 1 ∧ wordNum 0x87 0 1 < 0x88 ∧ bits (wordNum 1 4 2) 15 12 = 0 := by
  unfold Shaped; decide +kernel

/-- Port 0 ACTIVE with two stored flits, not acknowledged. -/
def stored : State := active (fun x => { x with
  txNext := 2
  replay := [(0, []), (1, [])]
  rspGranted := 9
  mgmtGranted := 9 })

/-- A link-control slot of a code, with a sequence number in bytes 2 and 3. -/
def ctl (code arg n : Nat) : Word := BitVec.ofNat 256 (code + arg * 2 ^ 8 + n * 2 ^ 16)

theorem test_has_linkControl : stored.linkUp 0 = true ∧ wordNum (ctl 0 0 0) 0 1 = 0 ∧
    (let t := active (fun x => { x with txNext := 2, replayFresh := true, replayFrom := some 2 });
      (t.prt 0).replayFresh = true ∧ (t.prt 0).replayFrom = some 2 ∧ seqLe ((t.prt 0).txAcked + 1) 2 = true) ∧ wordNum (ctl 0xF0 0 1) 0 1 = 0xF0 ∧ (wordNum (ctl 0xF0 0 1) 1 1).testBit 0 = false ∧
    bits (wordNum (ctl 0xF0 0 1) 2 2) 11 0 = 1 ∧ seqLe ((stored.prt 0).txAcked + 1) 1 = true ∧ seqLe (stored.prt 0).txNext 1 = false ∧
    (wordNum (ctl 0xF0 1 2) 1 1).testBit 0 = true ∧ seqLe ((stored.prt 0).txAcked + 1) 2 = true ∧ seqLe 2 (stored.prt 0).txNext = true ∧
    (stored.prt 0).replayFresh = false ∧ seqLe 3 (stored.prt 0).txNext = false ∧
    wordNum (ctl 0xF1 0 9) 0 1 = 0xF1 ∧ (stored.prt 0).mgmtAvail + wordNum (ctl 0xF1 0 9) 4 2 ≤ (stored.prt 0).mgmtGranted ∧
    (stored.prt 0).rspAvail + wordNum (ctl 0xF1 0 9) 2 2 ≤ (stored.prt 0).rspGranted ∧
    (stored.prt 0).rspGranted < (stored.prt 0).rspAvail + wordNum (ctl 0xF1 0 10) 2 2 ∧ wordNum (ctl 0xF3 1 0) 0 1 = 0xF3 := by decide +kernel

theorem test_has_linit : let w := BitVec.ofNat 256 (0xF2 + 9 * 2 ^ 32 + 9 * 2 ^ 48)
    wordNum w 0 1 = 0xF2 ∧ 9 ≤ (linitGrants w).1 ∧ 9 ≤ (linitGrants w).2 ∧ (wordNum w 1 1).testBit 1 = false ∧
      (linitGrants (BitVec.ofNat 256 (0xF2 + 8 * 2 ^ 32 + 9 * 2 ^ 48))).1 < 9 ∧
      (linitGrants (BitVec.ofNat 256 (0xF2 + 9 * 2 ^ 32 + 8 * 2 ^ 48))).2 < 9 ∧ Shaped (inState .linkInit id) ∧
      (inState .linkInit id).linkUp 0 = true ∧ ((inState .linkInit id).prt 0).resume = false ∧
      ((inState .linkInit id).prt 0).wasActive = false ∧
      (let s := inState .linkInit (fun x => { x with resume := true, wasActive := true });
        Shaped s ∧ s.linkUp 0 = true ∧ (s.prt 0).resume = true ∧ (s.prt 0).wasActive = true ∧
          wordNum (ctl 0xF2 2 0) 0 1 = 0xF2 ∧ (wordNum (ctl 0xF2 2 0) 1 1).testBit 1 = true) ∧
      Shaped (active id) ∧ (active id).linkUp 0 = true ∧ ((active id).prt 0).lstate = .active := by
  unfold Shaped; decide +kernel

theorem test_has_trailer : (∀ ev ∈ [0, 2, 3, 4], (trailer 0 ev).length = 8 ∧
    bits ((trailer 0 ev).getD 7 0).toNat 31 0 = trailerCrc (trailer 0 ev) ∧ bits ((trailer 0 ev).getD 0 0).toNat 23 16 = ev ∧
    seqLe (bits ((trailer 0 ev).getD 0 0).toNat 11 0) ((active id).prt 0).rxExpect = true) ∧
    bits ((trailer 1 0).getD 7 0).toNat 31 0 = trailerCrc (trailer 1 0) ∧ bits ((trailer 1 0).getD 0 0).toNat 23 16 = 0 ∧
    seqLe (bits ((trailer 1 0).getD 0 0).toNat 11 0) ((active id).prt 0).rxExpect = false ∧
    bits ((List.replicate 8 (0 : BitVec 56)).getD 7 0).toNat 31 0 ≠ trailerCrc (List.replicate 8 0) ∧
    Shaped (active id) ∧ (active id).linkUp 0 = true ∧ ((active id).prt 0).lstate = .active ∧
    ((active (fun x => { x with framingB := true })).prt 0).framingB = true := by
  unfold Shaped; decide +kernel

theorem test_has_trailerSend : Shaped stored ∧ stored.linkUp 0 = true ∧ (stored.prt 0).txParked = false ∧
    (stored.prt 0).trailerFits = true ∧ (stored.prt 0).nakRx = none ∧ (stored.prt 0).txEvent ≠ 3 ∧
    ((active (fun x => { x with nakRx := some 1 })).prt 0).nakRx = some 1 ∧
    ((active (fun x => lanesOf (fun l => { l with txStuffs := 1361 }) { x with framingB := true })).prt 0).trailerFits = false ∧
    ((active (fun x => { x with framingB := true })).prt 0).trailerFits = true ∧
    (((active (fun x => { x with framingB := true })).lane 0 7).injLeft = 0 ∧
      (active (fun x => { x with framingB := true })).injRate 0 7 = none) ∧
    ((active (fun x => { x with txEvent := 3 })).prt 0).txEvent = 3 := by
  unfold Shaped; decide +kernel

theorem test_has_flitSend : let s := active (fun x => { x with
      rspOut := [respTo (rq 1 []) stOk 5000]
      txVc := .rsp
      rspAvail := 9
      unacked := 1 })
    Shaped s ∧ s.linkUp 0 = true ∧ (s.prt 0).txParked = false ∧ (s.prt 0).nakRx = none ∧ (s.prt 0).resend = [] ∧
      (s.prt 0).replay.length < 511 ∧ (s.prt 0).txQueue = [] ∧ (s.prt 0).lackDue = false ∧ (s.prt 0).owesCredit = false ∧
      (s.prt 0).mgmtRaw = [] ∧ (s.prt 0).mgmtOut = [] ∧ (s.prt 0).fwdOut = [] ∧ (s.prt 0).rspWait = [] ∧
      (respTo (rq 1 []) stOk 5000).slots ≤ 8 ∧ (respTo (rq 1 []) stOk 5000).slots ≤ (s.prt 0).rspAvail ∧ 0 < (s.prt 0).unacked ∧
      ((active id).prt 0).quiet = true ∧ ((active id).prt 0).unacked = 0 ∧ ((active id).prt 0).nakPending = false ∧
      ((active (fun x => { x with nakPending := true })).prt 0).nakPending = true ∧
      ((active (fun x => { x with nakRx := some 1 })).prt 0).nakRx ≠ none ∧
      512 ≤ ((active (fun x => { x with replay := List.replicate 512 (0, []) })).prt 0).replay.length ∧
      ((active (fun x => { x with resend := [(0, [])] })).prt 0).resend = [(0, [])] ∧
      ((inState .linkInit id).prt 0).txParked = false ∧ (inState .linkInit id).linkUp 0 = true := by
  unfold Shaped; decide +kernel

theorem test_has_linkInit : let s := inState .linkInit (fun x => { x with seenTx := true, seenRx := true })
    InLane s 0 .linkInit ∧ (s.prt 0).seenTx = true ∧ (s.prt 0).seenRx = true ∧ (s.prt 0).resume = false ∧
      (let t := inState .linkInit (fun x => { x with seenTx := true, seenRx := true, resume := true, partnerResume := true });
        InLane t 0 .linkInit ∧ (t.prt 0).seenTx = true ∧ (t.prt 0).seenRx = true ∧ (t.prt 0).resume = true ∧
          (t.prt 0).partnerResume = true) ∧
      (let t := active (fun x => { x with replayRun := 255, noProgress := 4095 });
        InLane t 0 .active ∧ max 1 (t.fld 0 0 F.NXP_CTRL_REPLAY_LIMIT) ≤ (t.prt 0).replayRun ∧
          max 1 (t.fld 0 0 F.NXP_CTRL_PROGRESS_PERIODS) ≤ (t.prt 0).noProgress) := by
  unfold InLane Shaped; decide +kernel

theorem test_has_nxpRetrain : Shaped up ∧ up.winOk 0 = true ∧ (0x80004002#32).getLsbD 31 = true ∧ (up.prt 0).lstate ≠ .active ∧
    ((active id).prt 0).lstate = .active ∧ ((active id).prt 0).txParked = false ∧
    ((active (fun x => { x with txParked := true })).prt 0).txParked = true := by
  unfold Shaped; decide +kernel
/-! ### Hypotheses that are met: clocks, modes, power, OTP -/

/-- The reference in a state. -/
def refIn (st : Nat) : State := { up with ref := { up.ref with state := st } }

theorem test_has_holdover : Shaped (refIn 1) ∧ (refIn 0).ref.srcStack < (refIn 0).n ∧
    (refIn 1).firstSrc [false, true, false] (refIn 1).ref.index = some 1 ∧
    (refIn 1).firstSrc [true, false, false] (refIn 1).ref.index = none ∧ (refIn 4).ref.state = 4 ∧
    (let s := ({ up with ref := { up.ref with index := 1 } } : State).setFld 0 0 F.CLK_REF_REVERT 1;
      s.flag s.agg 0 F.CLK_REF_REVERT = true ∧ s.srcOk (true :: s.ref.qual.drop 1) 0 = true ∧ s.ref.index = 1) := by
  unfold Shaped; decide +kernel

theorem test_has_recovery : let s := { up with mode := .lost }
    Shaped s ∧ s.modeNext = none ∧ s.firstSrc [true, false, false] 3 = some 0 ∧ ∃ k, k < s.n ∧ (s.stk k).doc.bootStep = 13 := by
  unfold Shaped; decide +kernel

/-- Stack 0 with its clocks changed. -/
def clocked (f : Clock → Clock) : State := onStk (fun x => { x with clk := f x.clk })

theorem test_has_plls : (∀ n ∈ [4092, 4100, 4091, 4101], n < 4092 ∨ 4100 < n ∨ (4092 ≤ n ∧ n ≤ 4100)) ∧ (up.stk 0).clk.fixPll = 2 ∧
    (up.stk 0).clk.fixBad = 0 ∧ 0 < ((clocked (fun c => { c with fixBad := 1 })).stk 0).clk.fixBad ∧
    (active id).portLive 3 = true ∧ (up.stk 0).clk.portBad.getD 3 0 = 0 ∧
    (let s := ({ active id with ref := up.ref } : State).modStk 0 (fun x => { x with clk := { x.clk with portBad := [1, 0, 0, 0] } });
      s.portLive 0 = true ∧ 0 < (s.stk 0).clk.portBad.getD 0 0 ∧ (s.prt 0).lstate = .active) ∧
    (up.stk 0).clk.corePll = 2 ∧ up.ref.state = 0 ∧ (up.stk 0).clk.coreBad = 0 ∧
    0 < ((clocked (fun c => { c with coreBad := 1, coreLastFail := some 1 })).stk 0).clk.coreBad ∧ 1 + 65536 < up.now 0 ∧
    ((clocked (fun c => { c with coreBad := 1, coreLastFail := some 29999934464 })).stk 0).clk.coreLastFail = some 29999934464 ∧
    up.now 0 ≤ 29999934464 + 65536 ∧
    (let s := clocked (fun c => { c with corePll := 1, recovering := true }); (s.stk 0).clk.corePll = 1 ∧
      (s.stk 0).clk.recovering = true ∧ (s.stk 0).clk.fixPll = 2) ∧
    ((clocked (fun c => { c with corePll := 1, recovering := true, fixPll := 3 })).stk 0).clk.fixPll ≠ 2 := by decide +kernel

theorem test_has_clockSelection : up.winOk 0 = true ∧ up.ref.index < 3 ∧ (∃ i, i < 3 ∧ refName 0 i = some up.ref.port) ∧
    (∀ i, i < 3 → refName 5 i ≠ some up.ref.port ∧ ([false, false, false] : List Bool).getD i false = false) ∧
    (up.stk 0).clk.fixPll = 2 ∧ ((clocked (fun c => { c with fixPll := 1 })).stk 0).clk.fixPll ≠ 2 ∧ up.mode ≠ .off ∧ Shaped up := by
  unfold Shaped; decide +kernel

theorem test_has_packageModes : up.transiting = false ∧ ({ up with modeNext := some .idle } : State).transiting = true ∧
    up.retainBarred = false ∧ up.retainHeld = false ∧ (cmt .checking [] [] [] 0).retainHeld = true ∧ maint.retainBarred = true ∧
    (let s := ({ up with idleFrames := 65536 } : State).setFld 0 0 F.CLK_IDLE_CFG_AUTO_EN 1;
      s.flag s.agg 0 F.CLK_IDLE_CFG_AUTO_EN = true ∧ s.pins.wakeN = true ∧ s.demand s.agg = 0 ∧
        max 1 (s.fld s.agg 0 F.CLK_IDLE_CFG_IDLE_FRAMES) ≤ s.idleFrames) ∧
    ({ up with mode := .idle } : State).modeNext = none ∧ (∀ a ∈ [0, 1, 2], bits (BitVec.ofNat 32 (2 ^ 31 + a)).toNat 1 0 = a) := by
  decide +kernel

theorem test_has_maintenance : (up.stk 0).stkNext = none ∧ (up.stk 0).mode = .asPackage ∧ (maint.stk 0).stkNext = none ∧
    maint.transiting = false ∧ maint.testBusy 0 = false ∧ (onCh (fun c => { c with trnPend := some (trn 0) })).testBusy 0 = true ∧
    (let s := onStk (fun x => { x with mode := .maintPending }); (s.stk 0).mode = .maintPending ∧ (s.stk 0).table = []) := by
  decide +kernel

theorem test_has_retain : let s := { up with mode := .enteringRetain, retainAt := 29999999982 }
    Shaped s ∧ s.retainAt + 18 ≤ s.now s.agg ∧ s.wakeInEntry = none ∧ s.modeNext = none ∧ s.pins.resetN = true ∧ s.winOk 0 = true := by
  unfold Shaped; decide +kernel

theorem test_has_supply : Shaped up ∧ ([5999, 6200] : List Nat).length = up.n ∧ (∃ v ∈ [5999, 6200], v < 6000) ∧
    (up.stk 0).pw.capReported = false ∧ (∀ v ∈ [6200, 6200], 6200 ≤ v) ∧
    (let s := { up with supplyCap := true, supplyOk := 1024 }; s.supplyCap = true ∧ 1024 ≤ s.supplyOk) ∧
    ({ State.reset with pins := { State.reset.pins with ovpHeld := true } } : State).pins.ovpHeld = true ∧ State.reset.mode = .off ∧
    (let s := onStk (fun x => { x with pw := { x.pw with ilimitT3 := true, ilimitFree := 1024 } });
      (s.stk 0).pw.ilimitT3 = true ∧ 1024 ≤ (s.stk 0).pw.ilimitFree) := by
  unfold Shaped; decide +kernel

/-- Stack 0 in MAINTENANCE with its OTP controller changed. -/
def otpIn (f : Otp → Otp) : State := onStk (fun x => { x with mode := .maintenance, otp := f x.otp })

theorem test_has_otpProgram : (otpIn id).otpBusy 0 = false ∧ (otpIn (fun o => { o with pendRes := some 0 })).otpBusy 0 = true ∧
    ((otpIn id).stk 0).mode = .maintenance ∧ ((otpIn id).stk 0).otp.mayProgram ((otpIn id).fld 0 0 F.OTP_PROG_ADDR_WORD) = true ∧
    ((otpIn id).stk 0).otp.inSpan ((otpIn id).fld 0 0 F.OTP_PROG_ADDR_WORD) = false ∧
    ((otpIn (fun o => { o with lifecycle := 4 })).stk 0).otp.mayProgram 0 = false ∧
    ((otpIn id).setFld 0 0 F.OTP_PROG_DATA_DATA 1).fld 0 0 F.OTP_PROG_DATA_DATA ≠ 0 ∧
    (∀ a ∈ [0, 1, 2, 3], bits (BitVec.ofNat 32 (2 ^ 31 + a)).toNat 1 0 = a) := by decide +kernel

/-- Both cells of some words burned. -/
def burned (l : List (Nat × Nat)) (o : Otp) : Otp :=
  let m := l.map (fun e => (e.1, BitVec.ofNat 32 e.2))
  { o with cellA := m, cellB := m }

theorem test_has_otpLocked : let o := burned [(2028, 0xFFFFFFFF)] Otp.reset
    o.inSpan 8 = true ∧ o.mayProgram 8 = true ∧ mayFinalize 0 1 = true ∧ mayFinalize 3 6 = false ∧ mayFinalize 2 6 = true ∧
      (burned [(2044, 1)] { Otp.reset with lifecycle := 2 }).mayAdvance 2 = true ∧ Otp.reset.mayAdvance 0 = false := by
  decide +kernel

/-- The second header word of IDENTITY is burned in every bit. -/
def fullHeader : Otp := burned [(9, 0xFFFFFFFF)] Otp.reset

theorem test_has_otpConflict : ∃ e ∈ finalizeWords fullHeader 1, fullHeader.word e.1 ||| e.2 ≠ e.2 := by
  have hs : finalSpan fullHeader 1 = 32 := by decide +kernel
  have hw : fullHeader.word ((otpRegion 1).1 + 1) = 0xFFFFFFFF := by decide +kernel
  unfold finalizeWords
  rw [if_neg (by decide), hs]
  refine ⟨((otpRegion 1).1 + 1, 32 * 2 ^ 16 + otpCrc16 (bitsDown (32 * 2 ^ 16) 31 16)), List.mem_append_left _ List.mem_cons_self, ?_⟩
  have hc : otpCrc16 (bitsDown (32 * 2 ^ 16) 31 16) < 2 ^ 16 := crcShl_lt _ (by decide) _ _ (Nat.mod_lt _ (by decide))
  generalize otpCrc16 (bitsDown (32 * 2 ^ 16) 31 16) = c at hc
  show fullHeader.word ((otpRegion 1).1 + 1) ||| (32 * 2 ^ 16 + c) ≠ 32 * 2 ^ 16 + c
  rw [hw]
  have : 0xFFFFFFFF ≤ 0xFFFFFFFF ||| (32 * 2 ^ 16 + c) := Nat.left_le_or
  omega

theorem test_has_otpFinalize : ∀ r, ∀ e ∈ finalizeWords Otp.reset r, Otp.reset.word e.1 ||| e.2 = e.2 := by
  intro r e _
  simp [Otp.word, Otp.reset, mget]

theorem test_has_otpEnd : let s := otpIn (fun o => { o with pendRes := some otpOk })
    (s.stk 0).otp.pendRes = some otpOk ∧ (s.stk 0).otp.calWait = none ∧ s.retainWant = false ∧
      ((otpIn (fun o => { o with lifecycle := 3 })).stk 0).otp.lifecycle = 3 ∧
      ((otpIn (fun o => { o with lifecycle := 3 })).stk 0).otp.svcFails < 3 ∧
      ((otpIn (fun o => { o with lifecycle := 3 })).stk 0).otp.lcFallback = false := by decide +kernel

theorem test_has_calibration : ((otpIn id).stk 0).otp.cal = none ∧ ((otpIn id).stk 0).otp.calWait = none ∧
    (∀ y ∈ [1, 6], bits (BitVec.ofNat 32 (2 ^ 31 + y)).toNat 7 0 = y) ∧
    (let s := otpIn (fun o => { o with cal := some (1, [100], 29999998976) }); Shaped s ∧ s.regRuns 0 = true ∧
      (s.stk 0).otp.cal = some (1, [100], 29999998976) ∧ 29999998976 + 1024 ≤ s.now 0 ∧ RunsAgree 1 [100] [100] ∧
      ¬RunsAgree 1 [100] [1000000] ∧ (s.stk 0).otp.blankSlot 1 = some 0 ∧ nextSeq (s.stk 0).otp 1 ≤ 255) ∧
    (burned ((List.range 16).map (fun i => (616 + 8 * i + 7, 1))) Otp.reset).blankSlot 1 = none := by
  unfold Shaped RunsAgree; decide +kernel

/-! ### Hypotheses that are met: Registrar, start-up, resets, self-test, PMBus, TAP -/

/-- A report waiting alone at the intake of stack 0. -/
def waitsFor (x : Kind) (bit : Option (Nat × Nat)) : Waiting :=
  { source := 0, kind := x.code, sev := x.sev, addr := 0, frame := 0, tally := 0, saturated := false, kept := false, bit := bit }

/-- Stack 0's Registrar changed. -/
def rgIn (f : Registrar → Registrar) : State := onStk (fun x => { x with rg := f x.rg })

theorem test_has_intake : ∀ y ∈ [(K.CLK_REF_HOLDOVER, 0), (K.BST_BLOCK_FAIL, 1), (K.PWR_IVR_FAULT, 2), (K.REG_FORCED_HALT, 3)],
    let s := rgIn (fun g => { g with waiting := [waitsFor y.1 none] });
    Shaped s ∧ s.regRuns 0 = true ∧ s.halt = none ∧ (s.stk 0).rg.waiting = [waitsFor y.1 none] ∧ y.1.sev < 4 ∧
      kindOf y.1.code = some y.1 ∧ y.1 ≠ K.REG_OVERFLOW ∧ (s.stk 0).rg.fifo.length < 60 ∧ (s.decision 0 (waitsFor y.1 none)).1 = y.2 := by
  unfold Shaped; decide +kernel

/-- An escalation: NOTIFY with its pending bit set is decided FENCE (R458). -/
theorem test_has_escalation :
    ((up.setRaw 0 .reg 0 (0x120 + 4 * K.BST_BLOCK_FAIL.sev) 0xFFFFFFFF).decision 0 (waitsFor K.BST_BLOCK_FAIL none)).2 = true := by decide +kernel

theorem test_has_report : kindOf K.PWR_IVR_FAULT.code = some K.PWR_IVR_FAULT ∧ K.PWR_IVR_FAULT.bit < 24 ∧
    keyPage false (Page.pwr.index 0 * 4096) = some (.pwr, 0) ∧ (up.stk 0).rg.waiting = [] ∧ (∃ x ∈ kinds, 24 ≤ x.bit ∧ kindOf x.code = some x) ∧
    ({ State.reset with mode := .off } : State).regRuns 0 = false := by decide +kernel

theorem test_has_halt : let h : Halt := { kind := 0, source := 0, got := [1], record := none };
    ({ up with halt := some h } : State).halt = some h ∧ 0 ∉ h.got := by decide +kernel

theorem test_has_registrarRegisters : kindOf ((up.setFld 0 0 F.REG_KIND_SEL_KIND K.REG_FORCED_HALT.code).fld 0 0 F.REG_KIND_SEL_KIND) =
    some K.REG_FORCED_HALT ∧ 2 ≤ K.REG_FORCED_HALT.lvl ∧
    kindOf ((up.setFld 0 0 F.REG_KIND_SEL_KIND K.BST_BLOCK_FAIL.code).fld 0 0 F.REG_KIND_SEL_KIND) = some K.BST_BLOCK_FAIL ∧
    K.BST_BLOCK_FAIL.lvl < 2 := by decide +kernel

/-- Stack 0 in SAFE. -/
def safe0 : State := onStk (fun x => { x with mode := .safe })

theorem test_has_safe : safe0.inSafe 0 = true ∧ safe0.winOk 0 = true ∧ (safe0.stk 0).stkNext = none ∧ safe0.exitBlock 0 true = 0 ∧
    safe0.exitBlock 0 false ≠ 0 ∧ (safe0.stk 0).pw.memFault = false ∧
    ((safe0.modStk 0 (fun x => { x with pw := { x.pw with memFault := true } })).stk 0).pw.memFault = true ∧
    ((safe0.modStk 0 (fun x => { x with safeEntry := true })).stk 0).safeEntry = true := by decide +kernel

theorem test_has_telemetry : let s := (onPort (fun x => { x with mgmtAvail := 5 })).setFld 0 0 F.REG_CTRL_TELEM_EN 1
    Shaped s ∧ s.aggChosen = true ∧ s.flag s.agg 0 F.REG_CTRL_TELEM_EN = true ∧ s.agg < s.n ∧ s.refPort < s.ports.length ∧
      1024 ≤ s.now s.agg - s.telLast ∧ 5 ≤ (s.prt s.refPort).mgmtAvail ∧ s.inReset s.agg = false ∧ s.telCovers 1 = true ∧
      512 ≤ s.now s.agg - s.aliveLast ∧ s.tapHolds = false ∧ s.halt = none ∧ (up.prt up.refPort).mgmtAvail < 5 := by
  unfold Shaped; decide +kernel

/-- A record. -/
def rec0 : Rec := { source := 0, kind := 1, sev := 0, level := 0, esc := false, addr := 0, frame := 0, sysId := 0, seq := 0 }

theorem test_has_rings : let s := rgIn (fun g => { g with fifo := [rec0], log := [(0, rec0)], toMirror := [rec0] })
    s.regRuns 0 = true ∧ (s.stk 0).rg.fifo = [rec0] ∧ mfind (s.stk 0).rg.log (s.stk 0).rg.logNext = some rec0 ∧
      rec0 ∈ (s.stk 0).rg.toMirror ∧ s.aggChosen = true ∧ s.agg < s.n ∧ s.inReset s.agg = false ∧ (s.stk 0).rg.toMirror = [rec0] ∧
      s.reach 0 s.agg = true ∧
      (let t := ({ s with aggChosen := true } : State).modStk 0 (fun x => { x with upFailed := true, downFailed := true });
        t.regRuns 1 = true ∧ t.agg < t.n ∧ t.reach 1 0 = false) := by decide +kernel

theorem test_has_archive : let s := up.setFld 0 0 F.REG_ARCH_STATUS_WRITING 1
    s.regRuns 0 = true ∧ s.flag 0 0 F.REG_ARCH_STATUS_WRITING = true ∧ Source.code .pmbus ≠ Source.code (.port 0) := by decide +kernel

theorem test_has_vinValid : let s := State.resetOf .ax2h16 .c
    Shaped s ∧ s.mode = .off ∧ s.pins.ovpHeld = false ∧ s.pins.resetN = true ∧ (s.stk 1).doc.startFail = false := by
  unfold Shaped; decide +kernel

/-- Stack 0 at step 4 of the start, no reference chosen. -/
def starting4 : State :=
  { onStk (fun x => { x with doc := { x.doc with bootStep := 4 } }) with
    mode := .starting
    ref := { up.ref with index := 3 } }

theorem test_has_startReference : Shaped starting4 ∧ starting4.pins.resetN = true ∧ (starting4.stk 0).doc.bootStep = 4 ∧
    (starting4.stk 0).doc.startFail = false ∧ 3 ≤ starting4.ref.index ∧ starting4.firstSrc [true, false, false] 3 = some 0 ∧
    starting4.firstSrc [false, false, false] 3 = none ∧ (starting4.stk 0).latches.critFail = false ∧
    (starting4.stk 0).otp.checkFail.getD 3 false = false := by
  unfold Shaped; decide +kernel

theorem test_has_startEnd : let s := { active (fun x => x) with mode := .starting }
    Shaped s ∧ s.ref.index < 3 ∧ (s.prt s.ref.port).lstate = .active ∧
      (∀ k, k < s.n → (s.stk k).doc.heldSafe = true ∨ 11 ≤ (s.stk k).doc.bootStep) ∧ (s.stk 0).doc.heldSafe = false ∧
      (let t := s.modStk 0 (fun x => { x with doc := { x.doc with bootStep := 10 } });
        5 ≤ (t.stk 0).doc.bootStep ∧ (t.stk 0).doc.bootStep < 11 ∧ (t.stk 0).doc.heldSafe = false) := by
  unfold Shaped; decide +kernel

theorem test_has_resets : pkgResetAsked 0x80000000 = false ∧ pkgResetAsked 0x200000A5 = true ∧ (0x80000000#32).getLsbD 31 = true ∧
    (0x200000A5#32).getLsbD 29 = true ∧ bits (0x200000A5#32).toNat 7 0 = 0xA5 ∧
    (let s := onStk (fun x => { x with rst := true }); Shaped s ∧ s.inReset 0 = true ∧ (s.stk 0).bst.phase = 0 ∧ (s.stk 0).resetRetain = true) ∧
    ((onStk (fun x => { x with rst := true, resetRetain := false })).stk 0).resetRetain = false ∧
    (let s := onStk (fun x => { x with rst := true, bst := { x.bst with phase := 2, saveValid := true } });
      Shaped s ∧ s.inReset 0 = true ∧ (s.stk 0).bst.phase ≠ 0 ∧ (s.stk 0).bst.saveValid = true ∧
        (∀ c, c < 32 → ((s.stk 0).ch c).unusable = false)) ∧
    (let s := { onStk (fun x => { x with doc := { x.doc with bootStep := 2 } }) with mode := .starting };
      Shaped s ∧ (s.stk 0).doc.bootStep = 2) := by
  unfold Shaped; decide +kernel

/-- Stack 0 in MAINTENANCE with a self-test in a phase. -/
def testing (phase : Nat) (f : Bst → Bst) : State :=
  onStk (fun x => { x with mode := .maintenance, bst := f { x.bst with phase := phase, sel := 0x3F } })

/-- Findings that a self-test may report: for each kind of block one, with its phase. -/
def bstFindings : List (Nat × BstFinding) :=
  [(2, { kind := 1, inst := 31, test := 1 }), (2, { kind := 2, inst := 31, test := 1 }), (3, { kind := 3, inst := 3, test := 4 }),
   (3, { kind := 1, inst := 31, test := 3 }), (4, { kind := 4, inst := 31, test := 2 })]

theorem test_has_selfTest : maint.bstReject 0 0x3F = 0 ∧ up.bstReject 0 0x3F ≠ 0 ∧ ((testing 1 id).stk 0).bst.cancelPend = false ∧
    ((testing 2 (fun b => { b with cancelPend := true })).stk 0).bst.cancelPend = true ∧
    (∀ f ∈ bstFindings, findingOk 0x3F f.1 f.2 = true) ∧ ((testing 5 (fun b => { b with saveValid := true })).stk 0).bst.saveValid = true ∧ ((testing 2 id).stk 0).bst.fails.length < 64 ∧
    31 < ((testing 2 id).stk 0).chans.length ∧ ((testing 6 (fun b => { b with noBurn := true })).stk 0).bst.noBurn = true ∧
    ((testing 5 (fun b => { b with fails := [({ kind := 5, inst := 0, test := 6 }, false)] })).stk 0).bst.critical = true := by
  decide +kernel

theorem test_has_pmbus : up.pmbusUp = true ∧ State.reset.pmbusUp = false ∧ pmbusCodes.contains 0x88 = true ∧ pmbusCodes.contains 0 = false ∧
    up.covered.length = 2 ∧ up.agg < up.n ∧ (let s := { up with pmbus := { up.pmbus with addr := 1 } }; s.target s.pmbus.addr.toNat = none) ∧
    (let s := { up with pmbus := { up.pmbus with addr := adr .ctl 0 0x100 } }; Shaped s ∧ s.pmbusUp = true ∧
      Writable s .pmbus s.pmbus.addr 0 .ctl 0 0x100) ∧
    (let s := { up with mode := .retain, pmbus := { up.pmbus with addr := adr .doc 0 0x120 } };
      Leads s s.pmbus.addr 1 .doc 0 0x120 ∧ s.pmbusUp = true) := by
  unfold Shaped Writable Leads; decide +kernel

theorem test_has_pmbusElsewhere : ∀ k, ¬Leads { up with mode := .retain } (adr .ctl 0 0x100) (k + 1) .doc 0 0x120 := by
  intro k h
  have ht : ({ up with mode := .retain } : State).target (adr .ctl 0 0x100).toNat = some { win := 1, page := .ctl, inst := 0, off := 0x100 } := by
    decide +kernel
  unfold Leads at h
  rw [ht] at h
  simp at h

theorem test_has_tap : up.mode ≠ .off ∧ (up.taps[0]?).isSome = true ∧ up.tapAllows 0 2 = true ∧ up.tapFull 0 = true ∧
    (onStk (fun x => { x with otp := { x.otp with lifecycle := 4 } })).tapAllows 0 2 = false ∧
    (onStk (fun x => { x with otp := { x.otp with lifecycle := 4 } })).tapFull 0 = false := by decide +kernel

/-! ### Values that the spec gives (the examples under the rules cited) -/

/-- What a command's next state shows. -/
def shows {α : Type} (c : Instr) (s : State) (f : State → α) : Option α :=
  match exec c s with | .next t => some (f t) | _ => none

/-- R67, R73: offset 0x9C_3A6B_7E40 of an AX8-16 is stack 6, channel 21, PC0, bank group 0, bank 0, SID 2, row 9,911, column 18. -/
theorem test_decompose : State.reset.locOf 0 0x9C3A6B7E40 =
    { stack := 6, ch := 21, pc := 0, bg := 0, bank := 0, sid := 2, row := 9911, col := 18 } := by decide +kernel

/-- The word 0x400 below it differs in BANK0 only. -/
theorem test_decompose_bank : State.reset.locOf 0 0x9C3A6B7A40 =
    { stack := 6, ch := 21, pc := 0, bg := 0, bank := 1, sid := 2, row := 9911, col := 18 } := by decide +kernel

/-- R22: from stack 1 to stack 6 of eight a request goes DOWN over 1, 0, 7, its response UP; to stack 5 an odd requester goes DOWN. -/
theorem test_ring : ringUp 8 1 6 0x0A3 = false ∧ ringUp 8 6 1 0x0A3 = true ∧ ringUp 8 1 5 0x0A3 = false ∧
    (ringPath 8 1 6 false).length = 3 ∧ (ringPath 8 1 5 false).length = 4 := by decide +kernel

/-- R106: the header of the READ of REQ_ID 0x0A3 from port 9. -/
theorem test_header : let r := reqOfHeader (BitVec.ofNat 256 (ofBytes [0x01, 0x80, 0xA3, 0x00, 0x15, 0x40, 0xF0, 0x02, 0x40, 0x7E, 0x6B, 0x3A,
      0x9C, 0x05, 0x34, 0x12, 0x20, 0x03])) .req 9 1 0 [];
    r.op = 1 ∧ r.dlValid = true ∧ r.reqId = 0x0A3 ∧ r.tag = 0x015 ∧ r.len = 4 ∧ r.label = 0x2F0 ∧ r.addr = 0x059C3A6B7E40 ∧
      r.dlFrame = 0x1234 ∧ r.dlSlot = 800 ∧ r.rsvd = false ∧ r.formOk = true := by decide +kernel

/-- R187 to R189: WBASE 125, addends 2^53, 1 and −2^53: byte 10 is 0x01, byte 24 is 0x7D, byte 25 is 0x80, every other byte is 0. -/
theorem test_repro : ([0x4340000000000000, 0x3FF0000000000000, 0xC340000000000000].foldl (fun w x => (reproStep w x).1) (accFresh 125 0)).toNat =
    2 ^ 80 + 0x7D * 2 ^ 192 + 0x80 * 2 ^ 200 := by decide +kernel

/-- The same addends in the other order, and FOLD: 1.0 with OP_STATUS 0. -/
theorem test_fold : (foldVal ([0x4340000000000000, 0xC340000000000000, 0x3FF0000000000000].foldl (fun w x => (reproStep w x).1)
    (accFresh 125 0))).1 = 0x3FF0000000000000 := by decide +kernel

/-- ADD32 wraps: 0xFFFFFFFF + 3 is 2, and the old value is returned (R182). -/
theorem test_add32 : shows (.add32 0 5) (held (rq 0x20 (opnd 3)) 0xFFFFFFFF false .opened) (fun t =>
    ((t.stk 0).sectorAt loc0, ((t.stk 0).table.map (fun e => e.done.map (fun l => l.map (fun r => r.inline.toNat)))))) =
      some (some (2, false), [some [0xFFFFFFFF]]) := by decide +kernel

/-- SMIN32 compares as signed numbers (R182). -/
theorem test_smin32 : shows (.smin32 0 5) (held (rq 0x24 (opnd 0xFFFFFFFF)) 7 false .opened) (fun t => (t.stk 0).sectorAt loc0) =
    some (some (0xFFFFFFFF, false)) := by decide +kernel

/-- UMIN32 compares as numbers (R182). -/
theorem test_umin32 : shows (.umin32 0 5) (held (rq 0x26 (opnd 0xFFFFFFFF)) 7 false .opened) (fun t => (t.stk 0).sectorAt loc0) =
    some (some (7, false)) := by decide +kernel

/-- FADD32: 1.0 + 2.0 is 3.0 (R183). -/
theorem test_fadd32 : shows (.fadd32 0 5) (held (rq 0x2A (opnd 0x40000000)) 0x3F800000 false .opened) (fun t => (t.stk 0).sectorAt loc0) =
    some (some (0x40400000, false)) := by decide +kernel

/-- A READ of an INVALID tile answers zeros with OK (R115). -/
theorem test_read_invalid : shows (.read 0 5 none) (held (rq 1 []) 7 false .invalid) (fun t =>
    (t.stk 0).table.map (fun e => e.done.map (fun l => l.map (fun r => r.status :: r.data.map (fun d => d.1.toNat))))) = some [some [[0, 0]]] := by
  decide +kernel

/-- A WRITE opens a SEALED tile (R275). -/
theorem test_write_opens : shows (.write 0 5 none) (held (rq 2 oneWord) 7 false .sealed) (fun t =>
    ((t.stk 0).tileSt loc0.tile, (t.stk 0).sectorAt loc0)) = some (.opened, some (9, false)) := by decide +kernel

/-- The debt of a bank stops at 8 (R242). -/
theorem test_refresh_debt : shows (.refreshSpacing 0 0 0 0) (onPc (fun p => { p with banks := [(0, { Bank.reset with debt := 8 })] })) (fun t =>
    ((t.pcOf 0 0 0).bank 0).debt) = some 8 := by decide +kernel

/-- A tick adds one to the frame counter of every stack (R35). -/
theorem test_frame_tick : shows .frameTick up (fun t => (t.frame 0, t.frame 1, t.now 0)) = some (5001, 5001, 30000000001) := by
  decide +kernel

/-- TIME_SYNC from a port that does not supply the reference is discarded (R40). -/
theorem test_time_sync_other : shows (.timeSync 1 9000 0 0) up (fun t => t.sync) = some none := by decide +kernel

/-- A GO while a COMMIT runs is counted and changes nothing else (R95). -/
theorem test_commit_busy : shows (.commit .pmbus 0x80000000) (cmt .checking [] [] [] 0) (fun t => (t.cntVal 0 .cmt 0 3, t.commit.phase)) =
    some (1, .checking) := by decide +kernel

/-- Thresholds that do not rise are not taken (R425). -/
theorem test_thresholds : shows (.thmThreshWrite .pmbus 0 0x5A5A5A5A) up (fun t => t.raw 0 .thm 0 0x100 == up.raw 0 .thm 0 0x100) =
    some true := by decide +kernel

/-- The descrambler undoes the scrambler on a pattern (R307). -/
theorem test_scrambler : (descramble 5 (scramble 5 [true, false, true, true]).1).1 = [true, false, true, true] := by decide +kernel

/-- R303: the bit pairs 00, 01, 11 and 10 are the levels 0 to 3. -/
theorem test_gray : [grayLevel false false, grayLevel false true, grayLevel true true, grayLevel true false] = [0, 1, 2, 3] := rfl

/-- R312: after 11 identical symbols one of the opposite extreme is inserted, and the count begins anew. -/
theorem test_stuff : (stuff (0, 0) (List.replicate 12 1)).1 = List.replicate 11 1 ++ [3, 1] := by decide +kernel

/-- No word of the table spells a command. -/
theorem test_no_words : decodeTableWord 32 0 = none ∧ up.withFetchWord 32 0 = up := ⟨rfl, rfl⟩

/-! ### Ill-formed commands: one for each check of WellFormed -/

/-- Every operand one past its last value, or of a wrong length, is refused on an AX8-16. -/
theorem test_illFormed : ∀ c ∈ ([.registerWrite (.port 32) 0 0, .registerWrite (.docent 8) 0 0, .pageErrBroadcast 8, .runLevelChange 4,
    .timeSync 32 0 0 0, .timeSync 0 0 200 0, .fence 0 1024, .rangeZero 0 0 8, .accSpillAll .pmbus 0 32 0, .vitSramScrub 0 0 8192 none,
    .refreshSpacing 0 0 2 0, .refreshSpacing 0 0 0 64, .activate 0 0 0 0 32768 false,
    .trnPattern .pmbus 0 0 0 { quietTrn with pinErrors := List.replicate 37 0 }, .memoryDieSensorRead 0 [], .suspectClear 0 16,
    .seal 0 33554432, .tsmMapScrub 0 1048576 none, .rowRepair .pmbus 0 0 { burnOk := true, failedChs := [32] }, .laneMap 0 [],
    .laneMap 0 (List.replicate 8 (8, false)), .squelchAssert 0 8, .alignmentMarker 0 0 [4] 0, .codeword 0 0 [],
    .codeword 0 0 (List.replicate 2048 32), .framingAGroup 0 [], .codeword 0 0 (List.replicate 2049 0), .checkerLock 0 0 [4], .read 0 0 (some (.data 8)), .flit 0 [] false, .periodTrailer 0 [] 0, .fwdTimeout 0 4096,
    .holdoverTimeout [], .vinSample [], .ivrFault 0 4, .baseSensorRead 0 [] 0 0 0, .otpProgram .pmbus 0 0 { pulses := 5, verified := true },
    .faultReport 0 [{ pkgPage := false, page := 0, sub := 16, kind := 0, sev := 0, addr := 0 }], .pendAcknowledge .pmbus 0 4 0,
    .vinValid [], .startReference 0 [true, true, true] { docentOk := true, otpOk := true, powerOk := true, timerOk := true } true [32]] : List Instr),
    c.wf 8 16 = false := by decide +kernel

/-- The same operands at their last value are well-formed. -/
theorem test_wellFormed : ∀ c ∈ ([.registerWrite (.port 31) 0 0, .registerWrite (.docent 7) 0 0, .pageErrBroadcast 7, .runLevelChange 3,
    .timeSync 31 0 199 0, .fence 0 1023, .rangeZero 0 0 7, .accSpillAll .pmbus 0 31 0, .vitSramScrub 0 0 8191 none,
    .refreshSpacing 0 0 1 63, .activate 0 0 0 0 32767 false, .suspectClear 0 15, .seal 0 33554431, .tsmMapScrub 0 1048575 none,
    .squelchAssert 0 7, .fwdTimeout 0 4095, .ivrFault 0 3, .otpProgram .pmbus 0 0 { pulses := 4, verified := true },
    .pendAcknowledge .pmbus 0 3 0] : List Instr), c.wf 8 16 = true := by decide +kernel

end Tests
end

section
/-! PROOFS. The skeleton of a state: what no command changes (the queue, the part, how many stacks and ports there are), with the
bytes of the dies, which commands change by writing bytes alone. -/

namespace Sys2Proof.Machine

/-- The skeleton of a state: the queue, the part, the numbers of stacks and ports, and the dies' bytes. -/
structure Skel where
  pending : List Instr
  part    : Part
  nStks   : Nat
  nPorts  : Nat
  dies    : Memory

/-- The skeleton of a state. -/
def State.skel (s : State) : Skel := ⟨s.pending, s.part, s.stks.length, s.ports.length, s.dies⟩

/-- The fields of a state that its skeleton holds. -/
theorem State.fields_skel (s : State) : s.pending = s.skel.pending ∧ s.part = s.skel.part ∧ s.stks.length = s.skel.nStks ∧
    s.ports.length = s.skel.nPorts ∧ s.dies = s.skel.dies := ⟨rfl, rfl, rfl, rfl, rfl⟩

@[simp] theorem State.skel_eta (s : State) :
    (⟨s.skel.pending, s.skel.part, s.skel.nStks, s.skel.nPorts, s.skel.dies⟩ : Skel) = s.skel := rfl

/-- The skeleton of a state given by its fields, as a record update gives one. -/
@[simp] theorem skel_mk (pending part lid free stks ports dies transit nextRid timedOut mode agg aggChosen runLevel levelNext
    supplyCap supplyOk pkgCnt commit splitDue miss errPend missDue errDue sync longFrame timeValid timeEst afterStop ref irqs telSeq
    telLast aliveLast alignLast lastTel halt idleFrames wakeCause modeNext retainAt retainWant wakeInEntry wakeLow pins pmbus taps
    mgmtOut) :
    (State.mk pending part lid free stks ports dies transit nextRid timedOut mode agg aggChosen runLevel levelNext supplyCap supplyOk
      pkgCnt commit splitDue miss errPend missDue errDue sync longFrame timeValid timeEst afterStop ref irqs telSeq telLast aliveLast
      alignLast lastTel halt idleFrames wakeCause modeNext retainAt retainWant wakeInEntry wakeLow pins pmbus taps mgmtOut).skel =
    ⟨pending, part, stks.length, ports.length, dies⟩ := rfl

/-! ### Branches and loops -/

@[simp] theorem skel_ite (c : Prop) [Decidable c] (a b : State) : (if c then a else b).skel = if c then a.skel else b.skel :=
  apply_ite _ _ _ _

@[simp] theorem skel_ite_snd {α : Type} (c : Prop) [Decidable c] (a b : α × State) :
    (if c then a else b).2.skel = if c then a.2.skel else b.2.skel :=
  apply_ite (fun p : α × State => p.2.skel) _ _ _

@[simp] theorem skel_foldl {α : Type} (f : State → α → State) (h : ∀ s a, (f s a).skel = s.skel) (l : List α) (s : State) :
    (l.foldl f s).skel = s.skel := by
  induction l generalizing s with
  | nil => rfl
  | cons a l ih => rw [List.foldl_cons, ih, h]

/-- A loop that carries a value beside the state. -/
@[simp] theorem skel_foldl_snd {α β : Type} (f : β × State → α → β × State) (h : ∀ p a, (f p a).2.skel = p.2.skel) (l : List α)
    (p : β × State) : (l.foldl f p).2.skel = p.2.skel := by
  induction l generalizing p with
  | nil => rfl
  | cons a l ih => rw [List.foldl_cons, ih, h]

@[simp] theorem skel_forN (n : Nat) (s : State) (f : State → Nat → State) (h : ∀ s i, (f s i).skel = s.skel) :
    (forN n s f).skel = s.skel := skel_foldl f h _ s

@[simp] theorem skel_forStacks (s : State) (f : State → Nat → State) (h : ∀ s k, (f s k).skel = s.skel) :
    (forStacks s f).skel = s.skel := skel_forN _ s f h

/-! ### Shared operations -/

@[simp] theorem skel_modStk (s : State) (k f) : (State.modStk s k f).skel = s.skel := by simp [State.modStk, State.fields_skel]
@[simp] theorem skel_modPort (s : State) (p f) : (State.modPort s p f).skel = s.skel := by
  simp [State.modPort, State.fields_skel]
@[simp] theorem skel_modCh (s : State) (k c f) : (State.modCh s k c f).skel = s.skel := by simp [State.modCh]
@[simp] theorem skel_modPc (s : State) (k c i f) : (State.modPc s k c i f).skel = s.skel := by simp [State.modPc]
@[simp] theorem skel_modRg (s : State) (k f) : (State.modRg s k f).skel = s.skel := by simp [State.modRg]
@[simp] theorem skel_draw (s : State) : (State.draw s).2.skel = s.skel := by simp [State.draw, State.fields_skel]
@[simp] theorem skel_setRaw (s : State) (k pg i off v) : (State.setRaw s k pg i off v).skel = s.skel := by simp [State.setRaw]
@[simp] theorem skel_setFld (s : State) (k i f v) : (State.setFld s k i f v).skel = s.skel := by simp [State.setFld]
@[simp] theorem skel_setFlds (s : State) (k i l) : (State.setFlds s k i l).skel = s.skel := by simp [State.setFlds]
@[simp] theorem skel_setAll (s : State) (f v) : (State.setAll s f v).skel = s.skel := by simp [State.setAll]
@[simp] theorem skel_setCnt (s : State) (k pg i c v) : (State.setCnt s k pg i c v).skel = s.skel := by
  simp [State.setCnt, State.fields_skel]
@[simp] theorem skel_count (s : State) (k pg i c n) : (State.count s k pg i c n).skel = s.skel := by simp [State.count]
@[simp] theorem skel_ringTx (s : State) (k j) : (State.ringTx s k j).skel = s.skel := by simp [State.ringTx]

/-! ### Flags, interrupts and reports -/

@[simp] theorem skel_irqAt (s : State) (frame kind source detail) : (State.irqAt s frame kind source detail).skel = s.skel := by
  simp [State.irqAt, State.fields_skel]
@[simp] theorem skel_irq (s : State) (k kind source detail) : (State.irq s k kind source detail).skel = s.skel := by
  simp [State.irq]
@[simp] theorem skel_event (s : State) (k pg i n) : (State.event s k pg i n).skel = s.skel := by simp [State.event]
@[simp] theorem skel_statusBit (s : State) (k pg i n v) : (State.statusBit s k pg i n v).skel = s.skel := by
  simp [State.statusBit]
@[simp] theorem skel_reportSev (s : State) (k x sev i sub addr) : (State.reportSev s k x sev i sub addr).skel = s.skel := by
  simp [State.reportSev, State.fields_skel]
@[simp] theorem skel_report (s : State) (k x i sub addr) : (State.report s k x i sub addr).skel = s.skel := by
  simp [State.report]

/-! ### Banks and slots -/

@[simp] theorem skel_workWindow (s : State) (k ch pc act n) : (State.workWindow s k ch pc act n).skel = s.skel := by
  simp [State.workWindow]
@[simp] theorem skel_busTurn (s : State) (k ch pc w wr) : (busTurn s k ch pc w wr).skel = s.skel := by
  unfold busTurn; split <;> simp
@[simp] theorem skel_activate (s : State) (k ch pc bank row) : (activate s k ch pc bank row).skel = s.skel := by
  simp only [activate]; (repeat' split) <;> simp
@[simp] theorem skel_openRow (s : State) (k l w) : (openRow s k l w).skel = s.skel := by simp [openRow]
@[simp] theorem skel_beSlot (s : State) (k ch pc c) : (beSlot s k ch pc c).skel = s.skel := by simp [beSlot]
@[simp] theorem skel_takeSlot (s : State) (k ch pc w) : (takeSlot s k ch pc w).skel = s.skel := by simp [takeSlot]
@[simp] theorem skel_charge1 (s : State) (k l w wr) : (charge1 s k l w wr).skel = s.skel := by simp [charge1]
@[simp] theorem skel_postWrite (s : State) (k l w) : (postWrite s k l w).skel = s.skel := by simp [postWrite]
@[simp] theorem skel_issueWb (s : State) (k ch pc y) : (issueWb s k ch pc y).skel = s.skel := by simp [issueWb]

/-! ### Stored words, tiles and lines -/

@[simp] theorem skel_rowEvent (s : State) (k l addr) : (rowEvent s k l addr).skel = s.skel := by simp [rowEvent]
@[simp] theorem skel_laneEvent (s : State) (k l pin addr) : (laneEvent s k l pin addr).skel = s.skel := by simp [laneEvent]
@[simp] theorem skel_modLine (s : State) (k l parity f) : (State.modLine s k l parity f).skel = s.skel := by
  simp [State.modLine]
@[simp] theorem skel_touch (s : State) (k l way) : (touch s k l way).skel = s.skel := by simp [touch]
@[simp] theorem skel_setTile (s : State) (k t) (st : TileState) : (State.setTile s k t st).skel = s.skel := by
  simp [State.setTile]
@[simp] theorem skel_listOpen (s : State) (k t turns) : (listOpen s k t turns).skel = s.skel := by simp [listOpen]
@[simp] theorem skel_abortSeal (s : State) (k t) : (abortSeal s k t).skel = s.skel := by simp [abortSeal]
@[simp] theorem skel_useLine (s : State) (k l) : (useLine s k l).skel = s.skel := by
  unfold useLine; split <;> simp
@[simp] theorem skel_hitLine (s : State) (k l w) : (hitLine s k l w).skel = s.skel := by simp [hitLine]
@[simp] theorem skel_dropLines (s : State) (k t parity) : (dropLines s k t parity).skel = s.skel := by simp [dropLines]
@[simp] theorem skel_dropAccs (s : State) (k t) : (dropAccs s k t).skel = s.skel := by simp [dropAccs]
@[simp] theorem skel_unlist (s : State) (k t) : (unlist s k t).skel = s.skel := by simp [unlist]
@[simp] theorem skel_dropSeal (s : State) (k t) : (dropSeal s k t).skel = s.skel := by simp [dropSeal]

/-! ### Accumulators -/

@[simp] theorem skel_makeResident (s : State) (k l) : (makeResident s k l).skel = s.skel := by simp [makeResident]

/-! ### Order of service -/

@[simp] theorem skel_noteOrder (s : State) (k ch pc b) : (noteOrder s k ch pc b).skel = s.skel := by simp [noteOrder]
@[simp] theorem skel_beginBank (s : State) (k r) : (beginBank s k r).skel = s.skel := by simp [beginBank]
@[simp] theorem skel_endBank (s : State) (k r) : (endBank s k r).skel = s.skel := by simp [endBank]
@[simp] theorem skel_drainWbs (n) (s : State) (k ch pc) : (drainWbs n s k ch pc).skel = s.skel := by
  refine skel_forN n s _ fun s _ => ?_
  split
  · rfl
  · split <;> simp
@[simp] theorem skel_endFrameWbs (s : State) (k ch pc) : (endFrameWbs s k ch pc).skel = s.skel := by simp [endFrameWbs]

/-! ### Serving a request -/

@[simp] theorem skel_modEntry (s : State) (k rid f) : (State.modEntry s k rid f).skel = s.skel := by simp [State.modEntry]
@[simp] theorem skel_dropEntry (s : State) (k rid) : (State.dropEntry s k rid).skel = s.skel := by simp [State.dropEntry]
@[simp] theorem skel_endOutst (s : State) (p reqId rid) : (State.endOutst s p reqId rid).skel = s.skel := by
  simp [State.endOutst]
@[simp] theorem skel_isLate (s : State) (r) : (isLate s r).2.skel = s.skel := by simp [isLate]
@[simp] theorem skel_lateCheck (s : State) (k e) : (lateCheck s k e).skel = s.skel := by simp [lateCheck, State.fields_skel]
@[simp] theorem skel_finish (s : State) (k r rs) : (finish s k r rs).skel = s.skel := by
  unfold finish; (repeat' split) <;> simp
@[simp] theorem skel_finishSt (s : State) (k r st) : (finishSt s k r st).skel = s.skel := by simp [finishSt]
@[simp] theorem skel_serve (s : State) (k rid ops) (f : State → Req → State) (h : ∀ s r, (f s r).skel = s.skel) :
    (serve s k rid ops f).skel = s.skel := by
  unfold serve; split <;> simp [h]
@[simp] theorem skel_dropLine (s : State) (k y) : (dropLine s k y).skel = s.skel := by simp [dropLine]
@[simp] theorem skel_vitCorrect (s : State) (k ch) : (vitCorrect s k ch).skel = s.skel := by simp [vitCorrect]
@[simp] theorem skel_vitUe (s : State) (k ch sev) : (vitUe s k ch sev).skel = s.skel := by simp [vitUe]
@[simp] theorem skel_serialWait (s : State) (k r) : (serialWait s k r).skel = s.skel := by simp [serialWait]
@[simp] theorem skel_elemSent (s : State) (k j) : (elemSent s k j).skel = s.skel := by simp [elemSent]
@[simp] theorem skel_elemFailed (s : State) (k off) : (elemFailed s k off).skel = s.skel := by simp [elemFailed]
@[simp] theorem skel_zeroTiles (s : State) (j base n) : (zeroTiles s j base n).2.skel = s.skel := by
  refine skel_foldl_snd _ (fun p t => ?_) _ _
  dsimp only
  split <;> simp
@[simp] theorem skel_doRangeZero (s : State) (k rid j) : (doRangeZero s k rid j).skel = s.skel := by
  unfold doRangeZero; split <;> simp
@[simp] theorem skel_doRangeZeroDone (s : State) (k rid) : (doRangeZeroDone s k rid).skel = s.skel := by
  unfold doRangeZeroDone; split <;> simp

/-! ### Ingress, admission and responses -/

@[simp] theorem skel_spend (s : State) (p r) : (State.spend s p r).skel = s.skel := by simp [State.spend]
@[simp] theorem skel_lookLabel (s : State) (p r) : (lookLabel s p r).2.skel = s.skel := by simp [lookLabel]
@[simp] theorem skel_arrive (s : State) (p r) : (arrive s p r).skel = s.skel := by simp [arrive, State.fields_skel]
@[simp] theorem skel_leaveIngress (s : State) (p r) : (leaveIngress s p r).skel = s.skel := by simp [leaveIngress]
@[simp] theorem skel_pushRsp (s : State) (r) : (pushRsp s r).skel = s.skel := by simp [pushRsp]
theorem skel_endAtPort {s t : State} {r st} (h : endAtPort s r st = some t) : t.skel = s.skel := by
  simp only [endAtPort] at h
  split at h
  · cases h
  · rw [← Option.some.inj h]; simp
@[simp] theorem skel_lateRsp (s : State) (k rid) : (lateRsp s k rid).skel = s.skel := by simp [lateRsp, State.fields_skel]
theorem skel_endFrom {s t : State} {k r st} (h : endFrom s k r st = some t) : t.skel = s.skel := by
  simp only [endFrom] at h
  split at h
  · rw [← Option.some.inj h]; simp [State.fields_skel]
  · split at h
    · cases h
    · split at h
      · rw [← Option.some.inj h]; simp
      · obtain ⟨u, hu, rfl⟩ := Option.map_eq_some_iff.mp h
        simp [skel_endAtPort hu]
@[simp] theorem skel_forwardOn (s : State) (q r) : (forwardOn s q r).skel = s.skel := by
  simp only [forwardOn]; (repeat' split) <;> simp
@[simp] theorem skel_passTurn (s : State) (p r) : (passTurn s p r).skel = s.skel := by simp [passTurn]
@[simp] theorem skel_leaveWith (s : State) (p r st) : (leaveWith s p r st).skel = s.skel := by
  unfold leaveWith
  split
  next t ht => simp [skel_endAtPort ht]
  next => rfl
@[simp] theorem skel_noRoute (s : State) (p r x) : (noRoute s p r x).skel = s.skel := by simp [noRoute]
@[simp] theorem skel_release (s : State) (p r) : (release s p r).skel = s.skel := by
  unfold release; (repeat' split) <;> simp [State.fields_skel]
@[simp] theorem skel_dropRec (s : State) (q f) : (dropRec s q f).skel = s.skel := by simp [dropRec]
@[simp] theorem skel_popRspIn (s : State) (p) : (popRspIn s p).skel = s.skel := by simp [popRspIn]
@[simp] theorem skel_timeoutRec (s : State) (q f) : (timeoutRec s q f).skel = s.skel := by simp [timeoutRec]
@[simp] theorem skel_inboundIrq (s : State) (p vc header) : (inboundIrq s p vc header).skel = s.skel := by simp [inboundIrq]

/-! ### The Registrar -/

@[simp] theorem skel_stopTest (s : State) (k) : (stopTest s k).skel = s.skel := by simp [stopTest]
@[simp] theorem skel_startArchive (s : State) (k) : (startArchive s k).skel = s.skel := by simp [startArchive]
@[simp] theorem skel_enterSafe (s : State) (k kind source byHalt) : (enterSafe s k kind source byHalt).skel = s.skel := by
  simp [enterSafe]
@[simp] theorem skel_endRequests (s : State) (k) : (endRequests s k).skel = s.skel := by simp [endRequests]
@[simp] theorem skel_setSelfRefresh (s : State) (k v) : (setSelfRefresh s k v).skel = s.skel := by simp [setSelfRefresh]
@[simp] theorem skel_abortSeals (s : State) (k) : (abortSeals s k).skel = s.skel := by simp [abortSeals]
@[simp] theorem skel_safeStep2 (s : State) (k) : (safeStep2 s k).skel = s.skel := by simp [safeStep2]
@[simp] theorem skel_sendAbort (s : State) : (sendAbort s).skel = s.skel := by simp [sendAbort, State.fields_skel]
@[simp] theorem skel_abortCommit (s : State) : (abortCommit s).skel = s.skel := by simp [abortCommit]
@[simp] theorem skel_startHalt (s : State) (k kind source) : (startHalt s k kind source).skel = s.skel := by
  unfold startHalt; split <;> simp [State.fields_skel]
@[simp] theorem skel_latchFirst (s : State) (k w lvl) : (latchFirst s k w lvl).skel = s.skel := by simp [latchFirst]
@[simp] theorem skel_countReports (s : State) (k w) : (countReports s k w).skel = s.skel := by simp [countReports]
@[simp] theorem skel_markBit (s : State) (k w) : (markBit s k w).skel = s.skel := by
  unfold markBit; split <;> simp
@[simp] theorem skel_react (s : State) (k w lvl) : (react s k w lvl).skel = s.skel := by simp [react]
@[simp] theorem skel_takeReport (acc : List (Waiting × Nat × Bool) × State) (k w) : (takeReport acc k w).2.skel = acc.2.skel :=
    by
  simp [takeReport]
@[simp] theorem skel_intoFifo (s : State) (k d) : (intoFifo s k d).skel = s.skel := by
  simp only [intoFifo]
  split
  · rfl
  · split <;> simp [State.fields_skel]
@[simp] theorem skel_intakeCycle (s : State) (k) : (intakeCycle s k).skel = s.skel := by simp [intakeCycle]
@[simp] theorem skel_raiseNew (s : State) (k r) : (raiseNew s k r).skel = s.skel := by
  unfold raiseNew; split <;> simp
@[simp] theorem skel_copyRec (s : State) (k off r) : (copyRec s k off r).skel = s.skel := by simp [copyRec]
@[simp] theorem skel_writeRegCtrl (s : State) (k v) : (writeRegCtrl s k v).skel = s.skel := by simp [writeRegCtrl]
@[simp] theorem skel_writeFirst (s : State) (k v) : (writeFirst s k v).skel = s.skel := by simp [writeFirst]
@[simp] theorem skel_writePend (s : State) (k sev v) : (writePend s k sev v).skel = s.skel := by simp [writePend]
@[simp] theorem skel_writeKindCfg (s : State) (k v) : (writeKindCfg s k v).skel = s.skel := by
  unfold writeKindCfg; split <;> simp
@[simp] theorem skel_writeLogIdx (s : State) (k v) : (writeLogIdx s k v).skel = s.skel := by simp [writeLogIdx]
@[simp] theorem skel_writeMirIdx (s : State) (k v) : (writeMirIdx s k v).skel = s.skel := by simp [writeMirIdx]
@[simp] theorem skel_writeArchAddr (s : State) (k src v) : (writeArchAddr s k src v).skel = s.skel := by simp [writeArchAddr]
@[simp] theorem skel_readArchData (s : State) (k src) : (readArchData s k src).2.skel = s.skel := by simp [readArchData]
@[simp] theorem skel_writeArchCtrl (s : State) (k v) : (writeArchCtrl s k v).skel = s.skel := by simp [writeArchCtrl]
@[simp] theorem skel_keepTel (s : State) (k) : (keepTel s k).skel = s.skel := by simp [keepTel]

/-! ### Time -/

@[simp] theorem skel_recvTimeSync (s : State) (p f e phase) : (recvTimeSync s p f e phase).skel = s.skel := by
  simp [recvTimeSync, State.fields_skel]
@[simp] theorem skel_setTier (s : State) (k tier) : (setTier s k tier).skel = s.skel := by simp [setTier]
@[simp] theorem skel_nextTier (s : State) (k tier) : (nextTier s k tier).skel = s.skel := by simp [nextTier]
@[simp] theorem skel_setLevel (s : State) (l) : (setLevel s l).skel = s.skel := by simp [setLevel, State.fields_skel]
@[simp] theorem skel_tickLevel (s : State) : (tickLevel s).skel = s.skel := by
  unfold tickLevel; split <;> simp

/-! ### Lanes -/

@[simp] theorem skel_setPortState (s : State) (p) (st : LaneState) : (setPortState s p st).skel = s.skel := by
  simp [setPortState]
@[simp] theorem skel_modLane (s : State) (p lane f) : (State.modLane s p lane f).skel = s.skel := by simp [State.modLane]
@[simp] theorem skel_sendLanes (s : State) (p f) : (State.sendLanes s p f).skel = s.skel := by simp [State.sendLanes]
@[simp] theorem skel_wakeTx (s : State) (p) : (wakeTx s p).skel = s.skel := by simp [wakeTx]
@[simp] theorem skel_endPeriod (s : State) (p ws more) : (endPeriod s p ws more).skel = s.skel := by simp [endPeriod]
@[simp] theorem skel_startPhase (s : State) (p n) : (startPhase s p n).skel = s.skel := by simp [startPhase]
@[simp] theorem skel_linkDrop (s : State) (p) : (linkDrop s p).skel = s.skel := by simp [linkDrop]
@[simp] theorem skel_logLinkReset (s : State) (p) : (logLinkReset s p).skel = s.skel := by simp [logLinkReset]
@[simp] theorem skel_linkReset (s : State) (p) : (linkReset s p).skel = s.skel := by simp [linkReset]
@[simp] theorem skel_enterDetect (s : State) (p) : (enterDetect s p).skel = s.skel := by simp [enterDetect]
@[simp] theorem skel_enterTest (s : State) (p) : (enterTest s p).skel = s.skel := by simp [enterTest]
@[simp] theorem skel_failTry (s : State) (p) : (failTry s p).skel = s.skel := by simp [failTry]
@[simp] theorem skel_retrain (s : State) (p) : (retrain s p).skel = s.skel := by simp [retrain]
@[simp] theorem skel_enterAlign (s : State) (p b) : (enterAlign s p b).skel = s.skel := by simp [enterAlign]
@[simp] theorem skel_inState (s : State) (p st) (f : State → State) (h : (f s).skel = s.skel) :
    (inState s p st f).skel = s.skel := by
  simp [inState, h]
@[simp] theorem skel_sendTraining (s : State) (p lane) : (sendTraining s p lane).skel = s.skel := by simp [sendTraining]
@[simp] theorem skel_writeNxlCtrl (s : State) (k i v) : (writeNxlCtrl s k i v).skel = s.skel := by simp [writeNxlCtrl]
@[simp] theorem skel_laneFail (s : State) (p lane) : (laneFail s p lane).skel = s.skel := by simp [laneFail]
@[simp] theorem skel_park (s : State) (p) : (park s p).skel = s.skel := by simp [park]
@[simp] theorem skel_falseWake (s : State) (p lane) : (falseWake s p lane).skel = s.skel := by simp [falseWake]
@[simp] theorem skel_writeNxlInj (s : State) (k i v) : (writeNxlInj s k i v).skel = s.skel := by simp [writeNxlInj]
@[simp] theorem skel_inject (s : State) (p mode v) : (inject s p mode v).skel = s.skel := by simp [inject]
@[simp] theorem skel_writeNxlTest (s : State) (k i v) : (writeNxlTest s k i v).skel = s.skel := by simp [writeNxlTest]

/-! ### The link layer -/

@[simp] theorem skel_protocolError (s : State) (p) : (protocolError s p).skel = s.skel := by simp [protocolError]
@[simp] theorem skel_loseFlit (s : State) (p) : (loseFlit s p).skel = s.skel := by simp [loseFlit]
@[simp] theorem skel_ackUpTo (s : State) (p n) : (ackUpTo s p n).skel = s.skel := by simp [ackUpTo]
@[simp] theorem skel_recvLack (s : State) (p w) : (recvLack s p w).skel = s.skel := by simp [recvLack]
@[simp] theorem skel_recvLcrd (s : State) (p w) : (recvLcrd s p w).skel = s.skel := by simp [recvLcrd]
@[simp] theorem skel_recvLinit (s : State) (p w) : (recvLinit s p w).skel = s.skel := by simp [recvLinit]
@[simp] theorem skel_recvVcsel (s : State) (p w) : (recvVcsel s p w).skel = s.skel := by simp [recvVcsel]
@[simp] theorem skel_recvControl (s : State) (p fill w) : (recvControl s p fill w).skel = s.skel := by
  unfold recvControl; split <;> simp
@[simp] theorem skel_controlSlot (s : State) (p code w) : (controlSlot s p code w).skel = s.skel := by simp [controlSlot]
@[simp] theorem skel_deliver (s : State) (p vc h ws) : (deliver s p vc h ws).skel = s.skel := by
  unfold deliver; split <;> simp [State.fields_skel]
@[simp] theorem skel_recvSlot (s : State) (p w) : (recvSlot s p w).skel = s.skel := by
  unfold recvSlot; split <;> simp
@[simp] theorem skel_recvFlit (s : State) (p slots lost) : (recvFlit s p slots lost).skel = s.skel := by simp [recvFlit]
@[simp] theorem skel_assemble (p n) (s : State) : (assemble p n s).skel = s.skel := by
  induction n generalizing s with
  | zero => rfl
  | succ n ih => simp [assemble, ih]
@[simp] theorem skel_parkRx (s : State) (p) : (parkRx s p).skel = s.skel := by simp [parkRx]
@[simp] theorem skel_trailerEvent (s : State) (p ws phase) : (trailerEvent s p ws phase).skel = s.skel := by
  simp only [trailerEvent]; (repeat' split) <;> simp
@[simp] theorem skel_trailerBlocks (s : State) (p ws) : (trailerBlocks s p ws).skel = s.skel := by simp [trailerBlocks]
/-- Taking the next message leaves the skeleton. -/
theorem skel_nextMessage {s t : State} {p vc ws} (h : nextMessage s p = some (vc, ws, t)) : t.skel = s.skel := by
  revert h
  simp only [nextMessage]
  (repeat' split) <;> (intro h; cases h) <;> simp
@[simp] theorem skel_fillSlots (p last n) (s : State) (acc) : (fillSlots p last n s acc).2.skel = s.skel := by
  induction n generalizing s acc with
  | zero => rfl
  | succ n ih =>
    simp only [fillSlots]
    split
    · rfl
    · split
      · simp [ih]
      · split
        · simp [ih]
        · split
          · simp [ih]
          · split
            next => rfl
            next hm => split <;> simp [ih, skel_nextMessage hm]
@[simp] theorem skel_sendFill (s : State) (p) : (sendFill s p).skel = s.skel := by simp [sendFill]
@[simp] theorem skel_pickFlit (s : State) (p) : (pickFlit s p).skel = s.skel := by
  simp only [pickFlit]
  (repeat' split) <;> simp
@[simp] theorem skel_putFlit (s : State) (p idle) : (putFlit s p idle).skel = s.skel := by simp [putFlit]
@[simp] theorem skel_writeNxpCtrl (s : State) (k i v) : (writeNxpCtrl s k i v).skel = s.skel := by simp [writeNxpCtrl]

/-! ### Channels -/

@[simp] theorem skel_chargeForced (s : State) (k ch pc) : (chargeForced s k ch pc).skel = s.skel := by simp [chargeForced]
@[simp] theorem skel_chargeWindow (s : State) (k ch pc act n) : (chargeWindow s k ch pc act n).skel = s.skel := by
  simp [chargeWindow]
@[simp] theorem skel_leaveSelfRefresh (s : State) (k track) : (leaveSelfRefresh s k track).skel = s.skel := by
  simp [leaveSelfRefresh]
@[simp] theorem skel_writeDly (s : State) (k ch v) : (writeDly s k ch v).skel = s.skel := by simp [writeDly]
@[simp] theorem skel_moveDelay (s : State) (k ch pc pin d) : (moveDelay s k ch pc pin d).skel = s.skel := by simp [moveDelay]
@[simp] theorem skel_trackPass (s : State) (k ch pc r) : (trackPass s k ch pc r).skel = s.skel := by simp [trackPass]
@[simp] theorem skel_driveRow (s : State) (k ch t) : (driveRow s k ch t).skel = s.skel := by simp [driveRow]
@[simp] theorem skel_writeTrn (s : State) (src k ch v res) : (writeTrn s src k ch v res).skel = s.skel := by
  unfold writeTrn; split <;> simp
@[simp] theorem skel_trnGo (s : State) (src k ch mode v res) : (trnGo s src k ch mode v res).skel = s.skel := by simp [trnGo]
@[simp] theorem skel_trnResults (s : State) (k ch t) : (trnResults s k ch t).skel = s.skel := by simp [trnResults]
@[simp] theorem skel_endPause (s : State) (k ch) : (endPause s k ch).skel = s.skel := by simp [endPause]
@[simp] theorem skel_tickPause (s : State) (k ch) : (tickPause s k ch).skel = s.skel := by simp [tickPause]

/-! ### OTP and calibration -/

@[simp] theorem skel_senseOtp (s : State) (k) : (senseOtp s k).skel = s.skel := by simp [senseOtp]
@[simp] theorem skel_burnWord (s : State) (k w v b) : (burnWord s k w v b).skel = s.skel := by simp [burnWord]
@[simp] theorem skel_burnWords (s : State) (k l b) : (burnWords s k l b).2.skel = s.skel := by
  simp only [burnWords]; (repeat' split) <;> simp
@[simp] theorem skel_freeBurn (s : State) : (freeBurn s).2.skel = s.skel := by simp [freeBurn]
@[simp] theorem skel_doProgram (s : State) (k b) : (doProgram s k b).2.skel = s.skel := by simp [doProgram]
@[simp] theorem skel_doFinalize (s : State) (k r b) : (doFinalize s k r b).2.skel = s.skel := by simp [doFinalize]
@[simp] theorem skel_doAdvance (s : State) (k t b) : (doAdvance s k t b).2.skel = s.skel := by simp [doAdvance]
@[simp] theorem skel_doResense (s : State) (k flips) : (doResense s k flips).2.skel = s.skel := by simp [doResense]
@[simp] theorem skel_writeOtpCmd (s : State) (k v b flips) : (writeOtpCmd s k v b flips).skel = s.skel := by
  unfold writeOtpCmd; (repeat' split) <;> simp
@[simp] theorem skel_otpGo (s : State) (k cmd v b flips) : (otpGo s k cmd v b flips).skel = s.skel := by simp [otpGo]
@[simp] theorem skel_writeSvcCtrl (s : State) (k v nonce) : (writeSvcCtrl s k v nonce).skel = s.skel := by simp [writeSvcCtrl]
@[simp] theorem skel_calDone (s : State) (k res) : (calDone s k res).skel = s.skel := by simp [calDone]
@[simp] theorem skel_calStart (s : State) (k t run) : (calStart s k t run).skel = s.skel := by simp [calStart]
@[simp] theorem skel_writeCalCmd (s : State) (k v run) : (writeCalCmd s k v run).skel = s.skel := by simp [writeCalCmd]
@[simp] theorem skel_calMean (s : State) (t a b) : (calMean s t a b).2.skel = s.skel := by simp [calMean, State.fields_skel]
@[simp] theorem skel_tickCal (s : State) (k) : (tickCal s k).skel = s.skel := by
  unfold tickCal; split <;> simp

/-! ### Sensors and stages -/

@[simp] theorem skel_judgeStage (s : State) (k) : (judgeStage s k).skel = s.skel := by simp [judgeStage]
@[simp] theorem skel_updThermN (s : State) : (updThermN s).skel = s.skel := by simp [updThermN, State.fields_skel]
@[simp] theorem skel_enterStage (s : State) (k j) : (enterStage s k j).skel = s.skel := by
  unfold enterStage; split <;> simp
@[simp] theorem skel_setStage (s : State) (k j) : (setStage s k j).skel = s.skel := by simp [setStage]
@[simp] theorem skel_tickStage (s : State) (k) : (tickStage s k).skel = s.skel := by simp [tickStage]
@[simp] theorem skel_judgeRor (s : State) (k) : (judgeRor s k).skel = s.skel := by simp [judgeRor]
@[simp] theorem skel_chargeReads (s : State) (k) : (chargeReads s k).skel = s.skel := by
  unfold chargeReads
  split
  · rfl
  · refine skel_foldl _ (fun s d => ?_) _ _
    split <;> simp
@[simp] theorem skel_tickMarks (s : State) (k) : (tickMarks s k).skel = s.skel := by simp [tickMarks]
@[simp] theorem skel_tickTier (s : State) (k) : (tickTier s k).skel = s.skel := by simp [tickTier]
@[simp] theorem skel_tickIntervals (s : State) (k) : (tickIntervals s k).skel = s.skel := by simp [tickIntervals]
@[simp] theorem skel_tickThermal (s : State) (k) : (tickThermal s k).skel = s.skel := by simp [tickThermal]
@[simp] theorem skel_leaveT4 (s : State) (k) : (leaveT4 s k).skel = s.skel := by simp [leaveT4]
@[simp] theorem skel_writeThresh (s : State) (k v) : (writeThresh s k v).skel = s.skel := by simp [writeThresh]

/-! ### Repairs -/

@[simp] theorem skel_markPage (s : State) (k pg i) : (markPage s k pg i).skel = s.skel := by simp [markPage]
@[simp] theorem skel_retireChannel (s : State) (k c) : (retireChannel s k c).skel = s.skel := by simp [retireChannel]
@[simp] theorem skel_restoreTiles (s : State) (k) : (restoreTiles s k).skel = s.skel := by simp [restoreTiles]
@[simp] theorem skel_makeUnusable (s : State) (k kind inst) : (makeUnusable s k kind inst).skel = s.skel := by
  unfold makeUnusable; split <;> simp
@[simp] theorem skel_markPages (s : State) (k kind inst) : (markPages s k kind inst).skel = s.skel := by
  unfold markPages; split <;> simp
@[simp] theorem skel_applyHealth (s : State) (k) : (applyHealth s k).skel = s.skel := by simp [applyHealth]
@[simp] theorem skel_addSpare (s : State) (k e) : (addSpare s k e).skel = s.skel := by simp [addSpare]
@[simp] theorem skel_addShift (s : State) (k e) : (addShift s k e).skel = s.skel := by simp [addShift]
@[simp] theorem skel_loadEntry (s : State) (k e) : (loadEntry s k e).skel = s.skel := by simp [loadEntry]
@[simp] theorem skel_vendorMap (s : State) (k) : (vendorMap s k).skel = s.skel := by simp [vendorMap]
@[simp] theorem skel_loadRepairs (s : State) (k) : (loadRepairs s k).skel = s.skel := by simp [loadRepairs]
@[simp] theorem skel_trainChannel (s : State) (k c) : (trainChannel s k c).skel = s.skel := by
  simp [trainChannel, State.fields_skel]
@[simp] theorem skel_loadSeeds (s : State) (k chs) : (loadSeeds s k chs).skel = s.skel := by simp [loadSeeds]
@[simp] theorem skel_trainStart (s : State) (k failed) : (trainStart s k failed).skel = s.skel := by simp [trainStart]
@[simp] theorem skel_burnEntry (s : State) (k w e b) : (burnEntry s k w e b).2.skel = s.skel := by simp [burnEntry]
@[simp] theorem skel_doLaneShift (s : State) (k c pc pin out) : (doLaneShift s k c pc pin out).2.skel = s.skel := by
  simp only [doLaneShift]; (repeat' split) <;> simp
@[simp] theorem skel_doTrain (s : State) (k chs out) : (doTrain s k chs out).2.skel = s.skel := by simp [doTrain]
@[simp] theorem skel_freeOutcome (s : State) : (freeOutcome s).2.skel = s.skel := by simp [freeOutcome]

/-! ### Package pages and the ring -/

@[simp] theorem skel_setPkg (s : State) (a l) : (State.setPkg s a l).skel = s.skel := by simp [State.setPkg]
@[simp] theorem skel_reloadPackage (s : State) (k) : (reloadPackage s k).skel = s.skel := by simp [reloadPackage]
@[simp] theorem skel_sendErr (s : State) (e) : (sendErr s e).skel = s.skel := by
  unfold sendErr; split <;> simp
@[simp] theorem skel_applyMiss (s : State) (m) : (applyMiss s m).skel = s.skel := by simp [applyMiss]
@[simp] theorem skel_sendDue (live) (s : State) : (sendDue live s).skel = s.skel := by simp [sendDue, State.fields_skel]
@[simp] theorem skel_timeoutReq (s : State) (r) : (timeoutReq s r).skel = s.skel := by simp [timeoutReq]
@[simp] theorem skel_loseEntries (s : State) (l k) : (loseEntries s l k).skel = s.skel := by
  simp [loseEntries, State.fields_skel]
@[simp] theorem skel_loseQueued (s : State) (l k) : (loseQueued s l k).skel = s.skel := by simp [loseQueued, State.fields_skel]
@[simp] theorem skel_loseTransit (s : State) (l) : (loseTransit s l).skel = s.skel := by simp [loseTransit, State.fields_skel]
@[simp] theorem skel_loseForwarded (s : State) (l) : (loseForwarded s l).skel = s.skel := by simp [loseForwarded]
@[simp] theorem skel_loseConfirm (s : State) (l) : (loseConfirm s l).skel = s.skel := by simp [loseConfirm, State.fields_skel]
@[simp] theorem skel_setBudget (s : State) (k) : (setBudget s k).skel = s.skel := by simp [setBudget]
@[simp] theorem skel_capStack (s : State) (k) : (capStack s k).skel = s.skel := by simp [capStack]
@[simp] theorem skel_pkgStatusBit (s : State) (pg n v) : (State.pkgStatusBit s pg n v).skel = s.skel := by
  simp [State.pkgStatusBit]
@[simp] theorem skel_capCheck (s : State) : (capCheck s).skel = s.skel := by simp [capCheck]

/-! ### COMMIT -/

@[simp] theorem skel_state_setStage (s : State) (k pg i firstFail dirty) : (State.setStage s k pg i firstFail dirty).skel =
    s.skel := by
  simp [State.setStage]
@[simp] theorem skel_clearStages (s : State) (k clean) : (clearStages s k clean).skel = s.skel := by simp [clearStages]
@[simp] theorem skel_recordFail (s : State) (f) : (recordFail s f).skel = s.skel := by simp [recordFail, State.fields_skel]
@[simp] theorem skel_writeCommit (s : State) (src v) : (writeCommit s src v).skel = s.skel := by
  simp [writeCommit, State.fields_skel]
@[simp] theorem skel_ticksToApply (s : State) : (ticksToApply s).2.skel = s.skel := by simp [ticksToApply]
@[simp] theorem skel_issueCredits (s : State) (p) : (issueCredits s p).skel = s.skel := by simp [issueCredits]
@[simp] theorem skel_regrantMgmt (old s : State) (p) : (regrantMgmt old s p).skel = s.skel := by simp [regrantMgmt]
@[simp] theorem skel_regrant (old s : State) (p) : (regrant old s p).skel = s.skel := by simp [regrant]
@[simp] theorem skel_applyStack (s : State) (k) : (applyStack s k).skel = s.skel := by simp [applyStack]
@[simp] theorem skel_splitStacks (s : State) : (splitStacks s).skel = s.skel := by simp [splitStacks, State.fields_skel]
@[simp] theorem skel_showResult (s : State) : (showResult s).skel = s.skel := by simp [showResult, State.fields_skel]

/-! ### References and modes -/

@[simp] theorem skel_takeSrc (s : State) (i st qual) : (takeSrc s i st qual).skel = s.skel := by
  simp [takeSrc, State.fields_skel]
@[simp] theorem skel_refEvent (s : State) (x c) : (refEvent s x c).skel = s.skel := by simp [refEvent]
@[simp] theorem skel_docentRing (s : State) (k) : (docentRing s k).skel = s.skel := by simp [docentRing]
@[simp] theorem skel_docentPll (s : State) (k) : (docentPll s k).skel = s.skel := by simp [docentPll]
@[simp] theorem skel_loseStack (s : State) (k) : (loseStack s k).skel = s.skel := by simp [loseStack]
@[simp] theorem skel_enterLost (s : State) (qual) : (enterLost s qual).skel = s.skel := by simp [enterLost, State.fields_skel]
@[simp] theorem skel_failover (s : State) (i qual) : (failover s i qual).skel = s.skel := by simp [failover]
@[simp] theorem skel_writeClkRef (s : State) (k v qual) : (writeClkRef s k v qual).skel = s.skel := by
  simp [writeClkRef, State.fields_skel]
@[simp] theorem skel_tickRef (s : State) : (tickRef s).skel = s.skel := by
  simp only [tickRef]; (repeat' split) <;> simp [State.fields_skel]
@[simp] theorem skel_ageStack (s : State) (k w) : (ageStack s k w).skel = s.skel := by simp [ageStack]
@[simp] theorem skel_ageAll (s : State) (w) : (ageAll s w).skel = s.skel := by simp [ageAll, State.fields_skel]
@[simp] theorem skel_advance (s : State) (osc) : (advance s osc).skel = s.skel := by simp [advance, State.fields_skel]
@[simp] theorem skel_loseColumns (s : State) (k) : (loseColumns s k).skel = s.skel := by simp [loseColumns]
@[simp] theorem skel_lockStack (s : State) (k) : (lockStack s k).skel = s.skel := by simp [lockStack]
@[simp] theorem skel_resumeDies (s : State) (k track) : (resumeDies s k track).skel = s.skel := by simp [resumeDies]
@[simp] theorem skel_detectPorts (s : State) (k) : (detectPorts s k).skel = s.skel := by simp [detectPorts]
@[simp] theorem skel_pllFailure (s : State) (k core) : (pllFailure s k core).skel = s.skel := by simp [pllFailure]
@[simp] theorem skel_writeDocentSel (s : State) (src k v) : (writeDocentSel s src k v).skel = s.skel := by simp [writeDocentSel]
@[simp] theorem skel_setRejected (s : State) (k v) : (setRejected s k v).skel = s.skel := by simp [setRejected]
@[simp] theorem skel_setAllRejected (s : State) (v) : (setAllRejected s v).skel = s.skel := by simp [setAllRejected]
@[simp] theorem skel_wantRetain (s : State) : (wantRetain s).skel = s.skel := by simp [wantRetain, State.fields_skel]
@[simp] theorem skel_proceedRetain (s : State) : (proceedRetain s).skel = s.skel := by simp [proceedRetain]
@[simp] theorem skel_wakeIdle (s : State) (code) : (wakeIdle s code).skel = s.skel := by simp [wakeIdle, State.fields_skel]
@[simp] theorem skel_writePkgMode (s : State) (k v) : (writePkgMode s k v).skel = s.skel := by
  unfold writePkgMode; (repeat' split) <;> simp [State.fields_skel]
@[simp] theorem skel_pkgMode (s : State) (k req v) : (pkgMode s k req v).skel = s.skel := by simp [pkgMode]
@[simp] theorem skel_startRetainExit (s : State) (cause) : (startRetainExit s cause).skel = s.skel := by
  simp [startRetainExit, State.fields_skel]
@[simp] theorem skel_wakeRetain (s : State) (cause) : (wakeRetain s cause).skel = s.skel := by
  simp [wakeRetain, State.fields_skel]
@[simp] theorem skel_retainStack (s : State) (k) : (retainStack s k).skel = s.skel := by simp [retainStack]
@[simp] theorem skel_exitStack (s : State) (k) : (exitStack s k).skel = s.skel := by simp [exitStack]
@[simp] theorem skel_writeStkMode (s : State) (k v) : (writeStkMode s k v).skel = s.skel := by simp [writeStkMode]
@[simp] theorem skel_holdQueue (s : State) (k) : (holdQueue s k).skel = s.skel := by
  refine skel_foldl _ (fun s r => ?_) _ _
  split
  next t ht => simp [skel_endFrom ht]
  next => rfl
@[simp] theorem skel_tickStkMode (s : State) (k) : (tickStkMode s k).skel = s.skel := by
  unfold tickStkMode; split <;> simp
@[simp] theorem skel_writeMboxIn (s : State) (src k v) : (writeMboxIn s src k v).skel = s.skel := by simp [writeMboxIn]

/-! ### Start-up and resets -/

@[simp] theorem skel_latchCause (s : State) (k bits) : (latchCause s k bits).skel = s.skel := by simp [latchCause]
@[simp] theorem skel_latchAll (s : State) (bits) : (latchAll s bits).skel = s.skel := by simp [latchAll]
@[simp] theorem skel_modDoc (s : State) (k f) : (State.modDoc s k f).skel = s.skel := by simp [State.modDoc]
@[simp] theorem skel_holdSafe (s : State) (k x) : (holdSafe s k x).skel = s.skel := by simp [holdSafe]
@[simp] theorem skel_startFail (s : State) (k) : (startFail s k).skel = s.skel := by simp [startFail]
@[simp] theorem skel_powerStack (s : State) (k) : (powerStack s k).skel = s.skel := by simp [powerStack]
@[simp] theorem skel_step3 (s : State) (k) : (step3 s k).skel = s.skel := by simp [step3]
@[simp] theorem skel_step4 (s : State) (k chk) : (step4 s k chk).skel = s.skel := by simp [step4]
@[simp] theorem skel_powerUp (s : State) : (powerUp s).skel = s.skel := by simp [powerUp, State.fields_skel]
@[simp] theorem skel_step5 (s : State) (k qual) : (step5 s k qual).skel = s.skel := by
  unfold step5; (repeat' split) <;> simp [State.fields_skel]
@[simp] theorem skel_step6 (s : State) (k chk locked) : (step6 s k chk locked).skel = s.skel := by simp [step6]
@[simp] theorem skel_step8 (s : State) (k chk) : (step8 s k chk).skel = s.skel := by simp [step8]
@[simp] theorem skel_step11 (s : State) (k) : (step11 s k).skel = s.skel := by simp [step11]
@[simp] theorem skel_steps9to11 (s : State) (k failed) : (steps9to11 s k failed).skel = s.skel := by simp [steps9to11]
@[simp] theorem skel_resetReq (s : State) (k r) : (resetReq s k r).skel = s.skel := by simp [resetReq, State.fields_skel]
@[simp] theorem skel_startWarm (s : State) (k retain) : (startWarm s k retain).skel = s.skel := by simp [startWarm]
@[simp] theorem skel_requestWarm (s : State) (k retain) : (requestWarm s k retain).skel = s.skel := by simp [requestWarm]
@[simp] theorem skel_resetPort (s : State) (p) : (resetPort s p).skel = s.skel := by simp [resetPort]
@[simp] theorem skel_keepRetired (s : State) (k) : (keepRetired s k).skel = s.skel := by simp [keepRetired]
@[simp] theorem skel_dropMemory (s : State) (k) : (dropMemory s k).skel = s.skel := by simp [dropMemory]
@[simp] theorem skel_writeSafeCtrl (s : State) (k v railsOk) : (writeSafeCtrl s k v railsOk).skel = s.skel := by
  simp [writeSafeCtrl]

/-! ### Supply -/

@[simp] theorem skel_sampleTile (s : State) (k mv) : (sampleTile s k mv).skel = s.skel := by simp [sampleTile]
@[simp] theorem skel_reportCap (s : State) (k mv) : (reportCap s k mv).skel = s.skel := by simp [reportCap]
@[simp] theorem skel_engageCap (s : State) : (engageCap s).skel = s.skel := by simp [engageCap, State.fields_skel]
@[simp] theorem skel_readPwrVin (s : State) (k src) : (readPwrVin s k src).2.skel = s.skel := by simp [readPwrVin]

/-! ### Self-test -/

@[simp] theorem skel_modBst (s : State) (k f) : (State.modBst s k f).skel = s.skel := by simp [State.modBst]
@[simp] theorem skel_loopPorts (s : State) (k) : (loopPorts s k).skel = s.skel := by simp [loopPorts]
@[simp] theorem skel_enterPhase (s : State) (k phase) : (enterPhase s k phase).skel = s.skel := by simp [enterPhase]
@[simp] theorem skel_startTest (s : State) (k v) : (startTest s k v).skel = s.skel := by simp [startTest]
@[simp] theorem skel_cancelTest (s : State) (k) : (cancelTest s k).skel = s.skel := by simp [cancelTest]
@[simp] theorem skel_writeBstCtrl (s : State) (k v) : (writeBstCtrl s k v).skel = s.skel := by simp [writeBstCtrl]
@[simp] theorem skel_findFailure (s : State) (k f) : (findFailure s k f).skel = s.skel := by simp [findFailure]
@[simp] theorem skel_endRestore (s : State) (k) : (endRestore s k).skel = s.skel := by simp [endRestore]
@[simp] theorem skel_burnSlot (s : State) (k i f) : (burnSlot s k i f).skel = s.skel := by
  simp only [burnSlot]; (repeat' split) <;> simp
@[simp] theorem skel_endRecord (s : State) (k) : (endRecord s k).skel = s.skel := by simp [endRecord]

/-! ### The tick -/

@[simp] theorem skel_shortEvents (s : State) (k) : (shortEvents s k).skel = s.skel := by simp [shortEvents, State.fields_skel]
@[simp] theorem skel_payOwed (s : State) (k ch pc) : (payOwed s k ch pc).skel = s.skel := by simp [payOwed]
@[simp] theorem skel_forPcs (s : State) (k) (f : State → Nat → Nat → Nat → State) (h : ∀ s k ch pc, (f s k ch pc).skel = s.skel) :
    (forPcs s k f).skel = s.skel := by
  simp [forPcs, h]
@[simp] theorem skel_tickStack (s : State) (k aggNext) : (tickStack s k aggNext).skel = s.skel := by simp [tickStack]
@[simp] theorem skel_tickCounts (s : State) (k) : (tickCounts s k).skel = s.skel := by simp [tickCounts]
@[simp] theorem skel_tickEvents (s : State) (k) : (tickEvents s k).skel = s.skel := by simp [tickEvents]
@[simp] theorem skel_tickBuckets (s : State) (p) : (tickBuckets s p).skel = s.skel := by simp [tickBuckets]
@[simp] theorem skel_tickPort (s : State) (p) : (tickPort s p).skel = s.skel := by simp [tickPort]
@[simp] theorem skel_beginActive (s : State) : (beginActive s).skel = s.skel := by simp [beginActive, State.fields_skel]
@[simp] theorem skel_powerDownPc (s : State) (k ch pc) : (powerDownPc s k ch pc).skel = s.skel := by simp [powerDownPc]
@[simp] theorem skel_beginIdle (s : State) : (beginIdle s).skel = s.skel := by simp [beginIdle, State.fields_skel]
@[simp] theorem skel_tickMode (s : State) : (tickMode s).skel = s.skel := by
  unfold tickMode; split <;> simp [State.fields_skel]
@[simp] theorem skel_endLong (s : State) : (endLong s).skel = s.skel := by simp [endLong, State.fields_skel]
@[simp] theorem skel_tickWakeN (s : State) : (tickWakeN s).skel = s.skel := by simp [tickWakeN, State.fields_skel]
@[simp] theorem skel_endFrame (s : State) (live) : (endFrame s live).skel = s.skel := by simp [endFrame]
@[simp] theorem skel_tickCap (s : State) : (tickCap s).skel = s.skel := by simp [tickCap]
@[simp] theorem skel_tickAll (s : State) (force) : (tickAll s force).skel = s.skel := by
  unfold tickAll; split <;> simp [State.fields_skel]

/-! ### Sealing and scrub -/

@[simp] theorem skel_retireTile (s : State) (k t) : (retireTile s k t).skel = s.skel := by simp [retireTile]
@[simp] theorem skel_writeTsmQuery (s : State) (k hi v) : (writeTsmQuery s k hi v).skel = s.skel := by simp [writeTsmQuery]

/-! ### Register pages -/

@[simp] theorem skel_readTicNow (s : State) (k) : (readTicNow s k).2.skel = s.skel := by simp [readTicNow]
@[simp] theorem skel_readGateStatus (s : State) (k) : (readGateStatus s k).2.skel = s.skel := by simp [readGateStatus]
@[simp] theorem skel_readLive (s : State) (src k pg i off) : (readLive s src k pg i off).2.skel = s.skel := by simp [readLive]
@[simp] theorem skel_readCounter (s : State) (src k pg i off) : (readCounter s src k pg i off).2.skel = s.skel := by
  simp [readCounter]
@[simp] theorem skel_readReg (s : State) (src k pg i off) : (readReg s src k pg i off).2.skel = s.skel := by
  simp [readReg, State.fields_skel]
@[simp] theorem skel_mgmtRd (s : State) (src a) : (mgmtRd s src a).2.skel = s.skel := by
  unfold mgmtRd; split <;> simp

/-! ### Management accesses -/

@[simp] theorem skel_writePlain (s : State) (k pg i off v) : (writePlain s k pg i off v).skel = s.skel := by simp [writePlain]
@[simp] theorem skel_writeErr (s : State) (k pg i v) : (writeErr s k pg i v).skel = s.skel := by simp [writeErr]
@[simp] theorem skel_clearCounters (s : State) (k pg i) : (clearCounters s k pg i).skel = s.skel := by simp [clearCounters]
@[simp] theorem skel_writePageCtrl (s : State) (k pg i v) : (writePageCtrl s k pg i v).skel = s.skel := by simp [writePageCtrl]
@[simp] theorem skel_discardStage (s : State) (k pg i) : (discardStage s k pg i).skel = s.skel := by simp [discardStage]
@[simp] theorem skel_writeCommon (s : State) (k pg i off v) : (writeCommon s k pg i off v).skel = s.skel := by
  simp [writeCommon]
@[simp] theorem skel_drawN (s : State) (n) : (State.drawN s n).2.skel = s.skel := by simp [State.drawN, State.fields_skel]
@[simp] theorem skel_freeTrn (s : State) : (freeTrn s).2.skel = s.skel := by simp [freeTrn]
@[simp] theorem skel_freeRun (s : State) (t) : (freeRun s t).2.skel = s.skel := by simp [freeRun]
@[simp] theorem skel_writeClk (s : State) (src k off v) : (writeClk s src k off v).skel = s.skel := by simp [writeClk]
@[simp] theorem skel_writePwr (s : State) (k off v) : (writePwr s k off v).skel = s.skel := by simp [writePwr]
@[simp] theorem skel_writeOtp (s : State) (k off v) : (writeOtp s k off v).skel = s.skel := by simp [writeOtp]
@[simp] theorem skel_writeCal (s : State) (k off v) : (writeCal s k off v).skel = s.skel := by simp [writeCal]
@[simp] theorem skel_writeReg (s : State) (src k off v) : (writeReg s src k off v).skel = s.skel := by simp [writeReg]
@[simp] theorem skel_writeCtl (s : State) (src k ch off v) : (writeCtl s src k ch off v).skel = s.skel := by simp [writeCtl]
@[simp] theorem skel_writeStaged (s : State) (k pg i off v) : (writeStaged s k pg i off v).skel = s.skel := by
  simp [writeStaged]
@[simp] theorem skel_writeLabel (s : State) (k i off v) : (writeLabel s k i off v).skel = s.skel := by simp [writeLabel]
@[simp] theorem skel_pushMgmt (s : State) (p m status v) : (pushMgmt s p m status v).skel = s.skel := by simp [pushMgmt]
@[simp] theorem skel_popMgmt (s : State) (p m) : (popMgmt s p m).skel = s.skel := by simp [popMgmt]
@[simp] theorem skel_mgmtRefused (s : State) (p m) : (mgmtRefused s p m).skel = s.skel := by simp [mgmtRefused]

/-! ### The Archive -/

@[simp] theorem skel_pageImage (s : State) (k base) : (pageImage s k base).2.skel = s.skel := by simp [pageImage]
@[simp] theorem skel_pageImages (s : State) (k bases) : (pageImages s k bases).2.skel = s.skel := by simp [pageImages]
@[simp] theorem skel_archBody (s : State) (k sub) : (archBody s k sub).2.skel = s.skel :=
  (skel_pageImages _ _ _).trans (skel_pageImages _ _ _)
@[simp] theorem skel_writeArchive (s : State) (k) : (writeArchive s k).skel = s.skel := by
  simp [writeArchive, State.fields_skel]

/-! ### PMBus -/

@[simp] theorem skel_nack (s : State) : (nack s).skel = s.skel := by simp [nack, State.fields_skel]
@[simp] theorem skel_acked (s : State) (v) : (acked s v).skel = s.skel := by simp [acked, State.fields_skel]
@[simp] theorem skel_pmbusWake (s : State) : (pmbusWake s).skel = s.skel := by simp [pmbusWake]
@[simp] theorem skel_docentRead (s : State) (v) : (docentRead s v).skel = s.skel := by simp [docentRead]
@[simp] theorem skel_telemetryRead (s : State) (x d) : (telemetryRead s x d).skel = s.skel := by simp [telemetryRead]

/-! ### TAPs -/

@[simp] theorem skel_modTap (s : State) (k f) : (State.modTap s k f).skel = s.skel := by simp [State.modTap, State.fields_skel]
@[simp] theorem skel_loadBypass (s : State) (k) : (loadBypass s k).skel = s.skel := by simp [loadBypass]
@[simp] theorem skel_samplePins (s : State) : (samplePins s).2.skel = s.skel := by simp [samplePins]

end Sys2Proof.Machine
end

section
/-! PROOFS. What every operation that writes the dies' bytes, or resets the package, keeps of the skeleton, and then what every
command keeps: the queue, the part, the shape, and the canonical form of the bytes. -/

namespace Sys2Proof.Machine

/-- A skeleton with as many stacks and ports as its part has. -/
def Skel.Shaped (a : Skel) : Prop := a.nStks = a.part.stks ∧ a.nPorts = 4 * a.part.stks

/-- What a command keeps of a skeleton: the queue and the part, the shape, and the canonical form of the dies' bytes. -/
structure Skel.Keeps (a b : Skel) : Prop where
  pending : b.pending = a.pending
  part    : b.part = a.part
  shape   : a.Shaped → b.Shaped
  wf      : a.dies.wf = true → b.dies.wf = true

@[simp] theorem Skel.Keeps.refl (a : Skel) : a.Keeps a := ⟨rfl, rfl, id, id⟩

theorem Skel.Keeps.trans {a b c : Skel} (h : a.Keeps b) (g : b.Keeps c) : a.Keeps c :=
  ⟨g.pending.trans h.pending, g.part.trans h.part, g.shape ∘ h.shape, g.wf ∘ h.wf⟩

/-- A command runs, and what it leaves keeps the skeleton. -/
def Out.Keeps (a : Skel) (o : Out) : Prop := ∃ t, o = .next t ∧ a.Keeps t.skel

@[simp] theorem Out.keeps_next (a : Skel) (t : State) : Out.Keeps a (.next t) ↔ a.Keeps t.skel := by
  simp [Out.Keeps]

/-! ### Branches and loops -/

@[simp] theorem keeps_ite {σ : Skel} (c : Prop) [Decidable c] (x y : Skel) :
    σ.Keeps (if c then x else y) ↔ (c → σ.Keeps x) ∧ (¬c → σ.Keeps y) := by
  split <;> simp [*]

@[simp] theorem keeps_foldl {σ : Skel} {α : Type} (f : State → α → State) (hf : ∀ (s : State) x, s.skel.Keeps (f s x).skel)
    (l : List α) (s : State) (h : σ.Keeps s.skel) : σ.Keeps (l.foldl f s).skel := by
  induction l generalizing s with
  | nil => exact h
  | cons x l ih => exact ih _ (h.trans (hf s x))

/-- A loop that carries a value beside the state. -/
@[simp] theorem keeps_foldl_snd {σ : Skel} {α β : Type} (f : β × State → α → β × State)
    (hf : ∀ (p : β × State) x, p.2.skel.Keeps (f p x).2.skel) (l : List α) (p : β × State)
    (h : σ.Keeps p.2.skel) : σ.Keeps (l.foldl f p).2.skel := by
  induction l generalizing p with
  | nil => exact h
  | cons x l ih => exact ih _ (h.trans (hf p x))

theorem keeps_forN {σ : Skel} (n : Nat) (s : State) (f : State → Nat → State) (hf : ∀ (s : State) i, s.skel.Keeps (f s i).skel)
    (h : σ.Keeps s.skel) : σ.Keeps (forN n s f).skel := keeps_foldl f hf _ s h
@[simp] theorem keeps_forStacks {σ : Skel} (s : State) (f : State → Nat → State) (hf : ∀ (s : State) k, s.skel.Keeps (f s k).skel)
    (h : σ.Keeps s.skel) : σ.Keeps (forStacks s f).skel := keeps_forN _ s f hf h

/-! ### Stored words, tiles and lines -/

@[simp] theorem keeps_setDie {σ : Skel} (s : State) (k l bs) (h : σ.Keeps s.skel) : σ.Keeps (s.setDie k l bs).skel :=
  ⟨h.pending, h.part, h.shape, fun w => memWrs_wf _ _ _ (h.wf w)⟩
@[simp] theorem keeps_putDie {σ : Skel} (s : State) (k l w poison) (h : σ.Keeps s.skel) : σ.Keeps (State.putDie s k l w
    poison).skel := by
  simp [h, State.putDie]
@[simp] theorem keeps_fixWord {σ : Skel} (s : State) (k l w sym) (h : σ.Keeps s.skel) : σ.Keeps (fixWord s k l w sym).skel := by
  simp [h, fixWord]
@[simp] theorem keeps_correct {σ : Skel} (s : State) (k l w sym) (h : σ.Keeps s.skel) : σ.Keeps (correct s k l w sym).skel := by
  simp [h, correct]
@[simp] theorem keeps_poisonDie {σ : Skel} (s : State) (k l) (h : σ.Keeps s.skel) : σ.Keeps (poisonDie s k l).skel := by
  simp [h, poisonDie]
@[simp] theorem keeps_writeBack {σ : Skel} (s : State) (k y w) (h : σ.Keeps s.skel) : σ.Keeps (writeBack s k y w).skel := by
  simp [h, writeBack]
theorem keeps_alloc {σ : Skel} {s t : State} {k l parity pin w} (h : σ.Keeps s.skel) (ht : alloc s k l parity pin w = some t) :
    σ.Keeps t.skel := by
  simp only [alloc] at ht
  split at ht
  · cases ht
  · split at ht
    · cases ht
    · rw [← Option.some.inj ht]
      simp only [skel_touch, skel_modStk]
      split <;> simp [h]
@[simp] theorem keeps_pinParity {σ : Skel} (s : State) (k t w) (h : σ.Keeps s.skel) : σ.Keeps (pinParity s k t w).skel := by
  unfold pinParity
  dsimp only
  split
  · exact h
  · split
    · simpa
    · split
      · simpa
      · split
        next ht => exact keeps_alloc h ht
        next => exact h
@[simp] theorem keeps_turnOpen {σ : Skel} (s : State) (k t w) (h : σ.Keeps s.skel) : σ.Keeps (turnOpen s k t w).skel := by
  simp [h, turnOpen]
@[simp] theorem keeps_noteWrite {σ : Skel} (s : State) (k t w) (h : σ.Keeps s.skel) : σ.Keeps (noteWrite s k t w).skel := by
  unfold noteWrite; split <;> simp [h]
@[simp] theorem keeps_rebuild {σ : Skel} (s : State) (k t trig w) (h : σ.Keeps s.skel) : σ.Keeps (rebuild s k t trig w).skel := by
  simp only [rebuild]
  split
  · simp only [skel_report, skel_count]
    refine keeps_foldl _ (fun s j => ?_) _ _ (keeps_foldl _ (fun s r => ?_) _ _ (by simpa))
    · split <;> simp
    · split <;> simp
  · refine keeps_turnOpen _ _ _ _ (keeps_foldl _ (fun s j => ?_) _ _ (keeps_foldl _ (fun s r => ?_) _ _ (by simpa)))
    · split <;> simp
    · split <;> simp
@[simp] theorem keeps_fetch {σ : Skel} (s : State) (k l w) (h : σ.Keeps s.skel) : σ.Keeps (fetch s k l w).2.skel := by
  simp only [fetch]; (repeat' split) <;> simp [h]
@[simp] theorem keeps_fillSector {σ : Skel} (s : State) (k l w) (h : σ.Keeps s.skel) : σ.Keeps (fillSector s k l w).2.skel := by
  simp [h, fillSector]
@[simp] theorem keeps_lookup {σ : Skel} (s : State) (k ls w) (h : σ.Keeps s.skel) : σ.Keeps (lookup s k ls w).1.skel := by
  unfold lookup
  split
  · exact h
  · split
    · simpa
    · split
      · simpa
      · split
        · simpa
        · split
          next ht => simpa using keeps_alloc h ht
          next => simpa
@[simp] theorem keeps_readAfter {σ : Skel} (s : State) (k present l w) (h : σ.Keeps s.skel) : σ.Keeps (readAfter s k present l
    w).2.skel := by
  unfold readAfter; split <;> simp [h]
@[simp] theorem keeps_writeAfter {σ : Skel} (s : State) (k present l v poison w) (h : σ.Keeps s.skel) : σ.Keeps (writeAfter s k
    present l v poison w).skel := by
  simp [h, writeAfter]
@[simp] theorem keeps_readWords {σ : Skel} (s : State) (k ls w) (h : σ.Keeps s.skel) : σ.Keeps (readWords s k ls w).2.skel := by
  unfold readWords
  split
  · exact h
  · split
    · exact h
    · exact keeps_foldl_snd _ (fun p l => by simp) _ _ (keeps_lookup _ _ _ _ h)
@[simp] theorem keeps_writeWords {σ : Skel} (s : State) (k ls vs w) (h : σ.Keeps s.skel) :
    σ.Keeps (writeWords s k ls vs w).skel := by
  unfold writeWords
  split
  · exact h
  · exact keeps_foldl _ (fun s lv => by simp) _ _ (keeps_lookup _ _ _ _ (keeps_noteWrite _ _ _ _ h))
@[simp] theorem keeps_rmw {σ : Skel} {α : Type} (s : State) (k l w) (f : Word × Bool → Option (Word × Bool) × α)
    (h : σ.Keeps s.skel) : σ.Keeps (rmw s k l w f).2.skel := by
  have hr : σ.Keeps (readAfter (lookup s k [l] w).1 k (lookup s k [l] w).2 l w).2.skel :=
    keeps_readAfter _ _ _ _ _ (keeps_lookup _ _ _ _ h)
  simp only [rmw]
  split
  · split
    · exact h
    · exact keeps_writeWords _ _ _ _ _ h
  · split
    · exact hr
    · exact keeps_writeAfter _ _ _ _ _ _ _ (keeps_noteWrite _ _ _ _ hr)

/-! ### Accumulators -/

@[simp] theorem keeps_spillAcc {σ : Skel} (s : State) (k x w) (h : σ.Keeps s.skel) : σ.Keeps (spillAcc s k x w).skel := by
  simp only [spillAcc]
  split
  · exact h
  · simp only [skel_count, skel_ite, skel_modLine, ite_self]
    split <;> simp [h]
@[simp] theorem keeps_spillAll {σ : Skel} (s : State) (k ch w) (h : σ.Keeps s.skel) : σ.Keeps (spillAll s k ch w).skel := by
  simp [h, spillAll]
@[simp] theorem keeps_spillAccLine {σ : Skel} (s : State) (k l w) (h : σ.Keeps s.skel) : σ.Keeps (spillAccLine s k l w).skel := by
  unfold spillAccLine
  split
  · exact keeps_foldl _ (fun s b => by simp) _ _ h
  · exact h
@[simp] theorem keeps_freePin {σ : Skel} (s : State) (k l w) (h : σ.Keeps s.skel) : σ.Keeps (freePin s k l w).skel := by
  simp [h, freePin]
@[simp] theorem keeps_accTrim {σ : Skel} (s : State) (k ch w) (h : σ.Keeps s.skel) : σ.Keeps (accTrim s k ch w).skel := by
  simp [h, accTrim]
@[simp] theorem keeps_accSettle {σ : Skel} (s : State) (k l w) (h : σ.Keeps s.skel) : σ.Keeps (accSettle s k l w).skel := by
  have hp : σ.Keeps (freePin (s.count k .vit 0 4 1) k l w).skel := keeps_freePin _ _ _ _ (by simpa)
  simp only [accSettle]
  split
  · simpa
  · simp [h, hp]

/-! ### Serving a request -/

@[simp] theorem keeps_serve {σ : Skel} (s : State) (k rid ops) (f : State → Req → State)
    (hf : ∀ (s : State) r, s.skel.Keeps (f s r).skel) (h : σ.Keeps s.skel) : σ.Keeps (serve s k rid ops f).skel := by
  unfold serve
  split
  next e _ =>
    split
    · split
      · have hb := hf (beginBank s k e.req) e.req
        rw [skel_beginBank] at hb
        simpa using h.trans hb
      · exact h.trans (hf s e.req)
    · exact h
  next => exact h
@[simp] theorem keeps_vitError {σ : Skel} (s : State) (k y e) (h : σ.Keeps s.skel) : σ.Keeps (vitError s k y e).skel := by
  unfold vitError; split <;> simp [h]
@[simp] theorem keeps_lookupError {σ : Skel} (s : State) (k r err) (h : σ.Keeps s.skel) : σ.Keeps (lookupError s k r err).skel
    := by
  simp only [lookupError]; (repeat' split) <;> simp [h]
@[simp] theorem keeps_withError {σ : Skel} (s : State) (k r err) (f : State → Req → State)
    (hf : ∀ (s : State) r, s.skel.Keeps (f s r).skel) (h : σ.Keeps s.skel) : σ.Keeps (withError s k r err f).skel := by
  have hl : σ.Keeps (lookupError s k r err).skel := keeps_lookupError s k r err h
  unfold withError
  dsimp only
  split
  · exact h.trans (hf s r)
  · split
    · exact hl
    · exact hl.trans (hf _ r)
@[simp] theorem keeps_doRead {σ : Skel} (s : State) (k r) (h : σ.Keeps s.skel) : σ.Keeps (doRead s k r).skel := by
  simp [h, doRead]
@[simp] theorem keeps_doWrite {σ : Skel} (s : State) (k r) (h : σ.Keeps s.skel) : σ.Keeps (doWrite s k r).skel := by
  simp [h, doWrite]
@[simp] theorem keeps_doWriteMasked {σ : Skel} (s : State) (k r) (h : σ.Keeps s.skel) : σ.Keeps (doWriteMasked s k r).skel := by
  simp [h, doWriteMasked]
@[simp] theorem keeps_doSingle {σ : Skel} (s : State) (k r) (h : σ.Keeps s.skel) : σ.Keeps (doSingle s k r).skel := by
  unfold doSingle
  split
  · simpa
  · extract_lets code isAcc region l ow s1 f x s2 rs s3
    have hx : σ.Keeps x.2.skel := keeps_rmw _ _ _ _ _ h
    split
    · simpa
    · split
      · simpa [s1] using keeps_writeWords _ _ _ _ _ h
      · split
        · simpa [s2] using hx
        · extract_lets s4 s5
          have h4 : σ.Keeps s4.skel := by simpa [s3, s4] using hx
          simp only [s5, skel_finish, skel_ite, keeps_ite]
          exact ⟨fun _ => keeps_accSettle _ _ _ _ h4, fun _ => h4⟩
@[simp] theorem keeps_elemRead {σ : Skel} (s : State) (k r off n) (h : σ.Keeps s.skel) : σ.Keeps (elemRead s k r off n).2.skel
    := by
  simp only [elemRead]; (repeat' split) <;> simp [h]
@[simp] theorem keeps_elemWrite {σ : Skel} (s : State) (k r off n f) (h : σ.Keeps s.skel) :
    σ.Keeps (elemWrite s k r off n f).2.skel := by
  unfold elemWrite
  split
  · exact h
  · dsimp only
    split
    · exact h
    · split
      · simp [h]
      · split <;> simp [h]
@[simp] theorem keeps_readIndexWord {σ : Skel} (s : State) (k r o) (h : σ.Keeps s.skel) : σ.Keeps (readIndexWord s k r
    o).2.skel := by
  simp only [readIndexWord]; (repeat' split) <;> simp [h]
@[simp] theorem keeps_readIndexWords {σ : Skel} (s : State) (k r off n) (h : σ.Keeps s.skel) : σ.Keeps (readIndexWords s k r
    off n).2.skel := by
  simp [h, readIndexWords]
@[simp] theorem keeps_buildElems {σ : Skel} (s : State) (k r) (h : σ.Keeps s.skel) : σ.Keeps (buildElems s k r).2.skel := by
  unfold buildElems; split <;> simp [h]
@[simp] theorem keeps_doElem {σ : Skel} (s : State) (k r g e) (h : σ.Keeps s.skel) : σ.Keeps (doElem s k r g e).2.skel := by
  simp only [doElem]; (repeat' split) <;> simp [h]
@[simp] theorem keeps_startDesc {σ : Skel} (s : State) (k rid) (h : σ.Keeps s.skel) : σ.Keeps (startDesc s k rid).skel := by
  unfold startDesc; split <;> simp [h]
@[simp] theorem keeps_stepDesc {σ : Skel} (s : State) (k rid) (h : σ.Keeps s.skel) : σ.Keeps (stepDesc s k rid).skel := by
  unfold stepDesc; (repeat' split) <;> simp [h]
@[simp] theorem keeps_finishDesc {σ : Skel} (s : State) (k rid op) (h : σ.Keeps s.skel) : σ.Keeps (finishDesc s k rid op).skel
    := by
  unfold finishDesc; (repeat' split) <;> simp [h]

/-! ### Vitrine operations -/

@[simp] theorem keeps_flushLine {σ : Skel} (s : State) (k w y) (h : σ.Keeps s.skel) : σ.Keeps (flushLine s k w y).skel := by
  have hs : σ.Keeps ((lineAccs s k y).foldl (fun s x => spillAcc s k x w) s).skel := keeps_foldl _ (fun s b => by simp) _ _ h
  simp only [flushLine]
  split
  · exact keeps_writeBack _ _ _ _ hs
  · exact hs
@[simp] theorem keeps_writeVitOp {σ : Skel} (s : State) (k v) (h : σ.Keeps s.skel) : σ.Keeps (writeVitOp s k v).skel := by
  simp [h, writeVitOp]
@[simp] theorem keeps_vitOp {σ : Skel} (s : State) (k act v) (h : σ.Keeps s.skel) : σ.Keeps (vitOp s k act v).skel := by
  simp [h, vitOp]
@[simp] theorem keeps_execVitFlush (src k v) (s : State) : Out.Keeps s.skel (execVitFlush src k v s) := by simp [execVitFlush]
@[simp] theorem keeps_execVitInvalidate (src k v) (s : State) : Out.Keeps s.skel (execVitInvalidate src k v s) := by
  simp [execVitInvalidate]
@[simp] theorem keeps_execVitFlushInv (src k v) (s : State) : Out.Keeps s.skel (execVitFlushInv src k v s) := by
  simp [execVitFlushInv]
@[simp] theorem keeps_execVitOpDone (k) (s : State) : Out.Keeps s.skel (execVitOpDone k s) := by simp [execVitOpDone]
@[simp] theorem keeps_execVitSramScrub (k ch line err) (s : State) : Out.Keeps s.skel (execVitSramScrub k ch line err s) := by
  unfold execVitSramScrub; (repeat' split) <;> simp
@[simp] theorem keeps_execVitScrubLate (k) (s : State) : Out.Keeps s.skel (execVitScrubLate k s) := by simp [execVitScrubLate]

/-! ### Ingress, admission and responses -/

@[simp] theorem keeps_execIngressRelease (p ctx) (s : State) : Out.Keeps s.skel (execIngressRelease p ctx s) := by
  unfold execIngressRelease; split <;> simp
@[simp] theorem keeps_execFence (p ctx) (s : State) : Out.Keeps s.skel (execFence p ctx s) := by
  unfold execFence; split <;> simp
@[simp] theorem keeps_execFenceComplete (p ctx) (s : State) : Out.Keeps s.skel (execFenceComplete p ctx s) := by
  unfold execFenceComplete; split <;> simp
theorem keeps_getD_endFrom {σ : Skel} {s u : State} (k r st) (hs : σ.Keeps s.skel) (hu : σ.Keeps u.skel) :
    σ.Keeps ((endFrom s k r st).getD u).skel := by
  cases he : endFrom s k r st with
  | none => exact hu
  | some t => rw [Option.getD_some, skel_endFrom he]; exact hs
@[simp] theorem keeps_execAdmissionQueueEntry (k rid) (s : State) : Out.Keeps s.skel (execAdmissionQueueEntry k rid s) := by
  simp only [execAdmissionQueueEntry, Out.keeps_next]
  split
  · simp
  next r _ =>
    have hs : s.skel.Keeps ({ s with transit := s.transit.filter (fun q => q.rid != rid) } : State).skel := by
      simp [State.fields_skel]
    split
    · simp
    · split
      · exact keeps_getD_endFrom _ _ _ hs (by simp)
      · split
        · cases he : endFrom { s with transit := s.transit.filter (fun q => q.rid != rid) } k r stAdmitHold with
          | none => simp
          | some t => simpa [skel_endFrom he] using hs
        · simpa using hs
@[simp] theorem keeps_execRequestTableAllocate (k) (s : State) : Out.Keeps s.skel (execRequestTableAllocate k s) := by
  simp only [execRequestTableAllocate]; (repeat' split) <;> simp
@[simp] theorem keeps_execRequestAged (rid) (s : State) : Out.Keeps s.skel (execRequestAged rid s) := by
  simp [execRequestAged, State.fields_skel]
@[simp] theorem keeps_execAdmitTimeout (k rid) (s : State) : Out.Keeps s.skel (execAdmitTimeout k rid s) := by
  simp only [execAdmitTimeout, Out.keeps_next]
  split
  · simp
  · split
    · simp
    · split
      next ht => simp [skel_endFrom ht]
      next => simp
@[simp] theorem keeps_execResponseToEgress (k rid) (s : State) : Out.Keeps s.skel (execResponseToEgress k rid s) := by
  unfold execResponseToEgress; (repeat' split) <;> simp [State.fields_skel]
@[simp] theorem keeps_execRspStall (p) (s : State) : Out.Keeps s.skel (execRspStall p s) := by simp [execRspStall]
@[simp] theorem keeps_execForwardResponse (p) (s : State) : Out.Keeps s.skel (execForwardResponse p s) := by
  unfold execForwardResponse; (repeat' split) <;> simp
@[simp] theorem keeps_execFwdTimeout (p rec) (s : State) : Out.Keeps s.skel (execFwdTimeout p rec s) := by
  unfold execFwdTimeout; split <;> simp
@[simp] theorem keeps_execLateRsp (p rid) (s : State) : Out.Keeps s.skel (execLateRsp p rid s) := by
  unfold execLateRsp; (repeat' split) <;> simp
@[simp] theorem keeps_execIrq (s : State) : Out.Keeps s.skel (execIrq s) := by
  unfold execIrq; split <;> simp [State.fields_skel]
@[simp] theorem keeps_execInboundIrqTelemetry (p header) (s : State) : Out.Keeps s.skel (execInboundIrqTelemetry p header s) :=
    by
  simp [execInboundIrqTelemetry]

/-! ### The Registrar -/

@[simp] theorem keeps_execHaltBroadcast (k) (s : State) : Out.Keeps s.skel (execHaltBroadcast k s) := by
  unfold execHaltBroadcast; split <;> simp [State.fields_skel]
@[simp] theorem keeps_execFaultReport (k new) (s : State) : Out.Keeps s.skel (execFaultReport k new s) := by
  simp [execFaultReport]
@[simp] theorem keeps_execLogRecordWrite (k) (s : State) : Out.Keeps s.skel (execLogRecordWrite k s) := by
  unfold execLogRecordWrite; (repeat' split) <;> simp
@[simp] theorem keeps_execMirrorRecord (k) (s : State) : Out.Keeps s.skel (execMirrorRecord k s) := by
  unfold execMirrorRecord; (repeat' split) <;> simp
@[simp] theorem keeps_execForceHalt (src k v) (s : State) : Out.Keeps s.skel (execForceHalt src k v s) := by
  simp [execForceHalt]
@[simp] theorem keeps_execKcntClear (src k v) (s : State) : Out.Keeps s.skel (execKcntClear src k v s) := by
  simp [execKcntClear]
@[simp] theorem keeps_execFirstClear (src k v) (s : State) : Out.Keeps s.skel (execFirstClear src k v s) := by
  simp [execFirstClear]
@[simp] theorem keeps_execPendAcknowledge (src k sev v) (s : State) : Out.Keeps s.skel (execPendAcknowledge src k sev v s) := by
  simp [execPendAcknowledge]
@[simp] theorem keeps_execKindCfgWrite (src k v) (s : State) : Out.Keeps s.skel (execKindCfgWrite src k v s) := by
  simp [execKindCfgWrite]
@[simp] theorem keeps_execLogRdIdxWrite (src k v) (s : State) : Out.Keeps s.skel (execLogRdIdxWrite src k v s) := by
  simp [execLogRdIdxWrite]
@[simp] theorem keeps_execMirRdIdxWrite (src k v) (s : State) : Out.Keeps s.skel (execMirRdIdxWrite src k v s) := by
  simp [execMirRdIdxWrite]
@[simp] theorem keeps_execArchDataRead (src k) (s : State) : Out.Keeps s.skel (execArchDataRead src k s) := by
  simp [execArchDataRead, State.fields_skel]
@[simp] theorem keeps_execArchDiscard (src k v) (s : State) : Out.Keeps s.skel (execArchDiscard src k v s) := by
  simp [execArchDiscard]
@[simp] theorem keeps_execAliveToggle (s : State) : Out.Keeps s.skel (execAliveToggle s) := by
  simp [execAliveToggle, State.fields_skel]
@[simp] theorem keeps_execTelemetry (s : State) : Out.Keeps s.skel (execTelemetry s) := by
  simp [execTelemetry, State.fields_skel]

/-! ### Time -/

@[simp] theorem keeps_execTimeSync (p f e phase) (s : State) : Out.Keeps s.skel (execTimeSync p f e phase s) := by
  simp [execTimeSync]
@[simp] theorem keeps_execFrameCountAlign (s : State) : Out.Keeps s.skel (execFrameCountAlign s) := by
  simp [execFrameCountAlign, State.fields_skel]
@[simp] theorem keeps_execTierUp (k) (s : State) : Out.Keeps s.skel (execTierUp k s) := by simp [execTierUp]
@[simp] theorem keeps_execTierDown (k) (s : State) : Out.Keeps s.skel (execTierDown k s) := by simp [execTierDown]
@[simp] theorem keeps_execRunLevelChange (level) (s : State) : Out.Keeps s.skel (execRunLevelChange level s) := by
  simp [execRunLevelChange, State.fields_skel]

/-! ### Lanes -/

@[simp] theorem keeps_execLaneMap (p lanes) (s : State) : Out.Keeps s.skel (execLaneMap p lanes s) := by simp [execLaneMap]
@[simp] theorem keeps_execLaneMapConsistent (p) (s : State) : Out.Keeps s.skel (execLaneMapConsistent p s) := by
  simp [execLaneMapConsistent]
@[simp] theorem keeps_execLaneMapTimeout (p) (s : State) : Out.Keeps s.skel (execLaneMapTimeout p s) := by
  simp [execLaneMapTimeout]
@[simp] theorem keeps_execTrainingFrame (p lane payload obs) (s : State) : Out.Keeps s.skel (execTrainingFrame p lane payload
    obs s) := by
  simp [execTrainingFrame]
@[simp] theorem keeps_execPhaseADone (p) (s : State) : Out.Keeps s.skel (execPhaseADone p s) := by simp [execPhaseADone]
@[simp] theorem keeps_execPhaseATimeout (p) (s : State) : Out.Keeps s.skel (execPhaseATimeout p s) := by
  simp [execPhaseATimeout]
@[simp] theorem keeps_execPhaseBSwitch (p) (s : State) : Out.Keeps s.skel (execPhaseBSwitch p s) := by simp [execPhaseBSwitch]
@[simp] theorem keeps_execPhaseBDone (p) (s : State) : Out.Keeps s.skel (execPhaseBDone p s) := by simp [execPhaseBDone]
@[simp] theorem keeps_execPhaseBTimeout (p) (s : State) : Out.Keeps s.skel (execPhaseBTimeout p s) := by
  simp [execPhaseBTimeout]
@[simp] theorem keeps_execAlignDone (p) (s : State) : Out.Keeps s.skel (execAlignDone p s) := by simp [execAlignDone]
@[simp] theorem keeps_execAlignTimeout (p) (s : State) : Out.Keeps s.skel (execAlignTimeout p s) := by simp [execAlignTimeout]
@[simp] theorem keeps_execNxlRestart (src p v) (s : State) : Out.Keeps s.skel (execNxlRestart src p v s) := by
  simp [execNxlRestart]
@[simp] theorem keeps_execTestEnter (src p v) (s : State) : Out.Keeps s.skel (execTestEnter src p v s) := by
  simp [execTestEnter]
@[simp] theorem keeps_execTestExit (src p v) (s : State) : Out.Keeps s.skel (execTestExit src p v s) := by simp [execTestExit]
@[simp] theorem keeps_execAlignmentLost (p) (s : State) : Out.Keeps s.skel (execAlignmentLost p s) := by
  simp [execAlignmentLost]
@[simp] theorem keeps_execBurstIdleEntry (p) (s : State) : Out.Keeps s.skel (execBurstIdleEntry p s) := by
  simp [execBurstIdleEntry]
@[simp] theorem keeps_execTxWake (p) (s : State) : Out.Keeps s.skel (execTxWake p s) := by simp [execTxWake]
@[simp] theorem keeps_execSquelchAssert (p lane) (s : State) : Out.Keeps s.skel (execSquelchAssert p lane s) := by
  simp [execSquelchAssert]
@[simp] theorem keeps_execSquelchDeassert (p lane) (s : State) : Out.Keeps s.skel (execSquelchDeassert p lane s) := by
  simp [execSquelchDeassert]
@[simp] theorem keeps_execNxFalseWake (p lane) (s : State) : Out.Keeps s.skel (execNxFalseWake p lane s) := by
  simp [execNxFalseWake]
@[simp] theorem keeps_execInjectSingle (src p v) (s : State) : Out.Keeps s.skel (execInjectSingle src p v s) := by
  simp [execInjectSingle]
@[simp] theorem keeps_execInjectBurst (src p v) (s : State) : Out.Keeps s.skel (execInjectBurst src p v s) := by
  simp [execInjectBurst]
@[simp] theorem keeps_execInjectRate (src p v) (s : State) : Out.Keeps s.skel (execInjectRate src p v s) := by
  simp [execInjectRate]
@[simp] theorem keeps_execCheckerLock (p lane symbols) (s : State) : Out.Keeps s.skel (execCheckerLock p lane symbols s) := by
  simp [execCheckerLock]

/-! ### The link layer -/

@[simp] theorem keeps_execNop (p slot) (s : State) : Out.Keeps s.skel (execNop p slot s) := by simp [execNop]
@[simp] theorem keeps_execLack (p slot) (s : State) : Out.Keeps s.skel (execLack p slot s) := by simp [execLack]
@[simp] theorem keeps_execLcrd (p slot) (s : State) : Out.Keeps s.skel (execLcrd p slot s) := by simp [execLcrd]
@[simp] theorem keeps_execLinit (p slot) (s : State) : Out.Keeps s.skel (execLinit p slot s) := by simp [execLinit]
@[simp] theorem keeps_execVcsel (p slot) (s : State) : Out.Keeps s.skel (execVcsel p slot s) := by simp [execVcsel]
@[simp] theorem keeps_execFlit (p slots lost) (s : State) : Out.Keeps s.skel (execFlit p slots lost s) := by simp [execFlit]
@[simp] theorem keeps_execAlignmentMarker (p lane symbols displacement) (s : State) : Out.Keeps s.skel (execAlignmentMarker p
    lane symbols displacement s) := by
  simp only [execAlignmentMarker]; (repeat' split) <;> simp
@[simp] theorem keeps_execCodeword (p lane soft) (s : State) : Out.Keeps s.skel (execCodeword p lane soft s) := by
  unfold execCodeword; (repeat' split) <;> simp
@[simp] theorem keeps_execFramingAGroup (p blocks) (s : State) : Out.Keeps s.skel (execFramingAGroup p blocks s) := by
  simp [execFramingAGroup]
@[simp] theorem keeps_execLackDue (p) (s : State) : Out.Keeps s.skel (execLackDue p s) := by simp [execLackDue]
@[simp] theorem keeps_execPeriodTrailer (p words phase) (s : State) : Out.Keeps s.skel (execPeriodTrailer p words phase s) := by
  simp [execPeriodTrailer]
@[simp] theorem keeps_execPeriodTrailerSend (p) (s : State) : Out.Keeps s.skel (execPeriodTrailerSend p s) := by
  simp [execPeriodTrailerSend]
@[simp] theorem keeps_execFlitTransmit (p) (s : State) : Out.Keeps s.skel (execFlitTransmit p s) := by simp [execFlitTransmit]
@[simp] theorem keeps_execLinkInitComplete (p) (s : State) : Out.Keeps s.skel (execLinkInitComplete p s) := by
  simp [execLinkInitComplete]
@[simp] theorem keeps_execNxInitTimeout (p) (s : State) : Out.Keeps s.skel (execNxInitTimeout p s) := by
  simp [execNxInitTimeout]
@[simp] theorem keeps_execReplayLimit (p) (s : State) : Out.Keeps s.skel (execReplayLimit p s) := by simp [execReplayLimit]
@[simp] theorem keeps_execProgressPeriodsExpiry (p) (s : State) : Out.Keeps s.skel (execProgressPeriodsExpiry p s) := by
  simp [execProgressPeriodsExpiry]
@[simp] theorem keeps_execNxpRetrain (src p v) (s : State) : Out.Keeps s.skel (execNxpRetrain src p v s) := by
  simp [execNxpRetrain]

/-! ### Channels -/

@[simp] theorem keeps_execRefreshSpacing (k ch pc bank) (s : State) : Out.Keeps s.skel (execRefreshSpacing k ch pc bank s) := by
  simp [execRefreshSpacing]
@[simp] theorem keeps_execPerBankRefresh (k ch pc bank) (s : State) : Out.Keeps s.skel (execPerBankRefresh k ch pc bank s) := by
  simp [execPerBankRefresh]
@[simp] theorem keeps_execActivate (k ch pc bank row ue) (s : State) : Out.Keeps s.skel (execActivate k ch pc bank row ue s) :=
    by
  simp [execActivate]
@[simp] theorem keeps_execTargetedRefresh (k ch pc) (s : State) : Out.Keeps s.skel (execTargetedRefresh k ch pc s) := by
  unfold execTargetedRefresh; (repeat' split) <;> simp
@[simp] theorem keeps_execTargetedRefreshPromote (k ch pc) (s : State) : Out.Keeps s.skel (execTargetedRefreshPromote k ch pc
    s) := by
  simp [execTargetedRefreshPromote]
@[simp] theorem keeps_execPowerDownEntry (k ch pc) (s : State) : Out.Keeps s.skel (execPowerDownEntry k ch pc s) := by
  simp [execPowerDownEntry]
@[simp] theorem keeps_execCtlDlyWrite (src k ch v) (s : State) : Out.Keeps s.skel (execCtlDlyWrite src k ch v s) := by
  simp [execCtlDlyWrite]
@[simp] theorem keeps_execTrackingPass (k ch pc res) (s : State) : Out.Keeps s.skel (execTrackingPass k ch pc res s) := by
  simp [execTrackingPass]
@[simp] theorem keeps_execTrnPattern (src k ch v res) (s : State) : Out.Keeps s.skel (execTrnPattern src k ch v res s) := by
  simp [execTrnPattern]
@[simp] theorem keeps_execTrnSweep (src k ch v res) (s : State) : Out.Keeps s.skel (execTrnSweep src k ch v res s) := by
  simp [execTrnSweep]
@[simp] theorem keeps_execTrnTrackingPass (src k ch v res) (s : State) : Out.Keeps s.skel (execTrnTrackingPass src k ch v res
    s) := by
  simp [execTrnTrackingPass]
@[simp] theorem keeps_execTrnAbort (src k ch v) (s : State) : Out.Keeps s.skel (execTrnAbort src k ch v s) := by
  simp [execTrnAbort]
@[simp] theorem keeps_execTrnDone (k ch) (s : State) : Out.Keeps s.skel (execTrnDone k ch s) := by
  unfold execTrnDone; split <;> simp
@[simp] theorem keeps_execPauseRequest (src k ch v) (s : State) : Out.Keeps s.skel (execPauseRequest src k ch v s) := by
  simp [execPauseRequest]
@[simp] theorem keeps_execPauseClear (src k ch v) (s : State) : Out.Keeps s.skel (execPauseClear src k ch v s) := by
  simp [execPauseClear]
@[simp] theorem keeps_execPauseEnClear (src k ch v) (s : State) : Out.Keeps s.skel (execPauseEnClear src k ch v s) := by
  simp [execPauseEnClear]
@[simp] theorem keeps_execPauseDebt (k ch) (s : State) : Out.Keeps s.skel (execPauseDebt k ch s) := by simp [execPauseDebt]

/-! ### OTP and calibration -/

@[simp] theorem keeps_execOtpProgram (src k v burn) (s : State) : Out.Keeps s.skel (execOtpProgram src k v burn s) := by
  simp [execOtpProgram]
@[simp] theorem keeps_execOtpFinalize (src k v burn) (s : State) : Out.Keeps s.skel (execOtpFinalize src k v burn s) := by
  simp [execOtpFinalize]
@[simp] theorem keeps_execOtpAdvance (src k v burn) (s : State) : Out.Keeps s.skel (execOtpAdvance src k v burn s) := by
  simp [execOtpAdvance]
@[simp] theorem keeps_execOtpResense (src k v flips) (s : State) : Out.Keeps s.skel (execOtpResense src k v flips s) := by
  simp [execOtpResense]
@[simp] theorem keeps_execServiceUnlockSubmit (src k v nonce) (s : State) : Out.Keeps s.skel (execServiceUnlockSubmit src k v
    nonce s) := by
  simp [execServiceUnlockSubmit]
@[simp] theorem keeps_execCalibration (src k v run) (s : State) : Out.Keeps s.skel (execCalibration src k v run s) := by
  simp [execCalibration]
@[simp] theorem keeps_execCalibrationSecondRun (k run burn) (s : State) : Out.Keeps s.skel (execCalibrationSecondRun k run burn
    s) := by
  simp only [execCalibrationSecondRun]; (repeat' split) <;> simp

/-! ### Sensors and stages -/

@[simp] theorem keeps_execStageStepDown (k) (s : State) : Out.Keeps s.skel (execStageStepDown k s) := by
  simp [execStageStepDown]
@[simp] theorem keeps_execBaseSensorRead (k base lid power iin) (s : State) : Out.Keeps s.skel (execBaseSensorRead k base lid
    power iin s) := by
  simp [execBaseSensorRead]
@[simp] theorem keeps_execThmLowPowerCheck (k base lid) (s : State) : Out.Keeps s.skel (execThmLowPowerCheck k base lid s) := by
  simp [execThmLowPowerCheck]
@[simp] theorem keeps_execMemoryDieSensorRead (k raw) (s : State) : Out.Keeps s.skel (execMemoryDieSensorRead k raw s) := by
  simp [execMemoryDieSensorRead, State.fields_skel]
@[simp] theorem keeps_execSuspectClear (k die) (s : State) : Out.Keeps s.skel (execSuspectClear k die s) := by
  simp [execSuspectClear]
@[simp] theorem keeps_execThmThreshWrite (src k v) (s : State) : Out.Keeps s.skel (execThmThreshWrite src k v s) := by
  simp [execThmThreshWrite]

/-! ### Repairs -/

@[simp] theorem keeps_cleanWord {σ : Skel} (s : State) (k l) (h : σ.Keeps s.skel) : σ.Keeps (cleanWord s k l).skel := by
  unfold cleanWord; split <;> simp [h]
@[simp] theorem keeps_repairRow {σ : Skel} (s : State) (k l i) (h : σ.Keeps s.skel) : σ.Keeps (repairRow s k l i).skel := by
  refine keeps_foldl _ (fun s e => by simp) _ _ ?_
  rw [skel_addSpare]
  exact keeps_foldl _ (fun s c => by simp) _ _ h
@[simp] theorem keeps_doRowRepair {σ : Skel} (s : State) (k c pc out) (h : σ.Keeps s.skel) : σ.Keeps (doRowRepair s k c pc
    out).2.skel := by
  simp only [doRowRepair]; (repeat' split) <;> simp [h]
@[simp] theorem keeps_writeDocCmd {σ : Skel} (s : State) (k v out) (h : σ.Keeps s.skel) : σ.Keeps (writeDocCmd s k v out).skel
    := by
  simp only [writeDocCmd]; (repeat' split) <;> simp [h]
@[simp] theorem keeps_docGo {σ : Skel} (s : State) (k op v out) (h : σ.Keeps s.skel) : σ.Keeps (docGo s k op v out).skel := by
  simp [h, docGo]
@[simp] theorem keeps_execRowRepair (src k v out) (s : State) : Out.Keeps s.skel (execRowRepair src k v out s) := by
  simp [execRowRepair]
@[simp] theorem keeps_execLaneShift (src k v out) (s : State) : Out.Keeps s.skel (execLaneShift src k v out s) := by
  simp [execLaneShift]
@[simp] theorem keeps_execTrainChannel (src k v out) (s : State) : Out.Keeps s.skel (execTrainChannel src k v out s) := by
  simp [execTrainChannel]
@[simp] theorem keeps_execTrainAll (src k v out) (s : State) : Out.Keeps s.skel (execTrainAll src k v out s) := by
  simp [execTrainAll]
@[simp] theorem keeps_execDocCmdDone (k) (s : State) : Out.Keeps s.skel (execDocCmdDone k s) := by
  unfold execDocCmdDone; split <;> simp

/-! ### Package pages and the ring -/

@[simp] theorem keeps_execPageErrBroadcast (k) (s : State) : Out.Keeps s.skel (execPageErrBroadcast k s) := by
  simp [execPageErrBroadcast, State.fields_skel]
@[simp] theorem keeps_execMissEventApply (s : State) : Out.Keeps s.skel (execMissEventApply s) := by
  simp [execMissEventApply, State.fields_skel]
@[simp] theorem keeps_execAggregatorSelect (s : State) : Out.Keeps s.skel (execAggregatorSelect s) := by
  simp [execAggregatorSelect, State.fields_skel]
@[simp] theorem keeps_execRingLinkFail (k up) (s : State) : Out.Keeps s.skel (execRingLinkFail k up s) := by
  simp [execRingLinkFail]
@[simp] theorem keeps_execRingPartition (s : State) : Out.Keeps s.skel (execRingPartition s) := by simp [execRingPartition]

/-! ### COMMIT -/

@[simp] theorem keeps_execCommit (src v) (s : State) : Out.Keeps s.skel (execCommit src v s) := by simp [execCommit]
@[simp] theorem keeps_execCommitCheckOnly (src v) (s : State) : Out.Keeps s.skel (execCommitCheckOnly src v s) := by
  simp [execCommitCheckOnly]
@[simp] theorem keeps_execCommitCheckDone (s : State) : Out.Keeps s.skel (execCommitCheckDone s) := by
  unfold execCommitCheckDone; (repeat' split) <;> simp [State.fields_skel]
@[simp] theorem keeps_execApply (k) (s : State) : Out.Keeps s.skel (execApply k s) := by simp [execApply, State.fields_skel]
@[simp] theorem keeps_execApplyAck (k) (s : State) : Out.Keeps s.skel (execApplyAck k s) := by
  simp [execApplyAck, State.fields_skel]
@[simp] theorem keeps_execCommitAbort (s : State) : Out.Keeps s.skel (execCommitAbort s) := by simp [execCommitAbort]
@[simp] theorem keeps_execCommitApply (s : State) : Out.Keeps s.skel (execCommitApply s) := by
  simp [execCommitApply, State.fields_skel]

/-! ### References and modes -/

@[simp] theorem keeps_execRefHoldover (s : State) : Out.Keeps s.skel (execRefHoldover s) := by
  simp [execRefHoldover, State.fields_skel]
@[simp] theorem keeps_execRefEdgesReturn (s : State) : Out.Keeps s.skel (execRefEdgesReturn s) := by
  simp [execRefEdgesReturn, State.fields_skel]
@[simp] theorem keeps_execHoldoverTimeout (qual) (s : State) : Out.Keeps s.skel (execHoldoverTimeout qual s) := by
  unfold execHoldoverTimeout; (repeat' split) <;> simp
@[simp] theorem keeps_execFailoverRelock (exact) (s : State) : Out.Keeps s.skel (execFailoverRelock exact s) := by
  simp [execFailoverRelock, State.fields_skel]
@[simp] theorem keeps_execRefRevert (s : State) : Out.Keeps s.skel (execRefRevert s) := by simp [execRefRevert]
@[simp] theorem keeps_execClkRefWrite (src k v qual) (s : State) : Out.Keeps s.skel (execClkRefWrite src k v qual s) := by
  simp [execClkRefWrite]
@[simp] theorem keeps_execRefRecovery (qual oscCycles) (s : State) : Out.Keeps s.skel (execRefRecovery qual oscCycles s) := by
  unfold execRefRecovery; (repeat' split) <;> simp [State.fields_skel]
@[simp] theorem keeps_execPllCheckWindow (k pll count) (s : State) : Out.Keeps s.skel (execPllCheckWindow k pll count s) := by
  unfold execPllCheckWindow; (repeat' split) <;> simp
@[simp] theorem keeps_execPllLock (k pll locked) (s : State) : Out.Keeps s.skel (execPllLock k pll locked s) := by
  simp [execPllLock]
@[simp] theorem keeps_execClkMuxForced (k mux) (s : State) : Out.Keeps s.skel (execClkMuxForced k mux s) := by
  simp [execClkMuxForced]
@[simp] theorem keeps_execClkDocentSel (src k v) (s : State) : Out.Keeps s.skel (execClkDocentSel src k v s) := by
  simp [execClkDocentSel]
@[simp] theorem keeps_execModeActiveRequest (src k v) (s : State) : Out.Keeps s.skel (execModeActiveRequest src k v s) := by
  simp [execModeActiveRequest]
@[simp] theorem keeps_execModeIdleRequest (src k v) (s : State) : Out.Keeps s.skel (execModeIdleRequest src k v s) := by
  simp [execModeIdleRequest]
@[simp] theorem keeps_execModeRetainRequest (src k v) (s : State) : Out.Keeps s.skel (execModeRetainRequest src k v s) := by
  simp [execModeRetainRequest]
@[simp] theorem keeps_execAutoIdle (s : State) : Out.Keeps s.skel (execAutoIdle s) := by simp [execAutoIdle, State.fields_skel]
@[simp] theorem keeps_execIdleWake (cause) (s : State) : Out.Keeps s.skel (execIdleWake cause s) := by simp [execIdleWake]
@[simp] theorem keeps_execRetainWake (cause) (s : State) : Out.Keeps s.skel (execRetainWake cause s) := by simp [execRetainWake]
@[simp] theorem keeps_execRetainEntryComplete (s : State) : Out.Keeps s.skel (execRetainEntryComplete s) := by
  unfold execRetainEntryComplete; (repeat' split) <;> simp [State.fields_skel]
@[simp] theorem keeps_execRetainExitComplete (oscCycles) (s : State) : Out.Keeps s.skel (execRetainExitComplete oscCycles s) :=
    by
  simp [execRetainExitComplete, State.fields_skel]
@[simp] theorem keeps_execMaintenanceRequest (src k v) (s : State) : Out.Keeps s.skel (execMaintenanceRequest src k v s) := by
  simp [execMaintenanceRequest]
@[simp] theorem keeps_execMaintenanceExit (src k v) (s : State) : Out.Keeps s.skel (execMaintenanceExit src k v s) := by
  simp [execMaintenanceExit]
@[simp] theorem keeps_execMaintenanceEntered (k) (s : State) : Out.Keeps s.skel (execMaintenanceEntered k s) := by
  simp [execMaintenanceEntered]
@[simp] theorem keeps_execWakeN (ns) (s : State) : Out.Keeps s.skel (execWakeN ns s) := by simp [execWakeN, State.fields_skel]
@[simp] theorem keeps_execDocMboxInWrite (src k v) (s : State) : Out.Keeps s.skel (execDocMboxInWrite src k v s) := by
  simp [execDocMboxInWrite]
@[simp] theorem keeps_execOtpCmdDone (k) (s : State) : Out.Keeps s.skel (execOtpCmdDone k s) := by
  simp only [execOtpCmdDone]; (repeat' split) <;> simp

/-! ### Start-up and resets -/

theorem skel_powerOff (s : State) : (powerOff s).skel = ⟨s.pending, s.part, s.part.stks, 4 * s.part.stks, []⟩ := by
  simp [powerOff, State.resetOf]
/-- The package without power has its shape, and no byte of its dies is listed. -/
@[simp] theorem keeps_powerOff {σ : Skel} (s : State) (h : σ.Keeps s.skel) : σ.Keeps (powerOff s).skel := by
  rw [skel_powerOff]
  exact ⟨h.pending, h.part, fun _ => ⟨rfl, rfl⟩, fun _ => rfl⟩
@[simp] theorem keeps_execVinValid (chks) (s : State) : Out.Keeps s.skel (execVinValid chks s) := by
  simp only [execVinValid, Out.keeps_next]
  split
  · simp
  · split
    · simp
    · rw [skel_forStacks]
      · simp
      · intro s k; split <;> simp
@[simp] theorem keeps_execOvpRestart (s : State) : Out.Keeps s.skel (execOvpRestart s) := by simp [execOvpRestart]
@[simp] theorem keeps_execStartReference (k qual chk locked failedChs) (s : State) : Out.Keeps s.skel (execStartReference k
    qual chk locked failedChs s) := by
  simp [execStartReference]
@[simp] theorem keeps_execStartWatchdog (k) (s : State) : Out.Keeps s.skel (execStartWatchdog k s) := by
  simp [execStartWatchdog]
@[simp] theorem keeps_execPackageActive (s : State) : Out.Keeps s.skel (execPackageActive s) := by
  simp [execPackageActive, State.fields_skel]
theorem skel_packageReset (s : State) : (packageReset s).skel = ⟨s.pending, s.part, s.part.stks, 4 * s.part.stks, s.dies⟩ := by
  simp [packageReset, State.resetOf, State.n]
/-- A package reset gives the package its shape and leaves the bytes of the dies. -/
@[simp] theorem keeps_packageReset {σ : Skel} (s : State) (h : σ.Keeps s.skel) : σ.Keeps (packageReset s).skel := by
  rw [skel_packageReset]
  exact ⟨h.pending, h.part, fun _ => ⟨rfl, rfl⟩, h.wf⟩
@[simp] theorem keeps_execResetN (ns) (s : State) : Out.Keeps s.skel (execResetN ns s) := by
  simp [execResetN, State.fields_skel]
@[simp] theorem keeps_execResetNRelease (s : State) : Out.Keeps s.skel (execResetNRelease s) := by
  simp [execResetNRelease, State.fields_skel]
@[simp] theorem keeps_execPkgReset (src k v) (s : State) : Out.Keeps s.skel (execPkgReset src k v s) := by simp [execPkgReset]
@[simp] theorem keeps_writeStkReset {σ : Skel} (s : State) (k v) (h : σ.Keeps s.skel) : σ.Keeps (writeStkReset s k v).skel := by
  simp [h, writeStkReset]
@[simp] theorem keeps_warmGo {σ : Skel} (s : State) (k v retain) (h : σ.Keeps s.skel) : σ.Keeps (warmGo s k v retain).skel := by
  simp [h, warmGo]
@[simp] theorem keeps_execWarmResetRetain (src k v) (s : State) : Out.Keeps s.skel (execWarmResetRetain src k v s) := by
  simp [execWarmResetRetain]
@[simp] theorem keeps_execWarmResetNoRetain (src k v) (s : State) : Out.Keeps s.skel (execWarmResetNoRetain src k v s) := by
  simp [execWarmResetNoRetain]
@[simp] theorem keeps_execSafeForcedReset (k) (s : State) : Out.Keeps s.skel (execSafeForcedReset k s) := by
  simp [execSafeForcedReset]
@[simp] theorem keeps_execBaseDieResetRelease (k) (s : State) : Out.Keeps s.skel (execBaseDieResetRelease k s) := by
  simp [execBaseDieResetRelease]
@[simp] theorem keeps_execSafeExit (src k v railsOk) (s : State) : Out.Keeps s.skel (execSafeExit src k v railsOk s) := by
  simp [execSafeExit]

/-! ### Supply -/

@[simp] theorem keeps_execVinSample (mv) (s : State) : Out.Keeps s.skel (execVinSample mv s) := by
  simp [execVinSample, State.fields_skel]
@[simp] theorem keeps_execSupplyCapLift (s : State) : Out.Keeps s.skel (execSupplyCapLift s) := by
  simp [execSupplyCapLift, State.fields_skel]
@[simp] theorem keeps_execUvlo (s : State) : Out.Keeps s.skel (execUvlo s) := by simp [execUvlo, State.fields_skel]
@[simp] theorem keeps_execOvp (s : State) : Out.Keeps s.skel (execOvp s) := by simp [execOvp, State.fields_skel]
@[simp] theorem keeps_execVinBelow3v (k) (s : State) : Out.Keeps s.skel (execVinBelow3v k s) := by
  simp [execVinBelow3v, State.fields_skel]
@[simp] theorem keeps_execIvrFault (k rail) (s : State) : Out.Keeps s.skel (execIvrFault k rail s) := by simp [execIvrFault]
@[simp] theorem keeps_execTileIlimit (k) (s : State) : Out.Keeps s.skel (execTileIlimit k s) := by simp [execTileIlimit]
@[simp] theorem keeps_execIlimitT3End (k) (s : State) : Out.Keeps s.skel (execIlimitT3End k s) := by simp [execIlimitT3End]
@[simp] theorem keeps_execBrownout (k) (s : State) : Out.Keeps s.skel (execBrownout k s) := by simp [execBrownout]
@[simp] theorem keeps_execPwrVinRead (src k) (s : State) : Out.Keeps s.skel (execPwrVinRead src k s) := by
  simp [execPwrVinRead, State.fields_skel]

/-! ### Self-test -/

@[simp] theorem keeps_execBstRequest (src k v) (s : State) : Out.Keeps s.skel (execBstRequest src k v s) := by
  simp [execBstRequest]
@[simp] theorem keeps_execBstShutdown (src k v) (s : State) : Out.Keeps s.skel (execBstShutdown src k v s) := by
  simp [execBstShutdown]
@[simp] theorem keeps_execBstCancel (src k v) (s : State) : Out.Keeps s.skel (execBstCancel src k v s) := by
  simp [execBstCancel]
@[simp] theorem keeps_endSave {σ : Skel} (s : State) (k) (h : σ.Keeps s.skel) : σ.Keeps (endSave s k).skel := by
  simp [h, endSave]
@[simp] theorem keeps_execBstPhaseDone (k fails) (s : State) : Out.Keeps s.skel (execBstPhaseDone k fails s) := by
  simp only [execBstPhaseDone]; (repeat' split) <;> simp

/-! ### The tick -/

@[simp] theorem keeps_execFrameTick (s : State) : Out.Keeps s.skel (execFrameTick s) := by simp [execFrameTick]
@[simp] theorem keeps_execTimeSyncApply (s : State) : Out.Keeps s.skel (execTimeSyncApply s) := by
  unfold execTimeSyncApply; split <;> simp [State.fields_skel]

/-! ### Sealing and scrub -/

@[simp] theorem keeps_execSeal (k tile) (s : State) : Out.Keeps s.skel (execSeal k tile s) := by
  unfold execSeal; split <;> simp
@[simp] theorem keeps_execForcedSeal (k tile) (s : State) : Out.Keeps s.skel (execForcedSeal k tile s) := by
  unfold execForcedSeal; split <;> simp
@[simp] theorem keeps_sealWord {σ : Skel} (acc : List Word × State) (k l) (h : σ.Keeps acc.2.skel) :
    σ.Keeps (sealWord acc k l).2.skel := by
  unfold sealWord
  split
  · exact h
  · exact keeps_fetch _ _ _ _ h
theorem keeps_ensureParity {σ : Skel} {s t : State} {k i} (h : σ.Keeps s.skel) (ht : ensureParity s k i = some t) :
    σ.Keeps t.skel := by
  simp only [ensureParity] at ht
  split at ht
  · rw [← Option.some.inj ht]; exact h
  · exact keeps_alloc h ht
@[simp] theorem keeps_sealTile {σ : Skel} (s : State) (k t forced) (h : σ.Keeps s.skel) : σ.Keeps (sealTile s k t forced).skel := by
  simp only [sealTile]
  split
  · exact h
  next s0 hs0 =>
    have h0 : σ.Keeps s0.skel := by
      split at hs0
      · rw [← Option.some.inj hs0]; exact h
      · exact keeps_ensureParity h hs0
    have h1 := keeps_foldl (fun s y => writeBack s k y Who.sealer) (fun s y => by simp) (tileLines
      ((s0.tileLocs k t).foldl (fun acc l => sealWord acc k l) ([], s0)).2 k t) _
      (keeps_foldl_snd (fun acc l => sealWord acc k l) (fun p l => by simp) (s0.tileLocs k t) ([], s0) h0)
    simp only [skel_ite, skel_count, ite_self, skel_modStk, skel_unlist, skel_setTile, skel_modLine]
    split
    · exact keeps_foldl _ (fun s lp => by simp) _ _ h1
    · simpa using h1
@[simp] theorem keeps_execSealComplete (k tile) (s : State) : Out.Keeps s.skel (execSealComplete k tile s) := by
  unfold execSealComplete; split <;> simp
@[simp] theorem keeps_execOpenListSweep (k) (s : State) : Out.Keeps s.skel (execOpenListSweep k s) := by
  simp [execOpenListSweep]
@[simp] theorem keeps_pageCheck {σ : Skel} (s : State) (k t) (h : σ.Keeps s.skel) : σ.Keeps (pageCheck s k t).skel := by
  simp only [pageCheck]; (repeat' split) <;> simp [h]
@[simp] theorem keeps_execScrubTile (k tile) (s : State) : Out.Keeps s.skel (execScrubTile k tile s) := by
  simp only [execScrubTile, Out.keeps_next, skel_ite, skel_event, skel_count, skel_modStk, ite_self]
  split
  · exact .refl _
  · have hw := keeps_foldl (fun s (lj : Loc × Nat) => if (rebuildSource s k tile lj.2 lj.1).isSome then s else
      (fetch s k lj.1 Who.sealer).2) (fun s lj => by simp) (((s.parLocs k tile ++ s.tileLocs k tile).zipIdx).filter (fun lj =>
      decide (8 ≤ lj.2) || (s.stk k).tileSt tile == .sealed)) s (.refl _)
    split
    · exact keeps_pageCheck _ _ _ hw
    · exact hw
@[simp] theorem keeps_execScrubLate (k) (s : State) : Out.Keeps s.skel (execScrubLate k s) := by simp [execScrubLate]
@[simp] theorem keeps_execTsmMapScrub (k group err) (s : State) : Out.Keeps s.skel (execTsmMapScrub k group err s) := by
  unfold execTsmMapScrub; (repeat' split) <;> simp
@[simp] theorem keeps_deaccTile {σ : Skel} (act k) (acc : Nat × State) (t) (h : σ.Keeps acc.2.skel) : σ.Keeps (deaccTile act k
    acc t).2.skel := by
  unfold deaccTile; (repeat' split) <;> simp [h]
@[simp] theorem keeps_writeDeacc {σ : Skel} (s : State) (k v) (h : σ.Keeps s.skel) : σ.Keeps (writeDeacc s k v).skel := by
  simp [h, writeDeacc]
@[simp] theorem keeps_deacc {σ : Skel} (s : State) (k act v) (h : σ.Keeps s.skel) : σ.Keeps (deacc s k act v).skel := by
  simp [h, deacc]
@[simp] theorem keeps_execRetire (src k v) (s : State) : Out.Keeps s.skel (execRetire src k v s) := by simp [execRetire]
@[simp] theorem keeps_execRelease (src k v) (s : State) : Out.Keeps s.skel (execRelease src k v s) := by simp [execRelease]
@[simp] theorem keeps_execReopen (src k v) (s : State) : Out.Keeps s.skel (execReopen src k v s) := by simp [execReopen]
@[simp] theorem keeps_execDeaccDone (k) (s : State) : Out.Keeps s.skel (execDeaccDone k s) := by simp [execDeaccDone]
@[simp] theorem keeps_execTsmQuery (src k hi v) (s : State) : Out.Keeps s.skel (execTsmQuery src k hi v s) := by
  simp [execTsmQuery]
@[simp] theorem keeps_execAdmProbe (src k off v) (s : State) : Out.Keeps s.skel (execAdmProbe src k off v s) := by
  simp [execAdmProbe]

/-! ### Register pages -/

@[simp] theorem keeps_execCounterLowRead (src addr) (s : State) : Out.Keeps s.skel (execCounterLowRead src addr s) := by
  unfold execCounterLowRead; split <;> simp [State.fields_skel]

/-! ### Management accesses -/

@[simp] theorem keeps_writeTsm {σ : Skel} (s : State) (k off v) (h : σ.Keeps s.skel) : σ.Keeps (writeTsm s k off v).skel := by
  simp [h, writeTsm]
@[simp] theorem keeps_writeVit {σ : Skel} (s : State) (k off v) (h : σ.Keeps s.skel) : σ.Keeps (writeVit s k off v).skel := by
  simp [h, writeVit]
@[simp] theorem keeps_writeDoc {σ : Skel} (s : State) (src k off v) (h : σ.Keeps s.skel) : σ.Keeps (writeDoc s src k off
    v).skel := by
  simp [h, writeDoc]
@[simp] theorem keeps_writeLive {σ : Skel} (s : State) (src k pg i off v) (h : σ.Keeps s.skel) : σ.Keeps (writeLive s src k pg
    i off v).skel := by
  unfold writeLive; split <;> simp [h]
@[simp] theorem keeps_writeIn {σ : Skel} (s : State) (src k pg i off v) (h : σ.Keeps s.skel) : σ.Keeps (writeIn s src k pg i
    off v).skel := by
  simp [h, writeIn]
@[simp] theorem keeps_carry {σ : Skel} (s : State) (src a t v) (h : σ.Keeps s.skel) : σ.Keeps (carry s src a t v).skel := by
  simp [h, carry]
@[simp] theorem keeps_doWrite32 {σ : Skel} (s : State) (src t v) (h : σ.Keeps s.skel) : σ.Keeps (doWrite32 s src t v).2.skel :=
    by
  simp [h, doWrite32]
@[simp] theorem keeps_mgmtWr {σ : Skel} (s : State) (src a v msg) (h : σ.Keeps s.skel) : σ.Keeps (mgmtWr s src a v msg).2.skel
    := by
  unfold mgmtWr; split <;> simp [h, State.fields_skel]
@[simp] theorem keeps_writeCmd {σ : Skel} (s : State) (src a v p) (h : σ.Keeps s.skel) : σ.Keeps (writeCmd s src a v p).skel :=
    by
  unfold writeCmd; split <;> simp [h, State.fields_skel]
@[simp] theorem keeps_execRegisterWrite (src addr v) (s : State) : Out.Keeps s.skel (execRegisterWrite src addr v s) := by
  simp [execRegisterWrite]
@[simp] theorem keeps_execPackagePageWrite (src addr v) (s : State) : Out.Keeps s.skel (execPackagePageWrite src addr v s) := by
  simp [execPackagePageWrite]
@[simp] theorem keeps_execStagedWrite (src addr v) (s : State) : Out.Keeps s.skel (execStagedWrite src addr v s) := by
  simp [execStagedWrite]
@[simp] theorem keeps_execDiscard (src addr) (s : State) : Out.Keeps s.skel (execDiscard src addr s) := by simp [execDiscard]
@[simp] theorem keeps_execCounterClear (src addr) (s : State) : Out.Keeps s.skel (execCounterClear src addr s) := by
  unfold execCounterClear; split <;> simp [State.fields_skel]
@[simp] theorem keeps_execMgmtRead (p) (s : State) : Out.Keeps s.skel (execMgmtRead p s) := by
  unfold execMgmtRead; split <;> simp [State.fields_skel]
@[simp] theorem keeps_execMgmtWrite (p) (s : State) : Out.Keeps s.skel (execMgmtWrite p s) := by
  unfold execMgmtWrite; split <;> simp [State.fields_skel]
@[simp] theorem keeps_releaseHeld {σ : Skel} (s : State) (w : HeldWrite) (h : σ.Keeps s.skel) :
    σ.Keeps (releaseHeld s w).skel := by
  simp only [releaseHeld]
  cases s.target w.addr with
  | none =>
    split
    · simpa
    · split <;> simpa [State.fields_skel]
  | some t =>
    have hd := keeps_doWrite32 s w.src t w.v h
    split
    · simpa
    · split <;> simpa [State.fields_skel]
@[simp] theorem keeps_execCommitComplete (s : State) : Out.Keeps s.skel (execCommitComplete s) := by simp [execCommitComplete]

/-! ### The Archive -/

@[simp] theorem keeps_execArchiveDone (k) (s : State) : Out.Keeps s.skel (execArchiveDone k s) := by simp [execArchiveDone]

/-! ### PMBus -/

@[simp] theorem keeps_execClearFaults (s : State) : Out.Keeps s.skel (execClearFaults s) := by
  simp [execClearFaults, State.fields_skel]
@[simp] theorem keeps_execCapability (s : State) : Out.Keeps s.skel (execCapability s) := by simp [execCapability]
@[simp] theorem keeps_execStatusWord (s : State) : Out.Keeps s.skel (execStatusWord s) := by simp [execStatusWord]
@[simp] theorem keeps_execReadVin (s : State) : Out.Keeps s.skel (execReadVin s) := by simp [execReadVin]
@[simp] theorem keeps_execReadIin (s : State) : Out.Keeps s.skel (execReadIin s) := by simp [execReadIin]
@[simp] theorem keeps_execReadTemperature1 (s : State) : Out.Keeps s.skel (execReadTemperature1 s) := by
  simp [execReadTemperature1]
@[simp] theorem keeps_execReadTemperature2 (s : State) : Out.Keeps s.skel (execReadTemperature2 s) := by
  simp [execReadTemperature2]
@[simp] theorem keeps_execReadPin (s : State) : Out.Keeps s.skel (execReadPin s) := by simp [execReadPin]
@[simp] theorem keeps_execPmbusRevision (s : State) : Out.Keeps s.skel (execPmbusRevision s) := by simp [execPmbusRevision]
@[simp] theorem keeps_execMfrMgmtAddr (v) (s : State) : Out.Keeps s.skel (execMfrMgmtAddr v s) := by
  simp [execMfrMgmtAddr, State.fields_skel]
@[simp] theorem keeps_execMfrMgmtDataRead (s : State) : Out.Keeps s.skel (execMfrMgmtDataRead s) := by
  simp [execMfrMgmtDataRead, State.fields_skel]
@[simp] theorem keeps_execMfrMgmtDataWrite (v) (s : State) : Out.Keeps s.skel (execMfrMgmtDataWrite v s) := by
  unfold execMfrMgmtDataWrite; (repeat' split) <;> simp [State.fields_skel]
@[simp] theorem keeps_execMfrMgmtStatus (s : State) : Out.Keeps s.skel (execMfrMgmtStatus s) := by simp [execMfrMgmtStatus]
@[simp] theorem keeps_execPmbusUnsupported (code) (s : State) : Out.Keeps s.skel (execPmbusUnsupported code s) := by
  simp [execPmbusUnsupported, State.fields_skel]

/-! ### Commands of requests -/

@[simp] theorem keeps_execRead (k rid err) (s : State) : Out.Keeps s.skel (execRead k rid err s) :=
  ⟨_, rfl, keeps_serve _ _ _ _ _ (fun s r => by simp) (.refl _)⟩
@[simp] theorem keeps_execWrite (k rid err) (s : State) : Out.Keeps s.skel (execWrite k rid err s) :=
  ⟨_, rfl, keeps_serve _ _ _ _ _ (fun s r => by simp) (.refl _)⟩
@[simp] theorem keeps_execWritePosted (k rid) (s : State) : Out.Keeps s.skel (execWritePosted k rid s) := by
  simp [execWritePosted]
@[simp] theorem keeps_execWriteMasked (k rid) (s : State) : Out.Keeps s.skel (execWriteMasked k rid s) := by
  simp [execWriteMasked]
@[simp] theorem keeps_execRangeZero (k rid j) (s : State) : Out.Keeps s.skel (execRangeZero k rid j s) := by
  simp [execRangeZero]
@[simp] theorem keeps_execRangeZeroComplete (k rid) (s : State) : Out.Keeps s.skel (execRangeZeroComplete k rid s) := by
  simp [execRangeZeroComplete]
@[simp] theorem keeps_execAdd32 (k rid) (s : State) : Out.Keeps s.skel (execAdd32 k rid s) := by simp [execAdd32]
@[simp] theorem keeps_execAnd32 (k rid) (s : State) : Out.Keeps s.skel (execAnd32 k rid s) := by simp [execAnd32]
@[simp] theorem keeps_execOr32 (k rid) (s : State) : Out.Keeps s.skel (execOr32 k rid s) := by simp [execOr32]
@[simp] theorem keeps_execXor32 (k rid) (s : State) : Out.Keeps s.skel (execXor32 k rid s) := by simp [execXor32]
@[simp] theorem keeps_execSmin32 (k rid) (s : State) : Out.Keeps s.skel (execSmin32 k rid s) := by simp [execSmin32]
@[simp] theorem keeps_execSmax32 (k rid) (s : State) : Out.Keeps s.skel (execSmax32 k rid s) := by simp [execSmax32]
@[simp] theorem keeps_execUmin32 (k rid) (s : State) : Out.Keeps s.skel (execUmin32 k rid s) := by simp [execUmin32]
@[simp] theorem keeps_execUmax32 (k rid) (s : State) : Out.Keeps s.skel (execUmax32 k rid s) := by simp [execUmax32]
@[simp] theorem keeps_execSwap32 (k rid) (s : State) : Out.Keeps s.skel (execSwap32 k rid s) := by simp [execSwap32]
@[simp] theorem keeps_execCas32 (k rid) (s : State) : Out.Keeps s.skel (execCas32 k rid s) := by simp [execCas32]
@[simp] theorem keeps_execFadd32 (k rid) (s : State) : Out.Keeps s.skel (execFadd32 k rid s) := by simp [execFadd32]
@[simp] theorem keeps_execFmin32 (k rid) (s : State) : Out.Keeps s.skel (execFmin32 k rid s) := by simp [execFmin32]
@[simp] theorem keeps_execFmax32 (k rid) (s : State) : Out.Keeps s.skel (execFmax32 k rid s) := by simp [execFmax32]
@[simp] theorem keeps_execAdd64 (k rid) (s : State) : Out.Keeps s.skel (execAdd64 k rid s) := by simp [execAdd64]
@[simp] theorem keeps_execAnd64 (k rid) (s : State) : Out.Keeps s.skel (execAnd64 k rid s) := by simp [execAnd64]
@[simp] theorem keeps_execOr64 (k rid) (s : State) : Out.Keeps s.skel (execOr64 k rid s) := by simp [execOr64]
@[simp] theorem keeps_execXor64 (k rid) (s : State) : Out.Keeps s.skel (execXor64 k rid s) := by simp [execXor64]
@[simp] theorem keeps_execSmin64 (k rid) (s : State) : Out.Keeps s.skel (execSmin64 k rid s) := by simp [execSmin64]
@[simp] theorem keeps_execSmax64 (k rid) (s : State) : Out.Keeps s.skel (execSmax64 k rid s) := by simp [execSmax64]
@[simp] theorem keeps_execUmin64 (k rid) (s : State) : Out.Keeps s.skel (execUmin64 k rid s) := by simp [execUmin64]
@[simp] theorem keeps_execUmax64 (k rid) (s : State) : Out.Keeps s.skel (execUmax64 k rid s) := by simp [execUmax64]
@[simp] theorem keeps_execSwap64 (k rid) (s : State) : Out.Keeps s.skel (execSwap64 k rid s) := by simp [execSwap64]
@[simp] theorem keeps_execCas64 (k rid) (s : State) : Out.Keeps s.skel (execCas64 k rid s) := by simp [execCas64]
@[simp] theorem keeps_execFadd64 (k rid) (s : State) : Out.Keeps s.skel (execFadd64 k rid s) := by simp [execFadd64]
@[simp] theorem keeps_execFmin64 (k rid) (s : State) : Out.Keeps s.skel (execFmin64 k rid s) := by simp [execFmin64]
@[simp] theorem keeps_execFmax64 (k rid) (s : State) : Out.Keeps s.skel (execFmax64 k rid s) := by simp [execFmax64]
@[simp] theorem keeps_execCas128 (k rid) (s : State) : Out.Keeps s.skel (execCas128 k rid s) := by simp [execCas128]
@[simp] theorem keeps_execReproAdd (k rid) (s : State) : Out.Keeps s.skel (execReproAdd k rid s) := by simp [execReproAdd]
@[simp] theorem keeps_execFold (k rid) (s : State) : Out.Keeps s.skel (execFold k rid s) := by simp [execFold]
@[simp] theorem keeps_execFoldClear (k rid) (s : State) : Out.Keeps s.skel (execFoldClear k rid s) := by simp [execFoldClear]
@[simp] theorem keeps_execScatterAcc (k rid) (s : State) : Out.Keeps s.skel (execScatterAcc k rid s) := by simp [execScatterAcc]
@[simp] theorem keeps_execGather (k rid) (s : State) : Out.Keeps s.skel (execGather k rid s) := by simp [execGather]
@[simp] theorem keeps_execStridedGather (k rid) (s : State) : Out.Keeps s.skel (execStridedGather k rid s) := by
  simp [execStridedGather]
@[simp] theorem keeps_execStridedCopy (k rid) (s : State) : Out.Keeps s.skel (execStridedCopy k rid s) := by
  simp [execStridedCopy]
@[simp] theorem keeps_execPkgCopy (k rid) (s : State) : Out.Keeps s.skel (execPkgCopy k rid s) := by simp [execPkgCopy]
@[simp] theorem keeps_execGthDescriptorStart (k rid) (s : State) : Out.Keeps s.skel (execGthDescriptorStart k rid s) := by
  simp [execGthDescriptorStart]
@[simp] theorem keeps_execGthElementAccess (k rid) (s : State) : Out.Keeps s.skel (execGthElementAccess k rid s) := by
  simp [execGthElementAccess]
@[simp] theorem keeps_execAccSpillAll (src k ch v) (s : State) : Out.Keeps s.skel (execAccSpillAll src k ch v s) := by
  simp [execAccSpillAll]

/-! ### TAPs -/

@[simp] theorem keeps_execBypass (k) (s : State) : Out.Keeps s.skel (execBypass k s) := by simp [execBypass]
@[simp] theorem keeps_execIdcode (k) (s : State) : Out.Keeps s.skel (execIdcode k s) := by simp [execIdcode]
@[simp] theorem keeps_execSamplePreload (k pins) (s : State) : Out.Keeps s.skel (execSamplePreload k pins s) := by
  simp [execSamplePreload]
@[simp] theorem keeps_execExtest (k pins) (s : State) : Out.Keeps s.skel (execExtest k pins s) := by simp [execExtest]
@[simp] theorem keeps_execClamp (k) (s : State) : Out.Keeps s.skel (execClamp k s) := by simp [execClamp]
@[simp] theorem keeps_execHighz (k) (s : State) : Out.Keeps s.skel (execHighz k s) := by simp [execHighz]
@[simp] theorem keeps_execIeee1500WrapperAccess (k code) (s : State) : Out.Keeps s.skel (execIeee1500WrapperAccess k code s) :=
    by
  simp [execIeee1500WrapperAccess]
@[simp] theorem keeps_execLogicScan (k code) (s : State) : Out.Keeps s.skel (execLogicScan k code s) := by simp [execLogicScan]

end Sys2Proof.Machine
end

section
/-! PROOFS. Every command answers and keeps the skeleton (O3), and every step keeps a state sound (O4). -/

namespace Sys2Proof.Machine

/-- Every command answers a next state, and keeps the skeleton. -/
theorem exec_keeps (c : Instr) (s : State) : Out.Keeps s.skel (exec c s) := by
  cases c <;> simp [exec]

/-- Soundness is a property of the skeleton. -/
theorem Sound.of_keeps {s t : State} (h : s.skel.Keeps t.skel) (hs : Sound s) : Sound t :=
  ⟨h.shape hs.1, h.wf hs.2⟩

/-- Settles O3: every arm of `exec` answers a next state, and what it leaves keeps the skeleton. -/
theorem commandsAnswer : Obligations.CommandsAnswer := by
  constructor
  · intro c s
    obtain ⟨t, ht, -⟩ := exec_keeps c s
    exact ⟨t, ht⟩
  · intro c s t ht
    obtain ⟨u, hu, hk⟩ := exec_keeps c s
    obtain rfl : u = t := Host.Outcome.next.inj (hu.symm.trans ht)
    exact ⟨hk.pending, hk.part, hk.shape⟩

/-- Settles O4: the queue is no part of soundness, and the command at its front keeps the skeleton. -/
theorem stepKeepsSound : Obligations.StepKeepsSound := by
  intro s t hs ht
  unfold step at ht
  split at ht
  · cases ht; exact hs
  next c rest _ =>
    obtain ⟨u, hu, hk⟩ := exec_keeps c { s with pending := rest }
    obtain rfl : u = t := Host.Outcome.next.inj (hu.symm.trans ht)
    exact Sound.of_keeps hk hs

end Sys2Proof.Machine
end

section
/-! PROOFS. The state after reset (R12, R87, R153, R483). -/

namespace Sys2Proof.Machine

/-- Every stack of the reset state, listed or not, is the stack after reset. -/
theorem State.reset_stk (k : Nat) : State.reset.stk k = Stack.reset State.reset.part.dies := by
  change (List.replicate _ _).getD k _ = _
  rw [List.getD_eq_getElem?_getD, List.getElem?_replicate]
  split <;> rfl

/-- After reset every register reads as its table's reset value (R12). -/
theorem State.reset_raw (k : Nat) (pg : Page) (i off : Nat) :
    State.reset.raw k pg i off = resetAt State.reset.part pg off % 2 ^ 32 := by
  unfold State.raw
  rw [State.reset_stk]
  cases pg.isPkg <;> exact BitVec.toNat_ofNat (resetAt State.reset.part pg off) 32

/-- A staged register has the reset value of the live one (R87). -/
theorem resetAt_staged (p : Part) (pg : Page) (off : Nat) (h1 : 0x100 ≤ off) (h2 : off < 0x800) :
    resetAt p pg (off + 0x700) = resetAt p pg off := by
  unfold resetAt
  rw [if_pos (by omega), if_neg (by omega), Nat.add_sub_cancel]

/-- After reset every word of the label table is at its reset value (R153). -/
theorem State.reset_label (k l w : Nat) :
    (State.reset.stk k).label false l w = resetLive .ax8h16 .label (4 * w) % 2 ^ 32 := by
  rw [State.reset_stk]
  exact BitVec.toNat_ofNat _ 32

theorem State.reset_sound : Sound State.reset := ⟨⟨rfl, rfl⟩, rfl⟩

/-- Settles O2: the reset state lists nothing, so each of its values is the reset value of its table. -/
theorem resetState : Obligations.ResetState := by
  refine ⟨State.reset_sound, rfl, rfl, rfl, State.reset_raw, ?_, ?_, ?_, ?_, ?_⟩
  · intro k pg i off h1 h2
    rw [State.reset_raw, State.reset_raw, resetAt_staged _ _ _ h1 h2]
  · intro k x
    rw [State.reset_stk]
    rfl
  · intro k l
    constructor <;>
    · unfold State.labelFld
      rw [State.reset_label]
      decide
  · intro l
    simp [State.linkOk, State.reset_stk, Stack.reset]
  · intro k pg i c
    unfold State.cntVal
    rw [State.reset_stk]
    cases pg.isPkg <;> rfl

end Sys2Proof.Machine
end

section
/-! PROOFS. Writes of plain registers: the access types of R12 in one stack, through whichever page and access source. -/

namespace Sys2Proof.Machine

/-! ### What one stack's plain write does -/

/-- Bit b of the register written follows the access types (R12). -/
theorem testBit_raw_writePlain_same (s : State) (k : Nat) (pg : Page) (i off v b : Nat) (hk : k < s.stks.length) (hb : b < 32) :
    ((writePlain s k pg i off v).raw k pg i off).testBit b = bitAfter pg off (s.raw k pg i off) v b := by
  have hones : Nat.testBit 0xFFFFFFFF b = true := by
    rw [show 0xFFFFFFFF = 2 ^ 32 - 1 by rfl, Nat.testBit_two_pow_sub_one, decide_eq_true hb]
  unfold writePlain bitAfter hasAcc
  rw [State.raw_setRaw_same s k pg i off _ hk]
  simp only [Nat.testBit_mod_two_pow, Nat.testBit_and, Nat.testBit_or, Nat.testBit_xor, hones, hb, decide_true]
  cases (maskAt pg off fun x => x == Acc.rw).testBit b <;> simp

/-- A plain write leaves every other register as it was. -/
theorem raw_writePlain_other (s : State) (k j : Nat) (pg qg : Page) (i i' off off' v : Nat)
    (h : j ≠ k ∨ pg.isPkg ≠ qg.isPkg ∨ regKey qg i' off' ≠ regKey pg i off) :
    (writePlain s k pg i off v).raw j qg i' off' = s.raw j qg i' off' :=
  State.raw_setRaw_other s k j pg qg i i' off off' _ h

/-- A plain write changes stacks only. -/
theorem writePlain_eq (s : State) (k : Nat) (pg : Page) (i off v : Nat) :
    writePlain s k pg i off v = { s with stks := (writePlain s k pg i off v).stks } := rfl

/-- A plain write changes one stack only. -/
theorem stk_writePlain_other (s : State) (k j : Nat) (pg : Page) (i off v : Nat) (h : j ≠ k) :
    (writePlain s k pg i off v).stk j = s.stk j :=
  State.stk_modStk_other s k j _ h

/-- A plain write of a stack page changes the registers of the stack's window only. -/
theorem regsOnly_writePlain (s : State) (k : Nat) (pg : Page) (i off v : Nat) (hk : k < s.stks.length) (hp : pg.isPkg = false) :
    RegsOnly (s.stk k) ((writePlain s k pg i off v).stk k) := by
  unfold RegsOnly writePlain State.setRaw
  rw [State.stk_modStk_same s k _ hk]
  simp [hp]

/-! ### Which writes are plain -/

/-- No block acts on a write of a plain register (R12). -/
theorem writeLive_of_plainAt (s : State) (src : Source) (k : Nat) (pg : Page) (i off v : Nat) (h : plainAt pg off = true) :
    writeLive s src k pg i off v = writePlain s k pg i off v := by
  cases pg
  case adm | scb | gth | pkg | tic | sch | rte => rfl
  case cmt | label => simp [plainAt] at h
  case stk | thm | bst | nxp | ndu | nxl => simp_all [plainAt, writeLive]
  case ctl =>
    change writeCtl s src k i off v = _
    simp_all [plainAt, writeCtl]
  case cal =>
    change writeCal s k off v = writePlain s k .cal 0 off v
    simp_all [plainAt, writeCal]
  case clk =>
    change writeClk s src k off v = writePlain s k .clk 0 off v
    simp_all [plainAt, writeClk]
  case pwr =>
    change writePwr s k off v = writePlain s k .pwr 0 off v
    simp_all [plainAt, writePwr]
  case otp =>
    change writeOtp s k off v = writePlain s k .otp 0 off v
    simp only [plainAt, Bool.and_eq_true, Bool.not_eq_true', Bool.and_eq_false_imp, bne_iff_ne, decide_eq_true_eq,
      decide_eq_false_iff_not] at h
    rw [writeOtp, if_neg (by omega), if_neg (by omega), if_neg (by omega)]
  case reg =>
    change writeReg s src k off v = writePlain s k .reg 0 off v
    simp only [plainAt, Bool.and_eq_true, Bool.not_eq_true', List.contains_cons, List.contains_nil, Bool.or_eq_false_iff,
      beq_eq_false_iff_ne, Bool.and_eq_false_imp, decide_eq_true_eq, decide_eq_false_iff_not] at h
    simp_all [writeReg]
  case tsm =>
    change writeTsm s k off v = writePlain s k .tsm 0 off v
    simp_all [plainAt, writeTsm]
  case vit =>
    change writeVit s k off v = writePlain s k .vit 0 off v
    simp_all [plainAt, writeVit]
  case doc =>
    change writeDoc s src k off v = writePlain s k .doc 0 off v
    simp_all [plainAt, writeDoc]

/-- Plain registers are live registers of pages that have them (R12). -/
theorem plainAt_live (pg : Page) (off : Nat) (h : plainAt pg off = true) :
    0x100 ≤ off ∧ off < 0x800 ∧ pg ≠ .cmt ∧ pg ≠ .label := by
  simp only [plainAt, Bool.and_eq_true, decide_eq_true_eq] at h
  obtain ⟨⟨hlo, hhi⟩, hpage⟩ := h
  refine ⟨hlo, hhi, ?_, ?_⟩ <;> rintro rfl <;> simp at hpage

/-- A write of a plain register in one stack is a plain write (R12). -/
theorem writeIn_of_plainAt (s : State) (src : Source) (k : Nat) (pg : Page) (i off v : Nat) (h : plainAt pg off = true) :
    writeIn s src k pg i off v = writePlain s k pg i off v := by
  obtain ⟨hlo, hhi, -, hlabel⟩ := plainAt_live pg off h
  rw [writeIn, if_neg hlabel, if_neg (by omega), if_pos hhi, writeLive_of_plainAt s src k pg i off v h]

/-! ### Addresses -/

/-- A page of a stack's window is not a package page (R78). -/
theorem isPkg_of_stkPageAt (n i : Nat) (pg : Page) (h : stkPageAt n = some (pg, i)) : pg.isPkg = false := by
  unfold stkPageAt at h
  repeat (rw [ite_eq_iff] at h; obtain ⟨-, h⟩ | ⟨-, h⟩ := h; · (cases h; rfl))
  cases h

/-- An address of a stack's window names a stack of the part and one of its pages (R75, R78). -/
theorem Leads.window {s : State} {a : Reg32} {k i off : Nat} {pg : Page} (h : Leads s a (k + 1) pg i off) :
    k < s.n ∧ pg.isPkg = false := by
  simp only [Leads, State.target] at h
  split at h
  · cases h
  · rename_i hrange
    split at h
    · rename_i p hpage
      simp only [Option.some.injEq, Target.mk.injEq] at h
      obtain ⟨hwin, rfl, rfl, -⟩ := h
      rw [if_neg (by omega)] at hpage
      exact ⟨by omega, isPkg_of_stkPageAt _ _ _ hpage⟩
    · cases h

/-! ### Management writes of a plain register of a stack's window -/

/-- A write command of a plain register of stack k's window is answered OK and is a plain write in stack k (R12). -/
theorem mgmtWr_of_plainAt {s : State} {src : Source} {a : Reg32} {k i off : Nat} {pg : Page} (v : Nat)
    (msg : Option (Nat × MgmtMsg)) (hw : Writable s src a k pg i off) (h : plainAt pg off = true) :
    mgmtWr s src a.toNat v msg = (stOk, writePlain s k pg i off v) := by
  obtain ⟨hlead, hans, hbusy⟩ := hw
  obtain ⟨-, hpkg⟩ := hlead.window
  obtain ⟨hlo, hhi, hcmt, -⟩ := plainAt_live pg off h
  have hcarried : (Target.mk (k + 1) pg i off).carried v = false := by
    simp [Target.carried, hpkg]
    omega
  have hholder : s.holder src ⟨k + 1, pg, i, off⟩ = k := by simp [State.holder]
  rw [mgmtWr, hlead]
  simp only [hbusy, Bool.false_and, Bool.false_eq_true, if_false]
  rw [doWrite32, hans, hcarried, hholder]
  simp [hcmt, writeIn_of_plainAt s src k pg i off v h]

/-- Settles O5: the write goes to stack k alone, and there it is a plain write. -/
theorem registerWrite : Obligations.RegisterWrite := by
  intro s src a v k i off pg hshape hw hplain
  obtain ⟨hkn, hpkg⟩ := hw.1.window
  have hk : k < s.stks.length := hshape.1 ▸ hkn
  obtain ⟨-, hhi, -, -⟩ := plainAt_live pg off hplain
  refine ⟨{ writePlain s k pg i off v.toNat with mgmtOut := (0, stOk) }, ?_, ?_, ?_, rfl, ?_, ?_⟩
  · change execRegisterWrite src a v s = _
    rw [execRegisterWrite]
    rw [writeCmd, hw.1]
    simp [hhi, mgmtWr_of_plainAt v.toNat none hw hplain]
  · exact fun b hb => testBit_raw_writePlain_same s k pg i off v.toNat b hk hb
  · exact fun qg j o hne => raw_writePlain_other s k k pg qg i j off o v.toNat (.inr (.inr hne))
  · exact fun j hj => stk_writePlain_other s k j pg i off v.toNat hj
  · exact regsOnly_writePlain s k pg i off v.toNat hk hpkg

end Sys2Proof.Machine
end

section
/-! PROOFS. Writes of package pages: the write reaches every copy, and each costs a message and an acknowledgement on the ring
(R12, R17, R34). -/

namespace Sys2Proof.Machine

/-! ### Changes of one stack -/

/-- A relation that the change of a stack keeps, and that every stack has to itself, holds between each stack before and after. -/
theorem State.stk_modStk_rel {R : Stack → Stack → Prop} {f : Stack → Stack} (hrefl : ∀ x, R x x) (hf : ∀ x, R x (f x)) (s : State)
    (k j : Nat) : R (s.stk j) ((s.modStk k f).stk j) := by
  by_cases hj : j = k
  · subst hj
    by_cases hk : j < s.stks.length
    · rw [State.stk_modStk_same s j f hk]
      exact hf _
    · rw [State.modStk, List.modify_eq_self (by omega)]
      exact hrefl _
  · rw [State.stk_modStk_other s k j f hj]
    exact hrefl _

/-- What the change of a stack leaves reads as before in every stack. -/
theorem State.stk_modStk_proj {α : Type} (g : Stack → α) {f : Stack → Stack} (hf : ∀ x, g (f x) = g x) (s : State) (k j : Nat) :
    g ((s.modStk k f).stk j) = g (s.stk j) :=
  State.stk_modStk_rel (R := fun x y => g y = g x) (fun _ => rfl) hf s k j

/-! ### Counters -/

/-- A counter that is set leaves every other counter as it was. -/
theorem State.cntVal_setCnt_other (s : State) (k j : Nat) (pg qg : Page) (i i' c c' v : Nat)
    (h : (pg.isPkg = false ∧ j ≠ k) ∨ pg.isPkg ≠ qg.isPkg ∨ regKey qg i' (0xF00 + 8 * c') ≠ regKey pg i (0xF00 + 8 * c)) :
    (s.setCnt k pg i c v).cntVal j qg i' c' = s.cntVal j qg i' c' := by
  unfold State.cntVal State.setCnt
  cases hp : pg.isPkg
  case false =>
    cases hq : qg.isPkg
    case true => rfl
    case false =>
      simp only [Bool.false_eq_true, if_false]
      by_cases hj : j = k
      · exact State.stk_modStk_proj (fun x => mget x.cnt _ 0) (fun _ => mget_mput_other _ _ _ _ _ _ (by simp_all)) s k j
      · rw [State.stk_modStk_other s k j _ hj]
  case true =>
    cases hq : qg.isPkg
    case false => rfl
    case true => exact mget_mput_other _ _ _ _ _ _ (by simp_all)

/-- Counting leaves every other counter as it was. -/
theorem State.cntVal_count_other (s : State) (k j : Nat) (pg qg : Page) (i i' c c' n : Nat)
    (h : (pg.isPkg = false ∧ j ≠ k) ∨ pg.isPkg ≠ qg.isPkg ∨ regKey qg i' (0xF00 + 8 * c') ≠ regKey pg i (0xF00 + 8 * c)) :
    (s.count k pg i c n).cntVal j qg i' c' = s.cntVal j qg i' c' := by
  unfold State.count
  split
  · rfl
  · exact State.cntVal_setCnt_other s k j pg qg i i' c c' _ h

/-! ### What a carried write may change -/

/-- t is s but for the copies of the package pages and the counters of the stacks' windows. -/
structure CopyFrame (s t : State) : Prop where
  state : t = { s with stks := t.stks }
  length : t.stks.length = s.stks.length
  stack : ∀ k, t.stk k = { s.stk k with pkgRegs := (t.stk k).pkgRegs, cnt := (t.stk k).cnt }

namespace CopyFrame

theorem refl (s : State) : CopyFrame s s := ⟨rfl, rfl, fun _ => rfl⟩

theorem trans {s t u : State} (h : CopyFrame s t) (g : CopyFrame t u) : CopyFrame s u where
  state := by rw [g.state, h.state]
  length := g.length.trans h.length
  stack k := by rw [g.stack k, h.stack k]

/-- A change of one stack's copy and counters. -/
theorem modStk (s : State) (k : Nat) (f : Stack → Stack)
    (hf : ∀ x, f x = { x with pkgRegs := (f x).pkgRegs, cnt := (f x).cnt }) : CopyFrame s (s.modStk k f) where
  state := rfl
  length := length_modify' s.stks k f
  stack j := State.stk_modStk_rel (R := fun x y => y = { x with pkgRegs := y.pkgRegs, cnt := y.cnt }) (fun _ => rfl) hf s k j

theorem writePlain (s : State) (k : Nat) (pg : Page) (i off v : Nat) (hp : pg.isPkg = true) :
    CopyFrame s (writePlain s k pg i off v) := by
  unfold Machine.writePlain State.setRaw
  exact modStk s k _ (fun x => by simp [hp])

theorem ringTx (s : State) (k j : Nat) : CopyFrame s (s.ringTx k j) := by
  unfold State.ringTx State.count
  split
  · exact refl s
  · split
    · exact refl s
    · exact modStk s k _ (fun _ => rfl)

variable {s t : State} (h : CopyFrame s t)
include h

theorem part : t.part = s.part := by rw [h.state]

/-- Registers of the stacks' windows read as before. -/
theorem raw (k : Nat) (pg : Page) (i off : Nat) (hp : pg.isPkg = false) : t.raw k pg i off = s.raw k pg i off := by
  unfold State.raw
  rw [h.stack k, h.part]
  simp [hp]

theorem frozen (k : Nat) (pg : Page) (i : Nat) (hp : pg.isPkg = false) : t.frozen k pg i = s.frozen k pg i := by
  rw [State.frozen, State.frozen, h.raw k pg i 8 hp]

theorem linkOk : t.linkOk = s.linkOk := by
  funext l
  rw [State.linkOk, State.linkOk, h.stack l, h.stack ((l + 1) % t.n)]
  unfold State.n
  rw [h.part]

/-- The ring joins the same stacks. -/
theorem ringTo (a b : Nat) : t.ringTo a b = s.ringTo a b := by
  have hmode : t.ringOn = s.ringOn := by
    rw [h.state]
    rfl
  have hn : t.n = s.n := congrArg Part.stks h.part
  rw [State.ringTo, State.ringTo, State.reach, State.reach, h.linkOk, hmode, hn]

end CopyFrame

/-! ### The cost of a message on the ring (R34) -/

/-- The cost of a message is counted in no register. -/
@[simp] theorem raw_ringTx (s : State) (k j x : Nat) (pg : Page) (i off : Nat) :
    (s.ringTx k j).raw x pg i off = s.raw x pg i off := by
  have hset : ∀ n, (s.setCnt k .stk 0 2 n).raw x pg i off = s.raw x pg i off := fun n =>
    State.stk_modStk_proj (fun y => (mget (if pg.isPkg then y.pkgRegs else y.regs) (regKey pg i off)
      (BitVec.ofNat 32 (resetAt s.part pg off))).toNat) (fun _ => by rfl) s k x
  unfold State.ringTx State.count
  split
  · rfl
  · split
    · rfl
    · exact hset _

/-- A message from stack k is counted in no other counter than RING_TX of stack k. -/
theorem cntVal_ringTx_other (s : State) (k j x : Nat) (qg : Page) (i c : Nat)
    (h : x ≠ k ∨ qg.isPkg = true ∨ regKey qg i (0xF00 + 8 * c) ≠ regKey .stk 0 0xF10) :
    (s.ringTx k j).cntVal x qg i c = s.cntVal x qg i c := by
  unfold State.ringTx
  split
  · rfl
  · refine State.cntVal_count_other s k x .stk qg 0 i 2 c 1 ?_
    obtain h | h | h := h
    · exact .inl ⟨rfl, h⟩
    · exact .inr (.inl (by rw [h]; decide))
    · exact .inr (.inr h)

/-- A message to another stack is counted in RING_TX of the stack that sends it. -/
theorem cntVal_ringTx_same (s : State) (k j : Nat) (hk : k < s.stks.length) (hj : k ≠ j) (hf : s.frozen k .stk 0 = false) :
    (s.ringTx k j).cntVal k .stk 0 2 = satAdd cntMax (s.cntVal k .stk 0 2) 1 := by
  rw [State.ringTx, if_neg hj]
  exact State.cntVal_count_same s k .stk 0 2 1 hk hf

/-- A write of a register of a package page counts nothing. -/
theorem cntVal_writePlain (s : State) (k x : Nat) (pg qg : Page) (i j off c v : Nat) (hp : pg.isPkg = true) :
    (writePlain s k pg i off v).cntVal x qg j c = s.cntVal x qg j c := by
  have hcnt : ((writePlain s k pg i off v).stk x).cnt = (s.stk x).cnt :=
    State.stk_modStk_proj Stack.cnt (fun _ => by simp [hp]) s k x
  rw [State.cntVal, State.cntVal, hcnt]
  rfl

/-! ### The carried write, stack by stack -/

/-- What a carried write does in stack k: the write, its message and its acknowledgement (R17, R34). -/
def carryTo (src : Source) (a : Nat) (pg : Page) (i off v : Nat) (s : State) (k : Nat) : State :=
  if s.ringTo a k then ((writeIn s src k pg i off v).ringTx a k).ringTx k a else s

/-- A carried write goes to one stack after the other. -/
theorem carry_eq_foldl (s : State) (src : Source) (a w : Nat) (pg : Page) (i off v : Nat) :
    carry s src a ⟨w, pg, i, off⟩ v = (List.range s.n).foldl (carryTo src a pg i off v) s := rfl

theorem carryTo_of_plainAt (s : State) (src : Source) (a k : Nat) (pg : Page) (i off v : Nat) (hr : s.ringTo a k = true)
    (h : plainAt pg off = true) :
    carryTo src a pg i off v s k = ((writePlain s k pg i off v).ringTx a k).ringTx k a := by
  rw [carryTo, if_pos hr, writeIn_of_plainAt s src k pg i off v h]

/-- State t after the write of register off of a package page, which stack a carries, has reached the stacks below m. -/
structure CarriedBelow (s : State) (a : Nat) (pg : Page) (i off v m : Nat) (t : State) : Prop where
  frame : CopyFrame s t
  written : ∀ k b, k < m → b < 32 → (t.raw k pg i off).testBit b = bitAfter pg off (s.raw k pg i off) v b
  unwritten : ∀ k, m ≤ k → t.raw k pg i off = s.raw k pg i off
  otherRegs : ∀ k qg j o, qg.isPkg = true → regKey qg j o ≠ regKey pg i off → t.raw k qg j o = s.raw k qg j o
  counted : ∀ k, k < m → k ≠ a → s.frozen k .stk 0 = false → t.cntVal k .stk 0 2 = satAdd cntMax (s.cntVal k .stk 0 2) 1
  uncounted : ∀ k, m ≤ k → k ≠ a → t.cntVal k .stk 0 2 = s.cntVal k .stk 0 2
  otherCounts : ∀ k qg j c, qg.isPkg = false → regKey qg j (0xF00 + 8 * c) ≠ regKey .stk 0 0xF10 →
    t.cntVal k qg j c = s.cntVal k qg j c

/-- At the start the write has reached no stack. -/
theorem CarriedBelow.zero (s : State) (a : Nat) (pg : Page) (i off v : Nat) : CarriedBelow s a pg i off v 0 s :=
  ⟨.refl s, fun _ _ h => absurd h (Nat.not_lt_zero _), fun _ _ => rfl, fun _ _ _ _ _ _ => rfl,
    fun _ h => absurd h (Nat.not_lt_zero _), fun _ _ _ => rfl, fun _ _ _ _ _ _ => rfl⟩

/-- The write reaches the next stack. -/
theorem CarriedBelow.succ {s t : State} {a : Nat} {pg : Page} {i off v m : Nat} (src : Source)
    (h : CarriedBelow s a pg i off v m t) (hm : m < s.stks.length) (hr : s.ringTo a m = true) (hp : pg.isPkg = true)
    (hplain : plainAt pg off = true) : CarriedBelow s a pg i off v (m + 1) (carryTo src a pg i off v t m) := by
  have hmt : m < t.stks.length := h.frame.length ▸ hm
  rw [carryTo_of_plainAt t src a m pg i off v (h.frame.ringTo a m ▸ hr) hplain]
  have hmid : CopyFrame t ((writePlain t m pg i off v).ringTx a m) := (CopyFrame.writePlain t m pg i off v hp).trans (.ringTx _ a m)
  refine ⟨h.frame.trans (hmid.trans (.ringTx _ m a)), ?written, ?unwritten, ?otherRegs, ?counted, ?uncounted, ?otherCounts⟩
  case written =>
    intro k b hk hb
    rw [raw_ringTx, raw_ringTx]
    by_cases hkm : k = m
    · subst hkm
      rw [testBit_raw_writePlain_same t k pg i off v b hmt hb, h.unwritten k le_rfl]
    · rw [raw_writePlain_other t m k pg pg i i off off v (.inl hkm), h.written k b (by omega) hb]
  case unwritten =>
    intro k hk
    rw [raw_ringTx, raw_ringTx, raw_writePlain_other t m k pg pg i i off off v (.inl (by omega)), h.unwritten k (by omega)]
  case otherRegs =>
    intro k qg j o hq hne
    rw [raw_ringTx, raw_ringTx, raw_writePlain_other t m k pg qg i j off o v (.inr (.inr hne)), h.otherRegs k qg j o hq hne]
  case counted =>
    intro k hk hka hf
    by_cases hkm : k = m
    · subst hkm
      rw [cntVal_ringTx_same _ k a (hmid.length ▸ hmt) hka ((h.frame.trans hmid).frozen k .stk 0 rfl ▸ hf),
        cntVal_ringTx_other _ a k k .stk 0 2 (.inl hka), cntVal_writePlain t k k pg .stk i 0 off 2 v hp, h.uncounted k le_rfl hka]
    · rw [cntVal_ringTx_other _ m a k .stk 0 2 (.inl hkm), cntVal_ringTx_other _ a m k .stk 0 2 (.inl hka),
        cntVal_writePlain t m k pg .stk i 0 off 2 v hp, h.counted k (by omega) hka hf]
  case uncounted =>
    intro k hk hka
    rw [cntVal_ringTx_other _ m a k .stk 0 2 (.inl (by omega)), cntVal_ringTx_other _ a m k .stk 0 2 (.inl hka),
      cntVal_writePlain t m k pg .stk i 0 off 2 v hp, h.uncounted k (by omega) hka]
  case otherCounts =>
    intro k qg j c hq hne
    rw [cntVal_ringTx_other _ m a k qg j c (.inr (.inr hne)), cntVal_ringTx_other _ a m k qg j c (.inr (.inr hne)),
      cntVal_writePlain t m k pg qg i j off c v hp, h.otherCounts k qg j c hq hne]

/-- The write reaches the first m stacks of the package, one after the other. -/
theorem carriedBelow_foldl (s : State) (src : Source) (a : Nat) (pg : Page) (i off v m : Nat) (hm : m ≤ s.stks.length)
    (hr : ∀ k, k < m → s.ringTo a k = true) (hp : pg.isPkg = true) (hplain : plainAt pg off = true) :
    CarriedBelow s a pg i off v m ((List.range m).foldl (carryTo src a pg i off v) s) := by
  induction m with
  | zero => exact .zero s a pg i off v
  | succ m ih =>
    rw [List.range_succ, List.foldl_append, List.foldl_cons, List.foldl_nil]
    exact (ih (by omega) (fun k hk => hr k (by omega))).succ src hm (hr m (by omega)) hp hplain

/-- A write command of a plain register of a package page is answered OK and carried (R17). -/
theorem mgmtWr_of_isPkg (s : State) (src : Source) (a : Reg32) (i off v : Nat) (pg : Page) (msg : Option (Nat × MgmtMsg))
    (hlead : Leads s a 0 pg i off) (hans : s.answers src ⟨0, pg, i, off⟩ = true) (hbusy : s.cmtBusy = false) (hp : pg.isPkg = true)
    (hplain : plainAt pg off = true) (hreach : s.reachAll (s.srcStack src) = true) :
    mgmtWr s src a.toNat v msg = (stOk, carry s src (s.srcStack src) ⟨0, pg, i, off⟩ v) := by
  obtain ⟨-, -, hcmt, -⟩ := plainAt_live pg off hplain
  have hholder : s.holder src ⟨0, pg, i, off⟩ = s.srcStack src := by simp [State.holder]
  rw [mgmtWr, hlead]
  simp only [hbusy, Bool.false_and, Bool.false_eq_true, if_false]
  rw [doWrite32, hans, hholder]
  simp [hcmt, Target.carried, hp, hreach]

/-- Settles O6: the write is carried to every stack in turn, and what each turn adds is what `CarriedBelow` states. -/
theorem packagePageWrite : Obligations.PackagePageWrite := by
  intro s src a v i off pg hshape hlead hans hbusy hp hplain hreach
  have hring : ∀ k, k < s.n → s.ringTo (s.srcStack src) k = true := by
    simpa [State.reachAll] using hreach
  have hc := carriedBelow_foldl s src (s.srcStack src) pg i off v.toNat s.n hshape.1.ge hring hp hplain
  rw [← carry_eq_foldl s src (s.srcStack src) 0] at hc
  obtain ⟨hframe, hwritten, -, hregs, hcounted, -, hcounts⟩ := hc
  refine ⟨{ carry s src (s.srcStack src) ⟨0, pg, i, off⟩ v.toNat with mgmtOut := (0, stOk) }, ?_, hwritten, hregs, ?_,
    hframe.stack, ?_, hcounts⟩
  · change execPackagePageWrite src a v s = _
    rw [execPackagePageWrite, writeCmd, hlead]
    simp [mgmtWr_of_isPkg s src a i off v.toNat pg none hlead hans hbusy hp hplain hreach]
  · rw [hframe.state]
  · intro k hk hka hf hlt
    refine (hcounted k hk hka hf).trans ?_
    unfold satAdd
    omega

end Sys2Proof.Machine
end

section
/-! PROOFS. Management messages: reads and what they leave, writes of plain registers, refusals (R12, R75, R76, R107, R108). -/

namespace Sys2Proof.Machine

/-! ### What a register read leaves -/

/-- t is s but for the stacks, whose time goes on as it did, and for the free values drawn. -/
structure ReadFrame (s t : State) : Prop where
  state : t = { s with stks := t.stks, free := t.free }
  timer : ∀ k, (t.stk k).tm = (s.stk k).tm

namespace ReadFrame

theorem refl (s : State) : ReadFrame s s := ⟨rfl, fun _ => rfl⟩

theorem draw (s : State) : ReadFrame s s.draw.2 := ⟨rfl, fun _ => rfl⟩

theorem modStk (s : State) (k : Nat) (f : Stack → Stack) (hf : ∀ x, (f x).tm = x.tm) : ReadFrame s (s.modStk k f) :=
  ⟨rfl, State.stk_modStk_proj Stack.tm hf s k⟩

theorem readTicNow (s : State) (k : Nat) : ReadFrame s (readTicNow s k).2 := by
  unfold Machine.readTicNow
  split
  · exact refl s
  · exact draw s

theorem readLive (s : State) (src : Source) (k : Nat) (pg : Page) (i off : Nat) : ReadFrame s (readLive s src k pg i off).2 := by
  unfold Machine.readLive
  split_ifs
  · exact readTicNow s k
  · exact draw s
  · exact modStk s k _ (fun _ => rfl)
  · exact modStk s k _ (fun _ => rfl)
  · exact refl s

theorem readCounter (s : State) (src : Source) (k : Nat) (pg : Page) (i off : Nat) :
    ReadFrame s (readCounter s src k pg i off).2 := by
  simp only [Machine.readCounter]
  split_ifs
  · exact refl s
  · exact modStk s k _ (fun _ => rfl)
  · exact refl s

theorem readReg (s : State) (src : Source) (k : Nat) (pg : Page) (i off : Nat) : ReadFrame s (readReg s src k pg i off).2 := by
  unfold Machine.readReg
  split_ifs
  · exact refl s
  · exact refl s
  · exact readLive s src k pg i off
  · exact refl s
  · exact readCounter s src k pg i off

theorem mgmtRd (s : State) (src : Source) (a : Nat) : ReadFrame s (mgmtRd s src a).2 := by
  unfold Machine.mgmtRd
  split
  · exact refl s
  · simp only
    split
    · exact refl s
    · exact readReg s src _ _ _ _

end ReadFrame

/-! ### The three outcomes of a management read -/

theorem mgmtRd_of_target_none (s : State) (src : Source) (a : Nat) (h : s.target a = none) :
    mgmtRd s src a = ((stUnsupported, 0), s) := by
  rw [mgmtRd, h]

theorem mgmtRd_of_answers_false (s : State) (src : Source) (a : Nat) (x : Target) (h : s.target a = some x)
    (hx : s.answers src x = false) : mgmtRd s src a = ((stStackReset, 0), s) := by
  rw [mgmtRd, h]
  simp [hx]

theorem mgmtRd_of_answers (s : State) (src : Source) (a : Nat) (x : Target) (h : s.target a = some x)
    (hx : s.answers src x = true) : (mgmtRd s src a).1 = (stOk, (readReg s src (s.holder src x) x.page x.inst x.off).1) := by
  rw [mgmtRd, h]
  simp [hx]

/-! ### Messages and their responses -/

/-- A plain write leaves the stacks' time. -/
theorem tm_writePlain (s : State) (k j : Nat) (pg : Page) (i off v : Nat) : ((writePlain s k pg i off v).stk j).tm = (s.stk j).tm :=
  State.stk_modStk_proj Stack.tm (fun _ => by split <;> rfl) s k j

/-- The response depends on the time of the port's stack alone. -/
theorem mgmtResp_congr {s t : State} {p : Nat} (m : MgmtMsg) (status v : Nat) (h : (t.stk (p / 4)).tm = (s.stk (p / 4)).tm) :
    mgmtResp t p m status v = mgmtResp s p m status v := by
  unfold mgmtResp State.frame
  rw [h]

theorem wakeIdle_of_ne_idle (s : State) (code : Nat) (h : s.mode ≠ .idle) : wakeIdle s code = s := by
  simp [wakeIdle, h]

/-- Between s and t the message m of port p left MGMT ingress, its slots are owed as credits, and it is answered with a status and
a value. -/
structure AnsweredMgmt (s t : State) (p : Nat) (m : MgmtMsg) (status v : Nat) : Prop where
  ingress : (t.prt p).mgmtIn = (s.prt p).mgmtIn.erase m
  credits : (t.prt p).mgmtRet = (s.prt p).mgmtRet + m.slots
  response : (t.prt p).mgmtOut = (s.prt p).mgmtOut ++ [mgmtResp s p m status v]
  others : ∀ q, q ≠ p → t.prt q = s.prt q

/-- A message that leaves ingress, with a change that leaves the ports and the time, and is answered. -/
theorem answeredMgmt_pushMgmt (s t : State) (p : Nat) (m : MgmtMsg) (status v : Nat) (hp : p < s.ports.length)
    (hports : t.ports = (popMgmt s p m).ports) (htm : (t.stk (p / 4)).tm = (s.stk (p / 4)).tm) :
    AnsweredMgmt s (pushMgmt t p m status v) p m status v := by
  have hlen : p < t.ports.length := by
    rw [hports]
    exact (length_modify' s.ports p _).symm ▸ hp
  have hprt : ∀ q, t.prt q = (popMgmt s p m).prt q := fun q => by rw [State.prt, State.prt, hports]
  have hpop : (popMgmt s p m).prt p = _ := State.prt_modPort_same s p _ hp
  have hsame : (pushMgmt t p m status v).prt p = _ := State.prt_modPort_same t p _ hlen
  rw [hprt p, hpop] at hsame
  refine ⟨by rw [hsame], by rw [hsame], by rw [hsame, mgmtResp_congr m status v htm], ?_⟩
  intro q hq
  exact (State.prt_modPort_other t p q _ hq).trans ((hprt q).trans (State.prt_modPort_other s p q _ hq))

/-- The oldest message that MGMT does not carry, or whose form fails, is answered UNSUPPORTED (R107, R108). -/
theorem answeredMgmt_mgmtRefused (s : State) (p : Nat) (m : MgmtMsg) (hp : p < s.ports.length) :
    AnsweredMgmt s (mgmtRefused s p m) p m stUnsupported 0 := by
  have hpush := answeredMgmt_pushMgmt s (popMgmt s p m) p m stUnsupported 0 hp rfl rfl
  simp only [mgmtRefused]
  split
  · obtain ⟨st, ep, heq, -⟩ := State.report_eq (pushMgmt (popMgmt s p m) p m stUnsupported 0) (p / 4) K.STK_POSTED_FAIL 0 0
      (m.addr.toNat % 2 ^ 40)
    rw [heq]
    exact ⟨hpush.ingress, hpush.credits, hpush.response, hpush.others⟩
  · exact hpush

/-! ### Reports of kinds without a PAGE_ERR bit -/

/-- A report finds its place at an intake that kept no producer waiting (R453). -/
theorem mem_addWaiting (l : List Waiting) (w : Waiting) (h : ∀ x ∈ l, x.kept = false) : w ∈ addWaiting l w := by
  induction l with
  | nil => simp [addWaiting]
  | cons x l ih =>
    have hx : x.kept = false := h x (by simp)
    rw [addWaiting, if_neg (by simp [hx])]
    exact List.mem_cons_of_mem x (ih (fun y hy => h y (by simp [hy])))

/-- A kind without a PAGE_ERR bit is raised by its report (R453). -/
theorem raised_report (s : State) (k : Nat) (x : Kind) (i sub addr : Nat) (hk : k < s.stks.length) (hx : 24 ≤ x.bit) :
    Raised s (s.report k x i sub addr) k x i := by
  unfold Raised
  rw [if_neg (by omega)]
  intro hkept
  have hbit : decide (x.bit < 24) = false := by simp [hx]
  simp only [Reported, State.report, State.reportSev, hbit, Bool.not_false, Bool.false_and, if_true, Bool.false_eq_true, if_false]
  rw [State.modRg, State.stk_modStk_same s k _ hk]
  exact ⟨_, mem_addWaiting _ _ hkept, rfl⟩

/-! ### O21 -/

/-- In ACTIVE an access of a port wakes nothing (R392). -/
theorem wakeIdle_popMgmt (s : State) (p : Nat) (m : MgmtMsg) (h : s.mode = .active) : wakeIdle (popMgmt s p m) 5 = popMgmt s p m :=
  wakeIdle_of_ne_idle _ 5 (by rw [popMgmt, State.modPort_mode, h]; decide)

/-- A read at a port in ACTIVE: the message leaves ingress, the address is read, and the response follows (R75, R76, R127). -/
theorem exec_mgmtRead_of_read (s : State) (p : Nat) (m : MgmtMsg) (hm : s.nextMgmt p = some m) (hop : m.op = 0x80)
    (hrsvd : m.rsvd = false) (hrst : s.inReset (p / 4) = false) (hmode : s.mode = .active) :
    exec (.mgmtRead p) s = .next (
      let r := mgmtRd (popMgmt s p m) (.port p) m.maddr.toNat
      pushMgmt { r.2 with mgmtOut := (BitVec.ofNat 32 r.1.2, r.1.1) } p m r.1.1 r.1.2) := by
  change execMgmtRead p s = _
  rw [execMgmtRead, hm]
  simp [hop, hrsvd, hrst, wakeIdle_popMgmt s p m hmode]

theorem mgmtRead_answers (s : State) (p : Nat) (m : MgmtMsg) (hp : p < s.ports.length) (hm : s.nextMgmt p = some m)
    (hop : m.op = 0x80) (hrsvd : m.rsvd = false) (hrst : s.inReset (p / 4) = false) (hmode : s.mode = .active) :
    Runs (.mgmtRead p) s (fun t =>
      AnsweredMgmt s t p m (mgmtRd (popMgmt s p m) (.port p) m.maddr.toNat).1.1
        (mgmtRd (popMgmt s p m) (.port p) m.maddr.toNat).1.2 ∧
      t.dies = s.dies ∧ t.mode = s.mode) := by
  have hread := ReadFrame.mgmtRd (popMgmt s p m) (.port p) m.maddr.toNat
  refine ⟨_, exec_mgmtRead_of_read s p m hm hop hrsvd hrst hmode, ?_, ?_, ?_⟩
  · exact answeredMgmt_pushMgmt s _ p m _ _ hp (by rw [hread.state]) (hread.timer (p / 4))
  · simp only [pushMgmt, State.modPort_dies]
    rw [hread.state]
    rfl
  · simp only [pushMgmt, State.modPort_mode]
    rw [hread.state]
    rfl

theorem mgmtRead_refused (s : State) (p : Nat) (m : MgmtMsg) (hm : s.nextMgmt p = some m) (hop : m.op ≠ 0x81)
    (hbad : m.op ≠ 0x80 ∨ m.rsvd = true) (hrst : s.inReset (p / 4) = false) :
    exec (.mgmtRead p) s = .next (mgmtRefused s p m) := by
  change execMgmtRead p s = _
  rw [execMgmtRead, hm]
  simp [hop, hbad, hrst]

/-- Management reads (R75, R76, R107, R108). -/
theorem claims_mgmtRead : Claims.MgmtRead := by
  constructor
  · intro s p m hp hm hop hrsvd hrst hmode
    obtain ⟨t, ht, hans, hdies, hmode'⟩ := mgmtRead_answers s p m hp hm hop hrsvd hrst hmode
    refine ⟨t, ht, hans.ingress, hans.credits, hans.others, ?_, ?_, ?_, hdies, hmode'⟩
    · intro hnone
      rw [hans.response, mgmtRd_of_target_none (popMgmt s p m) _ _ hnone]
    · intro x hx hno
      rw [hans.response, mgmtRd_of_answers_false (popMgmt s p m) (.port p) _ x hx hno]
    · intro x hx hyes
      rw [hans.response, mgmtRd_of_answers (popMgmt s p m) (.port p) _ x hx hyes]
      rfl
  · intro s p m hp hm hop hbad hrst
    have hans := answeredMgmt_mgmtRefused s p m hp
    refine ⟨_, mgmtRead_refused s p m hm hop hbad hrst, hans.ingress, hans.credits, hans.response, hans.others, ?_, ?_⟩
    · intro hposted
      simp only [mgmtRefused, hposted, Bool.false_eq_true, if_false]
      rfl
    · intro hposted hk
      simp only [mgmtRefused, hposted, if_true]
      exact raised_report (pushMgmt (popMgmt s p m) p m stUnsupported 0) (p / 4) K.STK_POSTED_FAIL 0 0 _ hk (by decide)

/-- A write of a plain register at a port in ACTIVE: the message leaves ingress, the write is plain, the response follows (R127). -/
theorem exec_mgmtWrite_of_plainAt (s : State) (p : Nat) (m : MgmtMsg) {k i off : Nat} {pg : Page} (hm : s.nextMgmt p = some m)
    (hop : m.op = 0x81) (hrsvd : m.rsvd = false) (hrst : s.inReset (p / 4) = false) (hmode : s.mode = .active)
    (hw : Writable s (.port p) m.maddr k pg i off) (hplain : plainAt pg off = true) :
    exec (.mgmtWrite p) s = .next (pushMgmt { writePlain (popMgmt s p m) k pg i off m.wdata.toNat with mgmtOut := (0, stOk) }
      p m stOk 0) := by
  have hpop : Writable (popMgmt s p m) (.port p) m.maddr k pg i off := hw
  change execMgmtWrite p s = _
  rw [execMgmtWrite, hm]
  simp [hop, hrsvd, hrst, wakeIdle_popMgmt s p m hmode, mgmtWr_of_plainAt m.wdata.toNat (some (p, m)) hpop hplain, stOk, stHeld]

/-- Management writes of plain registers (R12). -/
theorem claims_mgmtWrite : Claims.MgmtWrite := by
  intro s p m k i off pg hshape hp hm hop hrsvd hrst hmode hw hplain
  obtain ⟨hkn, hpkg⟩ := hw.1.window
  have hk : k < s.stks.length := hshape.1 ▸ hkn
  have htm := tm_writePlain (popMgmt s p m) k (p / 4) pg i off m.wdata.toNat
  have hans := answeredMgmt_pushMgmt s { writePlain (popMgmt s p m) k pg i off m.wdata.toNat with mgmtOut := (0, stOk) } p m stOk 0
    hp rfl htm
  refine ⟨_, exec_mgmtWrite_of_plainAt s p m hm hop hrsvd hrst hmode hw hplain, hans.ingress, hans.credits, hans.response,
    hans.others, ?_, rfl, ?_, ?_⟩
  · exact fun b hb => testBit_raw_writePlain_same (popMgmt s p m) k pg i off m.wdata.toNat b hk hb
  · exact fun j hj => stk_writePlain_other (popMgmt s p m) k j pg i off m.wdata.toNat hj
  · exact regsOnly_writePlain (popMgmt s p m) k pg i off m.wdata.toNat hk hpkg

/-- Settles O21: a read changes no port, so that its message is answered as it was asked; a write is a plain write. -/
theorem management : Obligations.Management := ⟨claims_mgmtRead, claims_mgmtWrite⟩

end Sys2Proof.Machine
end

section
/-! PROOFS. PMBus (R12, R75, R88, R392, R395, R504, R505). -/

namespace Sys2Proof.Machine

/-! ### LINEAR11 -/

/-- A quotient rounded down, or up where it is not exact, is less than one unit away. -/
theorem natAbs_rounded_mul_sub_lt (x den : Int) (hden : 0 < den) (b : Nat) :
    ((if x / den * den = x then x / den else x / den + (b % 2 : Nat)) * den - x).natAbs < den.natAbs := by
  have hmod := Int.emod_add_mul_ediv x den
  have hlt := Int.emod_lt_of_pos x hden
  have hnonneg := Int.emod_nonneg x hden.ne'
  split
  next hexact => omega
  next hne =>
    have hb : b % 2 = 0 ∨ b % 2 = 1 := by omega
    rw [Int.mul_comm] at hne
    obtain hb | hb := hb
    · rw [hb, Nat.cast_zero, Int.add_zero, Int.mul_comm]
      omega
    · rw [hb, Nat.cast_one, Int.add_mul, Int.mul_comm]
      omega

/-- A LINEAR11 word stands for its quotient to within one unit of its mantissa. -/
theorem readsAs_linear11 (x : Int) (d free : Nat) (hd : 0 < d) : ReadsAs (linear11 x d free) x d := by
  have hden : (0 : Int) < (d * 2 ^ linExp x.natAbs d 31 0 : Nat) := by positivity
  have h := natAbs_rounded_mul_sub_lt (x * 2 ^ 16) _ hden free
  refine ⟨linExp x.natAbs d 31 0, _, ?_, h⟩
  simp [linear11]

/-! ### The largest of a list -/

/-- The largest of a list that is not empty is in it, and none is larger. -/
theorem maxOf_spec (l : List Int) (hl : l ≠ []) : maxOf l ∈ l ∧ ∀ x ∈ l, x ≤ maxOf l := by
  obtain ⟨a, l, rfl⟩ := List.exists_cons_of_ne_nil hl
  have hmax : (a :: l).max? = some (maxOf (a :: l)) := by
    rw [List.max?_cons']
    simp [maxOf]
  exact List.max?_eq_some_iff.mp hmax

/-- The largest value of a list that is not empty is the value of a member, and no member's is larger. -/
theorem exists_eq_maxOf_map {α : Type} (f : α → Int) (l : List α) (hl : l ≠ []) :
    (∃ x ∈ l, f x = maxOf (l.map f)) ∧ ∀ x ∈ l, f x ≤ maxOf (l.map f) := by
  obtain ⟨hmem, hle⟩ := maxOf_spec (l.map f) (by simpa using hl)
  exact ⟨List.mem_map.mp hmem, fun x hx => hle _ (List.mem_map_of_mem hx)⟩

/-- The aggregator's telemetry covers at least its own stack (R511). -/
theorem State.covered_ne_nil (s : State) (h : s.agg < s.n) : s.covered ≠ [] := by
  have hmem : s.stk s.agg ∈ s.covered :=
    List.mem_map_of_mem (List.mem_filter.mpr ⟨List.mem_range.mpr h, by simp [State.reach]⟩)
  exact List.ne_nil_of_mem hmem

/-! ### Transactions -/

/-- Outside IDLE an access over PMBus wakes nothing (R392). -/
theorem pmbusWake_of_ne_idle (s : State) (h : s.mode ≠ .idle) : pmbusWake s = s := wakeIdle_of_ne_idle s 5 h

/-- An access in IDLE asks for ACTIVE (R392). -/
theorem pmbusWake_of_idle (s : State) (h : s.mode = .idle) (hn : s.modeNext = none) :
    pmbusWake s = { s with wakeCause := 5, modeNext := some .active } := by
  simp [pmbusWake, wakeIdle, h, hn]

theorem State.inRetain_eq_false (s : State) (h : s.mode ≠ .retain) : s.inRetain = false := by
  simp [State.inRetain, h]

theorem State.inRetain_eq_true (s : State) (h : s.mode = .retain) : s.inRetain = true := by
  simp [State.inRetain, h]

/-- Docent answers outside RETAIN (R395). -/
theorem docentRead_of_up (s : State) (v : Nat) (hup : s.pmbusUp = true) (h : s.mode ≠ .retain) :
    docentRead s v = acked (pmbusWake s) v := by
  simp [docentRead, hup, s.inRetain_eq_false h]

/-- Docent does not answer where nobody is up, and not in RETAIN (R395). -/
theorem docentRead_of_not_up (s : State) (v : Nat) (h : s.pmbusUp = false ∨ s.mode = .retain) : docentRead s v = nack s := by
  obtain h | h := h
  · simp [docentRead, h]
  · simp [docentRead, s.inRetain_eq_true h]

theorem telemetryRead_of_not_up (s : State) (x : Int) (d : Nat) (hup : s.pmbusUp = false) : telemetryRead s x d = nack s := by
  simp [telemetryRead, hup]

/-- A telemetry read is answered alike by Docent and, in RETAIN, by the tile (R395, R505). -/
theorem telemetryRead_of_up (s : State) (x : Int) (d : Nat) (hup : s.pmbusUp = true) (h : s.mode ≠ .idle) :
    telemetryRead s x d = acked s.draw.2 (linear11 x d s.draw.1) := by
  have hwake : pmbusWake s.draw.2 = s.draw.2 := pmbusWake_of_ne_idle s.draw.2 h
  simp [telemetryRead, hup, hwake]

/-! ### Reads that Docent answers -/

/-- The commands that Docent answers with a value of its own (R505). -/
def docentReads (s : State) : List (Instr × Nat) :=
  [(.capability, 0xC0), (.statusWord, statusWord s), (.pmbusRevision, 0x33), (.mfrMgmtStatus, s.pmbus.mgmt)]

theorem exec_of_mem_docentReads (s : State) (c : Instr × Nat) (h : c ∈ docentReads s) : exec c.1 s = .next (docentRead s c.2) := by
  simp only [docentReads, List.mem_cons, List.not_mem_nil, or_false] at h
  obtain rfl | rfl | rfl | rfl := h <;> rfl

/-! ### Telemetry -/

/-- The commands that telemetry answers, each with the quotient it returns (R505). -/
def telemetryReads (s : State) : List (Instr × Int × Nat) :=
  [(.readVin, -(maxOf (s.covered.map (fun x => -(x.pw.vinMv : Int)))), 1000),
    (.readIin, (s.covered.map (fun x => (x.pw.iin : Int))).sum, 1000),
    (.readTemperature1, maxOf (s.covered.map (fun x => x.hottest.2)), 4),
    (.readTemperature2, maxOf (s.covered.map (fun x => x.th.lidUse)), 4),
    (.readPin, (s.covered.map (fun x => (x.pw.pin : Int))).sum, 10)]

theorem exec_of_mem_telemetryReads (s : State) (c : Instr) (x : Int) (d : Nat) (h : (c, x, d) ∈ telemetryReads s) :
    exec c s = .next (telemetryRead s x d) ∧ 0 < d := by
  simp only [telemetryReads, List.mem_cons, List.not_mem_nil, or_false, Prod.mk.injEq] at h
  obtain ⟨rfl, rfl, rfl⟩ | ⟨rfl, rfl, rfl⟩ | ⟨rfl, rfl, rfl⟩ | ⟨rfl, rfl, rfl⟩ | ⟨rfl, rfl, rfl⟩ := h <;>
    exact ⟨rfl, by decide⟩

/-- A telemetry read draws the rounding and holds the reading. -/
theorem runs_telemetryRead (s : State) (c : Instr) (x : Int) (d : Nat) (h : (c, x, d) ∈ telemetryReads s) (hup : s.pmbusUp = true)
    (hmode : s.mode ≠ .idle) : Runs c s (fun t => ReadsAs t.pmbus.out x d ∧ t.pmbus.ack = true ∧
      t = { s with free := s.free + 1, pmbus := { s.pmbus with ack := true, out := t.pmbus.out } }) := by
  obtain ⟨hexec, hd⟩ := exec_of_mem_telemetryReads s c x d h
  rw [telemetryRead_of_up s x d hup hmode] at hexec
  exact ⟨_, hexec, readsAs_linear11 x d _ hd, rfl, rfl⟩

/-- What a telemetry read returns stands for its quotient. -/
theorem runs_telemetryRead_readsAs {s : State} {c : Instr} {x : Int} {d : Nat} (h : (c, x, d) ∈ telemetryReads s)
    (hup : s.pmbusUp = true) (hmode : s.mode ≠ .idle) : Runs c s (fun t => ReadsAs t.pmbus.out x d) := by
  obtain ⟨t, hexec, hreads, -, -⟩ := runs_telemetryRead s c x d h hup hmode
  exact ⟨t, hexec, hreads⟩

/-- Every telemetry command is listed with its quotient. -/
theorem mem_telemetryReads (s : State) (c : Instr)
    (hc : c ∈ ([.readVin, .readIin, .readTemperature1, .readTemperature2, .readPin] : List Instr)) :
    ∃ x d, (c, x, d) ∈ telemetryReads s := by
  have hfst : c ∈ (telemetryReads s).map Prod.fst := hc
  obtain ⟨⟨c', x, d⟩, hmem, rfl⟩ := List.mem_map.mp hfst
  exact ⟨x, d, hmem⟩

/-- READ_VIN returns the lowest tile sample. -/
theorem runs_readVin (s : State) (hagg : s.agg < s.n) (hup : s.pmbusUp = true) (hmode : s.mode ≠ .idle) :
    Runs .readVin s (fun t => ∃ v, (∃ x ∈ s.covered, x.pw.vinMv = v) ∧ (∀ x ∈ s.covered, v ≤ x.pw.vinMv) ∧
      ReadsAs t.pmbus.out v 1000) := by
  obtain ⟨⟨x, hx, hmax⟩, hle⟩ := exists_eq_maxOf_map (fun x : Stack => -(x.pw.vinMv : Int)) s.covered (s.covered_ne_nil hagg)
  have hmem : (Instr.readVin, -(maxOf (s.covered.map (fun x => -(x.pw.vinMv : Int)))), 1000) ∈ telemetryReads s := by
    simp [telemetryReads]
  rw [← hmax, Int.neg_neg] at hmem
  obtain ⟨t, hexec, hreads⟩ := runs_telemetryRead_readsAs hmem hup hmode
  refine ⟨t, hexec, x.pw.vinMv, ⟨x, hx, rfl⟩, fun y hy => ?_, hreads⟩
  have := hle y hy
  omega

/-- A telemetry read of the largest value returns the value of a covered stack that none exceeds. -/
theorem runs_readMax (s : State) (c : Instr) (f : Stack → Int) (d : Nat) (hmem : (c, maxOf (s.covered.map f), d) ∈ telemetryReads s)
    (hagg : s.agg < s.n) (hup : s.pmbusUp = true) (hmode : s.mode ≠ .idle) :
    Runs c s (fun t => ∃ v, (∃ x ∈ s.covered, f x = v) ∧ (∀ x ∈ s.covered, f x ≤ v) ∧ ReadsAs t.pmbus.out v d) := by
  obtain ⟨hex, hle⟩ := exists_eq_maxOf_map f s.covered (s.covered_ne_nil hagg)
  obtain ⟨t, hexec, hreads⟩ := runs_telemetryRead_readsAs hmem hup hmode
  exact ⟨t, hexec, _, hex, hle, hreads⟩

/-! ### The claims about reads -/

/-- PMBus reads (R392, R395, R504, R505). -/
theorem claims_pmbusReads : Claims.PmbusReads := by
  refine ⟨?docent, ?telemetry, ?clearFaults, ?unsupported⟩
  case docent =>
    intro s c hc
    rw [exec_of_mem_docentReads s c hc]
    refine ⟨fun hup hidle hret => ?_, fun hup hidle hnext => ?_, fun hno => ?_⟩
    · rw [docentRead_of_up s c.2 hup hret, pmbusWake_of_ne_idle s hidle]
      rfl
    · rw [docentRead_of_up s c.2 hup (by rw [hidle]; decide), pmbusWake_of_idle s hidle hnext]
      rfl
    · rw [docentRead_of_not_up s c.2 hno]
      rfl
  case telemetry =>
    intro s hagg hmode
    refine ⟨fun c hc => ?_, fun hup => ⟨runs_readVin s hagg hup hmode, ?_, ?_, ?_, ?_⟩⟩
    · obtain ⟨x, d, hmem⟩ := mem_telemetryReads s c hc
      refine ⟨fun hno => ?_, fun hup => ?_⟩
      · rw [(exec_of_mem_telemetryReads s c x d hmem).1, telemetryRead_of_not_up s x d hno]
        rfl
      · obtain ⟨t, hexec, -, hack, ht⟩ := runs_telemetryRead s c x d hmem hup hmode
        exact ⟨t, hexec, hack, ht⟩
    · exact runs_telemetryRead_readsAs (by simp [telemetryReads]) hup hmode
    · exact runs_readMax s .readTemperature1 (fun x => x.hottest.2) 4 (by simp [telemetryReads]) hagg hup hmode
    · exact runs_readMax s .readTemperature2 (fun x => x.th.lidUse) 4 (by simp [telemetryReads]) hagg hup hmode
    · exact runs_telemetryRead_readsAs (by simp [telemetryReads]) hup hmode
  case clearFaults =>
    intro s hup hidle hret
    change execClearFaults s = _
    rw [execClearFaults]
    simp [hup, s.inRetain_eq_false hret, pmbusWake_of_ne_idle s hidle, acked]
  case unsupported =>
    intro s code
    change (_ → execPmbusUnsupported code s = _) ∧ (_ → _ → _ → execPmbusUnsupported code s = _)
    refine ⟨fun hlisted => ?_, fun hnot hup hidle => ?_⟩
    · rw [execPmbusUnsupported, if_pos hlisted]
    · rw [execPmbusUnsupported, if_neg (by rw [hnot]; decide), if_pos hup, pmbusWake_of_ne_idle s hidle, ite_self]
      rfl

/-! ### Management over PMBus -/

/-- A write at an address that leads nowhere is answered UNSUPPORTED (R75). -/
theorem mgmtWr_of_target_none (s : State) (src : Source) (a v : Nat) (msg : Option (Nat × MgmtMsg)) (h : s.target a = none) :
    mgmtWr s src a v msg = (stUnsupported, s) := by
  rw [mgmtWr, h]

/-- Outside IDLE and RETAIN a read of MFR_MGMT_DATA is a management read (R75, R88). -/
theorem exec_mfrMgmtDataRead (s : State) (hup : s.pmbusUp = true) (hidle : s.mode ≠ .idle) (hret : s.mode ≠ .retain) :
    exec .mfrMgmtDataRead s = .next (
      let r := mgmtRd s .pmbus s.pmbus.addr.toNat
      { r.2 with
        mgmtOut := (BitVec.ofNat 32 r.1.2, r.1.1)
        pmbus := { r.2.pmbus with ack := true, out := r.1.2, mgmt := mfrStatus r.1.1 } }) := by
  change execMfrMgmtDataRead s = _
  rw [execMfrMgmtDataRead]
  simp [hup, s.inRetain_eq_false hret, pmbusWake_of_ne_idle s hidle, acked]

/-- Outside IDLE and RETAIN a write of MFR_MGMT_DATA is a management write (R505). -/
theorem exec_mfrMgmtDataWrite (s : State) (v : Reg32) (hup : s.pmbusUp = true) (hidle : s.mode ≠ .idle) (hret : s.mode ≠ .retain) :
    exec (.mfrMgmtDataWrite v) s = .next (
      let r := mgmtWr s .pmbus s.pmbus.addr.toNat v.toNat none
      { r.2 with
        mgmtOut := (0, r.1)
        pmbus := { r.2.pmbus with ack := true, out := 0, mgmt := mfrStatus r.1 } }) := by
  change execMfrMgmtDataWrite v s = _
  rw [execMfrMgmtDataWrite]
  simp [hup, s.inRetain_eq_false hret, pmbusWake_of_ne_idle s hidle, acked]

/-! ### The mailbox in RETAIN -/

/-- No package page is Docent's, and a stack has one page of Docent's (R77, R78). -/
theorem State.target_doc (s : State) (a : Nat) (x : Target) (h : s.target a = some x) (hdoc : x.page = .doc) :
    x.win ≠ 0 ∧ x.inst = 0 := by
  have hpkg : ∀ n p, pkgPageAt n = some p → p.1 ≠ .doc := by
    intro n p hp
    unfold pkgPageAt at hp
    split_ifs at hp <;> cases hp <;> simp
  have hstk : ∀ n p, stkPageAt n = some p → p.1 = .doc → p.2 = 0 := by
    intro n p hp
    unfold stkPageAt at hp
    repeat (rw [ite_eq_iff] at hp; obtain ⟨-, hp⟩ | ⟨-, hp⟩ := hp; · (cases hp; simp))
    cases hp
  unfold State.target at h
  split at h
  · cases h
  · simp only at h
    split at h
    · rename_i p hpage
      cases h
      by_cases hw : a / 0x100000 = 0
      · rw [if_pos hw] at hpage
        exact absurd hdoc (hpkg _ p hpage)
      · rw [if_neg hw] at hpage
        exact ⟨hw, hstk _ p hpage hdoc⟩
    · cases h

theorem State.mailboxOf_of_leads (s : State) (a : Reg32) (k : Nat) (h : Leads s a (k + 1) .doc 0 0x120) :
    s.mailboxOf a.toNat = some k := by
  rw [State.mailboxOf, h]
  simp

theorem State.mailboxOf_eq_none (s : State) (a : Reg32) (h : ∀ k, ¬Leads s a (k + 1) .doc 0 0x120) :
    s.mailboxOf a.toNat = none := by
  unfold State.mailboxOf
  split
  next x hx =>
    rw [if_neg]
    rintro ⟨hdoc, hoff⟩
    obtain ⟨hwin, hinst⟩ := s.target_doc _ x hx hdoc
    refine h (x.win - 1) ?_
    rw [Leads, hx, Nat.sub_add_cancel (by omega), ← hdoc, ← hinst, ← hoff]
  next => rfl

/-- A change of each stack that leaves its stored registers. -/
theorem regs_forStacks_modStk (s : State) (f : State → Stack → Stack) (hf : ∀ s x, (f s x).regs = x.regs) :
    forStacks s (fun s k => s.modStk k (f s)) = { s with stks := (forStacks s (fun s k => s.modStk k (f s))).stks } ∧
    ∀ j, ((forStacks s (fun s k => s.modStk k (f s))).stk j).regs = (s.stk j).regs := by
  unfold forStacks forN
  induction List.range s.n generalizing s with
  | nil => exact ⟨rfl, fun _ => rfl⟩
  | cons k l ih =>
    obtain ⟨hstate, hregs⟩ := ih (s.modStk k (f s))
    exact ⟨hstate, fun j => (hregs j).trans (State.stk_modStk_proj Stack.regs (hf s) s k j)⟩

/-- Leaving RETAIN changes the mode and the cause, and of the stacks their power and clocks (R395). -/
theorem startRetainExit_spec (s : State) (cause : WakeCause) :
    startRetainExit s cause = { s with
      stks := (startRetainExit s cause).stks
      mode := .leavingRetain
      wakeCause := WakeCause.code cause
      wakeInEntry := none } ∧
    ∀ j, ((startRetainExit s cause).stk j).regs = (s.stk j).regs :=
  regs_forStacks_modStk { s with mode := .leavingRetain, wakeCause := WakeCause.code cause, wakeInEntry := none }
    (fun s x => { x with
      pw := { x.pw with tileMode := 0, railMv := x.pw.railMv.set 0 (levelMv s.runLevel) }
      clk := { x.clk with corePll := 1, fixPll := 1 } }) (fun _ _ => rfl)

/-- In RETAIN a mailbox write over PMBus wakes the package (R395). -/
theorem writeMboxIn_pmbus_of_retain (s : State) (k v : Nat) (h : s.mode = .retain) :
    writeMboxIn s .pmbus k v = startRetainExit (s.setFld k 0 F.DOC_MBOX_IN_DATA v) .mailbox := by
  have hmode : (s.setFld k 0 F.DOC_MBOX_IN_DATA v).mode = .retain := h
  rw [writeMboxIn, if_pos rfl, wakeRetain, if_neg (by decide), if_pos (by rw [hmode]; rfl)]

/-- The word of a mailbox write that wakes the package is in the mailbox. -/
theorem fld_writeMboxIn_pmbus_of_retain (s : State) (k v : Nat) (h : s.mode = .retain) (hk : k < s.stks.length) (hv : v < 2 ^ 32) :
    (writeMboxIn s .pmbus k v).fld k 0 F.DOC_MBOX_IN_DATA = v := by
  obtain ⟨hstate, hregs⟩ := startRetainExit_spec (s.setFld k 0 F.DOC_MBOX_IN_DATA v) .mailbox
  have hpart := congrArg State.part hstate
  rw [writeMboxIn_pmbus_of_retain s k v h]
  have hraw : (startRetainExit (s.setFld k 0 F.DOC_MBOX_IN_DATA v) .mailbox).raw k .doc 0 0x120 =
      (s.setFld k 0 F.DOC_MBOX_IN_DATA v).raw k .doc 0 0x120 := by
    unfold State.raw
    rw [hpart]
    simp only [show Page.isPkg .doc = false from rfl, Bool.false_eq_true, if_false, hregs k]
  calc _ = (s.setFld k 0 F.DOC_MBOX_IN_DATA v).fld k 0 F.DOC_MBOX_IN_DATA := congrArg (bits · 31 0) hraw
    _ = v % 2 ^ 32 := State.fld_setFld_same s k 0 F.DOC_MBOX_IN_DATA v hk (by decide) (by decide)
    _ = v := Nat.mod_eq_of_lt hv

/-- In RETAIN a write of MFR_MGMT_DATA at a mailbox is acknowledged (R395, R505). -/
theorem exec_mfrMgmtDataWrite_of_mailbox (s : State) (v : Reg32) (k : Nat) (hup : s.pmbusUp = true) (hret : s.mode = .retain)
    (hbox : s.mailboxOf s.pmbus.addr.toNat = some k) :
    exec (.mfrMgmtDataWrite v) s = .next { writeMboxIn s .pmbus k v.toNat with
      pmbus := { (writeMboxIn s .pmbus k v.toNat).pmbus with ack := true, out := 0, mgmt := 0 } } := by
  change execMfrMgmtDataWrite v s = _
  rw [execMfrMgmtDataWrite]
  simp [hup, s.inRetain_eq_true hret, hbox, acked]

/-- In RETAIN any other write of MFR_MGMT_DATA is not acknowledged (R395, R505). -/
theorem exec_mfrMgmtDataWrite_of_no_mailbox (s : State) (v : Reg32) (hup : s.pmbusUp = true) (hret : s.mode = .retain)
    (hbox : s.mailboxOf s.pmbus.addr.toNat = none) :
    exec (.mfrMgmtDataWrite v) s = .next { s with pmbus := { s.pmbus with ack := false } } := by
  change execMfrMgmtDataWrite v s = _
  rw [execMfrMgmtDataWrite]
  simp [hup, s.inRetain_eq_true hret, hbox, nack]

/-! ### O59 -/

/-- Management over PMBus (R12, R75, R88, R395, R505). -/
theorem claims_pmbusManagement : Claims.PmbusManagement := by
  refine ⟨?addr, ?data, ?plain, ?retain⟩
  case addr =>
    intro s v hup hidle
    change execMfrMgmtAddr v s = _
    rw [execMfrMgmtAddr, if_pos hup, pmbusWake_of_ne_idle s hidle]
    rfl
  case data =>
    intro s hup hidle hret
    have haddr : (mgmtRd s .pmbus s.pmbus.addr.toNat).2.pmbus.addr = s.pmbus.addr := by
      rw [(ReadFrame.mgmtRd s .pmbus s.pmbus.addr.toNat).state]
    refine ⟨⟨_, exec_mfrMgmtDataRead s hup hidle hret, rfl, rfl, rfl, haddr, fun hnone => ?_⟩, fun hnone v => ?_⟩
    · rw [mgmtRd_of_target_none s .pmbus _ hnone]
      rfl
    · refine ⟨_, exec_mfrMgmtDataWrite s v hup hidle hret, ?_⟩
      rw [mgmtWr_of_target_none s .pmbus _ _ none hnone]
      exact ⟨rfl, rfl, rfl⟩
  case plain =>
    intro s v k i off pg hshape hup hidle hret hw hplain
    obtain ⟨hkn, hpkg⟩ := hw.1.window
    have hk : k < s.stks.length := hshape.1 ▸ hkn
    refine ⟨_, exec_mfrMgmtDataWrite s v hup hidle hret, ?_⟩
    rw [mgmtWr_of_plainAt v.toNat none hw hplain]
    refine ⟨?_, rfl, ?_, ?_⟩
    · exact fun b hb => testBit_raw_writePlain_same s k pg i off v.toNat b hk hb
    · exact fun j hj => stk_writePlain_other s k j pg i off v.toNat hj
    · exact regsOnly_writePlain s k pg i off v.toNat hk hpkg
  case retain =>
    intro s v hshape hup hret
    refine ⟨?_, fun k hk hlead => ?_, fun hno => ?_⟩
    · change execMfrMgmtDataRead s = _
      rw [execMfrMgmtDataRead]
      simp [s.inRetain_eq_true hret, nack]
    · have hstate := (startRetainExit_spec (s.setFld k 0 F.DOC_MBOX_IN_DATA v.toNat) .mailbox).1
      rw [← writeMboxIn_pmbus_of_retain s k v.toNat hret] at hstate
      exact ⟨_, exec_mfrMgmtDataWrite_of_mailbox s v k hup hret (s.mailboxOf_of_leads _ k hlead), rfl, rfl,
        congrArg State.mode hstate, congrArg State.wakeCause hstate,
        fld_writeMboxIn_pmbus_of_retain s k v.toNat hret (hshape.1 ▸ hk) v.isLt⟩
    · exact exec_mfrMgmtDataWrite_of_no_mailbox s v hup hret (s.mailboxOf_eq_none _ hno)

/-- Settles O59: each command is answered by Docent, by telemetry or by the management access that it names. -/
theorem pmbus : Obligations.Pmbus := ⟨claims_pmbusReads, claims_pmbusManagement⟩

end Sys2Proof.Machine
end

section
/-! PROOFS. Rules of the operations that the request path, the ring and the modes share: frames of changed stacks, counting, reports,
and responses that enter RSP egress. -/

namespace Sys2Proof.Machine

/-! ### Changes of stacks -/

/-- t is s but for the stacks, and R holds between each stack before and after. -/
structure StksFrame (R : Nat → Stack → Stack → Prop) (s t : State) : Prop where
  state : t = { s with stks := t.stks }
  length : t.stks.length = s.stks.length
  stack : ∀ j, R j (s.stk j) (t.stk j)

namespace StksFrame

variable {R : Nat → Stack → Stack → Prop} {s t u : State}

theorem refl (hR : ∀ j x, R j x x) (s : State) : StksFrame R s s := ⟨rfl, rfl, fun j => hR j _⟩

theorem trans (hR : ∀ j x y z, R j x y → R j y z → R j x z) (h : StksFrame R s t) (g : StksFrame R t u) : StksFrame R s u where
  state := by rw [g.state, h.state]
  length := g.length.trans h.length
  stack j := hR j _ _ _ (h.stack j) (g.stack j)

theorem mono {Q : Nat → Stack → Stack → Prop} (hRQ : ∀ j x y, R j x y → Q j x y) (h : StksFrame R s t) : StksFrame Q s t :=
  ⟨h.state, h.length, fun j => hRQ j _ _ (h.stack j)⟩

/-- The change of one stack. -/
theorem modStk (hR : ∀ j x, R j x x) (s : State) (k : Nat) (f : Stack → Stack) (hf : ∀ x, R k x (f x)) :
    StksFrame R s (s.modStk k f) where
  state := rfl
  length := length_modify' s.stks k f
  stack j := by
    by_cases hj : j = k
    · subst hj
      exact State.stk_modStk_rel (hR j) hf s j j
    · rw [State.stk_modStk_other s k j f hj]
      exact hR j _

/-- A loop of such changes. -/
theorem foldl {α : Type} (hR : ∀ j x, R j x x) (hT : ∀ j x y z, R j x y → R j y z → R j x z) (f : State → α → State)
    (hf : ∀ s a, StksFrame R s (f s a)) (l : List α) (s : State) : StksFrame R s (l.foldl f s) := by
  induction l generalizing s with
  | nil => exact refl hR s
  | cons a l ih => exact (hf s a).trans hT (ih (f s a))

variable (h : StksFrame R s t)
include h

theorem prt (p : Nat) : t.prt p = s.prt p := by rw [h.state]; rfl

theorem part : t.part = s.part := by rw [h.state]

end StksFrame

/-- Of the stacks at most stack k changed, and there R holds. -/
def AtStk (k : Nat) (R : Stack → Stack → Prop) (j : Nat) (x y : Stack) : Prop := R x y ∧ (j ≠ k → y = x)

theorem StksFrame.onlyStk {k : Nat} {R : Stack → Stack → Prop} {s t : State} (h : StksFrame (AtStk k R) s t) : OnlyStk k s t :=
  ⟨h.state, fun j hj => (h.stack j).2 hj⟩

theorem OnlyStk.trans {k : Nat} {s t u : State} (h : OnlyStk k s t) (g : OnlyStk k t u) : OnlyStk k s u :=
  ⟨by rw [g.1, h.1], fun j hj => (g.2 j hj).trans (h.2 j hj)⟩

theorem onlyStk_modStk (s : State) (k : Nat) (f : Stack → Stack) : OnlyStk k s (s.modStk k f) :=
  ⟨rfl, fun j hj => State.stk_modStk_other s k j f hj⟩

/-- A register depends on the stored registers of its stack alone. -/
theorem State.raw_congr {s t : State} {k : Nat} (hpart : t.part = s.part) (hregs : (t.stk k).regs = (s.stk k).regs)
    (hpkg : (t.stk k).pkgRegs = (s.stk k).pkgRegs) (pg : Page) (i off : Nat) : t.raw k pg i off = s.raw k pg i off := by
  rw [State.raw, State.raw, hpart, hregs, hpkg]

/-! ### Counters of a stack's window -/

/-- Of a stack only the counters of its window changed. -/
def CntOnly (x y : Stack) : Prop := y = { x with cnt := y.cnt }

/-- t is s but for counters of stack k's window. -/
abbrev CountFrame (k : Nat) (s t : State) : Prop := StksFrame (AtStk k CntOnly) s t

namespace CountFrame

theorem refl (k : Nat) (s : State) : CountFrame k s s := StksFrame.refl (fun _ _ => ⟨rfl, fun _ => rfl⟩) s

theorem trans {k : Nat} {s t u : State} (h : CountFrame k s t) (g : CountFrame k t u) : CountFrame k s u :=
  StksFrame.trans (fun _ x y z hxy hyz => ⟨by rw [CntOnly, hyz.1, hxy.1], fun hj => (hyz.2 hj).trans (hxy.2 hj)⟩) h g

theorem count (s : State) (k : Nat) (pg : Page) (i c n : Nat) (hp : pg.isPkg = false) : CountFrame k s (s.count k pg i c n) := by
  unfold State.count
  split
  · exact refl k s
  · simp only [State.setCnt, hp, Bool.false_eq_true, if_false]
    exact StksFrame.modStk (fun _ _ => ⟨rfl, fun _ => rfl⟩) s k _ (fun _ => ⟨rfl, fun hk => absurd rfl hk⟩)

theorem ringTx (s : State) (k j : Nat) : CountFrame k s (s.ringTx k j) := by
  unfold State.ringTx
  split
  · exact refl k s
  · exact count s k .stk 0 2 1 rfl

variable {k : Nat} {s t : State} (h : CountFrame k s t)
include h

theorem stk (j : Nat) : t.stk j = { s.stk j with cnt := (t.stk j).cnt } := (h.stack j).1

theorem raw (j : Nat) (pg : Page) (i off : Nat) : t.raw j pg i off = s.raw j pg i off :=
  State.raw_congr h.part (by rw [h.stk j]) (by rw [h.stk j]) pg i off

theorem frozen (j : Nat) (pg : Page) (i : Nat) : t.frozen j pg i = s.frozen j pg i := by
  rw [State.frozen, State.frozen, h.raw]

end CountFrame

/-! ### Reports -/

/-- The first part of a report: the PAGE_ERR bit of its kind sets, or waits to be sent to every copy (R84, R510). -/
def State.markErr (s : State) (k : Nat) (x : Kind) (i : Nat) : State :=
  if !decide (x.bit < 24) then s
  else if x.page.isPkg then { s with errPend := s.errPend ++ [(k, x.page.index i, x.bit)] }
  else s.setRaw k x.page i 0x10 (putBits (s.raw k x.page i 0x10) x.bit x.bit 1)

/-- A report marks its PAGE_ERR bit and then, unless its mask keeps it, waits at the intake (R84, R453). -/
theorem State.report_cases (s : State) (k : Nat) (x : Kind) (i sub addr : Nat) :
    s.report k x i sub addr = s.markErr k x i ∨
    ∃ w : Waiting, s.report k x i sub addr = (s.markErr k x i).modRg k (fun r => { r with waiting := addWaiting r.waiting w }) := by
  unfold State.report State.reportSev
  dsimp only
  split
  · exact .inl rfl
  · exact .inr ⟨_, rfl⟩

theorem State.markErr_of_no_bit (s : State) (k : Nat) (x : Kind) (i : Nat) (hx : 24 ≤ x.bit) : s.markErr k x i = s := by
  rw [State.markErr, if_pos (by simp [hx])]

theorem State.markErr_of_isPkg (s : State) (k : Nat) (x : Kind) (i : Nat) (hx : x.bit < 24) (hp : x.page.isPkg = true) :
    s.markErr k x i = { s with errPend := s.errPend ++ [(k, x.page.index i, x.bit)] } := by
  rw [State.markErr, if_neg (by simp [hx]), if_pos hp]

theorem State.markErr_of_stack_page (s : State) (k : Nat) (x : Kind) (i : Nat) (hx : x.bit < 24) (hp : x.page.isPkg = false) :
    s.markErr k x i = s.setRaw k x.page i 0x10 (putBits (s.raw k x.page i 0x10) x.bit x.bit 1) := by
  rw [State.markErr, if_neg (by simp [hx]), if_neg (by simp [hp])]

/-- Of a stack only its Registrar changed. -/
def RgOnly (x y : Stack) : Prop := y = { x with rg := y.rg }

/-- A report waiting at an intake changes the Registrar of its stack. -/
theorem stksFrame_modRg (s : State) (k : Nat) (f : Registrar → Registrar) : StksFrame (AtStk k RgOnly) s (s.modRg k f) :=
  StksFrame.modStk (fun _ _ => ⟨rfl, fun _ => rfl⟩) s k _ (fun _ => ⟨rfl, fun hk => absurd rfl hk⟩)

/-- A report of a kind without a PAGE_ERR bit changes the Registrar of its stack (R453). -/
theorem stksFrame_report (s : State) (k : Nat) (x : Kind) (i sub addr : Nat) (hx : 24 ≤ x.bit) :
    StksFrame (AtStk k RgOnly) s (s.report k x i sub addr) := by
  obtain h | ⟨w, h⟩ := s.report_cases k x i sub addr
  · rw [h, s.markErr_of_no_bit k x i hx]
    exact StksFrame.refl (fun _ _ => ⟨rfl, fun _ => rfl⟩) s
  · rw [h, s.markErr_of_no_bit k x i hx]
    exact stksFrame_modRg s k _

/-- The mark of a report changes the registers of its stack at most. -/
theorem stk_markErr (s : State) (k : Nat) (x : Kind) (i j : Nat) : AtStk k RegsOnly j (s.stk j) ((s.markErr k x i).stk j) := by
  unfold State.markErr
  split_ifs with hbit hpkg
  · exact ⟨rfl, fun _ => rfl⟩
  · exact ⟨rfl, fun _ => rfl⟩
  · exact ⟨State.stk_modStk_rel (R := RegsOnly) (fun _ => rfl) (fun _ => by simp [RegsOnly, hpkg]) s k j,
      State.stk_modStk_other s k j _⟩

/-- A report leaves of a stack all but its stored registers and its Registrar, and the other stacks whole. -/
theorem stk_report (s : State) (k : Nat) (x : Kind) (i sub addr j : Nat) :
    AtStk k RegsRgOnly j (s.stk j) ((s.report k x i sub addr).stk j) := by
  obtain ⟨hregs, hother⟩ := stk_markErr s k x i j
  obtain h | ⟨w, h⟩ := s.report_cases k x i sub addr
  · rw [h]
    exact ⟨by rw [RegsRgOnly, hregs], hother⟩
  · obtain ⟨hrg, hrgOther⟩ := (stksFrame_modRg (s.markErr k x i) k (fun r => { r with waiting := addWaiting r.waiting w })).stack j
    rw [h]
    exact ⟨by rw [RegsRgOnly, hrg, hregs], fun hj => (hrgOther hj).trans (hother hj)⟩

/-- A report on a stack's own page changes stacks only. -/
theorem report_of_stack_page (s : State) (k : Nat) (x : Kind) (i sub addr : Nat) (hp : x.page.isPkg = false) :
    s.report k x i sub addr = { s with stks := (s.report k x i sub addr).stks } := by
  have hmark : s.markErr k x i = { s with stks := (s.markErr k x i).stks } := by
    rw [State.markErr, hp]
    split <;> rfl
  obtain h | ⟨w, h⟩ := s.report_cases k x i sub addr
  · rw [h, hmark]
  · rw [h, hmark]
    rfl

/-- A bit that is set reads as set. -/
theorem testBit_putBits_one (n b : Nat) : (putBits n b b 1).testBit b = true := by
  have h := bits_putBits_same n b b 1 (by omega)
  have hw : b + 1 - b = 1 := by omega
  rw [bits, hw, Nat.shiftRight_eq_div_pow] at h
  rw [Nat.testBit_eq_decide_div_mod_eq]
  simpa using h

/-- A bit of a stored register that is set reads as set. -/
theorem testBit_raw_setRaw_one (s : State) (k : Nat) (pg : Page) (i off n b : Nat) (hk : k < s.stks.length) (hb : b < 32) :
    ((s.setRaw k pg i off (putBits n b b 1)).raw k pg i off).testBit b = true := by
  rw [State.raw_setRaw_same s k pg i off _ hk, Nat.testBit_mod_two_pow, testBit_putBits_one]
  simpa using hb

/-- A change of the Registrar leaves every register. -/
theorem raw_modRg (s : State) (k j : Nat) (f : Registrar → Registrar) (pg : Page) (i off : Nat) :
    (s.modRg k f).raw j pg i off = s.raw j pg i off := by
  have hframe := stksFrame_modRg s k f
  obtain ⟨hrg, -⟩ := hframe.stack j
  exact State.raw_congr hframe.part (by rw [hrg]) (by rw [hrg]) pg i off

/-- A report leaves every register but PAGE_ERR of its page. -/
theorem raw_report_other (s : State) (k j : Nat) (x : Kind) (i sub addr : Nat) (pg : Page) (i' off : Nat)
    (h : j ≠ k ∨ x.page.isPkg ≠ pg.isPkg ∨ regKey pg i' off ≠ regKey x.page i 0x10) :
    (s.report k x i sub addr).raw j pg i' off = s.raw j pg i' off := by
  have hmark : (s.markErr k x i).raw j pg i' off = s.raw j pg i' off := by
    unfold State.markErr
    split_ifs
    · rfl
    · rfl
    · exact State.raw_setRaw_other s k j x.page pg i i' 0x10 off _ h
  obtain hr | ⟨w, hr⟩ := s.report_cases k x i sub addr
  · rw [hr, hmark]
  · rw [hr, raw_modRg, hmark]

/-- A kind with a bit on a package page is raised by its report: the bit waits to be sent (R510). -/
theorem raised_report_of_isPkg (s : State) (k : Nat) (x : Kind) (i sub addr : Nat) (hx : x.bit < 24) (hp : x.page.isPkg = true) :
    Raised s (s.report k x i sub addr) k x i := by
  have hmark := s.markErr_of_isPkg k x i hx hp
  rw [Raised, if_pos hx, if_pos hp]
  obtain h | ⟨w, h⟩ := s.report_cases k x i sub addr
  · rw [h, hmark]
    exact List.mem_append_right _ (List.mem_singleton_self _)
  · rw [h, hmark]
    exact List.mem_append_right _ (List.mem_singleton_self _)

/-- A kind with a bit on a page of its stack is raised by its report: the bit is set (R84). -/
theorem raised_report_of_stack_page (s : State) (k : Nat) (x : Kind) (i sub addr : Nat) (hk : k < s.stks.length) (hx : x.bit < 24)
    (hp : x.page.isPkg = false) : Raised s (s.report k x i sub addr) k x i := by
  have hmark := s.markErr_of_stack_page k x i hx hp
  have hset := testBit_raw_setRaw_one s k x.page i 0x10 (s.raw k x.page i 0x10) x.bit hk (by omega)
  rw [Raised, if_pos hx, if_neg (by simp [hp])]
  obtain h | ⟨w, h⟩ := s.report_cases k x i sub addr
  · rw [h, hmark, hset]
  · rw [h, raw_modRg, hmark, hset]

/-- What is raised after a change that leaves the intake of the stack is raised since before it. -/
theorem Raised.of_rg_eq {s u t : State} {k i : Nat} {x : Kind} (h : Raised u t k x i) (hrg : (u.stk k).rg = (s.stk k).rg) :
    Raised s t k x i := by
  unfold Raised at h ⊢
  rwa [← hrg]

/-! ### Changes of ports -/

/-- Changes that agree on the port they are made to. -/
theorem State.modPort_congr (s : State) (p : Nat) (f g : Port → Port) (h : f (s.prt p) = g (s.prt p)) :
    s.modPort p f = s.modPort p g := by
  have hports : s.ports.modify p f = s.ports.modify p g := by
    apply List.ext_getElem?
    intro i
    rw [List.getElem?_modify, List.getElem?_modify]
    by_cases hi : p = i
    · subst hi
      by_cases hp : p < s.ports.length
      · have hprt : s.prt p = s.ports[p] := by simp [State.prt, hp]
        simp [hp, ← hprt, h]
      · simp [hp]
    · simp [hi]
  rw [State.modPort, State.modPort, hports]

/-- A relation that the change of a port keeps, and that every port has to itself, holds between each port before and after. -/
theorem State.prt_modPort_rel {R : Port → Port → Prop} {f : Port → Port} (hrefl : ∀ x, R x x) (hf : ∀ x, R x (f x)) (s : State)
    (p q : Nat) : R (s.prt q) ((s.modPort p f).prt q) := by
  by_cases hq : q = p
  · subst hq
    by_cases hp : q < s.ports.length
    · rw [State.prt_modPort_same s q f hp]
      exact hf _
    · rw [State.modPort, List.modify_eq_self (by omega)]
      exact hrefl _
  · rw [State.prt_modPort_other s p q f hq]
    exact hrefl _

/-! ### Responses that enter RSP egress -/

/-- A response at the end of RSP egress of its port. -/
def State.addRsp (s : State) (r : Resp) : State := s.modPort r.port (fun x => { x with rspOut := x.rspOut ++ [r] })

theorem State.addRsp_eq (s : State) (r : Resp) : s.addRsp r = { s with ports := (s.addRsp r).ports } := rfl

theorem State.prt_addRsp_same (s : State) (r : Resp) (p : Nat) (hp : p < s.ports.length) (hr : r.port = p) :
    (s.addRsp r).prt p = { s.prt p with rspOut := (s.prt p).rspOut ++ [r] } := by
  subst hr
  exact State.prt_modPort_same s r.port _ hp

theorem State.prt_addRsp_other (s : State) (r : Resp) (q : Nat) (hq : q ≠ r.port) : (s.addRsp r).prt q = s.prt q :=
  State.prt_modPort_other s r.port q _ hq

@[simp] theorem State.stk_addRsp (s : State) (r : Resp) (k : Nat) : (s.addRsp r).stk k = s.stk k := rfl

/-- A response that finds room, of a request from after the last link reset, enters RSP egress (R133). -/
theorem pushRsp_of_room (s : State) (r : Resp) (hroom : s.rspRoom r.port r.slots = true) (hdrop : (s.prt r.port).dropBelow ≤ r.rid) :
    pushRsp s r = s.addRsp r := by
  refine State.modPort_congr s r.port _ _ ?_
  simp [hroom, Nat.not_lt.mpr hdrop]

/-- An acknowledged request ends at its arrival port where RSP egress has room (R107). -/
theorem endAtPort_of_room (s : State) (r : Req) (st : Nat) (hack : isPosted r.op = false) (hroom : s.rspRoom r.port 1 = true)
    (hdrop : (s.prt r.port).dropBelow ≤ r.rid) : endAtPort s r st = some (s.addRsp (respTo r st (s.frame (r.port / 4)))) := by
  have hpush := pushRsp_of_room s (respTo r st (s.frame (r.port / 4))) hroom hdrop
  simp [endAtPort, hroom, hack, hpush]

/-- An acknowledged request that a serving stack ends crosses the ring to its arrival port (R20, R140). -/
theorem endFrom_of_room (s : State) (k : Nat) (r : Req) (st : Nat) (hack : isPosted r.op = false)
    (hreach : s.reach k (r.port / 4) = true) (hring : r.port / 4 = k ∨ s.ringOn = true) (hlive : r.rid ∉ s.timedOut)
    (hroom : s.rspRoom r.port 1 = true) (hdrop : (s.prt r.port).dropBelow ≤ r.rid) : endFrom s k r st =
      some ((s.addRsp (respTo r st (s.frame (r.port / 4)))).ringTx k (r.port / 4)) := by
  have hcross : (k != r.port / 4 && !s.ringOn) = false := by
    obtain h | h := hring
    · simp [h]
    · simp [h]
  simp [endFrom, hreach, hcross, hlive, endAtPort_of_room s r st hack hroom hdrop]

/-- What a response that a stack sends over the ring changes: RSP egress of its port, and RING_TX of the stack. -/
theorem rspOut_ringTx_addRsp (s : State) (r : Resp) (k j p : Nat) (hp : p < s.ports.length) (hr : r.port = p) :
    (((s.addRsp r).ringTx k j).prt p).rspOut = (s.prt p).rspOut ++ [r] := by
  rw [(CountFrame.ringTx (s.addRsp r) k j).prt, s.prt_addRsp_same r p hp hr]

/-- Which stacks the ring joins depends on its links alone (R511). -/
theorem State.reach_congr {s t : State} (hn : t.n = s.n)
    (hlink : ∀ j, (t.stk j).upFailed = (s.stk j).upFailed ∧ (t.stk j).downFailed = (s.stk j).downFailed) : t.reach = s.reach := by
  have hok : t.linkOk = s.linkOk := by
    funext l
    rw [State.linkOk, State.linkOk, (hlink l).1, (hlink _).2, hn]
  funext a b
  rw [State.reach, State.reach, hok, hn]

end Sys2Proof.Machine
end

section
/-! PROOFS. Admission (R23, R24, R139, R140, R143, R144, R248). -/
namespace Sys2Proof.Machine

/-! ### Arrival at the serving stack -/

/-- The state without a request on its way. -/
def State.offRing (s : State) (rid : Nat) : State := { s with transit := s.transit.filter (fun q => q.rid != rid) }

/-- The ring brings a request that no other precedes: into the queue, or to its end (R24, R139). -/
theorem exec_admissionQueueEntry (s : State) (k rid : Nat) (r : Req)
    (hfind : s.transit.find? (fun r => r.rid == rid && r.home == k) = some r) (hring : r.port / 4 = k ∨ s.ringOn = true)
    (hfirst : s.ringBehind r = false) : exec (.admissionQueueEntry k rid) s = .next (
      if s.unreach k then (endFrom (s.offRing rid) k r stStackReset).getD s
      else if s.inMaint k then ((endFrom (s.offRing rid) k r stAdmitHold).map (fun s => s.count k .stk 0 1 1)).getD s
      else (s.offRing rid).modStk k (fun x => { x with admQ := x.admQ ++ [r] })) := by
  have hcross : (r.port / 4 != k && !s.ringOn) = false := by
    obtain h | h := hring
    · simp [h]
    · simp [h]
  change execAdmissionQueueEntry k rid s = _
  rw [execAdmissionQueueEntry, hfind]
  simp only [hcross, hfirst, Bool.or_false, Bool.false_eq_true, if_false]
  rfl

/-- A request behind another on its ring path does not arrive (R23). -/
theorem exec_admissionQueueEntry_of_behind (s : State) (k rid : Nat) (r : Req)
    (hfind : s.transit.find? (fun r => r.rid == rid && r.home == k) = some r) (hbehind : s.ringBehind r = true) :
    exec (.admissionQueueEntry k rid) s = .next s := by
  change execAdmissionQueueEntry k rid s = _
  rw [execAdmissionQueueEntry, hfind]
  simp [hbehind]

/-- Stack k ends an acknowledged request that the ring brings: its response crosses the ring to its arrival port (R20). -/
theorem endFrom_offRing (s : State) (k rid : Nat) (r : Req) (st : Nat) (hring : r.port / 4 = k ∨ s.ringOn = true)
    (hack : isPosted r.op = false) (hroom : s.rspRoom r.port 1 = true) (hdrop : (s.prt r.port).dropBelow ≤ r.rid)
    (hreach : s.reach k (r.port / 4) = true) (hlive : r.rid ∉ s.timedOut) :
    endFrom (s.offRing rid) k r st = some (((s.offRing rid).addRsp (respTo r st (s.frame (r.port / 4)))).ringTx k (r.port / 4)) :=
  endFrom_of_room (s.offRing rid) k r st hack hreach hring hlive hroom hdrop

/-! ### The order of the queue with one request -/

/-- A class that waits alone is served, whatever its weight (R158). -/
theorem wrrOpen_singleton (wt : Nat → Nat) (served : SMap Nat) (c : Nat) : wrrOpen wt served [c] = [c] := by
  by_cases hw : wt c = 0
  · simp [wrrOpen, hw]
  · by_cases hs : mget served c 0 < wt c
    · simp [wrrOpen, wrrLeft, hw, hs]
    · simp [wrrOpen, wrrLeft, hw, hs]

/-- No request goes before itself (R138, R143). -/
theorem beforeTable_irrefl (r : Req) : beforeTable r r = false := by
  simp [beforeTable, before]

/-- A request that waits alone is next (R143). -/
theorem frontier_singleton (wt : Nat → Nat) (served : SMap Nat) (r : Req) : frontier wt served beforeTable [r] = [r] := by
  have hturn : r.turns = false ∨ r.cls ∈ wrrOpen wt served (turnClasses [r]) := by
    cases ht : r.turns
    · exact .inl rfl
    · simp [turnClasses, ht, wrrOpen_singleton]
  simpa [frontier, beforeTable_irrefl] using hturn

/-! ### Power-down -/

/-- Of a stack only the power-down of pseudo-channels changed. -/
structure PowerOnly (x y : Stack) : Prop where
  stack : y = { x with chans := y.chans }
  chan : ∀ c, y.ch c = { x.ch c with pcs := (y.ch c).pcs }
  pchan : ∀ c i, (y.ch c).pc i = { (x.ch c).pc i with powerDown := ((y.ch c).pc i).powerDown }

theorem PowerOnly.refl (x : Stack) : PowerOnly x x := ⟨rfl, fun _ => rfl, fun _ _ => rfl⟩

theorem getD_modify_rel {α : Type} {R : α → α → Prop} {f : α → α} (hrefl : ∀ x, R x x) (hf : ∀ x, R x (f x)) (l : List α)
    (i j : Nat) (d : α) : R (l.getD j d) ((l.modify i f).getD j d) := by
  by_cases hj : j = i
  · subst hj
    by_cases hl : j < l.length
    · rw [getD_modify_same l j f d hl]
      exact hf _
    · rw [List.modify_eq_self (by omega)]
      exact hrefl _
  · rw [getD_modify_other l i j f d hj]
    exact hrefl _

/-- What R says of each pseudo-channel holds after the change of one. -/
theorem pc_modPc_rel {R : PChan → PChan → Prop} {f : PChan → PChan} (hrefl : ∀ x, R x x) (hf : ∀ x, R x (f x)) (x : Stack)
    (c i d j : Nat) : R ((x.ch d).pc j) (((x.modCh c (·.modPc i f)).ch d).pc j) :=
  getD_modify_rel (R := fun y z => R (y.pc j) (z.pc j)) (fun _ => hrefl _) (fun y => getD_modify_rel hrefl hf y.pcs i j _)
    x.chans c d _

theorem powerOnly_wakePc (s : State) (x : Stack) (c i : Nat) : PowerOnly x (x.modCh c (·.modPc i s.wakePc)) where
  stack := rfl
  chan d := getD_modify_rel (R := fun y z : Chan => z = { y with pcs := z.pcs }) (f := (·.modPc i s.wakePc)) (fun _ => rfl)
    (fun _ => rfl) x.chans c d Chan.reset
  pchan d j := pc_modPc_rel (R := fun y z => z = { y with powerDown := z.powerDown }) (fun _ => rfl) (fun _ => rfl) x c i d j

/-- The changed pseudo-channel. -/
theorem State.pcOf_modPc_same (s : State) (k c i : Nat) (f : PChan → PChan) (hk : k < s.stks.length)
    (hc : c < (s.stk k).chans.length) (hi : i < ((s.stk k).ch c).pcs.length) : (s.modPc k c i f).pcOf k c i = f (s.pcOf k c i) := by
  have hch : ((s.modPc k c i f).stk k).ch c = ((s.stk k).ch c).modPc i f := by
    rw [State.modPc, State.modCh, State.stk_modStk_same s k _ hk]
    exact getD_modify_same _ _ _ _ hc
  rw [State.pcOf, hch]
  exact getD_modify_same _ _ _ _ hi

/-- The pseudo-channel whose bank takes a request leaves power-down (R248). -/
def State.wokenFor (s : State) (k : Nat) (r : Req) : State :=
  if isDesc r.op || r.op == 0x09 || !s.bankBound k r then s else s.modPc k (s.locOf k r.off).ch (s.locOf k r.off).pc s.wakePc

theorem stksFrame_wokenFor (s : State) (k : Nat) (r : Req) : StksFrame (AtStk k PowerOnly) s (s.wokenFor k r) := by
  have hrefl : ∀ j x, AtStk k PowerOnly j x x := fun _ x => ⟨.refl x, fun _ => rfl⟩
  unfold State.wokenFor
  split
  · exact StksFrame.refl hrefl s
  · exact StksFrame.modStk hrefl s k _ (fun x => ⟨powerOnly_wakePc s x _ _, fun hk => absurd rfl hk⟩)

/-- A request that moves words of a bank wakes its pseudo-channel outside IDLE (R248). -/
theorem powerDown_wokenFor (s : State) (k : Nat) (r : Req) (hmode : s.mode ≠ .idle) (hdesc : isDesc r.op = false)
    (hzero : r.op ≠ 0x09) (hbank : s.bankBound k r = true) (hk : k < s.stks.length)
    (hc : (s.locOf k r.off).ch < (s.stk k).chans.length)
    (hi : (s.locOf k r.off).pc < ((s.stk k).ch (s.locOf k r.off).ch).pcs.length) :
    ((s.wokenFor k r).pcOf k (s.locOf k r.off).ch (s.locOf k r.off).pc).powerDown = false := by
  rw [State.wokenFor, if_neg (by simp [hdesc, hzero, hbank]), State.pcOf_modPc_same s k _ _ _ hk hc hi]
  simp [State.wakePc, hmode]

/-! ### Allocation -/

/-- The entry of a request that has just been admitted (R140). -/
def newEntry (r : Req) : Entry :=
  { req := r, inRes := !isDesc r.op, done := none, rzDone := [], rzSkip := 0, gth := none, seen := 0 }

/-- The stack after request r has moved from its queue to its table (R140). -/
def Stack.allocated (x : Stack) (r : Req) (wrr : SMap Nat) : Stack :=
  { x with admQ := x.admQ.filter (fun q => q.rid != r.rid), table := x.table ++ [newEntry r], wrr := wrr }

/-- The state after request r, alone in its queue, has moved to the table, but for the counter. -/
def State.allocate (s : State) (k : Nat) (r : Req) : State :=
  (s.wokenFor k r).modStk k (fun x => x.allocated r (roundAfter (s.weight k) x.wrr [r] r))

/-- The only request of a queue, where it is admissible, takes an entry of the table (R140, R143). -/
theorem exec_requestTableAllocate (s : State) (k : Nat) (r : Req) (hq : (s.stk k).admQ = [r]) (hadm : (s.stk k).admits r = true)
    (hserving : s.serving = true) (hup : s.unreach k = false) (hmaint : s.inMaint k = false) :
    exec (.requestTableAllocate k) s = .next ((s.allocate k r).count k .stk 0 0 1) := by
  have hmay : (s.stk k).admQ.filter (s.stk k).admits = [r] := by simp [hq, hadm]
  change execRequestTableAllocate k s = _
  rw [execRequestTableAllocate]
  simp only [hserving, hup, hmaint, hmay, frontier_singleton]
  rfl

/-- A queue without an admissible request allocates nothing (R140). -/
theorem exec_requestTableAllocate_of_none (s : State) (k : Nat) (h : ∀ r ∈ (s.stk k).admQ, (s.stk k).admits r = false) :
    exec (.requestTableAllocate k) s = .next s := by
  have hmay : (s.stk k).admQ.filter (s.stk k).admits = [] := by simpa using h
  change execRequestTableAllocate k s = _
  rw [execRequestTableAllocate]
  simp [hmay, frontier]

/-- What a request that moves from the queue to the table changes in its stack (R140, R248). -/
structure Allocation (x y : Stack) (r : Req) : Prop where
  queue : y.admQ = x.admQ.filter (fun q => q.rid != r.rid)
  table : y.table = x.table ++ [newEntry r]
  stack : y = { x with admQ := y.admQ, table := y.table, chans := y.chans, wrr := y.wrr, cnt := y.cnt }
  chan : ∀ c, y.ch c = { x.ch c with pcs := (y.ch c).pcs }
  pchan : ∀ c i, (y.ch c).pc i = { (x.ch c).pc i with powerDown := ((y.ch c).pc i).powerDown }

section
variable (s : State) (k : Nat) (r : Req)

theorem onlyStk_allocate : OnlyStk k s (s.allocate k r) :=
  (stksFrame_wokenFor s k r).onlyStk.trans (onlyStk_modStk (s.wokenFor k r) k _)

theorem length_stks_allocate : (s.allocate k r).stks.length = s.stks.length :=
  (length_modify' _ k _).trans (stksFrame_wokenFor s k r).length

variable (hk : k < s.stks.length)
include hk

theorem stk_allocate : (s.allocate k r).stk k =
    ((s.wokenFor k r).stk k).allocated r (roundAfter (s.weight k) ((s.wokenFor k r).stk k).wrr [r] r) :=
  State.stk_modStk_same (s.wokenFor k r) k _ ((stksFrame_wokenFor s k r).length ▸ hk)

/-- An allocation with its counter. -/
theorem allocation_allocate : Allocation (s.stk k) (((s.allocate k r).count k .stk 0 0 1).stk k) r := by
  obtain ⟨⟨hstack, hchan, hpchan⟩, -⟩ := (stksFrame_wokenFor s k r).stack k
  rw [(CountFrame.count (s.allocate k r) k .stk 0 0 1 rfl).stk k, stk_allocate s k r hk]
  exact ⟨by rw [hstack]; rfl, by rw [hstack]; rfl, by rw [hstack]; rfl, hchan, hpchan⟩

theorem pcOf_allocate (c i : Nat) : ((s.allocate k r).count k .stk 0 0 1).pcOf k c i = (s.wokenFor k r).pcOf k c i := by
  rw [State.pcOf, (CountFrame.count (s.allocate k r) k .stk 0 0 1 rfl).stk k, stk_allocate s k r hk]
  rfl

/-- Each allocation is counted (R140). -/
theorem cntVal_allocate (hf : s.frozen k .stk 0 = false) : ((s.allocate k r).count k .stk 0 0 1).cntVal k .stk 0 0 =
    satAdd cntMax (s.cntVal k .stk 0 0) 1 := by
  obtain ⟨⟨hstack, -, -⟩, -⟩ := (stksFrame_wokenFor s k r).stack k
  have hstk := stk_allocate s k r hk
  rw [hstack] at hstk
  have hraw : (s.allocate k r).raw k .stk 0 8 = s.raw k .stk 0 8 :=
    State.raw_congr (t := s.allocate k r) (stksFrame_wokenFor s k r).part (by rw [hstk]; rfl) (by rw [hstk]; rfl) .stk 0 8
  have hcnt : (s.allocate k r).cntVal k .stk 0 0 = s.cntVal k .stk 0 0 := by
    rw [State.cntVal, hstk]
    rfl
  rw [State.cntVal_count_same _ k .stk 0 0 1 (length_stks_allocate s k r ▸ hk) (by rw [State.frozen, hraw]; exact hf), hcnt]

end

/-! ### Requests that end with ADMIT_HOLD -/

/-- The state after stack k has answered an acknowledged request with ADMIT_HOLD, and counted it (R144). -/
def State.answerHold (s : State) (k : Nat) (r : Req) : State :=
  ((s.addRsp (respTo r stAdmitHold (s.frame (r.port / 4)))).ringTx k (r.port / 4)).count k .stk 0 1 1

section
variable (s : State) (k : Nat) (r : Req)

theorem countFrame_answerHold : CountFrame k (s.addRsp (respTo r stAdmitHold (s.frame (r.port / 4)))) (s.answerHold k r) :=
  (CountFrame.ringTx _ k _).trans (CountFrame.count _ k .stk 0 1 1 rfl)

theorem rspOut_answerHold (hp : r.port < s.ports.length) : ((s.answerHold k r).prt r.port).rspOut =
    (s.prt r.port).rspOut ++ [respTo r stAdmitHold (s.frame (r.port / 4))] := by
  rw [(countFrame_answerHold s k r).prt, State.prt_addRsp_same s _ r.port hp rfl]

theorem cntVal_answerHold (hk : k < s.stks.length) (hf : s.frozen k .stk 0 = false) :
    (s.answerHold k r).cntVal k .stk 0 1 = satAdd cntMax (s.cntVal k .stk 0 1) 1 := by
  have hmsg := CountFrame.ringTx (s.addRsp (respTo r stAdmitHold (s.frame (r.port / 4)))) k (r.port / 4)
  rw [State.answerHold, State.cntVal_count_same _ k .stk 0 1 1 (hmsg.length ▸ hk) ((hmsg.frozen k .stk 0).trans hf),
    cntVal_ringTx_other _ k _ k .stk 0 1 (.inr (.inr (by decide)))]
  rfl

end

/-- The state without a request of a queue. -/
def State.unqueued (s : State) (k rid : Nat) : State :=
  s.modStk k (fun x => { x with admQ := x.admQ.filter (fun q => q.rid != rid) })

/-- Of a stack only the admission queue changed. -/
def AdmQOnly (x y : Stack) : Prop := y = { x with admQ := y.admQ }

theorem stksFrame_unqueued (s : State) (k rid : Nat) : StksFrame (AtStk k AdmQOnly) s (s.unqueued k rid) :=
  StksFrame.modStk (fun _ _ => ⟨rfl, fun _ => rfl⟩) s k _ (fun _ => ⟨rfl, fun hk => absurd rfl hk⟩)

theorem frame_unqueued (s : State) (k rid j : Nat) : (s.unqueued k rid).frame j = s.frame j := by
  rw [State.frame, ((stksFrame_unqueued s k rid).stack j).1]
  rfl

/-- An acknowledged request that has waited 2,048 frames in its queue ends with ADMIT_HOLD, counted and reported (R144). -/
theorem exec_admitTimeout (s : State) (k rid : Nat) (r : Req) (hfind : (s.stk k).admQ.find? (fun r => r.rid == rid) = some r)
    (hwait : 2048 ≤ r.admWait) (hring : r.port / 4 = k ∨ s.ringOn = true) (hack : isPosted r.op = false)
    (hroom : s.rspRoom r.port 1 = true) (hdrop : (s.prt r.port).dropBelow ≤ r.rid) (hreach : s.reach k (r.port / 4) = true)
    (hlive : r.rid ∉ s.timedOut) : exec (.admitTimeout k rid) s =
      .next (((s.unqueued k rid).answerHold k r).report k K.STK_ADMIT_TIMEOUT 0 0 r.off) := by
  have hqueue := stksFrame_unqueued s k rid
  have hreach' : (s.unqueued k rid).reach = s.reach :=
    State.reach_congr rfl (fun j => by rw [(hqueue.stack j).1]; exact ⟨rfl, rfl⟩)
  have hend := endFrom_of_room (s.unqueued k rid) k r stAdmitHold hack (by rw [hreach', hreach]) hring hlive hroom hdrop
  change execAdmitTimeout k rid s = _
  rw [execAdmitTimeout, hfind]
  simp only [Nat.not_lt.mpr hwait, if_false]
  rw [State.unqueued] at hend
  rw [hend]
  rfl

/-- Settles O24: each way into and out of the admission queue is one rule of the sections above. -/
theorem admission : Obligations.Admission := by
  unfold Obligations.Admission
  refine ⟨?arrive, ?behind, ?allocate, ?idle, ?timeout⟩
  case behind => exact fun s k rid r hfind hbehind => exec_admissionQueueEntry_of_behind s k rid r hfind hbehind
  case arrive =>
    intro s k rid r hshape hkn hfind hring hfirst
    have hk : k < s.stks.length := hshape.1 ▸ hkn
    have hexec := exec_admissionQueueEntry s k rid r hfind hring hfirst
    refine ⟨fun hup hmaint => ?_, fun hack hp hroom hdrop hreach hlive => ⟨fun hdown => ?_, fun hup hmaint => ?_⟩⟩
    · simp only [hup, hmaint, Bool.false_eq_true, if_false] at hexec
      exact ⟨_, hexec, rfl, State.stk_modStk_same _ k _ hk, fun j hj => State.stk_modStk_other _ k j _ hj⟩
    · simp only [hdown, if_true, endFrom_offRing s k rid r _ hring hack hroom hdrop hreach hlive, Option.getD_some] at hexec
      have hframe := CountFrame.ringTx ((s.offRing rid).addRsp (respTo r stStackReset (s.frame (r.port / 4)))) k
        (r.port / 4)
      exact ⟨_, hexec, rspOut_ringTx_addRsp _ _ k _ r.port hp rfl, by rw [hframe.state]; rfl, hframe.stk⟩
    · simp only [hup, hmaint, Bool.false_eq_true, if_false, if_true, endFrom_offRing s k rid r _ hring hack hroom hdrop hreach hlive,
        Option.map_some, Option.getD_some] at hexec
      exact ⟨_, hexec, rspOut_answerHold (s.offRing rid) k r hp, cntVal_answerHold (s.offRing rid) k r hk⟩
  case allocate =>
    intro s k r hshape hkn hq hadm hserving hup hmaint
    have hk : k < s.stks.length := hshape.1 ▸ hkn
    have halloc := allocation_allocate s k r hk
    refine ⟨_, exec_requestTableAllocate s k r hq hadm hserving hup hmaint, ?_, ⟨newEntry r, halloc.table, rfl, rfl, rfl⟩,
      cntVal_allocate s k r hk, (onlyStk_allocate s k r).trans (CountFrame.count _ k .stk 0 0 1 rfl).onlyStk, halloc.stack,
      halloc.chan, fun c i => ⟨halloc.pchan c i, ?_⟩⟩
    · rw [halloc.queue, hq]
      simp
    · rintro hmode hdesc hzero hbank rfl rfl ⟨⟨-, hc⟩, hi⟩
      rw [pcOf_allocate s k r hk]
      exact powerDown_wokenFor s k r hmode hdesc hzero hbank hk hc hi
  case idle => exact fun s k h => exec_requestTableAllocate_of_none s k h
  case timeout =>
    intro s k rid r hshape hkn hfind hwait hack hp hroom hdrop hreach hring hlive
    have hk : k < s.stks.length := hshape.1 ▸ hkn
    have hqueue := stksFrame_unqueued s k rid
    have hans := countFrame_answerHold (s.unqueued k rid) k r
    have hreport := stksFrame_report ((s.unqueued k rid).answerHold k r) k K.STK_ADMIT_TIMEOUT 0 0 r.off (by decide)
    have hlen : k < ((s.unqueued k rid).answerHold k r).stks.length := hans.length.trans hqueue.length ▸ hk
    refine ⟨_, exec_admitTimeout s k rid r hfind hwait hring hack hroom hdrop hreach hlive, ?_, ?_,
      (raised_report _ k K.STK_ADMIT_TIMEOUT 0 0 _ hlen (by decide)).of_rg_eq ?_, ?_⟩
    · rw [hreport.prt, rspOut_answerHold (s.unqueued k rid) k r hp, frame_unqueued]
      rfl
    · rw [(hreport.stack k).1, hans.stk k, State.stk_addRsp, State.unqueued, State.stk_modStk_same s k _ hk]
    · rw [hans.stk k, State.stk_addRsp, (hqueue.stack k).1]
    · rw [hreport.state, hans.state]
      rfl

end Sys2Proof.Machine
end

section
/-! PROOFS. What happens to the head of a context that leaves ingress (R19, R107, R136, R138, R159, R366). -/

namespace Sys2Proof.Machine

/-! ### What leaving changes in a port -/

/-- Of a port only its ingress, credits, turns and buckets changed. -/
def LeaveOnly (x y : Port) : Prop :=
  y = { x with
    ingress := y.ingress
    ctxCred := y.ctxCred
    lcrdOut := y.lcrdOut
    wrr := y.wrr
    rrCtx := y.rrCtx
    buckets := y.buckets }

/-- Request r has left the ingress of port p, in a state that is otherwise s but for what leaving takes and returns. -/
structure HasLeft (s t : State) (p : Nat) (r : Req) : Prop where
  only : OnlyPort p s t
  length : t.ports.length = s.ports.length
  port : LeaveOnly (s.prt p) (t.prt p)
  ingress : (t.prt p).ingress = (s.prt p).ingress.filter (fun q => q.rid != r.rid)

theorem onlyPort_modPort (s : State) (p : Nat) (f : Port → Port) : OnlyPort p s (s.modPort p f) :=
  ⟨rfl, fun q hq => State.prt_modPort_other s p q f hq⟩

theorem OnlyPort.trans {p : Nat} {s t u : State} (h : OnlyPort p s t) (g : OnlyPort p t u) : OnlyPort p s u :=
  ⟨by rw [g.1, h.1], fun q hq => (g.2 q hq).trans (h.2 q hq)⟩

/-- The turns and the bucket after a head has left (R138, R159). -/
def State.passed (s : State) (p : Nat) (r : Req) : State := (passTurn s p r).spend p r

/-- Of a port only its turns and buckets changed. -/
def TurnOnly (x y : Port) : Prop := y = { x with wrr := y.wrr, rrCtx := y.rrCtx, buckets := y.buckets }

/-- t is s but for the turns and buckets of port p. -/
structure TurnFrame (p : Nat) (s t : State) : Prop where
  only : OnlyPort p s t
  length : t.ports.length = s.ports.length
  port : TurnOnly (s.prt p) (t.prt p)

theorem TurnFrame.modPort (s : State) (p : Nat) (f : Port → Port) (hf : ∀ x, TurnOnly x (f x)) : TurnFrame p s (s.modPort p f) :=
  ⟨onlyPort_modPort s p f, List.length_modify _ _ _, State.prt_modPort_rel (R := TurnOnly) (fun _ => rfl) hf s p p⟩

theorem TurnFrame.trans {p : Nat} {s t u : State} (h : TurnFrame p s t) (g : TurnFrame p t u) : TurnFrame p s u :=
  ⟨h.only.trans g.only, g.length.trans h.length, by rw [TurnOnly, g.port, h.port]⟩

theorem TurnFrame.refl (p : Nat) (s : State) : TurnFrame p s s := ⟨⟨rfl, fun _ _ => rfl⟩, rfl, rfl⟩

theorem turnFrame_passed (s : State) (p : Nat) (r : Req) : TurnFrame p s (s.passed p r) := by
  have hpass : TurnFrame p s (passTurn s p r) := TurnFrame.modPort s p _ (fun x => by split <;> rfl)
  refine hpass.trans ?_
  rw [State.passed, State.spend]
  split
  · exact TurnFrame.refl p _
  · exact TurnFrame.modPort _ p _ (fun _ => rfl)

/-- A request leaves the ingress of its port, with or without a turn before (R131, R134). -/
theorem TurnFrame.leaveIngress {p : Nat} {s t : State} (h : TurnFrame p s t) (r : Req) (hp : p < s.ports.length) :
    HasLeft s (leaveIngress t p r) p r := by
  have hprt : (Machine.leaveIngress t p r).prt p = _ := State.prt_modPort_same t p _ (h.length ▸ hp)
  refine ⟨h.only.trans (onlyPort_modPort t p _), (List.length_modify _ _ _).trans h.length, ?_, ?_⟩
  · rw [hprt, LeaveOnly, h.port]
  · rw [hprt, h.port]

/-! ### Requests that end at their port -/

/-- Request r has left the ingress of port p, and is answered there with a status. -/
structure EndedAt (s t : State) (p : Nat) (r : Req) (st : Nat) : Prop where
  response : (t.prt p).rspOut = (s.prt p).rspOut ++ [respTo r st (s.frame (p / 4))]
  ingress : (t.prt p).ingress = (s.prt p).ingress.filter (fun q => q.rid != r.rid)
  only : OnlyPort p s t

/-- A request that ends where RSP egress has room is answered (R107). -/
theorem TurnFrame.endedAt {p : Nat} {s t : State} (h : TurnFrame p s t) (r : Req) (st : Nat) (hp : p < s.ports.length)
    (hport : r.port = p) (hack : isPosted r.op = false) (hroom : s.rspRoom p 1 = true) (hdrop : (s.prt p).dropBelow ≤ r.rid) :
    EndedAt s (leaveWith t p r st) p r st := by
  obtain ⟨honly, hlen, hleft, hing⟩ := h.leaveIngress r hp
  subst hport
  have hroom' : (Machine.leaveIngress t r.port r).rspRoom r.port 1 = true := by
    rw [State.rspRoom, hleft]
    exact hroom
  have hframe : (Machine.leaveIngress t r.port r).frame (r.port / 4) = s.frame (r.port / 4) := by
    rw [State.frame, honly.1]
    rfl
  have hend := endAtPort_of_room (Machine.leaveIngress t r.port r) r st hack hroom' (by rw [hleft]; exact hdrop)
  have hsame := State.prt_addRsp_same (Machine.leaveIngress t r.port r) (respTo r st (s.frame (r.port / 4))) r.port (hlen ▸ hp) rfl
  rw [hframe] at hend
  rw [leaveWith, hend]
  refine ⟨?_, ?_, honly.trans (onlyPort_modPort _ _ _)⟩
  · rw [hsame, hleft]
  · rw [hsame, hing]

/-- A count on a package page changes the package's counters. -/
theorem State.count_of_isPkg (s : State) (k : Nat) (pg : Page) (i c n : Nat) (hp : pg.isPkg = true) :
    s.count k pg i c n = { s with pkgCnt := (s.count k pg i c n).pkgCnt } := by
  unfold State.count
  split
  · rfl
  · simp [State.setCnt, hp]

/-! ### Release -/

/-- The head that may leave is released (R136, R138). -/
theorem exec_ingressRelease (s : State) (p ctx : Nat) (r : Req) (hhead : (s.prt p).head ctx = some r) (hmode : s.mode = .active)
    (hrst : s.inReset (p / 4) = false) (hleave : s.canLeave p r = true) (hturn : r.formOk = false ∨ s.isTurn p r = true) :
    exec (.ingressRelease p ctx) s = .next (release s p r) := by
  have hgo : (!r.formOk || s.isTurn p r) = true := by
    obtain h | h := hturn <;> simp [h]
  change execIngressRelease p ctx s = _
  rw [execIngressRelease, hhead]
  simp [hmode, hrst, hleave, hgo]

/-- A head that ends at its port leaves only where RSP egress has room (R136). -/
theorem rspRoom_of_canLeave (s : State) (p : Nat) (r : Req) (hleave : s.canLeave p r = true)
    (hend : r.formOk = false ∨ s.routeOf r = .noEntry) : s.rspRoom p 1 = true := by
  simp only [State.canLeave, Bool.and_eq_true] at hleave
  obtain ⟨-, hroom⟩ := hleave
  obtain h | h := hend
  · simpa [h] using hroom
  · split at hroom
    · exact hroom
    · simp only [h, Bool.and_eq_true] at hroom
      exact hroom.2

theorem release_of_malformed (s : State) (p : Nat) (r : Req) (h : r.formOk = false) :
    release s p r = leaveWith s p r stUnsupported := by
  simp [release, h]

theorem release_of_noEntry (s : State) (p : Nat) (r : Req) (hform : r.formOk = true) (hhalt : s.halt = none)
    (hroute : s.routeOf r = .noEntry) : release s p r =
      ((leaveWith (s.passed p r) p r stNoRoute).count (p / 4) .rte 0 2 1).report (p / 4) K.RTE_NO_ENTRY 0 0 r.addr.toNat := by
  have hkind : K.RTE_NO_ENTRY ≠ K.RTE_UPDOWN := by decide
  simp [release, hform, hhalt, hroute, noRoute, hkind, State.passed]

/-- The state after a request to its own package has left ingress for its serving stack, but for the cost on the ring (R19). -/
def State.underway (s : State) (p : Nat) (r : Req) (home : Nat) : State :=
  { leaveIngress (s.passed p r) p r with transit := (leaveIngress (s.passed p r) p r).transit ++ [{ r with home := home }] }

/-- A request to a backed offset of a stack that serves goes on its way to it (R19, R136). -/
theorem release_of_localPkg (s : State) (p : Nat) (r : Req) (hform : r.formOk = true) (hhalt : s.halt = none)
    (hroute : s.routeOf r = .localPkg) (hback : s.reqBacked r = true) (hup : s.unreach (s.locOf (p / 4) r.off).stack = false)
    (hreach : s.reach (p / 4) (s.locOf (p / 4) r.off).stack = true) : release s p r =
      (s.underway p r (s.locOf (p / 4) r.off).stack).ringTx (p / 4) (s.locOf (p / 4) r.off).stack := by
  simp [release, hform, hhalt, hroute, hback, hup, hreach, State.passed, State.underway]

/-- Settles O23: `release` takes one branch for each clause, and both end in `leaveIngress` or `endAtPort`. -/
theorem ingressRelease : Obligations.IngressRelease := by
  intro s p ctx r hshape hp hhead hport hhalt hmode hrst hleave hdrop hack
  refine ⟨fun hform => ?malformed, fun hform hturn => ⟨fun hroute => ?noEntry, fun hroute hback hup hreach => ?own⟩⟩
  case malformed =>
    have hroom := rspRoom_of_canLeave s p r hleave (.inl hform)
    have hend := (TurnFrame.refl p s).endedAt r stUnsupported hp hport hack hroom hdrop
    refine ⟨_, exec_ingressRelease s p ctx r hhead hmode hrst hleave (.inl hform), ?_⟩
    rw [release_of_malformed s p r hform]
    exact ⟨hend.response, hend.ingress, by rw [hend.only.1], hend.only⟩
  case noEntry =>
    have hroom := rspRoom_of_canLeave s p r hleave (.inr hroute)
    have hend := (turnFrame_passed s p r).endedAt r stNoRoute hp hport hack hroom hdrop
    refine ⟨_, exec_ingressRelease s p ctx r hhead hmode hrst hleave (.inr hturn), ?_⟩
    rw [release_of_noEntry s p r hform hhalt hroute]
    have hcount := (leaveWith (s.passed p r) p r stNoRoute).count_of_isPkg (p / 4) .rte 0 2 1 rfl
    have hraised := raised_report_of_isPkg ((leaveWith (s.passed p r) p r stNoRoute).count (p / 4) .rte 0 2 1) (p / 4)
      K.RTE_NO_ENTRY 0 0 r.addr.toNat (by decide) rfl
    obtain ⟨st, ep, hreport, -⟩ := ((leaveWith (s.passed p r) p r stNoRoute).count (p / 4) .rte 0 2 1).report_eq (p / 4)
      K.RTE_NO_ENTRY 0 0 r.addr.toNat
    refine ⟨?_, ?_, ?_, hraised.of_rg_eq ?_⟩
    · rw [hreport, hcount]
      exact hend.response
    · rw [hreport, hcount]
      exact hend.ingress
    · rw [hreport, hcount, hend.only.1]
    · rw [hcount, hend.only.1]
      rfl
  case own =>
    have hleft := (turnFrame_passed s p r).leaveIngress r hp
    refine ⟨_, exec_ingressRelease s p ctx r hhead hmode hrst hleave (.inr hturn), ?_⟩
    rw [release_of_localPkg s p r hform hhalt hroute hback hup hreach]
    have hmsg := CountFrame.ringTx (s.underway p r (s.locOf (p / 4) r.off).stack) (p / 4) (s.locOf (p / 4) r.off).stack
    have hprt : ∀ q, (s.underway p r (s.locOf (p / 4) r.off).stack).prt q = (leaveIngress (s.passed p r) p r).prt q := fun _ => rfl
    have hway : s.underway p r (s.locOf (p / 4) r.off).stack = { s with
        ports := (leaveIngress (s.passed p r) p r).ports
        transit := s.transit ++ [{ r with home := (s.locOf (p / 4) r.off).stack }] } := by
      rw [State.underway, hleft.only.1]
    refine ⟨?_, ?_, ?_, fun q hq => ?_, ?_, fun j => ?_⟩
    · rw [hmsg.state, hway]
    · rw [hmsg.prt, hprt, hleft.ingress]
    · rw [hmsg.prt, hprt, hleft.port]
    · rw [hmsg.prt, hprt, hleft.only.2 q hq]
    · rw [hmsg.state, hway]
    · have hstk : (s.underway p r (s.locOf (p / 4) r.off).stack).stk j = s.stk j := by
        rw [hway]
        rfl
      rw [hmsg.stk j, hstk]

end Sys2Proof.Machine
end

section
/-! PROOFS. Ageing, responses that leave a serving stack, late responses and the response stall (R20, R117, R119, R133, R140, R142,
R147, R511). -/

namespace Sys2Proof.Machine

/-! ### Ageing -/

/-- What REQUEST_AGED does to a request is what `Req.agedBy` says (R142). -/
theorem ite_aged_eq_agedBy (rid : Nat) (r : Req) :
    (if r.rid = rid ∧ 64 ≤ r.wait then { r with aged := true } else r) = Req.agedBy rid r := by
  have hcond : (r.rid == rid && decide (64 ≤ r.wait)) = decide (r.rid = rid ∧ 64 ≤ r.wait) := (Bool.decide_and _ _).symm
  rw [Req.agedBy, hcond]
  by_cases h : r.rid = rid ∧ 64 ≤ r.wait
  · rw [if_pos h, decide_eq_true h, Bool.or_true]
  · rw [if_neg h, decide_eq_false h, Bool.or_false]

/-- The state after REQUEST_AGED. -/
def State.agedBy (s : State) (rid : Nat) : State :=
  { s with
    transit := s.transit.map (Req.agedBy rid)
    ports := s.ports.map (fun p => { p with ingress := p.ingress.map (Req.agedBy rid) })
    stks := s.stks.map (fun x => { x with
      admQ := x.admQ.map (Req.agedBy rid)
      table := x.table.map (fun e => { e with req := Req.agedBy rid e.req }) }) }

theorem exec_requestAged (s : State) (rid : Nat) : exec (.requestAged rid) s = .next (s.agedBy rid) := by
  change execRequestAged rid s = _
  simp only [execRequestAged, ite_aged_eq_agedBy]
  rfl

theorem getD_map_of_eq {α : Type} (l : List α) (f : α → α) (d : α) (hd : f d = d) (i : Nat) :
    (l.map f).getD i d = f (l.getD i d) := by
  rw [List.getD_eq_getElem?_getD, List.getD_eq_getElem?_getD, List.getElem?_map]
  cases l[i]? <;> simp [hd]

/-- Ageing (R142). -/
theorem claims_requestAged : Claims.RequestAged := by
  intro s rid
  refine ⟨_, exec_requestAged s rid, rfl, fun p => ?_, fun k => ?_⟩
  · exact getD_map_of_eq s.ports (fun x => { x with ingress := x.ingress.map (Req.agedBy rid) }) Port.reset rfl p
  · exact getD_map_of_eq s.stks (fun x => { x with
      admQ := x.admQ.map (Req.agedBy rid)
      table := x.table.map (fun e => { e with req := Req.agedBy rid e.req }) }) (Stack.reset s.part.dies) rfl k

/-! ### Entries of a request table -/

/-- A stack that holds an entry exists. -/
theorem State.lt_length_of_entry {s : State} {k rid : Nat} {e : Entry} (h : s.entry k rid = some e) : k < s.stks.length := by
  by_contra hk
  have hstk : s.stk k = Stack.reset s.part.dies := by
    rw [State.stk, List.getD_eq_getElem?_getD, List.getElem?_eq_none (by omega)]
    rfl
  rw [State.entry, hstk] at h
  cases h

/-- A freed entry is gone. -/
theorem State.entry_dropEntry (s : State) (k rid : Nat) (hk : k < s.stks.length) : (s.dropEntry k rid).entry k rid = none := by
  rw [State.entry, State.dropEntry, State.stk_modStk_same s k _ hk]
  simp [List.find?_filter]

/-- A changed entry, where the change keeps its request, reads as changed. -/
theorem State.entry_modEntry (s : State) (k rid : Nat) (f : Entry → Entry) (e : Entry) (he : s.entry k rid = some e)
    (hf : ∀ x, (f x).req = x.req) : (s.modEntry k rid f).entry k rid = some (f e) := by
  have hk := State.lt_length_of_entry he
  have hp : ((fun x : Entry => x.req.rid == rid) ∘ fun x => if x.req.rid = rid then f x else x) = fun x => x.req.rid == rid := by
    funext x
    by_cases hx : x.req.rid = rid <;> simp [hx, hf]
  have hrid : e.req.rid = rid := by simpa using List.find?_some he
  rw [State.entry] at he
  rw [State.entry, State.modEntry, State.stk_modStk_same s k _ hk]
  simp only [List.find?_map, hp, he, Option.map_some, hrid, if_true]

/-- Of a stack only the request table changed. -/
def TableOnly (x y : Stack) : Prop := y = { x with table := y.table }

theorem stksFrame_dropEntry (s : State) (k rid : Nat) : StksFrame (AtStk k TableOnly) s (s.dropEntry k rid) :=
  StksFrame.modStk (fun _ _ => ⟨rfl, fun _ => rfl⟩) s k _ (fun _ => ⟨rfl, fun hk => absurd rfl hk⟩)

theorem stksFrame_modEntry (s : State) (k rid : Nat) (f : Entry → Entry) : StksFrame (AtStk k TableOnly) s (s.modEntry k rid f) :=
  StksFrame.modStk (fun _ _ => ⟨rfl, fun _ => rfl⟩) s k _ (fun _ => ⟨rfl, fun hk => absurd rfl hk⟩)

/-! ### The deadline check of a completed request -/

/-- Of a stack no line, tile or entry changed. -/
structure SameMemory (x y : Stack) : Prop where
  lines : y.lines = x.lines
  tiles : y.tiles = x.tiles
  table : y.table = x.table

/-- What the deadline check leaves: the ports, the dies, the requests on their way, and of each stack lines, tiles and entries
(R166). -/
structure LateFrame (s t : State) : Prop where
  ports : t.ports = s.ports
  dies : t.dies = s.dies
  transit : t.transit = s.transit
  length : t.stks.length = s.stks.length
  stack : ∀ j, SameMemory (s.stk j) (t.stk j)

namespace LateFrame

theorem trans {s t u : State} (h : LateFrame s t) (g : LateFrame t u) : LateFrame s u where
  ports := g.ports.trans h.ports
  dies := g.dies.trans h.dies
  transit := g.transit.trans h.transit
  length := g.length.trans h.length
  stack j := ⟨(g.stack j).lines.trans (h.stack j).lines, (g.stack j).tiles.trans (h.stack j).tiles,
    (g.stack j).table.trans (h.stack j).table⟩

theorem of_stks_eq {s t : State} (hports : t.ports = s.ports) (hdies : t.dies = s.dies) (htransit : t.transit = s.transit)
    (hstks : t.stks = s.stks) (hpart : t.part = s.part) : LateFrame s t where
  ports := hports
  dies := hdies
  transit := htransit
  length := by rw [hstks]
  stack j := by
    have hstk : t.stk j = s.stk j := by rw [State.stk, hstks, hpart, State.stk]
    rw [hstk]
    exact ⟨rfl, rfl, rfl⟩

theorem report (s : State) (k : Nat) (x : Kind) (i sub addr : Nat) : LateFrame s (s.report k x i sub addr) := by
  obtain ⟨st, ep, heq, hlen⟩ := s.report_eq k x i sub addr
  refine ⟨by rw [heq], by rw [heq], by rw [heq], by rw [heq]; exact hlen, fun j => ?_⟩
  rw [(stk_report s k x i sub addr j).1]
  exact ⟨rfl, rfl, rfl⟩

theorem isLate (s : State) (r : Req) : LateFrame s (isLate s r).2 := by
  unfold Machine.isLate
  split_ifs <;> exact of_stks_eq rfl rfl rfl rfl rfl

theorem lateCheck (s : State) (k : Nat) (e : Entry) : LateFrame s (lateCheck s k e) := by
  unfold Machine.lateCheck
  dsimp only
  split
  · exact of_stks_eq rfl rfl rfl rfl rfl
  · split
    · exact isLate s e.req
    · split
      · exact (isLate s e.req).trans ((report _ k _ 0 _ _).trans (of_stks_eq rfl rfl rfl rfl rfl))
      · refine (isLate s e.req).trans ?_
        rw [State.count_of_isPkg _ k .sch 0 9 1 rfl]
        exact of_stks_eq rfl rfl rfl rfl rfl

end LateFrame

/-- A best-effort request has no deadline to miss (R166). -/
theorem lateCheck_of_bestEffort (s : State) (k : Nat) (e : Entry) (h : isGuar e.req.cls = false) : lateCheck s k e = s := by
  simp [lateCheck, h]

/-! ### Responses on their way to egress -/

/-- The state after stack k has sent a response to RSP egress of its port (R20, R34). -/
def State.sent (s : State) (k : Nat) (r : Resp) : State := (s.addRsp r).ringTx k (r.port / 4)

/-- The deadline check of an acknowledged request whose last response has been sent (R166). -/
def State.checked (s : State) (k : Nat) (e : Entry) : State := if isPosted e.req.op then s else lateCheck s k e

theorem lateFrame_checked (s : State) (k : Nat) (e : Entry) : LateFrame s (s.checked k e) := by
  unfold State.checked
  split
  · exact .of_stks_eq rfl rfl rfl rfl rfl
  · exact .lateCheck s k e

theorem checked_of_bestEffort (s : State) (k : Nat) (e : Entry) (h : isGuar e.req.cls = false) : s.checked k e = s := by
  rw [State.checked, lateCheck_of_bestEffort s k e h, ite_self]

/-- A response that may go enters RSP egress; the last one frees the entry (R133, R140). -/
theorem exec_responseToEgress (s : State) (k rid : Nat) (e : Entry) (r : Resp) (rest : List Resp) (he : s.entry k rid = some e)
    (hdone : e.done = some (r :: rest)) (hlive : rid ∉ s.timedOut) (hfree : s.respBlocked k e.req = false)
    (hreach : s.reach k (r.port / 4) = true) (hring : r.port / 4 = k ∨ s.ringOn = true) (hroom : s.rspRoom r.port r.slots = true)
    (hdrop : (s.prt r.port).dropBelow ≤ r.rid) : exec (.responseToEgress k rid) s = .next (
      if rest = [] then ((s.sent k r).checked k e).dropEntry k rid
      else (s.sent k r).modEntry k rid (fun e => { e with done := some rest })) := by
  have hcross : (k != r.port / 4 && !s.ringOn) = false := by
    obtain h | h := hring <;> simp [h]
  change execResponseToEgress k rid s = _
  rw [execResponseToEgress, he]
  simp only [hdone, hreach, hfree, hroom, hcross, pushRsp_of_room s r hroom hdrop, List.isEmpty_iff]
  simp [hlive, State.sent, State.checked]

/-- What a response on its way to egress changes, whatever the deadline check and the table do (R20, R34). -/
theorem sent_frame {s v t : State} {k : Nat} {r : Resp} (hp : r.port < s.ports.length) (hlate : LateFrame (s.sent k r) v)
    (htable : StksFrame (AtStk k TableOnly) v t) :
    (t.prt r.port).rspOut = (s.prt r.port).rspOut ++ [r] ∧ (∀ q, q ≠ r.port → t.prt q = s.prt q) ∧ t.dies = s.dies ∧
    t.transit = s.transit ∧ ∀ j, (t.stk j).lines = (s.stk j).lines ∧ (t.stk j).tiles = (s.stk j).tiles := by
  have hmsg : CountFrame k (s.addRsp r) (s.sent k r) := CountFrame.ringTx _ k _
  have hprt : ∀ q, t.prt q = (s.addRsp r).prt q := fun q => by
    rw [htable.prt, State.prt, hlate.ports, ← State.prt, hmsg.prt]
  refine ⟨?_, fun q hq => ?_, ?_, ?_, fun j => ?_⟩
  · rw [hprt, s.prt_addRsp_same r r.port hp rfl]
  · rw [hprt, s.prt_addRsp_other r q hq]
  · rw [htable.state, hlate.dies, hmsg.state]
    rfl
  · rw [htable.state, hlate.transit, hmsg.state]
    rfl
  · rw [(htable.stack j).1, (hlate.stack j).lines, (hlate.stack j).tiles, hmsg.stk j]
    exact ⟨rfl, rfl⟩

/-- A response of a request without a deadline changes RSP egress of its port, the table, and the counter of the ring (R34). -/
theorem sent_only {s t : State} {k : Nat} {r : Resp} (hp : r.port < s.ports.length)
    (htable : StksFrame (AtStk k TableOnly) (s.sent k r) t) :
    t = { s with stks := t.stks, ports := t.ports } ∧ (∀ j, j ≠ k → t.stk j = s.stk j) ∧
    t.prt r.port = { s.prt r.port with rspOut := (t.prt r.port).rspOut } ∧ t.stk k = { s.stk k with
      table := (t.stk k).table
      cnt := (t.stk k).cnt } := by
  have hmsg : CountFrame k (s.addRsp r) (s.sent k r) := CountFrame.ringTx _ k _
  refine ⟨?_, fun j hj => ?_, ?_, ?_⟩
  · rw [htable.state, hmsg.state]
    rfl
  · rw [(htable.stack j).2 hj, (hmsg.stack j).2 hj, State.stk_addRsp]
  · rw [htable.prt, hmsg.prt, s.prt_addRsp_same r r.port hp rfl]
  · rw [(htable.stack k).1, hmsg.stk k]
    rfl

/-- The next response of a completed request (R20, R119, R133, R140, R511). -/
theorem claims_responseToEgress : Claims.ResponseToEgress := by
  refine ⟨?sends, ?waits, ?lost⟩
  case sends =>
    intro s k rid e r rest he hdone hlive hfree hreach hring hroom hp hdrop
    have hexec := exec_responseToEgress s k rid e r rest he hdone hlive hfree hreach hring hroom hdrop
    have hmsg : CountFrame k (s.addRsp r) (s.sent k r) := CountFrame.ringTx _ k _
    by_cases hlast : rest = []
    · rw [if_pos hlast] at hexec
      have hlate := lateFrame_checked (s.sent k r) k e
      have htable := stksFrame_dropEntry ((s.sent k r).checked k e) k rid
      obtain ⟨hout, hother, hdies, htransit, hmem⟩ := sent_frame hp hlate htable
      refine ⟨_, hexec, hout, ?_, hother, hdies, htransit, hmem, fun hbest => ?_⟩
      · rw [if_pos hlast]
        exact State.entry_dropEntry _ k rid (hlate.length.trans hmsg.length ▸ State.lt_length_of_entry he)
      · rw [checked_of_bestEffort _ k e hbest] at htable ⊢
        exact sent_only hp htable
    · rw [if_neg hlast] at hexec
      have htable := stksFrame_modEntry (s.sent k r) k rid (fun e => { e with done := some rest })
      obtain ⟨hout, hother, hdies, htransit, hmem⟩ := sent_frame hp (.of_stks_eq rfl rfl rfl rfl rfl) htable
      refine ⟨_, hexec, hout, ?_, hother, hdies, htransit, hmem, fun _ => sent_only hp htable⟩
      have hentry : (s.sent k r).entry k rid = some e := by
        rw [State.entry, hmsg.stk k]
        exact he
      rw [if_neg hlast, State.entry_modEntry (s.sent k r) k rid (fun e => { e with done := some rest }) e hentry (fun _ => rfl)]
  case waits =>
    intro s k rid e r rest he hdone hreach hwait
    change execResponseToEgress k rid s = _
    rw [execResponseToEgress, he]
    obtain h | h := hwait <;> simp [hdone, hreach, h]
  case lost =>
    intro s k rid e r rest he hdone hreach
    have hk := State.lt_length_of_entry he
    have htable := stksFrame_dropEntry s k rid
    refine ⟨{ s.dropEntry k rid with timedOut := s.timedOut.filter (· != rid) }, ?_, s.entry_dropEntry k rid hk, rfl,
      ⟨rfl, fun j hj => (htable.stack j).2 hj⟩, (htable.stack k).1⟩
    change execResponseToEgress k rid s = _
    rw [execResponseToEgress, he]
    simp [hdone, hreach]

/-! ### Late responses and the stall -/

/-- What is raised in the end was raised when the intake and the registers were last changed. -/
theorem Raised.congr {s t u : State} {k i : Nat} {x : Kind} (h : Raised s t k x i) (herr : u.errPend = t.errPend)
    (hpart : u.part = t.part) (hregs : (u.stk k).regs = (t.stk k).regs) (hpkg : (u.stk k).pkgRegs = (t.stk k).pkgRegs)
    (hrg : (u.stk k).rg = (t.stk k).rg) : Raised s u k x i := by
  unfold Raised Reported at h ⊢
  rwa [herr, hrg, State.raw_congr hpart hregs hpkg]

/-- The state after the head of RSP ingress of a port, a response r that no record claims, is discarded (R117, R349). -/
def State.discarded (s : State) (p : Nat) (r : Resp) : State :=
  (popRspIn s p).modPort p (fun x => { x with staleRecs := if isLast r then x.staleRecs.filter (· != r.tag) else x.staleRecs })

theorem prt_discarded_same (s : State) (p : Nat) (r : Resp) (rest : List Resp) (hp : p < s.ports.length)
    (hin : (s.prt p).rspIn = r :: rest) : (s.discarded p r).prt p = { s.prt p with
      rspIn := rest
      rspRet := (s.prt p).rspRet + r.slots
      staleRecs := if isLast r then (s.prt p).staleRecs.filter (· != r.tag) else (s.prt p).staleRecs } := by
  have hlen : p < (popRspIn s p).ports.length := by
    rw [popRspIn, State.modPort, length_modify']
    exact hp
  rw [State.discarded, State.prt_modPort_same _ p _ hlen, popRspIn, State.prt_modPort_same s p _ hp, hin]

theorem prt_discarded_other (s : State) (p q : Nat) (r : Resp) (hq : q ≠ p) : (s.discarded p r).prt q = s.prt q := by
  rw [State.discarded, State.prt_modPort_other _ p q _ hq, popRspIn, State.prt_modPort_other s p q _ hq]

/-- A response without a forward record is discarded and logged (R117). -/
theorem exec_lateRsp_of_no_record (s : State) (p rid : Nat) (r : Resp) (rest : List Resp) (hlive : rid ∉ s.timedOut)
    (hin : (s.prt p).rspIn = r :: rest) (hrec : ∀ f ∈ (s.prt p).fwdRecs, f.idx ≠ r.tag) :
    exec (.lateRsp p rid) s = .next ((s.discarded p r).report (p / 4) K.STK_LATE_RSP 0 0 0) := by
  have hnone : (s.prt p).fwdRecs.any (fun f => f.idx == r.tag) = false := by simpa using hrec
  change execLateRsp p rid s = _
  simp [execLateRsp, hlive, hin, hnone, State.discarded]

/-- A response that stack k holds for a request that has ended with TIMEOUT is discarded and logged (R117). -/
theorem exec_lateRsp_of_timedOut (s : State) (p rid k : Nat) (e : Entry) (rs : List Resp) (hdead : rid ∈ s.timedOut) (hk : k < s.n)
    (he : s.entry k rid = some e) (hdone : e.done = some rs) (hfirst : ∀ j, j < k → s.entry j rid = none) :
    exec (.lateRsp p rid) s = .next ((lateRsp s (p / 4) rid).dropEntry k rid) := by
  have hfind : (List.range s.n).find? (fun k => match s.entry k rid with | some e => e.done.isSome | none => false) = some k := by
    rw [List.find?_range_eq_some]
    refine ⟨by simp [he, hdone], List.mem_range.mpr hk, fun j hj => by simp [hfirst j hj]⟩
  change execLateRsp p rid s = _
  simp only [execLateRsp, List.contains_iff_mem, hdead, if_true]
  exact congrArg (fun j? : Option Nat => Host.Outcome.next (match j? with
    | some j => (lateRsp s (p / 4) rid).dropEntry j rid
    | none => s)) hfind

/-- The event of a page queues at most an interrupt message (R85). -/
theorem State.event_eq (s : State) (k : Nat) (pg : Page) (i n : Nat) :
    s.event k pg i n = { s with irqs := (s.event k pg i n).irqs } := by
  unfold State.event
  split <;> rfl

/-- A status bit of a stack's page that is set changes that register, and at most an interrupt message is queued (R85). -/
theorem State.statusBit_true_eq (s : State) (k : Nat) (pg : Page) (i n : Nat) : s.statusBit k pg i n true =
    { s.setRaw k pg i 0x0C (putBits (s.raw k pg i 0x0C) (16 + n) (16 + n) 1) with irqs := (s.statusBit k pg i n true).irqs } := by
  unfold State.statusBit
  dsimp only
  split
  · exact State.event_eq _ k pg i n
  · rfl

/-- The state when the response stall of a port is marked (R147). -/
def State.stalled (s : State) (p : Nat) : State :=
  (s.modPort p (fun x => { x with rspStalled := true })).statusBit (p / 4) .nxp (p % 4) 0 true

theorem exec_rspStall (s : State) (p : Nat) (hframes : 8192 ≤ (s.prt p).rspStallFrames) (hnew : (s.prt p).rspStalled = false) :
    exec (.rspStall p) s = .next ((s.stalled p).report (p / 4) K.NXP_RSP_STALL (p % 4) 0 0) := by
  change execRspStall p s = _
  simp [execRspStall, hframes, hnew, State.stalled]

theorem prt_stalled (s : State) (p q : Nat) :
    (s.stalled p).prt q = (s.modPort p (fun x => { x with rspStalled := true })).prt q := by
  rw [State.stalled, State.statusBit_true_eq]
  rfl

theorem length_stalled (s : State) (p : Nat) : (s.stalled p).stks.length = s.stks.length := by
  rw [State.stalled, State.statusBit_true_eq]
  exact length_modify' s.stks _ _

/-- STATUS bit 16 of the port's page is set with the stall. -/
theorem testBit_raw_stalled (s : State) (p : Nat) (hk : p / 4 < s.stks.length) :
    ((s.stalled p).raw (p / 4) .nxp (p % 4) 0x0C).testBit 16 = true := by
  rw [State.stalled, State.statusBit_true_eq]
  exact testBit_raw_setRaw_one (s.modPort p (fun x => { x with rspStalled := true })) (p / 4) .nxp (p % 4) 0x0C _ 16 hk (by omega)

/-- The stack of a port exists. -/
theorem Shaped.port_stack {s : State} {p : Nat} (h : Shaped s) (hp : p < s.ports.length) : p / 4 < s.stks.length := by
  obtain ⟨hstks, hports⟩ := h
  omega

/-- A response at the head of RSP ingress without a forward record is discarded and logged (R117). -/
theorem lateRsp_of_no_record (s : State) (p rid : Nat) (r : Resp) (rest : List Resp) (hshape : Shaped s) (hp : p < s.ports.length)
    (hlive : rid ∉ s.timedOut) (hin : (s.prt p).rspIn = r :: rest) (hrec : ∀ f ∈ (s.prt p).fwdRecs, f.idx ≠ r.tag) :
    Runs (.lateRsp p rid) s (fun t =>
      (t.prt p).rspIn = rest ∧ (t.prt p).rspRet = (s.prt p).rspRet + r.slots ∧ Raised s t (p / 4) K.STK_LATE_RSP 0 ∧
      t = { s with stks := t.stks, ports := t.ports } ∧ t.prt p = { s.prt p with
        rspIn := (t.prt p).rspIn
        rspRet := (t.prt p).rspRet
        staleRecs := (t.prt p).staleRecs } ∧ (∀ q, q ≠ p → t.prt q = s.prt q) ∧
      ∀ j, t.stk j = { s.stk j with rg := (t.stk j).rg }) := by
  have hframe := stksFrame_report (s.discarded p r) (p / 4) K.STK_LATE_RSP 0 0 0 (by decide)
  have hraised := raised_report (s.discarded p r) (p / 4) K.STK_LATE_RSP 0 0 0 (hshape.port_stack hp) (by decide)
  have hprt := prt_discarded_same s p r rest hp hin
  refine ⟨_, exec_lateRsp_of_no_record s p rid r rest hlive hin hrec, ?_, ?_, hraised.of_rg_eq rfl, ?_, ?_,
    fun q hq => by rw [hframe.prt, prt_discarded_other s p q r hq], fun j => (hframe.stack j).1⟩
  · rw [hframe.prt, hprt]
  · rw [hframe.prt, hprt]
  · rw [hframe.state]
    rfl
  · rw [hframe.prt, hprt]

/-- A response that a serving stack holds for a request that has ended with TIMEOUT is discarded and logged (R117). -/
theorem lateRsp_of_timedOut (s : State) (p rid k : Nat) (e : Entry) (rs : List Resp) (hshape : Shaped s) (hp : p < s.ports.length)
    (hdead : rid ∈ s.timedOut) (hk : k < s.n) (he : s.entry k rid = some e) (hdone : e.done = some rs)
    (hfirst : ∀ j, j < k → s.entry j rid = none) :
    Runs (.lateRsp p rid) s (fun t =>
      t.entry k rid = none ∧ rid ∉ t.timedOut ∧ Raised s t (p / 4) K.STK_LATE_RSP 0 ∧
      t = { s with stks := t.stks, timedOut := t.timedOut }) := by
  have hframe : StksFrame (AtStk (p / 4) RgOnly) { s with timedOut := s.timedOut.filter (· != rid) } (lateRsp s (p / 4) rid) :=
    stksFrame_report _ (p / 4) K.STK_LATE_RSP 0 0 0 (by decide)
  have hraised : Raised s (lateRsp s (p / 4) rid) (p / 4) K.STK_LATE_RSP 0 :=
    (raised_report { s with timedOut := s.timedOut.filter (· != rid) } (p / 4) K.STK_LATE_RSP 0 0 0 (hshape.port_stack hp)
      (by decide)).of_rg_eq rfl
  have hdrop := stksFrame_dropEntry (lateRsp s (p / 4) rid) k rid
  have hstk := (hdrop.stack (p / 4)).1
  have htimed : ((lateRsp s (p / 4) rid).dropEntry k rid).timedOut = s.timedOut.filter (· != rid) := by
    rw [hdrop.state, hframe.state]
  refine ⟨_, exec_lateRsp_of_timedOut s p rid k e rs hdead hk he hdone hfirst,
    State.entry_dropEntry _ k rid (hframe.length.symm ▸ State.lt_length_of_entry he), by simp [htimed],
    hraised.congr (by rw [hdrop.state]) hdrop.part (by rw [hstk]) (by rw [hstk]) (by rw [hstk]), ?_⟩
  rw [htimed, hdrop.state, hframe.state]

/-- 8,192 frames with responses waiting and no credit raise RSP_STALL once (R147). -/
theorem rspStall_of_frames (s : State) (p : Nat) (hshape : Shaped s) (hp : p < s.ports.length)
    (hframes : 8192 ≤ (s.prt p).rspStallFrames) (hnew : (s.prt p).rspStalled = false) :
    Runs (.rspStall p) s (fun t =>
      t.prt p = { s.prt p with rspStalled := true } ∧ Raised s t (p / 4) K.NXP_RSP_STALL (p % 4) ∧
      (t.raw (p / 4) .nxp (p % 4) 0x0C).testBit 16 = true ∧ (∀ q, q ≠ p → t.prt q = s.prt q) ∧
      t = { s with stks := t.stks, ports := t.ports, irqs := t.irqs }) := by
  have hstate := report_of_stack_page (s.stalled p) (p / 4) K.NXP_RSP_STALL (p % 4) 0 0 rfl
  have hprt : ∀ q, ((s.stalled p).report (p / 4) K.NXP_RSP_STALL (p % 4) 0 0).prt q =
      (s.modPort p (fun x => { x with rspStalled := true })).prt q := fun q => by
    rw [hstate, ← prt_stalled]
    rfl
  have hreg : regKey .nxp (p % 4) 0x0C ≠ regKey K.NXP_RSP_STALL.page (p % 4) 0x10 := by
    simp [regKey, K.NXP_RSP_STALL]
  refine ⟨_, exec_rspStall s p hframes hnew, ?_, ?_, ?_, fun q hq => ?_, ?_⟩
  · rw [hprt, State.prt_modPort_same s p _ hp]
  · exact raised_report_of_stack_page (s.stalled p) (p / 4) K.NXP_RSP_STALL (p % 4) 0 0
      ((length_stalled s p).symm ▸ hshape.port_stack hp) (by decide) rfl
  · rw [raw_report_other _ _ _ _ _ _ _ _ _ _ (.inr (.inr hreg))]
    exact testBit_raw_stalled s p (hshape.port_stack hp)
  · rw [hprt, State.prt_modPort_other s p q _ hq]
  · rw [hstate, State.stalled, State.statusBit_true_eq]
    rfl

/-- Late responses and the response stall (R117, R147). -/
theorem claims_lateAndStalled : Claims.LateAndStalled :=
  ⟨lateRsp_of_no_record, lateRsp_of_timedOut, rspStall_of_frames⟩

/-- Settles O25: ageing maps one function over every list of requests, and each response has one way to egress or to the log. -/
theorem responses : Obligations.Responses := ⟨claims_requestAged, claims_responseToEgress, claims_lateAndStalled⟩

end Sys2Proof.Machine
end

section
/-! PROOFS. Requests for package modes and for MAINTENANCE (R24, R392 to R394, R402, R403). -/

namespace Sys2Proof.Machine

/-! ### The answer to a mode request -/

/-- Of a stack only the stored registers of its window and its clocks changed. -/
def RegsClkOnly (x y : Stack) : Prop := y = { x with regs := y.regs, clk := y.clk }

theorem RegsClkOnly.refl (x : Stack) : RegsClkOnly x x := rfl

theorem RegsClkOnly.trans {x y z : Stack} (h : RegsClkOnly x y) (g : RegsClkOnly y z) : RegsClkOnly x z := by
  rw [RegsClkOnly, g, h]

/-- t is s but for stored registers and clocks of stacks: what the answer to a mode request changes. -/
abbrev AnswerFrame (s t : State) : Prop := StksFrame (fun _ => RegsClkOnly) s t

theorem AnswerFrame.trans {s t u : State} (h : AnswerFrame s t) (g : AnswerFrame t u) : AnswerFrame s u :=
  StksFrame.trans (fun _ _ _ _ => RegsClkOnly.trans) h g

theorem answerFrame_setFld (s : State) (k i : Nat) (f : FRef) (v : Nat) (hp : f.page.isPkg = false) :
    AnswerFrame s (s.setFld k i f v) :=
  StksFrame.modStk (R := fun _ => RegsClkOnly) (fun _ => .refl) s k _ (fun _ => by simp [RegsClkOnly, hp])

theorem answerFrame_setRejected (s : State) (k : Nat) (b : Bool) : AnswerFrame s (setRejected s k b) :=
  StksFrame.modStk (R := fun _ => RegsClkOnly) (fun _ => .refl) s k _ (fun _ => rfl)

theorem answerFrame_setAll (s : State) (f : FRef) (v : Nat) (hp : f.page.isPkg = false) : AnswerFrame s (s.setAll f v) :=
  StksFrame.foldl (R := fun _ => RegsClkOnly) (fun _ => .refl) (fun _ _ _ _ => .trans) _ (fun s k => answerFrame_setFld s k 0 f v hp) _ s

theorem answerFrame_setAllRejected (s : State) (b : Bool) : AnswerFrame s (setAllRejected s b) :=
  StksFrame.foldl (R := fun _ => RegsClkOnly) (fun _ => .refl) (fun _ _ _ _ => .trans) _ (fun s k => answerFrame_setRejected s k b) _ s

/-- A COMMIT and an OTP command are not in what such an answer changes. -/
theorem AnswerFrame.retainHeld {s t : State} (h : AnswerFrame s t) : t.retainHeld = s.retainHeld := by
  have hotp : t.otpBusy = s.otpBusy := by
    funext k
    rw [State.otpBusy, State.otpBusy, h.stack k]
  have hcommit : t.cmtBusy = s.cmtBusy := by rw [State.cmtBusy, State.cmtBusy, h.state]
  rw [State.retainHeld, State.retainHeld, hotp, hcommit, State.n, State.n, h.part]

/-- One change of the first m stacks changes each of them, and no other. -/
theorem stk_forN_modStk (s : State) (f : Stack → Stack) (m : Nat) (hm : m ≤ s.stks.length) :
    (forN m s (fun s k => s.modStk k f)).stks.length = s.stks.length ∧
    ∀ j, (forN m s (fun s k => s.modStk k f)).stk j = if j < m then f (s.stk j) else s.stk j := by
  induction m with
  | zero => exact ⟨rfl, fun _ => rfl⟩
  | succ m ih =>
    obtain ⟨hlen, hstk⟩ := ih (by omega)
    have hstep : forN (m + 1) s (fun s k => s.modStk k f) = (forN m s (fun s k => s.modStk k f)).modStk m f := by
      simp [forN, List.range_succ]
    rw [hstep]
    refine ⟨(length_modify' _ m f).trans hlen, fun j => ?_⟩
    by_cases hj : j = m
    · subst hj
      rw [State.stk_modStk_same _ j f (by omega), hstk, if_neg (lt_irrefl j), if_pos (Nat.lt_succ_self j)]
    · have hiff : j < m + 1 ↔ j < m := by omega
      rw [State.stk_modStk_other _ m j f hj, hstk]
      simp only [hiff]

theorem rejected_setAllRejected (s : State) (b : Bool) (hshape : s.stks.length = s.n) (j : Nat) (hj : j < s.n) :
    ((setAllRejected s b).stk j).clk.rejected = b := by
  have h := (stk_forN_modStk s (fun x => { x with clk := { x.clk with rejected := b } }) s.n hshape.ge).2 j
  rw [if_pos hj] at h
  exact congrArg (fun x => x.clk.rejected) h

/-! ### Requests for package modes -/

/-- The state after a request for a package mode is answered in every stack (R403). -/
def State.answered (s : State) (req : Nat) (b : Bool) : State := setAllRejected (s.setAll F.CLK_PKG_MODE_REQ req) b

theorem answerFrame_answered (s : State) (req : Nat) (b : Bool) : AnswerFrame s (s.answered req b) :=
  AnswerFrame.trans (answerFrame_setAll s F.CLK_PKG_MODE_REQ req rfl) (answerFrame_setAllRejected _ b)

theorem rejected_answered (s : State) (req : Nat) (b : Bool) (hshape : Shaped s) (j : Nat) (hj : j < s.n) :
    ((s.answered req b).stk j).clk.rejected = b := by
  have hframe := answerFrame_setAll s F.CLK_PKG_MODE_REQ req rfl
  have hn : (s.setAll F.CLK_PKG_MODE_REQ req).n = s.n := by rw [State.n, hframe.part, State.n]
  exact rejected_setAllRejected _ b (by rw [hframe.length, hn, hshape.1]) j (hn.symm ▸ hj)

/-- A request whose REQ is that of the command is written (R392). -/
theorem pkgMode_of_go (s : State) (k req v : Nat) (hwin : s.winOk k = true) (hgo : bitAt v 31 = true) (hreq : bits v 1 0 = req) :
    pkgMode s k req v = writePkgMode s k v := by
  simp [pkgMode, hwin, hgo, hreq]

/-- During a transition every request is rejected (R403). -/
theorem writePkgMode_of_transiting (s : State) (k v : Nat) (hgo : bitAt v 31 = true) (htrans : s.transiting = true) :
    writePkgMode s k v = s.answered (bits v 1 0) true := by
  simp [writePkgMode, hgo, htrans, State.answered]

theorem writePkgMode_active (s : State) (k v : Nat) (hgo : bitAt v 31 = true) (htrans : s.transiting = false)
    (hreq : bits v 1 0 = 0) : writePkgMode s k v = wakeIdle (s.answered 0 false) 6 := by
  simp [writePkgMode, hgo, htrans, hreq, State.answered]

theorem writePkgMode_idle (s : State) (k v : Nat) (hgo : bitAt v 31 = true) (htrans : s.transiting = false)
    (hreq : bits v 1 0 = 1) : writePkgMode s k v =
      if s.mode = .active then { s.answered 1 false with modeNext := some .idle } else s.answered 1 false := by
  simp [writePkgMode, hgo, htrans, hreq, State.answered]

theorem writePkgMode_retain (s : State) (k v : Nat) (hgo : bitAt v 31 = true) (htrans : s.transiting = false)
    (hreq : bits v 1 0 = 2) : writePkgMode s k v =
      if s.retainBarred = true then s.answered 2 true else wantRetain (s.answered 2 false) := by
  simp [writePkgMode, hgo, htrans, hreq, State.answered]

/-- Outside a transition nothing is to come at the next tick, and no RETAIN request waits (R403). -/
theorem State.modeNext_of_not_transiting {s : State} (h : s.transiting = false) : s.modeNext = none ∧ s.retainWant = false := by
  simp only [State.transiting, Bool.or_eq_false_iff, Option.isSome_eq_false_iff, Option.isNone_iff_eq_none] at h
  exact h.1

/-- A wake event in IDLE brings ACTIVE at the next tick (R393). -/
theorem wakeIdle_of_idle (s : State) (code : Nat) (hmode : s.mode = .idle) (hnext : s.modeNext = none) :
    wakeIdle s code = { s with wakeCause := code, modeNext := some .active } := by
  simp [wakeIdle, hmode, hnext]

/-- A request during a transition is REJECTED in every stack (R403). -/
theorem runs_mode_of_transiting (s : State) (k : Nat) (v : Reg32) (i : Instr) (req : Nat) (hshape : Shaped s)
    (hwin : s.winOk k = true) (hgo : v.getLsbD 31 = true) (hi : exec i s = .next (pkgMode s k req v.toNat))
    (hreq : bits v.toNat 1 0 = req) (htrans : s.transiting = true) : Runs i s (fun t =>
      (∀ j, j < s.n → (t.stk j).clk.rejected = true) ∧ t.modeNext = s.modeNext ∧ t = { s with stks := t.stks } ∧
      ∀ j, t.stk j = { s.stk j with regs := (t.stk j).regs, clk := (t.stk j).clk }) := by
  rw [pkgMode_of_go s k req v.toNat hwin hgo hreq, writePkgMode_of_transiting s k v.toNat hgo htrans] at hi
  have hframe := answerFrame_answered s (bits v.toNat 1 0) true
  exact ⟨_, hi, rejected_answered s _ true hshape, by rw [hframe.state], hframe.state, hframe.stack⟩

/-- A request for ACTIVE wakes IDLE (R392, R393). -/
theorem runs_modeActiveRequest (s : State) (src : Source) (k : Nat) (v : Reg32) (hshape : Shaped s) (hwin : s.winOk k = true)
    (hgo : v.getLsbD 31 = true) (htrans : s.transiting = false) (hreq : bits v.toNat 1 0 = 0) :
    Runs (.modeActiveRequest src k v) s (fun t =>
      (∀ j, j < s.n → (t.stk j).clk.rejected = false) ∧ t.modeNext = (if s.mode = .idle then some .active else none) ∧
      (s.mode = .idle → t.wakeCause = 6) ∧ t = { s with stks := t.stks, modeNext := t.modeNext, wakeCause := t.wakeCause }) := by
  have hexec : exec (.modeActiveRequest src k v) s = .next (wakeIdle (s.answered 0 false) 6) := by
    change Host.Outcome.next (pkgMode s k 0 v.toNat) = _
    rw [pkgMode_of_go s k 0 v.toNat hwin hgo hreq, writePkgMode_active s k v.toNat hgo htrans hreq]
  have hrej := rejected_answered s 0 false hshape
  have hstate := (answerFrame_answered s 0 false).state
  have hnext : (s.answered 0 false).modeNext = none := by rw [hstate]; exact (State.modeNext_of_not_transiting htrans).1
  have hmode : (s.answered 0 false).mode = s.mode := by rw [hstate]
  by_cases hidle : s.mode = .idle
  · rw [wakeIdle_of_idle _ 6 (hmode.trans hidle) hnext] at hexec
    refine ⟨_, hexec, hrej, by rw [if_pos hidle], fun _ => rfl, ?_⟩
    rw [hstate]
  · rw [wakeIdle_of_ne_idle _ 6 (by rwa [hmode])] at hexec
    refine ⟨_, hexec, hrej, by rw [if_neg hidle, hnext], fun h => absurd h hidle, ?_⟩
    rw [hstate]

/-- A request for IDLE follows ACTIVE (R392). -/
theorem runs_modeIdleRequest (s : State) (src : Source) (k : Nat) (v : Reg32) (hshape : Shaped s) (hwin : s.winOk k = true)
    (hgo : v.getLsbD 31 = true) (htrans : s.transiting = false) (hreq : bits v.toNat 1 0 = 1) :
    Runs (.modeIdleRequest src k v) s (fun t =>
      (∀ j, j < s.n → (t.stk j).clk.rejected = false) ∧ t.modeNext = (if s.mode = .active then some .idle else none) ∧
      t = { s with stks := t.stks, modeNext := t.modeNext }) := by
  have hexec : exec (.modeIdleRequest src k v) s = .next
      (if s.mode = .active then { s.answered 1 false with modeNext := some .idle } else s.answered 1 false) := by
    change Host.Outcome.next (pkgMode s k 1 v.toNat) = _
    rw [pkgMode_of_go s k 1 v.toNat hwin hgo hreq, writePkgMode_idle s k v.toNat hgo htrans hreq]
  have hrej := rejected_answered s 1 false hshape
  have hstate := (answerFrame_answered s 1 false).state
  have hnext : (s.answered 1 false).modeNext = none := by rw [hstate]; exact (State.modeNext_of_not_transiting htrans).1
  by_cases hactive : s.mode = .active
  · rw [if_pos hactive] at hexec
    refine ⟨_, hexec, hrej, by rw [if_pos hactive], ?_⟩
    rw [hstate]
  · rw [if_neg hactive] at hexec
    refine ⟨_, hexec, hrej, by rw [if_neg hactive, hnext], ?_⟩
    rw [hstate]

/-- A request for RETAIN begins its entry, waits for a COMMIT or an OTP command, or is rejected (R392, R394). -/
theorem runs_modeRetainRequest (s : State) (src : Source) (k : Nat) (v : Reg32) (hshape : Shaped s) (hwin : s.winOk k = true)
    (hgo : v.getLsbD 31 = true) (htrans : s.transiting = false) (hreq : bits v.toNat 1 0 = 2) :
    Runs (.modeRetainRequest src k v) s (fun t =>
      (∀ j, j < s.n → (t.stk j).clk.rejected = s.retainBarred) ∧
      (s.retainBarred = false → s.retainHeld = false → t.modeNext = some .enteringRetain) ∧
      (s.retainBarred = false → s.retainHeld = true → t.modeNext = none ∧ t.retainWant = true) ∧
      (s.retainBarred = true → t.modeNext = none ∧ t.retainWant = false) ∧
      t = { s with stks := t.stks, modeNext := t.modeNext, retainWant := t.retainWant }) := by
  have hexec : exec (.modeRetainRequest src k v) s = .next
      (if s.retainBarred = true then s.answered 2 true else wantRetain (s.answered 2 false)) := by
    change Host.Outcome.next (pkgMode s k 2 v.toNat) = _
    rw [pkgMode_of_go s k 2 v.toNat hwin hgo hreq, writePkgMode_retain s k v.toNat hgo htrans hreq]
  obtain ⟨hnext, hwant⟩ := State.modeNext_of_not_transiting htrans
  cases hbar : s.retainBarred with
  | true =>
    have hframe := answerFrame_answered s 2 true
    rw [if_pos hbar] at hexec
    refine ⟨_, hexec, rejected_answered s 2 true hshape, nofun, nofun, fun _ => ?_, ?_⟩
    · rw [hframe.state]
      exact ⟨hnext, hwant⟩
    · rw [hframe.state]
  | false =>
    have hframe := answerFrame_answered s 2 false
    have hrej := rejected_answered s 2 false hshape
    rw [if_neg (by simp [hbar]), wantRetain, hframe.retainHeld] at hexec
    cases hheld : s.retainHeld with
    | true =>
      rw [if_pos hheld] at hexec
      refine ⟨_, hexec, hrej, nofun, fun _ _ => ⟨?_, rfl⟩, nofun, ?_⟩
      · rw [hframe.state]
        exact hnext
      · rw [hframe.state]
    | false =>
      rw [if_neg (by simp [hheld])] at hexec
      refine ⟨_, hexec, hrej, fun _ _ => rfl, nofun, nofun, ?_⟩
      rw [hframe.state]

/-- Requests for package modes, AUTO_IDLE and wake events in IDLE (R392 to R394, R403). -/
theorem claims_packageModes : Claims.PackageModes := by
  refine ⟨fun s src k v hshape hwin hgo => ⟨?rejected, ?active, ?idle, ?retain⟩, ?auto, ?wake⟩
  case rejected =>
    intro c hc hreq htrans
    have hexec : exec (c.1 src k v) s = .next (pkgMode s k c.2 v.toNat) := by
      simp only [List.mem_cons, List.not_mem_nil, or_false] at hc
      obtain rfl | rfl | rfl := hc <;> rfl
    exact runs_mode_of_transiting s k v (c.1 src k v) c.2 hshape hwin hgo hexec hreq htrans
  case active => exact runs_modeActiveRequest s src k v hshape hwin hgo
  case idle => exact runs_modeIdleRequest s src k v hshape hwin hgo
  case retain => exact runs_modeRetainRequest s src k v hshape hwin hgo
  case auto =>
    intro s hmode htrans hen hpin hdemand hframes
    change execAutoIdle s = _
    simp [execAutoIdle, hmode, htrans, hen, hpin, hdemand, hframes]
  case wake =>
    intro s c hmode hnext hsquelch hmailbox
    change execIdleWake c s = _
    rw [execIdleWake, if_neg (by simp [hsquelch, hmailbox]), wakeIdle_of_idle s _ hmode hnext]

/-! ### MAINTENANCE -/

/-- A write of CLK_STK_MODE is answered in its stack (R403). -/
def State.answeredAt (s : State) (k req : Nat) (b : Bool) : State := setRejected (s.setFld k 0 F.CLK_STK_MODE_REQ req) k b

theorem onlyStk_answeredAt (s : State) (k req : Nat) (b : Bool) : OnlyStk k s (s.answeredAt k req b) :=
  (onlyStk_modStk s k _).trans (onlyStk_modStk _ k _)

theorem length_answeredAt (s : State) (k req : Nat) (b : Bool) : (s.answeredAt k req b).stks.length = s.stks.length :=
  (length_modify' _ k _).trans (length_modify' _ k _)

theorem regsClkOnly_answeredAt (s : State) (k req : Nat) (b : Bool) : RegsClkOnly (s.stk k) ((s.answeredAt k req b).stk k) :=
  ((answerFrame_setFld s k 0 F.CLK_STK_MODE_REQ req rfl).stack k).trans ((answerFrame_setRejected _ k b).stack k)

theorem rejected_answeredAt (s : State) (k req : Nat) (b : Bool) (hk : k < s.stks.length) :
    ((s.answeredAt k req b).stk k).clk.rejected = b := by
  have hlen : k < (s.setFld k 0 F.CLK_STK_MODE_REQ req).stks.length := (length_modify' s.stks k _).symm ▸ hk
  rw [State.answeredAt, setRejected, State.stk_modStk_same _ k _ hlen]

/-- The stack mode that comes at the next tick is set (R402). -/
def State.stkModeAt (s : State) (k : Nat) (m : StkMode) : State := s.modStk k (fun x => { x with stkNext := some m })

theorem stk_stkModeAt (s : State) (k : Nat) (m : StkMode) (hk : k < s.stks.length) :
    (s.stkModeAt k m).stk k = { s.stk k with stkNext := some m } :=
  State.stk_modStk_same s k _ hk

theorem exec_maintenanceRequest (s : State) (src : Source) (k : Nat) (v : Reg32) (hwin : s.winOk k = true) (hgo : v.getLsbD 31 = true)
    (hreq : v.getLsbD 0 = true) : exec (.maintenanceRequest src k v) s = .next (writeStkMode s k v.toNat) := by
  have hcond : (s.winOk k && bitAt v.toNat 31 && bitAt v.toNat 0) = true :=
    Bool.and_eq_true_iff.mpr ⟨Bool.and_eq_true_iff.mpr ⟨hwin, hgo⟩, hreq⟩
  change execMaintenanceRequest src k v s = _
  rw [execMaintenanceRequest, if_pos hcond]

theorem exec_maintenanceExit (s : State) (src : Source) (k : Nat) (v : Reg32) (hwin : s.winOk k = true) (hgo : v.getLsbD 31 = true)
    (hreq : v.getLsbD 0 = false) : exec (.maintenanceExit src k v) s = .next (writeStkMode s k v.toNat) := by
  have hbit : bitAt v.toNat 0 = false := hreq
  have hcond : (s.winOk k && bitAt v.toNat 31 && !bitAt v.toNat 0) = true :=
    Bool.and_eq_true_iff.mpr ⟨Bool.and_eq_true_iff.mpr ⟨hwin, hgo⟩, by rw [hbit]; rfl⟩
  change execMaintenanceExit src k v s = _
  rw [execMaintenanceExit, if_pos hcond]

/-- A stack that serves stops admission at the next tick (R402). -/
theorem writeStkMode_enter (s : State) (k v : Nat) (hgo : bitAt v 31 = true) (hreq : bitAt v 0 = true) (htrans : s.transiting = false)
    (hnext : (s.stk k).stkNext = none) (hmode : (s.stk k).mode = .asPackage) :
    writeStkMode s k v = (s.answeredAt k (bits v 0 0) false).stkModeAt k .maintPending := by
  simp [writeStkMode, hgo, hreq, htrans, hnext, hmode, State.answeredAt, State.stkModeAt]

/-- During a transition, and in SAFE, a request is rejected (R392, R402). -/
theorem writeStkMode_of_barred (s : State) (k v : Nat) (hgo : bitAt v 31 = true) (hbar : s.transiting = true ∨
    (s.stk k).mode = .safe ∨ (s.stk k).mode = .maintPending ∨ (s.stk k).stkNext ≠ none) :
    writeStkMode s k v = s.answeredAt k (bits v 0 0) true := by
  have hcond : (s.transiting || (s.stk k).stkNext.isSome || (s.stk k).mode == .maintPending || (s.stk k).mode == .safe) = true := by
    rw [← Option.isSome_iff_ne_none] at hbar
    simp only [Bool.or_eq_true, beq_iff_eq]
    tauto
  simp only [writeStkMode, hgo, hcond, Bool.not_true, Bool.false_eq_true, if_false, if_true, State.answeredAt]

/-- A stack leaves MAINTENANCE at the next tick unless a test or training runs (R392). -/
theorem writeStkMode_leave (s : State) (k v : Nat) (hgo : bitAt v 31 = true) (hreq : bitAt v 0 = false) (htrans : s.transiting = false)
    (hnext : (s.stk k).stkNext = none) (hmode : (s.stk k).mode = .maintenance) : writeStkMode s k v =
      if s.testBusy k = true then s.answeredAt k (bits v 0 0) true
      else (s.answeredAt k (bits v 0 0) false).stkModeAt k .asPackage := by
  simp [writeStkMode, hgo, hreq, htrans, hnext, hmode, State.answeredAt, State.stkModeAt]

/-- A message that meets the queue with room is in it, of its own or added to one like it (R128). -/
theorem exists_mem_addIrq (l : List Irq) (e : Irq) (h : l.length < 64) :
    ∃ q ∈ addIrq l e, q.kind = e.kind ∧ q.source = e.source ∧ q.detail = e.detail := by
  unfold addIrq
  split_ifs with hany
  · obtain ⟨x, hx, hlike⟩ := List.any_eq_true.mp hany
    have hmem := List.mem_map_of_mem (f := fun x => if x.kind == e.kind && x.source == e.source && x.detail == e.detail
      then { x with count := satAdd 255 x.count 1 } else x) hx
    rw [if_pos hlike] at hmem
    simp only [Bool.and_eq_true, beq_iff_eq] at hlike
    obtain ⟨⟨hkind, hsource⟩, hdetail⟩ := hlike
    exact ⟨_, hmem, hkind, hsource, hdetail⟩
  · exact ⟨e, List.mem_append_right _ (List.mem_singleton_self e), rfl, rfl, rfl⟩

/-- An event of a page is pulsed: its message waits if the page enables it (R85). -/
theorem pulsed_event (s : State) (k : Nat) (pg : Page) (i n : Nat) : Pulsed s (s.event k pg i n) k pg i n := by
  unfold Pulsed State.event bitAt
  split_ifs with hen
  · exact fun hroom => exists_mem_addIrq s.irqs _ hroom
  · rfl

/-- The state with stack k in MAINTENANCE. -/
def State.maintained (s : State) (k : Nat) : State := s.modStk k (fun x => { x with mode := .maintenance })

theorem stk_maintained_same (s : State) (k : Nat) (hk : k < s.stks.length) :
    (s.maintained k).stk k = { s.stk k with mode := .maintenance } :=
  State.stk_modStk_same s k _ hk

theorem stk_maintained_other (s : State) (k j : Nat) (hj : j ≠ k) : (s.maintained k).stk j = s.stk j :=
  State.stk_modStk_other s k j _ hj

/-- A stack whose request table is empty enters MAINTENANCE and pulses MODE_DONE (R392, R403). -/
theorem exec_maintenanceEntered (s : State) (k : Nat) (hk : k < s.n) (hmode : (s.stk k).mode = .maintPending)
    (htable : (s.stk k).table = []) : exec (.maintenanceEntered k) s = .next ((s.maintained k).event k .clk 0 0) := by
  change execMaintenanceEntered k s = _
  simp [execMaintenanceEntered, hk, hmode, htable, State.maintained]

theorem pulsed_maintained (s : State) (k : Nat) (hk : k < s.stks.length) :
    Pulsed s ((s.maintained k).event k .clk 0 0) k .clk 0 0 := by
  have h := pulsed_event (s.maintained k) k .clk 0 0
  have hstk := stk_maintained_same s k hk
  have hraw : (s.maintained k).raw k .clk 0 0x18 = s.raw k .clk 0 0x18 :=
    State.raw_congr (s := s) (t := s.maintained k) rfl (by rw [hstk]) (by rw [hstk]) .clk 0 0x18
  rw [Pulsed, hraw] at h
  exact h

/-- A window that is accessible is of a stack of the package. -/
theorem Shaped.lt_of_winOk {s : State} {k : Nat} (h : Shaped s) (hwin : s.winOk k = true) : k < s.stks.length := by
  obtain ⟨hstks, -⟩ := h
  simp only [State.winOk, Bool.and_eq_true, decide_eq_true_eq] at hwin
  omega

/-- MAINTENANCE (R24, R392, R402). -/
theorem claims_maintenance : Claims.Maintenance := by
  refine ⟨fun s src k v hshape hwin hgo => ⟨?enter, ?barred, ?leave⟩, ?entered⟩
  case enter =>
    intro hreq htrans hnext hmode
    have hexec := exec_maintenanceRequest s src k v hwin hgo hreq
    rw [writeStkMode_enter s k v.toNat hgo hreq htrans hnext hmode] at hexec
    have hk := hshape.lt_of_winOk hwin
    have hrej := rejected_answeredAt s k (bits v.toNat 0 0) false hk
    have hclk := regsClkOnly_answeredAt s k (bits v.toNat 0 0) false
    have hstk := stk_stkModeAt (s.answeredAt k (bits v.toNat 0 0) false) k .maintPending ((length_answeredAt s k _ _).symm ▸ hk)
    refine ⟨_, hexec, by rw [hstk], by rw [hstk]; exact hrej,
      (onlyStk_answeredAt s k _ false).trans (onlyStk_modStk _ k _), ?_⟩
    rw [hstk, hclk]
  case barred =>
    intro hreq hbar
    have hexec := exec_maintenanceRequest s src k v hwin hgo hreq
    rw [writeStkMode_of_barred s k v.toNat hgo hbar] at hexec
    have hclk := regsClkOnly_answeredAt s k (bits v.toNat 0 0) true
    exact ⟨_, hexec, rejected_answeredAt s k _ true (hshape.lt_of_winOk hwin), by rw [hclk], by rw [hclk],
      onlyStk_answeredAt s k _ true⟩
  case leave =>
    intro hreq htrans hnext hmode
    have hexec := exec_maintenanceExit s src k v hwin hgo hreq
    rw [writeStkMode_leave s k v.toNat hgo hreq htrans hnext hmode] at hexec
    have hk := hshape.lt_of_winOk hwin
    cases hbusy : s.testBusy k with
    | true =>
      rw [if_pos hbusy] at hexec
      have hclk := regsClkOnly_answeredAt s k (bits v.toNat 0 0) true
      refine ⟨_, hexec, ?_, rejected_answeredAt s k _ true hk, ?_, onlyStk_answeredAt s k _ true⟩
      · rw [hclk, if_pos rfl]
        exact hnext
      · rw [hclk]
        exact hmode
    | false =>
      rw [if_neg (by simp [hbusy])] at hexec
      have hrej := rejected_answeredAt s k (bits v.toNat 0 0) false hk
      have hclk := regsClkOnly_answeredAt s k (bits v.toNat 0 0) false
      have hstk := stk_stkModeAt (s.answeredAt k (bits v.toNat 0 0) false) k .asPackage ((length_answeredAt s k _ _).symm ▸ hk)
      refine ⟨_, hexec, by rw [hstk, if_neg (by simp)], by rw [hstk]; exact hrej, ?_,
        (onlyStk_answeredAt s k _ false).trans (onlyStk_modStk _ k _)⟩
      rw [hstk, hclk]
      exact hmode
  case entered =>
    intro s k hshape hk hmode htable
    have hlen : k < s.stks.length := hshape.1 ▸ hk
    have hstate := State.event_eq (s.maintained k) k .clk 0 0
    have hstk : ∀ j, ((s.maintained k).event k .clk 0 0).stk j = (s.maintained k).stk j := fun j => by rw [hstate]; rfl
    refine ⟨_, exec_maintenanceEntered s k hk hmode htable, (hstk k).trans (stk_maintained_same s k hlen),
      pulsed_maintained s k hlen, ?_, fun j hj => (hstk j).trans (stk_maintained_other s k j hj)⟩
    rw [hstate]
    rfl

/-- Settles O49: every request is answered by one frame of registers and clocks, and then sets at most the mode to come. -/
theorem modes : Obligations.Modes := ⟨claims_packageModes, claims_maintenance⟩

end Sys2Proof.Machine
end

section
/-! PROOFS. The aggregator, a failed ring link, a partition (R18, R25, R511). -/

namespace Sys2Proof.Machine

/-! ### The aggregator -/

/-- The aggregator is the lowest-numbered stack that may hold it (R18). -/
theorem claims_aggregatorSelect : Claims.AggregatorSelect := by
  intro s k hnew hmode hready hk hmay hlower
  have hall : ((List.range s.n).all fun j =>
      decide (6 ≤ (s.stk j).doc.bootStep) || s.inSafe j || (s.stk j).doc.heldSafe) = true := by
    simpa [or_assoc] using hready
  have hfind : (List.range s.n).find? s.mayAggregate = some k := by
    rw [List.find?_range_eq_some]
    exact ⟨hmay, List.mem_range.mpr hk, fun j hj => by simp [hlower j hj]⟩
  change execAggregatorSelect s = _
  simp only [execAggregatorSelect, hnew, hall, hfind]
  simp [hmode]

/-! ### What the loss of a link leaves -/

/-- Of a stack neither its ring links nor its timers changed. -/
structure SameLinks (x y : Stack) : Prop where
  up : y.upFailed = x.upFailed
  down : y.downFailed = x.downFailed
  tm : y.tm = x.tm

theorem SameLinks.refl (x : Stack) : SameLinks x x := ⟨rfl, rfl, rfl⟩

theorem SameLinks.trans {x y z : Stack} (h : SameLinks x y) (g : SameLinks y z) : SameLinks x z :=
  ⟨g.up.trans h.up, g.down.trans h.down, g.tm.trans h.tm⟩

/-- Responses in RSP egress of a port, or waiting for it (R133). -/
def Port.responses (x : Port) : List Resp := x.rspOut ++ x.rspWait

/-- A port keeps its responses. -/
structure KeepsResponses (x y : Port) : Prop where
  dropBelow : y.dropBelow = x.dropBelow
  responses : x.responses ⊆ y.responses

theorem KeepsResponses.refl (x : Port) : KeepsResponses x x := ⟨rfl, List.Subset.refl _⟩

theorem KeepsResponses.trans {x y z : Port} (h : KeepsResponses x y) (g : KeepsResponses y z) : KeepsResponses x z :=
  ⟨g.dropBelow.trans h.dropBelow, List.Subset.trans h.responses g.responses⟩

theorem KeepsResponses.of_subset {x y : Port} (hdrop : y.dropBelow = x.dropBelow) (hout : x.rspOut ⊆ y.rspOut)
    (hwait : x.rspWait ⊆ y.rspWait) : KeepsResponses x y :=
  ⟨hdrop, List.append_subset.mpr
    ⟨List.subset_append_of_subset_left _ hout, List.subset_append_of_subset_right _ hwait⟩⟩

/-- What ending requests with TIMEOUT leaves: dies, mode, requests on their way, links, timers, and the responses of every port
(R25). -/
structure LossFrame (s t : State) : Prop where
  part : t.part = s.part
  mode : t.mode = s.mode
  dies : t.dies = s.dies
  transit : t.transit = s.transit
  stksLength : t.stks.length = s.stks.length
  portsLength : t.ports.length = s.ports.length
  stack : ∀ j, SameLinks (s.stk j) (t.stk j)
  port : ∀ p, KeepsResponses (s.prt p) (t.prt p)

namespace LossFrame

theorem trans {s t u : State} (h : LossFrame s t) (g : LossFrame t u) : LossFrame s u where
  part := g.part.trans h.part
  mode := g.mode.trans h.mode
  dies := g.dies.trans h.dies
  transit := g.transit.trans h.transit
  stksLength := g.stksLength.trans h.stksLength
  portsLength := g.portsLength.trans h.portsLength
  stack j := (h.stack j).trans (g.stack j)
  port p := (h.port p).trans (g.port p)

/-- A change of none of these fields. -/
theorem of_eq {s t : State} (hpart : t.part = s.part) (hmode : t.mode = s.mode) (hdies : t.dies = s.dies)
    (htransit : t.transit = s.transit) (hstks : t.stks = s.stks) (hports : t.ports = s.ports) : LossFrame s t where
  part := hpart
  mode := hmode
  dies := hdies
  transit := htransit
  stksLength := by rw [hstks]
  portsLength := by rw [hports]
  stack j := by
    rw [State.stk, State.stk, hstks, hpart]
    exact .refl _
  port p := by
    rw [State.prt, State.prt, hports]
    exact .refl _

theorem refl (s : State) : LossFrame s s := of_eq rfl rfl rfl rfl rfl rfl

/-- A change of stacks. -/
theorem of_stks {R : Nat → Stack → Stack → Prop} {s t : State} (h : StksFrame R s t) (hR : ∀ j x y, R j x y → SameLinks x y) :
    LossFrame s t where
  part := h.part
  mode := by rw [h.state]
  dies := by rw [h.state]
  transit := by rw [h.state]
  stksLength := h.length
  portsLength := by rw [h.state]
  stack j := hR j _ _ (h.stack j)
  port p := by
    rw [h.prt]
    exact .refl _

/-- A change of a port. -/
theorem modPort (s : State) (p : Nat) (f : Port → Port) (hf : ∀ x, KeepsResponses x (f x)) : LossFrame s (s.modPort p f) where
  part := rfl
  mode := rfl
  dies := rfl
  transit := rfl
  stksLength := rfl
  portsLength := length_modify' s.ports p f
  stack _ := .refl _
  port q := State.prt_modPort_rel .refl hf s p q

/-- A loop of such changes. -/
theorem foldl {α : Type} (f : State → α → State) (hf : ∀ s a, LossFrame s (f s a)) (l : List α) (s : State) :
    LossFrame s (l.foldl f s) := by
  induction l generalizing s with
  | nil => exact refl s
  | cons a l ih => exact (hf s a).trans (ih (f s a))

theorem ringTx (s : State) (k j : Nat) : LossFrame s (s.ringTx k j) :=
  of_stks (CountFrame.ringTx s k j) (fun _ _ _ h => by rw [h.1]; exact ⟨rfl, rfl, rfl⟩)

theorem dropEntry (s : State) (k rid : Nat) : LossFrame s (s.dropEntry k rid) :=
  of_stks (stksFrame_dropEntry s k rid) (fun _ _ _ h => by rw [h.1]; exact ⟨rfl, rfl, rfl⟩)

theorem report (s : State) (k : Nat) (x : Kind) (i sub addr : Nat) : LossFrame s (s.report k x i sub addr) := by
  obtain ⟨st, ep, heq, hlen⟩ := s.report_eq k x i sub addr
  refine ⟨by rw [heq], by rw [heq], by rw [heq], by rw [heq], by rw [heq]; exact hlen, by rw [heq], fun j => ?_, fun p => ?_⟩
  · rw [(stk_report s k x i sub addr j).1]
    exact ⟨rfl, rfl, rfl⟩
  · rw [heq]
    exact .refl _

theorem pushRsp (s : State) (r : Resp) : LossFrame s (pushRsp s r) := by
  refine modPort s r.port _ (fun x => ?_)
  split_ifs
  · exact .refl x
  · exact .of_subset rfl (List.subset_append_left _ _) (List.Subset.refl _)
  · exact .of_subset rfl (List.Subset.refl _) (List.subset_append_left _ _)

theorem endOutst (s : State) (p reqId rid : Nat) : LossFrame s (s.endOutst p reqId rid) := by
  refine modPort s p _ (fun x => ?_)
  split_ifs
  · exact .refl x
  · exact ⟨rfl, List.Subset.refl _⟩

theorem timeoutReq (s : State) (r : Req) : LossFrame s (timeoutReq s r) := by
  unfold Machine.timeoutReq
  dsimp only
  split_ifs
  · exact (pushRsp s _).trans ((endOutst _ _ _ _).trans (report _ _ _ _ _ _))
  · exact pushRsp s _

/-- A request that the stack still holds ends with TIMEOUT. -/
theorem timeoutReq_held (s : State) (r : Req) (l : List Nat) :
    LossFrame s (Machine.timeoutReq { s with timedOut := l } r) := by
  have hmark : LossFrame s { s with timedOut := l } := of_eq rfl rfl rfl rfl rfl rfl
  exact hmark.trans (timeoutReq _ r)

theorem loseEntries (s : State) (l k : Nat) : LossFrame s (loseEntries s l k) := by
  refine foldl _ (fun s e => ?_) _ s
  split_ifs
  · exact (dropEntry s k e.req.rid).trans (timeoutReq _ e.req)
  · exact timeoutReq_held s e.req _

theorem loseQueued (s : State) (l k : Nat) : LossFrame s (loseQueued s l k) :=
  foldl _ (fun s r => timeoutReq_held s r _) _ s

theorem timeoutRec (s : State) (q : Nat) (f : FwdRec) : LossFrame s (timeoutRec s q f) := by
  have hdrop : LossFrame s (dropRec s q f) := modPort s q _ (fun _ => ⟨rfl, List.Subset.refl _⟩)
  have hstale := fun s : State => modPort s q
    (fun x => { x with staleRecs := x.staleRecs.filter (· != f.idx) ++ [f.idx] }) (fun _ => ⟨rfl, List.Subset.refl _⟩)
  unfold Machine.timeoutRec
  dsimp only
  split_ifs
  · exact hdrop.trans ((hstale _).trans ((pushRsp _ _).trans ((endOutst _ _ _ _).trans (report _ _ _ _ _ _))))
  · exact hdrop.trans ((hstale _).trans (pushRsp _ _))

theorem loseForwarded (s : State) (l : Nat) : LossFrame s (loseForwarded s l) :=
  foldl _ (fun s q => foldl _ (fun s f => timeoutRec s q f) _ s) _ s

theorem loseConfirm (s : State) (l : Nat) : LossFrame s (loseConfirm s l) := by
  unfold Machine.loseConfirm
  split_ifs
  · exact refl s
  · exact of_eq rfl rfl rfl rfl rfl rfl

theorem sendAbort (s : State) : LossFrame s (sendAbort s) := by
  have hsent : LossFrame s (if s.commit.phase == .checking then s else forStacks s (fun s k => s.ringTx s.agg k)) := by
    split_ifs
    · exact refl s
    · exact foldl _ (fun s k => ringTx s s.agg k) _ s
  exact ⟨hsent.part, hsent.mode, hsent.dies, hsent.transit, hsent.stksLength, hsent.portsLength, hsent.stack, hsent.port⟩

theorem abortCommit (s : State) : LossFrame s (abortCommit s) := by
  unfold Machine.abortCommit
  dsimp only
  split_ifs
  · exact sendAbort s
  · exact refl s

end LossFrame

/-! ### Requests on their way over the link -/

/-- The response of a request that ends with TIMEOUT is at its arrival port (R25). -/
theorem mem_responses_timeoutReq (s : State) (r : Req) (hp : r.port < s.ports.length) (hdrop : (s.prt r.port).dropBelow ≤ r.rid) :
    respTo r stTimeout (s.frame (r.port / 4)) ∈ ((timeoutReq s r).prt r.port).responses := by
  have hpush : respTo r stTimeout (s.frame (r.port / 4)) ∈
      ((pushRsp s (respTo r stTimeout (s.frame (r.port / 4)))).prt r.port).responses := by
    have hlive : ¬ (respTo r stTimeout (s.frame (r.port / 4))).rid < (s.prt r.port).dropBelow := Nat.not_lt.mpr hdrop
    have hport : (respTo r stTimeout (s.frame (r.port / 4))).port = r.port := rfl
    rw [pushRsp, hport, State.prt_modPort_same s r.port _ hp, if_neg hlive]
    split_ifs <;> simp [Port.responses]
  unfold timeoutReq
  dsimp only
  split_ifs
  · exact (((LossFrame.endOutst _ _ _ _).trans (LossFrame.report _ _ _ _ _ _)).port r.port).responses hpush
  · exact hpush

/-- Each of the requests that end with TIMEOUT has its response at its arrival port (R25). -/
theorem mem_responses_foldl_timeoutReq (l : List Req) (s : State) (r : Req) (hr : r ∈ l) (hp : r.port < s.ports.length)
    (hdrop : (s.prt r.port).dropBelow ≤ r.rid) :
    respTo r stTimeout (s.frame (r.port / 4)) ∈ ((l.foldl timeoutReq s).prt r.port).responses := by
  induction l generalizing s with
  | nil => cases hr
  | cons a l ih =>
    have hstep := LossFrame.timeoutReq s a
    obtain rfl | hr := List.mem_cons.mp hr
    · exact ((LossFrame.foldl timeoutReq LossFrame.timeoutReq l (timeoutReq s r)).port r.port).responses
        (mem_responses_timeoutReq s r hp hdrop)
    · have h := ih (timeoutReq s a) hr (hstep.portsLength.symm ▸ hp) ((hstep.port r.port).dropBelow.symm ▸ hdrop)
      rwa [State.frame, (hstep.stack _).tm] at h

/-- The requests on their way whose remaining path uses ring link l (R25). -/
def State.onLink (s : State) (l : Nat) : List Req := s.transit.filter (fun r => s.pathUses (r.port / 4) r.home r.reqId l)

theorem mem_onLink (s : State) (l : Nat) (r : Req) :
    r ∈ s.onLink l ↔ r ∈ s.transit ∧ s.pathUses (r.port / 4) r.home r.reqId l = true := List.mem_filter

/-- The state once the requests of ring link l are no longer on their way. -/
def State.offLink (s : State) (l : Nat) : State := { s with transit := s.transit.filter (fun r => !(s.onLink l).contains r) }

theorem mem_transit_offLink (s : State) (l : Nat) (r : Req) :
    r ∈ (s.offLink l).transit ↔ r ∈ s.transit ∧ s.pathUses (r.port / 4) r.home r.reqId l = false := by
  simp only [State.offLink, List.mem_filter, Bool.not_eq_true', List.contains_eq_mem, decide_eq_false_iff_not, mem_onLink]
  cases s.pathUses (r.port / 4) r.home r.reqId l <;> simp

theorem lossFrame_loseTransit (s : State) (l : Nat) :
    LossFrame ((s.onLink l).foldl timeoutReq (s.offLink l)) (loseTransit s l) :=
  LossFrame.foldl _ (fun s r => LossFrame.timeoutReq_held s r _) _ _

/-! ### The link leaves service -/

/-- The state when every message over ring link l is lost (R25). -/
def State.lostOver (s : State) (l : Nat) : State :=
  loseConfirm (loseForwarded (forStacks (loseTransit s l) (fun s j => loseQueued (loseEntries s l j) l j)) l) l

theorem lossFrame_lostOver (s : State) (l : Nat) : LossFrame (loseTransit s l) (s.lostOver l) := by
  have hheld : LossFrame (loseTransit s l) (forStacks (loseTransit s l) (fun s j => loseQueued (loseEntries s l j) l j)) :=
    LossFrame.foldl _ (fun s j => (LossFrame.loseEntries s l j).trans (LossFrame.loseQueued _ l j)) _ _
  exact hheld.trans ((LossFrame.loseForwarded _ l).trans (LossFrame.loseConfirm _ l))

theorem lossFrame_offLink (s : State) (l : Nat) : LossFrame (s.offLink l) (s.lostOver l) :=
  (LossFrame.foldl timeoutReq LossFrame.timeoutReq (s.onLink l) (s.offLink l)).trans
    ((lossFrame_loseTransit s l).trans (lossFrame_lostOver s l))

/-- A lost request has its TIMEOUT response at its arrival port (R25). -/
theorem mem_responses_lostOver (s : State) (l : Nat) (r : Req) (hr : r ∈ s.transit)
    (huse : s.pathUses (r.port / 4) r.home r.reqId l = true) (hp : r.port < s.ports.length)
    (hdrop : (s.prt r.port).dropBelow ≤ r.rid) :
    respTo r stTimeout (s.frame (r.port / 4)) ∈ ((s.lostOver l).prt r.port).responses :=
  (((lossFrame_loseTransit s l).trans (lossFrame_lostOver s l)).port r.port).responses
    (mem_responses_foldl_timeoutReq (s.onLink l) (s.offLink l) r ((mem_onLink s l r).mpr ⟨hr, huse⟩) hp hdrop)

/-- The UP link of stack l is out of service. -/
def State.failUp (s : State) (l : Nat) : State := s.modStk l (fun x => { x with upFailed := true })

/-- The DOWN link of stack m is out of service. -/
def State.failDown (s : State) (m : Nat) : State := s.modStk m (fun x => { x with downFailed := true })

theorem upFailed_failUp_same (s : State) (l : Nat) (hl : l < s.stks.length) : ((s.failUp l).stk l).upFailed = true := by
  rw [State.failUp, State.stk_modStk_same s l _ hl]

theorem stk_failUp_other (s : State) (l j : Nat) (h : j ≠ l) : (s.failUp l).stk j = s.stk j :=
  State.stk_modStk_other s l j _ h

theorem downFailed_failUp (s : State) (l j : Nat) : ((s.failUp l).stk j).downFailed = (s.stk j).downFailed :=
  State.stk_modStk_proj (f := fun x => { x with upFailed := true }) Stack.downFailed (fun _ => rfl) s l j

theorem stk_failDown_other (s : State) (m j : Nat) (h : j ≠ m) : (s.failDown m).stk j = s.stk j :=
  State.stk_modStk_other s m j _ h

theorem upFailed_failDown (s : State) (m j : Nat) : ((s.failDown m).stk j).upFailed = (s.stk j).upFailed :=
  State.stk_modStk_proj (f := fun x => { x with downFailed := true }) Stack.upFailed (fun _ => rfl) s m j

/-- Ring link l of a ring of n is out of service, at both its ends (R25). -/
def State.failLink (s : State) (n l : Nat) : State := (s.failUp l).failDown ((l + 1) % n)

@[simp] theorem transit_failLink (s : State) (n l : Nat) : (s.failLink n l).transit = s.transit := rfl

@[simp] theorem dies_failLink (s : State) (n l : Nat) : (s.failLink n l).dies = s.dies := rfl

@[simp] theorem mode_failLink (s : State) (n l : Nat) : (s.failLink n l).mode = s.mode := rfl

@[simp] theorem prt_failLink (s : State) (n l p : Nat) : (s.failLink n l).prt p = s.prt p := rfl

theorem linkOk_failLink_same (s : State) (l : Nat) (hl : l < s.stks.length) : (s.failLink s.n l).linkOk l = false := by
  rw [State.linkOk, State.failLink, upFailed_failDown, upFailed_failUp_same s l hl]
  rfl

/-- Two links of a ring end DOWN at two stacks. -/
theorem succ_mod_ne {n l m : Nat} (hl : l < n) (hm : m < n) (h : m ≠ l) : (m + 1) % n ≠ (l + 1) % n := by
  intro heq
  have hmod : m % n = l % n := Nat.ModEq.add_right_cancel' 1 heq
  rw [Nat.mod_eq_of_lt hl, Nat.mod_eq_of_lt hm] at hmod
  exact h hmod

theorem linkOk_failLink_other (s : State) (l m : Nat) (hl : l < s.n) (hm : m < s.n) (h : m ≠ l) :
    (s.failLink s.n l).linkOk m = s.linkOk m := by
  have hn : (s.failLink s.n l).n = s.n := rfl
  rw [State.linkOk, State.linkOk, hn, State.failLink, upFailed_failDown, stk_failUp_other s l m h,
    stk_failDown_other _ _ _ (succ_mod_ne hl hm h), downFailed_failUp]

/-- Links stay in service, or out of it, with the stacks' marks. -/
theorem LossFrame.linkOk {s t : State} (h : LossFrame s t) : t.linkOk = s.linkOk := by
  funext l
  rw [State.linkOk, State.linkOk, State.n, State.n, h.part, (h.stack l).up, (h.stack _).down]

/-- The state after ring link l has failed (R25, R511). -/
def State.linkFailed (s : State) (l : Nat) : State :=
  let u := ((s.lostOver l).failLink s.n l).report l K.STK_RING_LINK_FAIL 0 0 0
  if (List.range s.n).all (u.reach u.agg) then u else abortCommit u

theorem exec_ringLinkFail (s : State) (k : Nat) (up : Bool) (hk : k < s.n) (hmode : s.mode ≠ .off)
    (hok : s.linkOk (if up then k else (k + s.n - 1) % s.n) = true) :
    exec (.ringLinkFail k up) s = .next (s.linkFailed (if up then k else (k + s.n - 1) % s.n)) := by
  change execRingLinkFail k up s = _
  simp [execRingLinkFail, hk, hmode, hok, State.linkFailed, State.lostOver, State.failLink, State.failUp, State.failDown]

theorem lossFrame_linkFailed (s : State) (l : Nat) : LossFrame ((s.lostOver l).failLink s.n l) (s.linkFailed l) := by
  have hreport := LossFrame.report ((s.lostOver l).failLink s.n l) l K.STK_RING_LINK_FAIL 0 0 0
  unfold State.linkFailed
  dsimp only
  split_ifs
  · exact hreport
  · exact hreport.trans (LossFrame.abortCommit _)

/-- A ring link that fails (R25). -/
theorem claims_ringLinkFail : Claims.RingLinkFail := by
  intro s k up hshape hk hmode hok
  have hl : (if up then k else (k + s.n - 1) % s.n) < s.n := by
    split_ifs
    · exact hk
    · exact Nat.mod_lt _ (by omega)
  have hexec := exec_ringLinkFail s k up hk hmode hok
  generalize (if up then k else (k + s.n - 1) % s.n) = l at hl hexec ⊢
  have hlost := lossFrame_offLink s l
  have hend := lossFrame_linkFailed s l
  have hn : (s.lostOver l).n = s.n := by rw [State.n, hlost.part]; rfl
  have hlen : l < (s.lostOver l).stks.length := by
    rw [hlost.stksLength]
    exact hshape.1.symm ▸ hl
  refine ⟨_, hexec, ?_, fun m hm hne => ?_, fun r => ?_, fun r hr huse hp hdrop => ?_, ?_, ?_⟩
  · rw [hend.linkOk, ← hn]
    exact linkOk_failLink_same (s.lostOver l) l hlen
  · rw [hend.linkOk, ← hn, linkOk_failLink_other (s.lostOver l) l m (hn.symm ▸ hl) (hn.symm ▸ hm) hne, hlost.linkOk]
    rfl
  · rw [hend.transit, transit_failLink, hlost.transit, mem_transit_offLink]
  · have hkeep := (hend.port r.port).responses
    rw [prt_failLink] at hkeep
    exact hkeep (mem_responses_lostOver s l r hr huse (hshape.2.symm ▸ hp) hdrop)
  · rw [hend.dies, dies_failLink, hlost.dies]
    rfl
  · rw [hend.mode, mode_failLink, hlost.mode]
    rfl

/-! ### A partition -/

/-- Stack k reports a partition: it is outside the part of the reference and has not reported one (R511). -/
def State.parted (s : State) (k : Nat) : Bool := !s.inPart k && !(s.stk k).partReported

/-- The turn of stack k in RING_PARTITION. -/
def reportPart (s : State) (k : Nat) : State :=
  if s.inPart k || (s.stk k).partReported || s.mode == .off then s else s.report k K.STK_RING_PARTITION 0 0 0

/-- u is s once the stacks below m have reported a partition. -/
structure PartedBelow (s : State) (m : Nat) (u : State) : Prop where
  frame : StksFrame (fun _ => RgOnly) s u
  same : ∀ k, s.parted k = false ∨ m ≤ k → u.stk k = s.stk k
  raised : ∀ k, k < m → s.parted k = true → Raised s u k K.STK_RING_PARTITION 0

/-- Which stacks are in the part of the reference does not depend on the intakes. -/
theorem inPart_of_frame {s u : State} (h : StksFrame (fun _ => RgOnly) s u) (k : Nat) : u.inPart k = s.inPart k := by
  have hreach : u.reach = s.reach :=
    State.reach_congr (by rw [State.n, h.part, State.n]) (fun j => by rw [h.stack j]; exact ⟨rfl, rfl⟩)
  have href : u.ref = s.ref := by rw [h.state]
  rw [State.inPart, State.inPart, hreach, href]

theorem PartedBelow.succ {s u : State} {m : Nat} (h : PartedBelow s m u) (hm : m < s.stks.length) (hmode : s.mode ≠ .off) :
    PartedBelow s (m + 1) (reportPart u m) := by
  have hstk := h.same m (.inr (Nat.le_refl m))
  have humode : (u.mode == .off) = false := by
    rw [h.frame.state]
    simpa using hmode
  have hcond : (u.inPart m || (u.stk m).partReported || u.mode == .off) = !s.parted m := by
    rw [inPart_of_frame h.frame, hstk, humode, State.parted]
    simp
  rw [reportPart, hcond]
  cases hpart : s.parted m with
  | false =>
    refine ⟨h.frame, fun k hk => h.same k (hk.imp_right (by omega)), fun k hk hp => h.raised k ?_ hp⟩
    have hne : k ≠ m := fun e => by simp [← e, hp] at hpart
    omega
  | true =>
    have hreport := stksFrame_report u m K.STK_RING_PARTITION 0 0 0 (by decide)
    refine ⟨StksFrame.trans (fun _ x y z hxy hyz => by rw [RgOnly, hyz, hxy]) h.frame (hreport.mono (fun _ _ _ hxy => hxy.1)),
      fun k hk => ?_, fun k hk hp => ?_⟩
    · have hne : k ≠ m := fun e => by simp [e, hpart] at hk
      rw [if_neg (by simp), (hreport.stack k).2 hne, h.same k (hk.imp_right (by omega))]
    · rw [if_neg (by simp)]
      by_cases hkm : k = m
      · rw [hkm]
        exact (raised_report u m K.STK_RING_PARTITION 0 0 0 (h.frame.length.symm ▸ hm) (by decide)).of_rg_eq (by rw [hstk])
      · have hother := (hreport.stack k).2 hkm
        exact (h.raised k (by omega) hp).congr (by rw [hreport.state]) hreport.part (by rw [hother]) (by rw [hother]) (by rw [hother])

theorem partedBelow_forN (s : State) (hmode : s.mode ≠ .off) (m : Nat) (hm : m ≤ s.stks.length) :
    PartedBelow s m (forN m s reportPart) := by
  induction m with
  | zero => exact ⟨StksFrame.refl (R := fun _ => RgOnly) (fun _ _ => rfl) s, fun _ _ => rfl, nofun⟩
  | succ m ih =>
    have hstep : forN (m + 1) s reportPart = reportPart (forN m s reportPart) m := by simp [forN, List.range_succ]
    rw [hstep]
    exact (ih (by omega)).succ (by omega) hmode

/-- A partition (R511). -/
theorem claims_ringPartition : Claims.RingPartition := by
  intro s hshape hmode
  obtain ⟨hframe, hsame, hraised⟩ := partedBelow_forN s hmode s.n hshape.1.ge
  refine ⟨_, rfl, fun k hk hpart hnew => hraised k hk (by simp [State.parted, hpart, hnew]), fun k hk => hsame k (.inl ?_),
    hframe.state, hframe.stack⟩
  obtain h | h := hk <;> simp [State.parted, h]

/-- Settles O10: what ends requests with TIMEOUT keeps one frame, and the stacks report a partition in turn. -/
theorem ring : Obligations.Ring := ⟨claims_aggregatorSelect, claims_ringLinkFail, claims_ringPartition⟩

end Sys2Proof.Machine
end

section
/-! PROOFS. The running level, temperature tiers, TIME_SYNC on a port, and the comparison of frame counters (R37, R39 to R42, R46,
R390, R391). -/

namespace Sys2Proof.Machine

/-! ### The running level and the tiers -/

/-- The running level changes at the next tick, to the slowest of the three caps (R37, R390). -/
theorem claims_runLevelChange : Claims.RunLevelChange := by
  intro s l hserv hne hl _
  have htarget : l = s.targetLevel := hl
  change execRunLevelChange l s = _
  simp [execRunLevelChange, hserv, ← htarget, hne]

/-- The change of one stack that a command makes is that stack's new content, and the only change. -/
theorem runs_modStk {c : Instr} {s : State} {k : Nat} {f : Stack → Stack} (hk : k < s.stks.length)
    (h : exec c s = .next (s.modStk k f)) : Runs c s (fun t => OnlyStk k s t ∧ t.stk k = f (s.stk k)) :=
  ⟨_, h, onlyStk_modStk s k f, State.stk_modStk_same s k f hk⟩

/-- Temperature tiers (R46). -/
theorem claims_tiers : Claims.Tiers := by
  refine ⟨fun s k w hshape hk hcool hw hrise => ?up, fun s k hshape hk hcool htier hhold => ?down⟩
  case up =>
    have hwant : (s.stk k).wantTier = w := by
      rw [Stack.wantTier, hcool, hw]
      rfl
    have hexec : exec (.tierUp k) s = .next (nextTier s k w) := by
      change execTierUp k s = _
      simp only [execTierUp, hwant, if_pos hrise]
    exact runs_modStk (hshape.1.symm ▸ hk) hexec
  case down =>
    have hexec : exec (.tierDown k) s = .next (nextTier s k ((s.stk k).tm.tier - 1)) := by
      change execTierDown k s = _
      simp only [execTierDown, if_pos (And.intro htier (And.intro hhold hcool))]
    exact runs_modStk (hshape.1.symm ▸ hk) hexec

/-- Settles O13: each command sets only what the next tick brings. -/
theorem levelsAndTiers : Obligations.LevelsAndTiers := ⟨claims_runLevelChange, claims_tiers⟩

/-! ### TIME_SYNC on a port -/

/-- A report leaves the frame counters. -/
theorem frame_report (s : State) (k : Nat) (x : Kind) (i sub addr : Nat) : (s.report k x i sub addr).frame = s.frame := by
  funext j
  obtain ⟨hstk, -⟩ := stk_report s k x i sub addr j
  rw [State.frame, hstk, State.frame]

/-- A report on a package page changes the intake of its stack and the bits to be sent (R510). -/
theorem stk_report_of_isPkg (s : State) (k : Nat) (x : Kind) (i sub addr : Nat) (hx : x.bit < 24) (hp : x.page.isPkg = true) :
    s.report k x i sub addr = { s with
      stks := (s.report k x i sub addr).stks, errPend := s.errPend ++ [(k, x.page.index i, x.bit)] } ∧
    (s.report k x i sub addr).stks.length = s.stks.length ∧
    ∀ j, AtStk k RgOnly j (s.stk j) ((s.report k x i sub addr).stk j) := by
  have hmark := s.markErr_of_isPkg k x i hx hp
  obtain h | ⟨w, h⟩ := s.report_cases k x i sub addr
  · rw [h, hmark]
    exact ⟨rfl, rfl, fun j => ⟨rfl, fun _ => rfl⟩⟩
  · rw [h, hmark]
    exact ⟨rfl, length_modify' _ _ _, (stksFrame_modRg _ k _).stack⟩

/-- A TIME_SYNC with an edge offset in range is received (R41, R348). -/
theorem exec_timeSync (s : State) (p : Nat) (f : BitVec 64) (e phase : Nat) (he : e ≤ 199) :
    exec (.timeSync p f e phase) s = .next (recvTimeSync s p f.toNat e phase) := by
  change execTimeSync p f e phase s = _
  rw [execTimeSync, if_neg (Nat.not_lt.mpr he)]

/-- TIME_SYNC has no effect on a port that does not supply the reference, or with SYNC_ACCEPT 0 (R40). -/
theorem recvTimeSync_discards (s : State) (p f e phase : Nat)
    (h : s.flag (p / 4) 0 F.TIC_CTRL_SYNC_ACCEPT = false ∨ p ≠ s.refPort) : recvTimeSync s p f e phase = s := by
  obtain h | h := h <;> simp [recvTimeSync, h]

/-- What an accepted TIME_SYNC leaves to the next tick: the number of its frame, and a long frame where the natural tick is
suppressed (R41, R42). -/
def State.synced (s : State) (f x num : Nat) : State :=
  ({ s with sync := some (min cntMax num), longFrame := s.longFrame || decide (200 < if 200 ≤ x then x else x + 200) }.setCnt
    0 .tic 0 1 f).setCnt 0 .tic 0 2 (satAdd cntMax (s.cntVal 0 .tic 0 2) 1)

section Received
variable {s : State} {p : Nat} (f e phase : Nat) (hflag : s.flag (p / 4) 0 F.TIC_CTRL_SYNC_ACCEPT = true) (hp : p = s.refPort)
  (hmode : s.mode ≠ .off)
include hflag hp hmode

/-- A frame number above the counter is accepted while none waits (R41). -/
theorem recvTimeSync_accepts (hnum : s.frame (p / 4) < if 200 ≤ phase + e then f else f + 1) (hfree : s.sync = none) :
    recvTimeSync s p f e phase = s.synced f (phase + e) (if 200 ≤ phase + e then f else f + 1) := by
  subst hp
  simp [recvTimeSync, hflag, hmode, hnum, hfree, State.synced]

/-- A frame number not above the counter is rejected (R41). -/
theorem recvTimeSync_rejects (hnum : (if 200 ≤ phase + e then f else f + 1) ≤ s.frame (p / 4)) :
    recvTimeSync s p f e phase = s.report (p / 4) K.TIC_SYNC_REJECT 0 0 0 := by
  subst hp
  simp [recvTimeSync, hflag, hmode, hnum]

end Received

/-- The counters that an accepted TIME_SYNC leaves (R60). -/
theorem cntVal_synced (s : State) (f x num : Nat) :
    (s.synced f x num).cntVal 0 .tic 0 1 = f ∧
    (s.synced f x num).cntVal 0 .tic 0 2 = satAdd cntMax (s.cntVal 0 .tic 0 2) 1 := by
  constructor
  · rw [State.synced, State.cntVal_setCnt_other _ 0 0 .tic .tic 0 0 2 1 _ (.inr (.inr (by decide)))]
    exact mget_mput_same _ _ _ _
  · exact mget_mput_same _ _ _ _

/-- TIME_SYNC on a port (R40 to R42). -/
theorem claims_timeSync : Claims.TimeSync := by
  refine ⟨fun s p f e phase he h => ?discarded, fun s p f e phase num he hflag hp hmode hnum habove hfree => ?accepted,
    fun s p f e phase he hflag hp hmode hnum => ?rejected⟩
  case discarded => rw [exec_timeSync s p f e phase he, recvTimeSync_discards s p f.toNat e phase h]
  case accepted =>
    subst hnum
    obtain ⟨hsync, hcount⟩ := cntVal_synced s f.toNat (phase + e) (if 200 ≤ phase + e then f.toNat else f.toNat + 1)
    have hexec := exec_timeSync s p f e phase he
    rw [recvTimeSync_accepts f.toNat e phase hflag hp hmode habove hfree] at hexec
    have hlong : (s.synced f.toNat (phase + e) (if 200 ≤ phase + e then f.toNat else f.toNat + 1)).longFrame =
        (s.longFrame || decide (200 < if 200 ≤ phase + e then phase + e else phase + e + 200)) := rfl
    refine ⟨_, hexec, rfl, fun h => ?_, fun h h' => ?_, fun h => ?_, hsync, hcount, rfl⟩
    · rw [hlong, if_pos (by omega), decide_eq_true h, Bool.or_true]
    · rw [hlong, if_neg (by omega), decide_eq_true (by omega), Bool.or_true]
    · have hnot : ¬ 200 < if 200 ≤ phase + e then phase + e else phase + e + 200 := by split <;> omega
      rw [hlong, decide_eq_false hnot, Bool.or_false]
  case rejected =>
    have hexec := exec_timeSync s p f e phase he
    rw [recvTimeSync_rejects f.toNat e phase hflag hp hmode hnum] at hexec
    have hkeep := (stk_report_of_isPkg s (p / 4) K.TIC_SYNC_REJECT 0 0 0 (by decide) rfl).1
    refine ⟨_, hexec, ?_, frame_report s (p / 4) K.TIC_SYNC_REJECT 0 0 0,
      raised_report_of_isPkg s (p / 4) K.TIC_SYNC_REJECT 0 0 0 (by decide) rfl⟩
    rw [hkeep]

/-! ### The comparison of frame counters (R39) -/

/-- The counter that the aggregator sends comes to stack k. -/
def State.compared (s : State) (k : Nat) : Bool := k != s.agg && !s.inReset k && s.reach s.agg k

/-- The comparison of R39 finds that stack k differs from the aggregator. -/
def State.misaligned (s : State) (k : Nat) : Bool :=
  s.compared k && s.flag k 0 F.TIC_CTRL_MISMATCH_CHECK_EN && s.frame k != s.frame s.agg

/-- The timer of stack k is marked to take the aggregator's counter at the next tick. -/
def markAlign (s : State) (k : Nat) : State := s.modStk k (fun x => { x with tm := { x.tm with align := true } })

/-- The turn of stack k in FRAME_COUNT_ALIGN. -/
def alignStack (s : State) (k : Nat) : State :=
  if k = s.agg ∨ s.inReset k ∨ !s.reach s.agg k then s else
  let s1 := s.ringTx s.agg k
  if !s1.flag k 0 F.TIC_CTRL_MISMATCH_CHECK_EN || s1.frame k == s1.frame s1.agg then s1
  else (markAlign s1 k).report k K.TIC_FRAME_MISMATCH 0 0 0

/-- The timer of a stack that is marked, and of one that is not. -/
def Timer.marked (t : Timer) (b : Bool) : Timer := if b then { t with align := true } else t

/-- u is s once the comparison has come to the stacks below m. -/
structure AlignedBelow (s : State) (m : Nat) (u : State) : Prop where
  state : u = { s with stks := u.stks, errPend := u.errPend }
  length : u.stks.length = s.stks.length
  stack : ∀ j, u.stk j = { s.stk j with
    cnt := (u.stk j).cnt, rg := (u.stk j).rg, tm := (s.stk j).tm.marked (decide (j < m) && s.misaligned j) }
  sent : ∀ j, j < m → s.misaligned j = true → (j, Page.index 0 .tic, 1) ∈ u.errPend

namespace AlignedBelow

variable {s u : State} {m : Nat} (h : AlignedBelow s m u)
include h

theorem frame (j : Nat) : u.frame j = s.frame j := by
  rw [State.frame, h.stack j, State.frame]
  unfold Timer.marked
  split <;> rfl

theorem agg : u.agg = s.agg := by rw [h.state]

theorem raw (j : Nat) (pg : Page) (i off : Nat) : u.raw j pg i off = s.raw j pg i off :=
  State.raw_congr (by rw [h.state]) (by rw [h.stack j]) (by rw [h.stack j]) pg i off

theorem compared (j : Nat) : u.compared j = s.compared j := by
  have hreach : u.reach = s.reach :=
    State.reach_congr (by rw [State.n, h.state, State.n]) (fun j => by rw [h.stack j]; exact ⟨rfl, rfl⟩)
  rw [State.compared, State.compared, hreach, h.agg, State.inReset, State.inReset, h.stack j]

/-- The turn of stack m goes by what the comparison found before it began. -/
theorem alignStack_eq : alignStack u m = if s.compared m = true then
    (if s.misaligned m = true then (markAlign (u.ringTx s.agg m) m).report m K.TIC_FRAME_MISMATCH 0 0 0 else u.ringTx s.agg m)
    else u := by
  have hcond : (m = u.agg ∨ u.inReset m = true ∨ (!u.reach u.agg m) = true) ↔ s.compared m = false := by
    rw [← h.compared m, State.compared]
    simp only [Bool.and_eq_false_iff, bne_eq_false_iff_eq, Bool.not_eq_false', Bool.not_eq_true']
    tauto
  have htx := CountFrame.ringTx u s.agg m
  have hframe : ∀ j, (u.ringTx s.agg m).frame j = s.frame j := fun j => by
    rw [State.frame, htx.stk j]
    exact h.frame j
  have hagg : (u.ringTx s.agg m).agg = s.agg := by rw [htx.state, h.agg]
  have hflag : (u.ringTx s.agg m).flag m 0 F.TIC_CTRL_MISMATCH_CHECK_EN = s.flag m 0 F.TIC_CTRL_MISMATCH_CHECK_EN := by
    rw [State.flag, State.fld, htx.raw, h.raw, State.flag, State.fld]
  rw [alignStack, h.agg]
  rw [h.agg] at hcond
  dsimp only
  rw [hframe, hagg, hframe, hflag]
  cases hc : s.compared m with
  | false => rw [if_pos (hcond.mpr hc), if_neg (by simp)]
  | true =>
    rw [if_neg (fun hn => by simp [hcond.mp hn] at hc), if_pos rfl]
    cases hm : s.misaligned m with
    | true =>
      simp only [State.misaligned, hc, Bool.true_and, Bool.and_eq_true, bne_iff_ne, ne_eq] at hm
      obtain ⟨hen, hdiff⟩ := hm
      rw [if_pos rfl, if_neg (by simp [hen, hdiff])]
    | false =>
      simp only [State.misaligned, hc, Bool.true_and, Bool.and_eq_false_iff, bne_eq_false_iff_eq] at hm
      obtain hm | hm := hm <;> simp [hm]

/-- A turn of a stack that is not marked leaves all but counters. -/
theorem of_countFrame {v : State} {a : Nat} (g : CountFrame a u v) (hm : s.misaligned m = false) : AlignedBelow s (m + 1) v where
  state := by
    rw [g.state, h.state]
  length := g.length.trans h.length
  stack j := by
    have hmark : (decide (j < m + 1) && s.misaligned j) = (decide (j < m) && s.misaligned j) := by
      by_cases hj : j = m
      · simp [hj, hm]
      · rw [decide_eq_decide.mpr (by omega : j < m + 1 ↔ j < m)]
    rw [g.stk j, h.stack j, hmark]
  sent j hj hmis := by
    have hne : j ≠ m := fun hjm => by simp [hjm, hm] at hmis
    rw [g.state]
    exact h.sent j (by omega) hmis

/-- The turn of a stack that differs marks its timer and sends its event. -/
theorem of_marked (hm : s.misaligned m = true) (hlen : m < s.stks.length) :
    AlignedBelow s (m + 1) ((markAlign (u.ringTx s.agg m) m).report m K.TIC_FRAME_MISMATCH 0 0 0) := by
  have htx := CountFrame.ringTx u s.agg m
  obtain ⟨hstate, hlength, hstk⟩ := stk_report_of_isPkg (markAlign (u.ringTx s.agg m) m) m K.TIC_FRAME_MISMATCH 0 0 0 (by decide) rfl
  have herr : (markAlign (u.ringTx s.agg m) m).errPend = u.errPend := by
    rw [markAlign, State.modStk_errPend, htx.state]
  refine ⟨?_, ?_, fun j => ?_, fun j hj hmis => ?_⟩
  · rw [hstate, markAlign, State.modStk, htx.state, h.state]
  · rw [hlength, markAlign, State.modStk_stks, length_modify', htx.length, h.length]
  · obtain ⟨hrg, -⟩ := hstk j
    rw [hrg]
    by_cases hj : j = m
    · subst hj
      have hmark : (decide (j < j + 1) && s.misaligned j) = true := by simp [hm]
      have hold : (decide (j < j) && s.misaligned j) = false := by simp
      rw [markAlign, State.stk_modStk_same _ j _ (by rw [htx.length, h.length]; exact hlen), htx.stk j, h.stack j, hmark, hold]
      rfl
    · have hmark : (decide (j < m + 1) && s.misaligned j) = (decide (j < m) && s.misaligned j) := by
        rw [decide_eq_decide.mpr (by omega : j < m + 1 ↔ j < m)]
      rw [markAlign, State.stk_modStk_other _ m j _ hj, htx.stk j, h.stack j, hmark]
  · rw [hstate]
    by_cases hjm : j = m
    · rw [hjm]
      exact List.mem_append_right _ (List.mem_singleton_self _)
    · exact List.mem_append_left _ (herr ▸ h.sent j (by omega) hmis)

theorem succ (hlen : m < s.stks.length) : AlignedBelow s (m + 1) (alignStack u m) := by
  rw [h.alignStack_eq]
  split_ifs with hcomp hmis
  · exact h.of_marked hmis hlen
  · exact h.of_countFrame (CountFrame.ringTx u s.agg m) (by simpa using hmis)
  · exact h.of_countFrame (CountFrame.refl 0 u) (by simp [State.misaligned, hcomp])

end AlignedBelow

theorem alignedBelow_forN (s : State) (m : Nat) (hm : m ≤ s.stks.length) : AlignedBelow s m (forN m s alignStack) := by
  induction m with
  | zero => exact ⟨rfl, rfl, fun _ => by simp [Timer.marked, forN], nofun⟩
  | succ m ih =>
    have hstep : forN (m + 1) s alignStack = alignStack (forN m s alignStack) m := by simp [forN, List.range_succ]
    rw [hstep]
    exact (ih (by omega)).succ (by omega)

/-- The state in which a comparison begins. -/
def State.comparing (s : State) : State := { s with alignLast := s.now s.agg }

/-- The comparison of frame counters (R39). -/
theorem claims_frameCountAlign : Claims.FrameCountAlign := by
  intro s hshape hserv hagg hdue
  have hexec : exec .frameCountAlign s = .next (forN s.n s.comparing alignStack) := by
    have hlate : (!s.serving || !s.aggChosen || decide (s.now s.agg - s.alignLast < 1024)) = false := by
      simp [hserv, hagg, hdue]
    change Host.Outcome.next (if (!s.serving || !s.aggChosen || decide (s.now s.agg - s.alignLast < 1024)) = true then s
      else forN s.n s.comparing alignStack) = _
    rw [hlate, if_neg Bool.false_ne_true]
  obtain ⟨hstate, -, hstk, hsent⟩ := alignedBelow_forN s.comparing s.n hshape.1.ge
  have hlast : (forN s.n s.comparing alignStack).alignLast = s.now s.agg := congrArg State.alignLast hstate
  have htm : ∀ j, ((forN s.n s.comparing alignStack).stk j).tm = (s.stk j).tm.marked (decide (j < s.n) && s.misaligned j) :=
    fun j => congrArg Stack.tm (hstk j)
  refine ⟨_, hexec, fun k hk hne hup hreach hen hdiff => ?differs, fun k heq => ?agrees, hlast, ?state⟩
  case differs =>
    have hmis : s.misaligned k = true := by simp [State.misaligned, State.compared, hne, hup, hreach, hen, hdiff]
    refine ⟨?_, hsent k hk hmis⟩
    rw [htm k, hmis, decide_eq_true hk]
    rfl
  case agrees =>
    have hmis : s.misaligned k = false := by simp [State.misaligned, heq]
    rw [htm k, hmis, Bool.and_false]
    rfl
  case state =>
    rw [hlast]
    exact hstate

/-- Settles O12: what each TIME_SYNC leaves to the tick, and the comparison stack by stack. -/
theorem frameNumbers : Obligations.FrameNumbers := ⟨claims_timeSync, claims_frameCountAlign⟩

end Sys2Proof.Machine
end

section
/-! PROOFS. The still part of a state: the time base, the clocks, the modes, the dies' power states and the tiles, which no report,
counter, request, window slot or link event changes. -/

namespace Sys2Proof.Machine

/-- The still part of a pseudo-channel: self-refresh, and a tracking pass that is due (R249). -/
def PChan.still (p : PChan) : Bool × Bool := (p.selfRefresh, p.trkDue)

/-- The still part by its fields; not by `rfl`, so that `simp` proves a side condition about a changed state with it. -/
@[simp] theorem PChan.still_eq (p : PChan) : p.still = (p.selfRefresh, p.trkDue) := by rw [PChan.still]

/-- The still part of a channel. -/
def Chan.still (c : Chan) : Bool × List (Bool × Bool) := (c.unusable, c.pcs.map PChan.still)

@[simp] theorem Chan.still_eq (c : Chan) : c.still = (c.unusable, c.pcs.map PChan.still) := by rw [Chan.still]

/-- The still part of a stack. -/
structure StillStk where
  mode   : StkMode
  up     : Bool
  down   : Bool
  tiles  : SMap TileState
  seals  : List Seal
  lines  : List Line
  chans  : List (Bool × List (Bool × Bool))
  th     : Thermal
  pw     : Power
  clk    : Clock
  step   : Nat
  tm     : Timer

/-- The still part of a stack. -/
def Stack.still (x : Stack) : StillStk :=
  ⟨x.mode, x.upFailed, x.downFailed, x.tiles, x.seals, x.lines, x.chans.map Chan.still, x.th, x.pw, x.clk, x.doc.bootStep, x.tm⟩

@[simp] theorem Stack.still_eq (x : Stack) : x.still = ⟨x.mode, x.upFailed, x.downFailed, x.tiles, x.seals, x.lines,
    x.chans.map Chan.still, x.th, x.pw, x.clk, x.doc.bootStep, x.tm⟩ := by rw [Stack.still]

/-- The still part of a state. -/
structure Still where
  part      : Part
  stks      : List StillStk
  mode      : PkgMode
  modeNext  : Option PkgMode
  agg       : Nat
  runLevel  : Nat
  levelNext : Option Nat
  sync      : Option Nat
  longFrame : Bool
  timeValid : Bool
  timeEst   : Bool
  afterStop : Bool
  ref       : Reference

/-- The still part of a state. -/
def State.still (s : State) : Still :=
  ⟨s.part, s.stks.map Stack.still, s.mode, s.modeNext, s.agg, s.runLevel, s.levelNext, s.sync, s.longFrame, s.timeValid, s.timeEst,
    s.afterStop, s.ref⟩

/-- The fields of a state that its still part holds. -/
theorem State.fields_still (s : State) : s.part = s.still.part ∧ s.stks.map Stack.still = s.still.stks ∧ s.mode = s.still.mode ∧
    s.modeNext = s.still.modeNext ∧ s.agg = s.still.agg ∧ s.runLevel = s.still.runLevel ∧ s.levelNext = s.still.levelNext ∧
    s.sync = s.still.sync ∧ s.longFrame = s.still.longFrame ∧ s.timeValid = s.still.timeValid ∧ s.timeEst = s.still.timeEst ∧
    s.afterStop = s.still.afterStop ∧ s.ref = s.still.ref :=
  ⟨rfl, rfl, rfl, rfl, rfl, rfl, rfl, rfl, rfl, rfl, rfl, rfl, rfl⟩

@[simp] theorem State.still_eta (s : State) : (⟨s.still.part, s.still.stks, s.still.mode, s.still.modeNext, s.still.agg,
    s.still.runLevel, s.still.levelNext, s.still.sync, s.still.longFrame, s.still.timeValid, s.still.timeEst, s.still.afterStop,
    s.still.ref⟩ : Still) = s.still := rfl

/-- The still part of a state given by its fields, as a record update gives one. -/
@[simp] theorem still_mk (pending part lid free stks ports dies transit nextRid timedOut mode agg aggChosen runLevel levelNext
    supplyCap supplyOk pkgCnt commit splitDue miss errPend missDue errDue sync longFrame timeValid timeEst afterStop ref irqs telSeq
    telLast aliveLast alignLast lastTel halt idleFrames wakeCause modeNext retainAt retainWant wakeInEntry wakeLow pins pmbus taps
    mgmtOut) :
    (State.mk pending part lid free stks ports dies transit nextRid timedOut mode agg aggChosen runLevel levelNext supplyCap supplyOk
      pkgCnt commit splitDue miss errPend missDue errDue sync longFrame timeValid timeEst afterStop ref irqs telSeq telLast aliveLast
      alignLast lastTel halt idleFrames wakeCause modeNext retainAt retainWant wakeInEntry wakeLow pins pmbus taps mgmtOut).still =
    ⟨part, stks.map Stack.still, mode, modeNext, agg, runLevel, levelNext, sync, longFrame, timeValid, timeEst, afterStop, ref⟩ := rfl

/-! ### Branches and loops -/

@[simp] theorem still_ite (c : Prop) [Decidable c] (a b : State) : (if c then a else b).still = if c then a.still else b.still :=
  apply_ite _ _ _ _

@[simp] theorem still_ite_snd {α : Type} (c : Prop) [Decidable c] (a b : α × State) :
    (if c then a else b).2.still = if c then a.2.still else b.2.still :=
  apply_ite (fun p : α × State => p.2.still) _ _ _

@[simp] theorem still_foldl {α : Type} (f : State → α → State) (h : ∀ s a, (f s a).still = s.still) (l : List α) (s : State) :
    (l.foldl f s).still = s.still := by
  induction l generalizing s with
  | nil => rfl
  | cons a l ih => rw [List.foldl_cons, ih, h]

@[simp] theorem still_forN (n : Nat) (s : State) (f : State → Nat → State) (h : ∀ s i, (f s i).still = s.still) :
    (forN n s f).still = s.still := still_foldl f h _ s

@[simp] theorem still_forStacks (s : State) (f : State → Nat → State) (h : ∀ s k, (f s k).still = s.still) :
    (forStacks s f).still = s.still := still_forN _ s f h

/-! ### Changes of stacks, channels and ports -/

@[simp] theorem map_modify_of_eq {α β : Type} (g : α → β) (f : α → α) (h : ∀ x, g (f x) = g x) (l : List α) (i : Nat) :
    (l.modify i f).map g = l.map g := by
  apply List.ext_getElem?
  intro j
  rw [List.getElem?_map, List.getElem?_modify, List.getElem?_map]
  by_cases hj : i = j
  · simp [hj, Function.comp_def, h]
  · simp [hj]

@[simp] theorem still_modStk (s : State) (k : Nat) (f : Stack → Stack) (h : ∀ x, (f x).still = x.still) :
    (s.modStk k f).still = s.still := by
  rw [State.still, State.still, State.modStk_stks, map_modify_of_eq Stack.still f h]
  rfl

@[simp] theorem still_modPort (s : State) (p f) : (State.modPort s p f).still = s.still := by
  simp [State.modPort, State.fields_still]

@[simp] theorem still_modCh (s : State) (k c : Nat) (f : Chan → Chan) (h : ∀ x, (f x).still = x.still) :
    (s.modCh k c f).still = s.still :=
  still_modStk s k _ (fun x => by rw [Stack.still, Stack.still, Stack.modCh_chans, map_modify_of_eq Chan.still f h]; rfl)

@[simp] theorem still_modPc (s : State) (k c i : Nat) (f : PChan → PChan) (h : ∀ p, (f p).still = p.still) :
    (s.modPc k c i f).still = s.still :=
  still_modCh s k c _ (fun x => by rw [Chan.still, Chan.still, Chan.modPc_pcs, map_modify_of_eq PChan.still f h]; rfl)

/-! ### Slots of a pseudo-channel -/

@[simp] theorem still_wakePc (s : State) (p : PChan) :
    (s.wakePc p).selfRefresh = p.selfRefresh ∧ (s.wakePc p).trkDue = p.trkDue := ⟨rfl, rfl⟩
@[simp] theorem still_payWindow (s : State) (k : Nat) (p : PChan) (a : Nat) :
    (s.payWindow k p a).selfRefresh = p.selfRefresh ∧ (s.payWindow k p a).trkDue = p.trkDue := ⟨rfl, rfl⟩
@[simp] theorem still_precharge (p : PChan) : p.precharge.selfRefresh = p.selfRefresh ∧ p.precharge.trkDue = p.trkDue := ⟨rfl, rfl⟩
@[simp] theorem still_modBank (p : PChan) (b : Nat) (f : Bank → Bank) :
    (p.modBank b f).selfRefresh = p.selfRefresh ∧ (p.modBank b f).trkDue = p.trkDue := ⟨rfl, rfl⟩
@[simp] theorem still_useSlots (p : PChan) (c n : Nat) :
    (p.useSlots c n).selfRefresh = p.selfRefresh ∧ (p.useSlots c n).trkDue = p.trkDue := ⟨rfl, rfl⟩
@[simp] theorem still_chargeTurn (s : State) (k : Nat) (p : PChan) (w : Who) (n : Nat) :
    (s.chargeTurn k p w n).selfRefresh = p.selfRefresh ∧ (s.chargeTurn k p w n).trkDue = p.trkDue := by
  dsimp only [State.chargeTurn]
  split_ifs <;> exact ⟨rfl, rfl⟩

/-! ### Shared operations -/

@[simp] theorem still_modRg (s : State) (k f) : (State.modRg s k f).still = s.still := by simp [State.modRg]
@[simp] theorem still_draw (s : State) : (State.draw s).2.still = s.still := by simp [State.draw, State.fields_still]
@[simp] theorem still_setRaw (s : State) (k pg i off v) : (State.setRaw s k pg i off v).still = s.still :=
  still_modStk s k _ (fun x => by split <;> simp)
@[simp] theorem still_setFld (s : State) (k i f v) : (State.setFld s k i f v).still = s.still := by simp [State.setFld]
@[simp] theorem still_setCnt (s : State) (k pg i c v) : (State.setCnt s k pg i c v).still = s.still := by
  simp [State.setCnt, State.fields_still]
@[simp] theorem still_count (s : State) (k pg i c n) : (State.count s k pg i c n).still = s.still := by simp [State.count]
@[simp] theorem still_ringTx (s : State) (k j) : (State.ringTx s k j).still = s.still := by simp [State.ringTx]
@[simp] theorem still_irqAt (s : State) (frame kind source detail) : (State.irqAt s frame kind source detail).still = s.still := by
  simp [State.irqAt, State.fields_still]
@[simp] theorem still_irq (s : State) (k kind source detail) : (State.irq s k kind source detail).still = s.still := by
  simp [State.irq]
@[simp] theorem still_event (s : State) (k pg i n) : (State.event s k pg i n).still = s.still := by simp [State.event]
@[simp] theorem still_statusBit (s : State) (k pg i n v) : (State.statusBit s k pg i n v).still = s.still := by
  simp [State.statusBit]
@[simp] theorem still_reportSev (s : State) (k x sev i sub addr) : (State.reportSev s k x sev i sub addr).still = s.still := by
  simp [State.reportSev, State.fields_still]
@[simp] theorem still_report (s : State) (k x i sub addr) : (State.report s k x i sub addr).still = s.still := by
  simp [State.report]
@[simp] theorem still_workWindow (s : State) (k ch pc act n) : (State.workWindow s k ch pc act n).still = s.still :=
  still_modPc s k ch pc _ (fun p => by split <;> simp)
@[simp] theorem still_busTurn (s : State) (k ch pc w wr) : (busTurn s k ch pc w wr).still = s.still := by
  unfold busTurn; split <;> simp
@[simp] theorem still_activate (s : State) (k ch pc bank row) : (activate s k ch pc bank row).still = s.still := by
  simp only [activate]; (repeat' split) <;> simp
@[simp] theorem still_openRow (s : State) (k l w) : (openRow s k l w).still = s.still := by simp [openRow]
@[simp] theorem still_beSlot (s : State) (k ch pc c) : (beSlot s k ch pc c).still = s.still := by simp [beSlot]
@[simp] theorem still_takeSlot (s : State) (k ch pc w) : (takeSlot s k ch pc w).still = s.still := by simp [takeSlot]
@[simp] theorem still_charge1 (s : State) (k l w wr) : (charge1 s k l w wr).still = s.still := by simp [charge1]
@[simp] theorem still_issueWb (s : State) (k ch pc y) : (issueWb s k ch pc y).still = s.still := by simp [issueWb]
@[simp] theorem still_drainWbs (n) (s : State) (k ch pc) : (drainWbs n s k ch pc).still = s.still := by
  refine still_forN n s _ fun s _ => ?_
  split
  · rfl
  · split <;> simp
@[simp] theorem still_endFrameWbs (s : State) (k ch pc) : (endFrameWbs s k ch pc).still = s.still := by simp [endFrameWbs]

/-! ### Requests -/

@[simp] theorem still_modEntry (s : State) (k rid f) : (State.modEntry s k rid f).still = s.still := by simp [State.modEntry]
@[simp] theorem still_dropEntry (s : State) (k rid) : (State.dropEntry s k rid).still = s.still := by simp [State.dropEntry]
@[simp] theorem still_endOutst (s : State) (p reqId rid) : (State.endOutst s p reqId rid).still = s.still := by
  simp [State.endOutst]
@[simp] theorem still_isLate (s : State) (r) : (isLate s r).2.still = s.still := by simp [isLate]
@[simp] theorem still_lateCheck (s : State) (k e) : (lateCheck s k e).still = s.still := by simp [lateCheck, State.fields_still]
@[simp] theorem still_finish (s : State) (k r rs) : (finish s k r rs).still = s.still := by
  unfold finish; (repeat' split) <;> simp
@[simp] theorem still_finishSt (s : State) (k r st) : (finishSt s k r st).still = s.still := by simp [finishSt]
@[simp] theorem still_pushRsp (s : State) (r) : (pushRsp s r).still = s.still := by simp [pushRsp]
theorem still_endAtPort {s t : State} {r st} (h : endAtPort s r st = some t) : t.still = s.still := by
  simp only [endAtPort] at h
  split at h
  · cases h
  · rw [← Option.some.inj h]; simp
@[simp] theorem still_lateRsp (s : State) (k rid) : (lateRsp s k rid).still = s.still := by simp [lateRsp, State.fields_still]
theorem still_endFrom {s t : State} {k r st} (h : endFrom s k r st = some t) : t.still = s.still := by
  simp only [endFrom] at h
  split at h
  · rw [← Option.some.inj h]; simp [State.fields_still]
  · split at h
    · cases h
    · split at h
      · rw [← Option.some.inj h]; simp
      · obtain ⟨u, hu, rfl⟩ := Option.map_eq_some_iff.mp h
        simp [still_endAtPort hu]
@[simp] theorem still_dropRec (s : State) (q f) : (dropRec s q f).still = s.still := by simp [dropRec]
@[simp] theorem still_timeoutRec (s : State) (q f) : (timeoutRec s q f).still = s.still := by simp [timeoutRec]
@[simp] theorem still_endRequests (s : State) (k) : (endRequests s k).still = s.still := by simp [endRequests]

/-! ### Lanes and links -/

@[simp] theorem still_setPortState (s : State) (p) (st : LaneState) : (setPortState s p st).still = s.still := by
  simp [setPortState]
@[simp] theorem still_sendLanes (s : State) (p f) : (State.sendLanes s p f).still = s.still := by simp [State.sendLanes]
@[simp] theorem still_wakeTx (s : State) (p) : (wakeTx s p).still = s.still := by simp [wakeTx]
@[simp] theorem still_endPeriod (s : State) (p ws more) : (endPeriod s p ws more).still = s.still := by simp [endPeriod]
@[simp] theorem still_startPhase (s : State) (p n) : (startPhase s p n).still = s.still := by simp [startPhase]
@[simp] theorem still_linkDrop (s : State) (p) : (linkDrop s p).still = s.still := by simp [linkDrop]
@[simp] theorem still_logLinkReset (s : State) (p) : (logLinkReset s p).still = s.still := by simp [logLinkReset]
@[simp] theorem still_linkReset (s : State) (p) : (linkReset s p).still = s.still := by simp [linkReset]
@[simp] theorem still_enterDetect (s : State) (p) : (enterDetect s p).still = s.still := by simp [enterDetect]
@[simp] theorem still_park (s : State) (p) : (park s p).still = s.still := by simp [park]

/-! ### Pauses, temperatures and events that wait -/

@[simp] theorem still_endPause (s : State) (k ch) : (endPause s k ch).still = s.still := by simp [endPause]
@[simp] theorem still_tickPause (s : State) (k ch) : (tickPause s k ch).still = s.still := by simp [tickPause]
@[simp] theorem still_tickCal (s : State) (k) : (tickCal s k).still = s.still := by
  unfold tickCal; split <;> simp
@[simp] theorem still_updThermN (s : State) : (updThermN s).still = s.still := by simp [updThermN, State.fields_still]
@[simp] theorem still_enterStage (s : State) (k j) : (enterStage s k j).still = s.still := by
  unfold enterStage; split <;> simp
@[simp] theorem still_sendDue (live) (s : State) : (sendDue live s).still = s.still := by simp [sendDue, State.fields_still]
@[simp] theorem still_setBudget (s : State) (k) : (setBudget s k).still = s.still := by simp [setBudget]
@[simp] theorem still_pkgStatusBit (s : State) (pg n v) : (State.pkgStatusBit s pg n v).still = s.still := by
  simp [State.pkgStatusBit]
@[simp] theorem still_issueCredits (s : State) (p) : (issueCredits s p).still = s.still := by simp [issueCredits]
@[simp] theorem still_splitStacks (s : State) : (splitStacks s).still = s.still := by simp [splitStacks, State.fields_still]
@[simp] theorem still_refEvent (s : State) (x c) : (refEvent s x c).still = s.still := by simp [refEvent]
@[simp] theorem still_loseColumns (s : State) (k) : (loseColumns s k).still = s.still := by simp [loseColumns]
@[simp] theorem still_detectPorts (s : State) (k) : (detectPorts s k).still = s.still := by simp [detectPorts]
@[simp] theorem still_holdQueue (s : State) (k) : (holdQueue s k).still = s.still := by
  refine still_foldl _ (fun s r => ?_) _ _
  split
  next t ht => simp [still_endFrom ht]
  next => rfl

/-! ### The tick -/

@[simp] theorem still_shortEvents (s : State) (k) : (shortEvents s k).still = s.still := by simp [shortEvents, State.fields_still]
@[simp] theorem still_payOwed (s : State) (k ch pc) : (payOwed s k ch pc).still = s.still := by simp [payOwed]
@[simp] theorem still_forPcs (s : State) (k) (f : State → Nat → Nat → Nat → State) (h : ∀ s k ch pc, (f s k ch pc).still = s.still) :
    (forPcs s k f).still = s.still := by
  simp [forPcs, h]
@[simp] theorem still_tickCounts (s : State) (k) : (tickCounts s k).still = s.still := by simp [tickCounts]
@[simp] theorem still_tickBuckets (s : State) (p) : (tickBuckets s p).still = s.still := by simp [tickBuckets]
@[simp] theorem still_tickPort (s : State) (p) : (tickPort s p).still = s.still := by simp [tickPort]
@[simp] theorem still_powerDownPc (s : State) (k ch pc) : (powerDownPc s k ch pc).still = s.still := by simp [powerDownPc]
@[simp] theorem still_tickWakeN (s : State) : (tickWakeN s).still = s.still := by simp [tickWakeN, State.fields_still]

end Sys2Proof.Machine
end

section
/-! PROOFS. The reference: holdover, failover and revert (R382, R384). -/

namespace Sys2Proof.Machine

/-! ### A loop over the stacks -/

/-- A loop in which the turn of a stack keeps Q, relates what v sees of the stack before and after by R, and leaves what v sees of
the other stacks. -/
theorem forN_turns {α : Type} {v : Stack → α} {Q : State → Prop} {R : Nat → α → α → Prop} {f : State → Nat → State} {n : Nat}
    (hQ : ∀ u k, k < n → Q u → Q (f u k)) (hturn : ∀ u k, k < n → Q u → R k (v (u.stk k)) (v ((f u k).stk k)))
    (hother : ∀ u k j, k < n → Q u → j ≠ k → v ((f u k).stk j) = v (u.stk j)) {s : State} (hs : Q s) {m : Nat} (hm : m ≤ n) :
    Q (forN m s f) ∧ (∀ j, j < m → R j (v (s.stk j)) (v ((forN m s f).stk j))) ∧
      ∀ j, m ≤ j → v ((forN m s f).stk j) = v (s.stk j) := by
  induction m with
  | zero => exact ⟨hs, nofun, fun _ _ => rfl⟩
  | succ m ih =>
    obtain ⟨hq, hbelow, habove⟩ := ih (by omega)
    have hstep : forN (m + 1) s f = f (forN m s f) m := by simp [forN, List.range_succ]
    rw [hstep]
    refine ⟨hQ _ m (by omega) hq, fun j hj => ?_, fun j hj => ?_⟩
    · by_cases hjm : j = m
      · subst hjm
        have h := hturn _ j (by omega) hq
        rwa [habove j (Nat.le_refl j)] at h
      · rw [hother _ m j (by omega) hq hjm]
        exact hbelow j (by omega)
    · rw [hother _ m j (by omega) hq (by omega), habove j (by omega)]

/-! ### An event that every stack counts -/

/-- Of two stacks the second is the first with one event more in counter c of a page of its window, unless it is frozen. -/
def CountedOnce (s : State) (pg : Page) (c k : Nat) (x y : Stack) : Prop :=
  CntOnly x y ∧ (s.frozen k pg 0 = false → mget y.cnt (regKey pg 0 (0xF00 + 8 * c)) 0 =
    satAdd cntMax (mget x.cnt (regKey pg 0 (0xF00 + 8 * c)) 0) 1)

theorem cntVal_of_stack_page (s : State) (k : Nat) (pg : Page) (i c : Nat) (hp : pg.isPkg = false) :
    s.cntVal k pg i c = mget (s.stk k).cnt (regKey pg i (0xF00 + 8 * c)) 0 := by
  simp [State.cntVal, hp]

/-- Every stack counts an event (R82, R406). -/
theorem counted_forStacks (s : State) (pg : Page) (c : Nat) (hp : pg.isPkg = false) (hshape : s.stks.length = s.n) :
    StksFrame (fun _ => CntOnly) s (forStacks s (fun s k => s.count k pg 0 c 1)) ∧
    ∀ k, k < s.n → Counted s (forStacks s (fun s k => s.count k pg 0 c 1)) k pg 0 c := by
  have hcnt : ∀ (u : State) (k : Nat), CountFrame k u (u.count k pg 0 c 1) := fun u k => CountFrame.count u k pg 0 c 1 hp
  have htrans : ∀ x y z : Stack, CntOnly x y → CntOnly y z → CntOnly x z := fun x y z h g => by rw [CntOnly, g, h]
  obtain ⟨hframe, hbelow, -⟩ := forN_turns (v := id) (n := s.n) (Q := StksFrame (fun _ => CntOnly) s)
    (R := CountedOnce s pg c) (f := fun u k => u.count k pg 0 c 1)
    (fun u k _ hu => StksFrame.trans (fun _ => htrans) hu ((hcnt u k).mono (fun _ _ _ h => h.1)))
    (fun u k hk hu => by
      have hfrozen : u.frozen k pg 0 = s.frozen k pg 0 := by
        rw [State.frozen, State.frozen, State.raw_congr hu.part (by rw [hu.stack k]) (by rw [hu.stack k])]
      refine ⟨((hcnt u k).stack k).1, fun hf => ?_⟩
      have h := State.cntVal_count_same u k pg 0 c 1 (by rw [hu.length, hshape]; exact hk) (hfrozen.trans hf)
      rwa [cntVal_of_stack_page _ _ _ _ _ hp, cntVal_of_stack_page _ _ _ _ _ hp] at h)
    (fun u k j _ _ hj => ((hcnt u k).stack j).2 hj)
    (StksFrame.refl (R := fun _ => CntOnly) (fun _ _ => rfl) s) (Nat.le_refl s.n)
  refine ⟨hframe, fun k hk hf => ?_⟩
  rw [cntVal_of_stack_page _ _ _ _ _ hp, cntVal_of_stack_page _ _ _ _ _ hp]
  exact (hbelow k hk).2 hf

/-- Of a stack only the stored registers of its window, its counters and its Registrar changed. -/
def RegsCntRgOnly (x y : Stack) : Prop := y = { x with regs := y.regs, cnt := y.cnt, rg := y.rg }

/-- An event of the reference is counted in every stack, and reported by the stack that holds the source (R382, R406). -/
theorem refEvent_spec (s : State) (x : Kind) (c : Nat) (hshape : s.stks.length = s.n) (hp : x.page.isPkg = false) (hx : x.bit < 24) :
    StksFrame (fun _ => RegsCntRgOnly) s (refEvent s x c) ∧ (∀ k, k < s.n → Counted s (refEvent s x c) k .clk 0 c) ∧
    (s.ref.srcStack < s.n → Raised s (refEvent s x c) s.ref.srcStack x 0) := by
  obtain ⟨hframe, hcount⟩ := counted_forStacks s .clk c rfl hshape
  unfold refEvent
  generalize forStacks s (fun s k => s.count k .clk 0 c 1) = u at hframe hcount
  have hstk := stk_report u s.ref.srcStack x 0 0 0
  have hlen : (u.report s.ref.srcStack x 0 0 0).stks.length = u.stks.length := by
    obtain ⟨st, ep, heq, hlen⟩ := u.report_eq s.ref.srcStack x 0 0 0
    rw [heq, hlen]
  refine ⟨⟨?_, hlen.trans hframe.length, fun j => ?_⟩, fun k hk hf => ?_, fun hsrc => ?_⟩
  · rw [report_of_stack_page u _ x 0 0 0 hp, hframe.state]
  · rw [RegsCntRgOnly, (hstk j).1, hframe.stack j]
  · have hkeep : ((u.report s.ref.srcStack x 0 0 0).stk k).cnt = (u.stk k).cnt := by rw [(hstk k).1]
    rw [cntVal_of_stack_page _ _ _ _ _ rfl, hkeep, ← cntVal_of_stack_page u k .clk 0 c rfl]
    exact hcount k hk hf
  · have hraised := raised_report_of_stack_page u s.ref.srcStack x 0 0 0 (by rw [hframe.length, hshape]; exact hsrc) hx hp
    exact hraised.of_rg_eq (by rw [hframe.stack])

/-! ### Failover -/

/-- An event that every stack pulses changes the interrupt queue alone (R85). -/
theorem forStacks_event_eq (s : State) (pg : Page) (i n : Nat) :
    forStacks s (fun s k => s.event k pg i n) = { s with irqs := (forStacks s (fun s k => s.event k pg i n)).irqs } := by
  unfold forStacks forN
  induction List.range s.n generalizing s with
  | nil => rfl
  | cons k l ih =>
    have h := ih (s.event k pg i n)
    rw [State.event_eq s k pg i n] at h
    rw [List.foldl_cons, State.event_eq s k pg i n, h]

/-- A source that is found is usable, on a port of the part, and is not the one to skip (R380, R382). -/
theorem firstSrc_some {s : State} {q : List Bool} {skip i : Nat} (h : s.firstSrc q skip = some i) :
    i ≠ skip ∧ ∃ p, s.srcPort i = some p ∧ p < 4 * s.n := by
  have hsrc := List.find?_some h
  simp only [State.srcOk, Bool.and_eq_true, bne_iff_ne, ne_eq] at hsrc
  obtain ⟨hne, -, hport⟩ := hsrc
  refine ⟨hne, ?_⟩
  cases hp : s.srcPort i with
  | none => simp [hp] at hport
  | some p =>
    simp only [hp, State.portMaySource, Bool.and_eq_true, decide_eq_true_eq] at hport
    exact ⟨p, rfl, hport.1.1⟩

/-- A failover takes the source, counts in every stack, is reported by the stack of the new source, and pulses (R382, R384). -/
theorem failover_spec (s : State) (i p : Nat) (q : List Bool) (hshape : s.stks.length = s.n) (hp : s.srcPort i = some p)
    (hlt : p < 4 * s.n) :
    failover s i q = { s with
      ref := (takeSrc s i 4 q).ref, stks := (failover s i q).stks, irqs := (failover s i q).irqs } ∧
    (takeSrc s i 4 q).ref.port = p ∧ (takeSrc s i 4 q).ref.srcStack = p / 4 ∧
    (∀ k, k < s.n → Counted s (failover s i q) k .clk 0 2) ∧ Raised s (failover s i q) (p / 4) K.CLK_REF_FAILOVER 0 := by
  have hport : (takeSrc s i 4 q).ref.port = p := by simp [takeSrc, hp]
  have hstack : (takeSrc s i 4 q).ref.srcStack = p / 4 := by simp [takeSrc, hp]
  obtain ⟨hframe, hcount, hraised⟩ := refEvent_spec (takeSrc s i 4 q) K.CLK_REF_FAILOVER 2 hshape rfl (by decide)
  have hirqs := forStacks_event_eq (refEvent (takeSrc s i 4 q) K.CLK_REF_FAILOVER 2) .clk 0 1
  rw [hstack] at hraised
  refine ⟨?_, hport, hstack, fun k hk hf => ?_, ?_⟩
  · unfold failover
    rw [hirqs, hframe.state]
    rfl
  · unfold failover
    rw [hirqs]
    exact hcount k hk hf
  · unfold failover
    rw [hirqs]
    exact hraised (show p / 4 < s.n by omega)

/-- Holdover (R382). -/
theorem claims_holdover : Claims.Holdover := by
  refine ⟨fun s hshape hstate hsrc => ?holdover, fun s hstate => ?edges, fun s q i hshape hstate hfirst => ?timeout,
    fun s exact hstate => ?relock, fun s hshape hstate hindex hrevert hok => ?revert⟩
  case holdover =>
    obtain ⟨hframe, hcount, hraised⟩ :=
      refEvent_spec { s with ref := { s.ref with state := 1 } } K.CLK_REF_HOLDOVER 1 hshape.1 rfl (by decide)
    have hexec : exec .refHoldover s = .next (refEvent { s with ref := { s.ref with state := 1 } } K.CLK_REF_HOLDOVER 1) := by
      change execRefHoldover s = _
      rw [execRefHoldover, if_pos hstate]
    refine ⟨_, hexec, by rw [hframe.state], hcount, hraised hsrc, ?_, hframe.stack⟩
    rw [hframe.state]
  case edges =>
    change execRefEdgesReturn s = _
    rw [execRefEdgesReturn, if_pos hstate]
  case timeout =>
    obtain ⟨hne, p, hp, hlt⟩ := firstSrc_some hfirst
    obtain ⟨heq, hport, hstack, hcount, hraised⟩ := failover_spec s i p q hshape.1 hp hlt
    have href : (failover s i q).ref = (takeSrc s i 4 q).ref := by rw [heq]
    have hexec : exec (.holdoverTimeout q) s = .next (failover s i q) := by
      change execHoldoverTimeout q s = _
      simp [execHoldoverTimeout, hstate, hfirst]
    refine ⟨_, hexec, by rw [href]; rfl, by rw [href]; rfl, by rw [href, hport, hp], hne, by rw [href, hport, hstack], hcount,
      by rw [href, hstack]; exact hraised, by rw [heq], ?_⟩
    rw [href]
    exact heq
  case relock =>
    change execFailoverRelock exact s = _
    rw [execFailoverRelock, if_pos hstate]
  case revert =>
    have hp : s.srcPort 0 = some (s.fld s.agg 0 F.CLK_REF_PRIMARY) := rfl
    have hlt : s.fld s.agg 0 F.CLK_REF_PRIMARY < 4 * s.n := by
      simp only [State.srcOk, hp, State.portMaySource, Bool.and_eq_true, decide_eq_true_eq] at hok
      exact hok.2.1.1
    obtain ⟨heq, hport, -, -, -⟩ := failover_spec s 0 _ (true :: s.ref.qual.drop 1) hshape.1 hp hlt
    have href : (failover s 0 (true :: s.ref.qual.drop 1)).ref = (takeSrc s 0 4 (true :: s.ref.qual.drop 1)).ref := by rw [heq]
    have hexec : exec .refRevert s = .next (failover s 0 (true :: s.ref.qual.drop 1)) := by
      change execRefRevert s = _
      dsimp only [execRefRevert]
      rw [if_pos ⟨hstate, by omega, by omega, hrevert, hok⟩]
    refine ⟨_, hexec, by rw [href]; rfl, by rw [href]; rfl, by rw [href, hport], ?_⟩
    rw [href]
    exact heq

end Sys2Proof.Machine
end

section
/-! PROOFS. Changes of the still part of one stack after another: clocks that stop and lock again, dies that enter and leave
self-refresh, seals that abort, and time that the oscillator has estimated (R53, R249, R283, R386, R387, R396). -/

namespace Sys2Proof.Machine

/-! ### Changes of the still part of one stack -/

/-- The still part of the package itself. -/
def Still.pkg (x : Still) : Still := { x with stks := [] }

/-- Of the still part, t has g applied to that of stack k, and is otherwise as s. -/
structure StillSets (k : Nat) (g : StillStk → StillStk) (s t : State) : Prop where
  pkg : t.still.pkg = s.still.pkg
  length : t.stks.length = s.stks.length
  same : k < s.stks.length → (t.stk k).still = g (s.stk k).still
  other : ∀ j, j ≠ k → (t.stk j).still = (s.stk j).still

/-- A state with the same still part has it in each stack. -/
theorem stk_still_congr {s t : State} (h : t.still = s.still) (j : Nat) : (t.stk j).still = (s.stk j).still := by
  have hstks : t.stks.map Stack.still = s.stks.map Stack.still := congrArg Still.stks h
  have hpart : t.part = s.part := congrArg Still.part h
  have hget : ∀ s : State, (s.stk j).still = (s.stks.map Stack.still).getD j (Stack.reset s.part.dies).still :=
    fun s => (List.getD_map s.stks _ Stack.still).symm
  rw [hget, hget, hstks, hpart]

theorem length_still_congr {s t : State} (h : t.still = s.still) : t.stks.length = s.stks.length := by
  simpa [State.still] using congrArg (fun x => x.stks.length) h

namespace StillSets

variable {k : Nat} {g h : StillStk → StillStk} {s t u : State}

/-- What leaves the still part. -/
theorem of_still (e : t.still = s.still) : StillSets k id s t :=
  ⟨by rw [e], length_still_congr e, fun _ => stk_still_congr e k, fun j _ => stk_still_congr e j⟩

theorem trans (a : StillSets k g s t) (b : StillSets k h t u) : StillSets k (h ∘ g) s u where
  pkg := b.pkg.trans a.pkg
  length := b.length.trans a.length
  same hk := by rw [b.same (a.length ▸ hk), a.same hk, Function.comp]
  other j hj := (b.other j hj).trans (a.other j hj)

/-- What leaves the still part before or after a change leaves the change. -/
theorem then_still (a : StillSets k g s t) (e : u.still = t.still) : StillSets k g s u := a.trans (of_still e)

theorem modStk (s : State) (k : Nat) (f : Stack → Stack) (hf : ∀ x, (f x).still = g x.still) : StillSets k g s (s.modStk k f) where
  pkg := rfl
  length := length_modify' _ _ _
  same hk := by rw [State.stk_modStk_same s k f hk, hf]
  other j hj := by rw [State.stk_modStk_other s k j f hj]

end StillSets

/-- A loop that changes the still part of each stack in its turn. -/
theorem stillSets_forN {g : Nat → StillStk → StillStk} {f : State → Nat → State} (hf : ∀ u k, StillSets k (g k) u (f u k)) (s : State)
    {m : Nat} (hm : m ≤ s.stks.length) :
    (forN m s f).still.pkg = s.still.pkg ∧ (forN m s f).stks.length = s.stks.length ∧
    ∀ j, j < m → ((forN m s f).stk j).still = g j (s.stk j).still := by
  obtain ⟨⟨hpkg, hlen⟩, hturn, -⟩ := forN_turns (v := Stack.still) (n := s.stks.length) (R := fun k x y => y = g k x) (f := f)
    (Q := fun u => u.still.pkg = s.still.pkg ∧ u.stks.length = s.stks.length)
    (fun u k _ ⟨hpkg, hlen⟩ => ⟨(hf u k).pkg.trans hpkg, (hf u k).length.trans hlen⟩)
    (fun u k hk ⟨_, hlen⟩ => (hf u k).same (hlen.symm ▸ hk)) (fun u k j _ _ hj => (hf u k).other j hj) ⟨rfl, rfl⟩ hm
  exact ⟨hpkg, hlen, hturn⟩

/-! ### Clocks and dies -/

/-- Docent on the ring oscillator, or on PLL_FIX. -/
def StillStk.docent (b : Bool) (x : StillStk) : StillStk := { x with clk := { x.clk with docPll := b } }

theorem stillSets_docentRing (s : State) (k : Nat) : StillSets k (StillStk.docent false) s (docentRing s k) :=
  (StillSets.modStk s k _ (fun _ => rfl)).then_still (still_setFld _ _ _ _ _)

theorem stillSets_docentPll (s : State) (k : Nat) : StillSets k (StillStk.docent true) s (docentPll s k) :=
  (StillSets.modStk s k _ (fun _ => rfl)).then_still (still_setFld _ _ _ _ _)

/-- Every pseudo-channel in self-refresh (R249). -/
def StillStk.asleep (x : StillStk) : StillStk := { x with chans := x.chans.map (fun c => (c.1, c.2.map (fun p => (true, p.2)))) }

theorem stillSets_setSelfRefresh (s : State) (k : Nat) : StillSets k StillStk.asleep s (setSelfRefresh s k true) :=
  StillSets.modStk s k _ (fun x => by
    simp only [Stack.still, StillStk.asleep, List.map_map, StillStk.mk.injEq, true_and, and_true]
    refine List.map_congr_left fun c _ => ?_
    simp [Chan.still, PChan.still, PChan.precharge, Function.comp_def])

/-- Every pseudo-channel of a usable channel out of self-refresh, with a tracking pass due (R249). -/
def StillStk.awake (x : StillStk) : StillStk :=
  { x with chans := x.chans.map (fun c => if c.1 then c else (c.1, c.2.map (fun _ => (false, true)))) }

theorem stillSets_leaveSelfRefresh (s : State) (k : Nat) : StillSets k StillStk.awake s (leaveSelfRefresh s k true) :=
  StillSets.modStk s k _ (fun x => by
    simp only [Stack.still, StillStk.awake, List.map_map, StillStk.mk.injEq, true_and, and_true]
    refine List.map_congr_left fun c _ => ?_
    cases hc : c.unusable <;> simp [Chan.still, PChan.still, Function.comp_def, hc])

/-- The dies of a stack serve again, unless it is in SAFE (R249, R392). -/
def StillStk.serving (x : StillStk) : StillStk := if x.mode = .safe then x else x.awake

/-- A stack whose dies serve again keeps its time base, tiles and clocks. -/
theorem StillStk.serving_keeps (x : StillStk) : x.serving.tm = x.tm ∧ x.serving.tiles = x.tiles := by
  unfold StillStk.serving
  split <;> exact ⟨rfl, rfl⟩

theorem stillSets_resumeDies (s : State) (k : Nat) : StillSets k StillStk.serving s (resumeDies s k true) := by
  have hmode : s.inSafe k = true ↔ (s.stk k).still.mode = .safe := by simp [State.inSafe]
  obtain ⟨hpkg, hlen, hsame, hother⟩ := stillSets_leaveSelfRefresh s k
  by_cases h : s.inSafe k = true
  · rw [resumeDies, if_pos h]
    exact ⟨rfl, rfl, fun _ => by rw [StillStk.serving, if_pos (hmode.mp h)], fun _ _ => rfl⟩
  · rw [resumeDies, if_neg h]
    exact ⟨hpkg, hlen, fun hk => by rw [hsame hk, StillStk.serving, if_neg (fun hm => h (hmode.mpr hm))], hother⟩

/-- Both PLLs locked, and Docent on PLL_FIX. -/
def StillStk.locked (x : StillStk) : StillStk := { x with
  clk := { x.clk with corePll := 2, fixPll := 2, coreBad := 0, fixBad := 0, docPll := true, recovering := false } }

theorem stillSets_lockStack (s : State) (k : Nat) : StillSets k StillStk.locked s (lockStack s k) :=
  (StillSets.modStk (g := fun x => { x with
    clk := { x.clk with corePll := 2, fixPll := 2, coreBad := 0, fixBad := 0, recovering := false } }) s k _ (fun _ => rfl)).trans
    (stillSets_docentPll _ k)

/-- A stack whose clocks lock and whose dies serve again has resumed (R387, R396). -/
theorem resumed_of_still {t : State} {k : Nat} {x : StillStk} (h : (t.stk k).still = x.locked.serving) : Resumed t k := by
  have hclk : (t.stk k).clk = x.locked.clk := by
    have hc := congrArg StillStk.clk h
    unfold StillStk.serving at hc
    split at hc <;> exact hc
  refine ⟨by rw [hclk]; rfl, by rw [hclk]; rfl, by rw [hclk]; rfl, by rw [hclk]; rfl, fun hserv c hc hu p hp => ?_⟩
  have hmode : x.locked.mode ≠ .safe := by
    intro hm
    rw [StillStk.serving, if_pos hm] at h
    have : (t.stk k).mode = .safe := (congrArg StillStk.mode h).trans hm
    simp [State.inSafe, this] at hserv
  rw [StillStk.serving, if_neg hmode] at h
  have hchans : (t.stk k).chans.map Chan.still = x.locked.awake.chans := congrArg StillStk.chans h
  have hmem : c.still ∈ x.locked.awake.chans := hchans ▸ List.mem_map_of_mem hc
  obtain ⟨d, -, hd⟩ := List.mem_map.mp hmem
  cases hdu : d.1 with
  | true =>
    rw [if_pos hdu] at hd
    have hsame : d.1 = c.unusable := congrArg Prod.fst hd
    rw [hdu, hu] at hsame
    cases hsame
  | false =>
    rw [if_neg (by simp [hdu])] at hd
    have hpcs : c.pcs.map PChan.still = d.2.map (fun _ => (false, true)) := (congrArg Prod.snd hd).symm
    have hpmem : p.still ∈ d.2.map (fun _ => (false, true)) := hpcs ▸ List.mem_map_of_mem hp
    obtain ⟨q, -, hq⟩ := List.mem_map.mp hpmem
    exact ⟨(congrArg Prod.fst hq).symm, (congrArg Prod.snd hq).symm⟩

/-- Docent on the ring oscillator and every pseudo-channel in self-refresh: the stack has stopped (R386, R394). -/
theorem stopped_of_still {t : State} {k : Nat} {x : StillStk} (hdoc : (t.stk k).clk.docPll = false)
    (hchans : (t.stk k).still.chans = x.asleep.chans) : Stopped t k := by
  refine ⟨hdoc, fun c hc p hp => ?_⟩
  have hmem : c.still ∈ x.asleep.chans := hchans ▸ List.mem_map_of_mem (f := Chan.still) hc
  obtain ⟨d, -, hd⟩ := List.mem_map.mp hmem
  have hpcs : c.pcs.map PChan.still = d.2.map (fun p => (true, p.2)) := (congrArg Prod.snd hd).symm
  have hpmem : p.still ∈ d.2.map (fun p => (true, p.2)) := hpcs ▸ List.mem_map_of_mem hp
  obtain ⟨q, -, hq⟩ := List.mem_map.mp hpmem
  exact (congrArg Prod.fst hq).symm

/-! ### Seals -/

/-- The seals of the tiles that a property keeps. -/
def StillStk.keepSeals (f : Seal → Bool) (x : StillStk) : StillStk := { x with seals := x.seals.filter f }

theorem stillSets_dropSeal (s : State) (k t : Nat) :
    StillSets k (StillStk.keepSeals (fun e => e.tile != t)) s (dropSeal s k t) := by
  have hdrop : ∀ u : State, StillSets k (StillStk.keepSeals (fun e => e.tile != t)) u
      (u.modStk k (fun x => { x with seals := x.seals.filter (fun e => e.tile != t) })) :=
    fun u => StillSets.modStk u k _ (fun _ => rfl)
  unfold dropSeal abortSeal
  split
  · have h := ((hdrop s).then_still (still_count _ k .scb 0 4 1)).trans (hdrop _)
    have hcomp : StillStk.keepSeals (fun e => e.tile != t) ∘ StillStk.keepSeals (fun e => e.tile != t) =
        StillStk.keepSeals (fun e => e.tile != t) := by
      funext x
      simp [StillStk.keepSeals]
    rwa [hcomp] at h
  · exact hdrop s

theorem stillSets_dropSeals (l : List Seal) (s : State) (k : Nat) :
    StillSets k (StillStk.keepSeals (fun e => l.all (fun d => e.tile != d.tile))) s (l.foldl (fun s e => dropSeal s k e.tile) s) := by
  induction l generalizing s with
  | nil => exact ⟨rfl, rfl, fun _ => by simp [StillStk.keepSeals], fun _ _ => rfl⟩
  | cons d l ih =>
    have h := (stillSets_dropSeal s k d.tile).trans (ih (dropSeal s k d.tile))
    have hcomp : StillStk.keepSeals (fun e => l.all (fun d => e.tile != d.tile)) ∘ StillStk.keepSeals (fun e => e.tile != d.tile) =
        StillStk.keepSeals (fun e => (d :: l).all (fun d => e.tile != d.tile)) := by
      funext x
      simp [StillStk.keepSeals, List.filter_filter, Bool.and_comm]
    rwa [hcomp] at h

/-- Every seal of a stack aborts (R283). -/
theorem stillSets_abortSeals (s : State) (k : Nat) : StillSets k (fun x => { x with seals := [] }) s (abortSeals s k) := by
  obtain ⟨hpkg, hlen, hsame, hother⟩ := stillSets_dropSeals (s.stk k).seals s k
  refine ⟨hpkg, hlen, fun hk => ?_, hother⟩
  have hnone : (s.stk k).seals.filter (fun e => (s.stk k).seals.all (fun d => e.tile != d.tile)) = [] := by
    rw [List.filter_eq_nil_iff]
    intro e he hall
    have := List.all_eq_true.mp hall e he
    simp at this
  rw [abortSeals, hsame hk]
  change ({ (s.stk k).still with seals := (s.stk k).seals.filter _ } : StillStk) = _
  rw [hnone]

/-! ### Estimated time (R53) -/

/-- A stack that has aged by w frames. -/
def StillStk.aged (w : Nat) (x : StillStk) : StillStk := { x with
  tm := { x.tm with frame := x.tm.frame + w, ticks := x.tm.ticks + w }
  th := { x.th with
    memAgree := x.th.memAgree.map (fun a => if a = 0 then 0 else a + w), hist := x.th.hist.map (fun h => (h.1 + w, h.2)) }
  clk := { x.clk with coreLastFail := x.clk.coreLastFail.map (· + w), fixLastFail := x.clk.fixLastFail.map (· + w) } }

theorem stillSets_ageStack (s : State) (k w : Nat) : StillSets k (StillStk.aged w) s (ageStack s k w) :=
  StillSets.modStk s k _ (fun x => by
    simp only [Stack.still, StillStk.aged, List.map_map, StillStk.mk.injEq, true_and, and_true]
    refine List.map_congr_left fun c _ => ?_
    simp [Chan.still, PChan.still, Function.comp_def])

/-- The package ages: every stack by w frames (R53). -/
theorem still_ageAll (s : State) (w : Nat) (hshape : s.stks.length = s.n) :
    (ageAll s w).still.pkg = s.still.pkg ∧ (ageAll s w).stks.length = s.stks.length ∧
    ∀ j, j < s.n → ((ageAll s w).stk j).still = (s.stk j).still.aged w :=
  stillSets_forN (fun u k => stillSets_ageStack u k w) s hshape.ge

/-- The package with time that is estimated and not valid (R53). -/
def Still.estimated (x : Still) : Still := { x with timeEst := true, timeValid := false, afterStop := true }

/-- The oscillator's estimate advances every stack (R53). -/
theorem still_advance (s : State) (osc : Nat) (hshape : s.stks.length = s.n) :
    (advance s osc).still.pkg = s.still.pkg.estimated ∧ (advance s osc).stks.length = s.stks.length ∧
    ∀ j, j < s.n → ((advance s osc).stk j).still = (s.stk j).still.aged (wakeFrames s osc) := by
  have hcount : (forStacks s (fun s k => s.count k .clk 0 0 osc)).still = s.still := still_forStacks _ _ (fun u k => by simp)
  have hn : (forStacks s (fun s k => s.count k .clk 0 0 osc)).n = s.n :=
    congrArg (fun x => x.part.stks) hcount
  obtain ⟨hpkg, hlen, hstk⟩ := still_ageAll (forStacks s (fun s k => s.count k .clk 0 0 osc)) (wakeFrames s osc)
    (by rw [length_still_congr hcount, hn, hshape])
  rw [hcount] at hpkg
  rw [length_still_congr hcount] at hlen
  refine ⟨?_, hlen, fun j hj => ?_⟩
  · rw [← hpkg]
    rfl
  · exact (hstk j (hn.symm ▸ hj)).trans (by rw [stk_still_congr hcount])

end Sys2Proof.Machine
end

section
/-! PROOFS. Loss of the reference and recovery (R53, R386, R387). -/

namespace Sys2Proof.Machine

/-- A stack without a reference: Docent on the ring oscillator, its dies in self-refresh, its PLLs without a reference (R386). -/
def StillStk.lost (x : StillStk) : StillStk := { x.asleep with
  clk := { x.clk with docPll := false, corePll := 0, fixPll := 0, coreBad := 0, fixBad := 0, recovering := false } }

theorem stillSets_loseStack (s : State) (k : Nat) : StillSets k StillStk.lost s (loseStack s k) :=
  ((stillSets_docentRing s k).trans (stillSets_setSelfRefresh _ k)).trans (StillSets.modStk (g := fun x => { x with
    clk := { x.clk with corePll := 0, fixPll := 0, coreBad := 0, fixBad := 0, recovering := false } }) _ k _ (fun _ => rfl))

/-- A kind with a PAGE_ERR bit is raised, whatever came before (R84). -/
theorem Raised.of_bit {s t u : State} {k i : Nat} {x : Kind} (h : Raised u t k x i) (hx : x.bit < 24) : Raised s t k x i := by
  rw [Raised, if_pos hx] at h ⊢
  exact h

/-- The package that has lost its reference, before its stacks have (R386). -/
def State.losing (s : State) (q : List Bool) : State := { s with
  mode := .lost, modeNext := none, sync := none, longFrame := false, retainWant := false, wakeInEntry := none, timeValid := false
  ref := { s.ref with state := 2, qual := q } }

/-- Every stack loses the reference, which is counted, and reported by the stack that held the source (R386). -/
theorem enterLost_spec (s : State) (q : List Bool) (hshape : s.stks.length = s.n) :
    (enterLost s q).still.pkg = (s.losing q).still.pkg ∧
    (∀ k, k < s.n → ((enterLost s q).stk k).still = (s.stk k).still.lost) ∧
    (s.ref.srcStack < s.n → Raised s (enterLost s q) s.ref.srcStack K.CLK_REF_LOST 0) := by
  obtain ⟨hpkg, hlen, hstk⟩ := stillSets_forN stillSets_loseStack (s.losing q) hshape.ge
  have href : (forStacks (s.losing q) loseStack).ref = (s.losing q).ref := congrArg Still.ref hpkg
  have hn : (forStacks (s.losing q) loseStack).n = s.n := congrArg (fun x => x.part.stks) hpkg
  obtain ⟨-, -, hraised⟩ := refEvent_spec (forStacks (s.losing q) loseStack) K.CLK_REF_LOST 3 (by rw [hn, ← hshape]; exact hlen)
    rfl (by decide)
  have hstill : (enterLost s q).still = (forStacks (s.losing q) loseStack).still := still_refEvent _ _ _
  rw [href, hn] at hraised
  exact ⟨by rw [hstill]; exact hpkg, fun k hk => (stk_still_congr hstill k).trans (hstk k hk),
    fun hsrc => (hraised hsrc).of_bit (by decide)⟩

/-- The turn of a stack in a recovery (R387). -/
def recoverStack (s : State) (k : Nat) : State := detectPorts (resumeDies (loseColumns (lockStack s k) k) k true) k

theorem stillSets_recoverStack (s : State) (k : Nat) : StillSets k (StillStk.serving ∘ StillStk.locked) s (recoverStack s k) :=
  (((stillSets_lockStack s k).then_still (still_loseColumns _ k)).trans (stillSets_resumeDies _ k)).then_still (still_detectPorts _ k)

/-- Loss and recovery (R53, R386, R387). -/
theorem claims_lossAndRecovery : Claims.LossAndRecovery := by
  refine ⟨fun s q hshape hstate hnone hsrc => ?loss, fun s q osc i hshape hmode hnext hfirst hboot => ?recovery⟩
  case loss =>
    obtain ⟨hpkg, hstk, hraised⟩ := enterLost_spec s q hshape.1
    have hexec : exec (.holdoverTimeout q) s = .next (enterLost s q) := by
      change execHoldoverTimeout q s = _
      simp [execHoldoverTimeout, hstate, hnone]
    have hclk : ∀ k, k < s.n → ((enterLost s q).stk k).clk = (s.stk k).still.lost.clk := fun k hk => congrArg StillStk.clk (hstk k hk)
    refine ⟨_, hexec, congrArg Still.mode hpkg, congrArg (fun x => x.ref.state) hpkg, congrArg Still.timeValid hpkg,
      congrArg Still.sync hpkg, fun k hk => ⟨stopped_of_still (x := (s.stk k).still) ?_ ?_, ?_, ?_, ?_⟩, hraised hsrc,
      congrArg Skel.dies (skel_enterLost s q)⟩
    · rw [hclk k hk]
      rfl
    · exact (congrArg StillStk.chans (hstk k hk)).trans rfl
    · rw [hclk k hk]
      rfl
    · rw [hclk k hk]
      rfl
    · exact congrArg (fun x => x.tm.frame) (hstk k hk)
  case recovery =>
    obtain ⟨hpkg, hlen, haged⟩ := still_advance (takeSrc s i 0 q) osc hshape.1
    have hn : (advance (takeSrc s i 0 q) osc).n = s.n := congrArg (fun x => x.part.stks) hpkg
    obtain ⟨hpkg', -, hstk⟩ := stillSets_forN stillSets_recoverStack (advance (takeSrc s i 0 q) osc)
      (m := (advance (takeSrc s i 0 q) osc).n) (by rw [hlen, hn]; exact hshape.1.ge)
    have hany : ((List.range s.n).any fun k => (s.stk k).doc.bootStep == 13) = true := by simpa using hboot
    have hexec : exec (.refRecovery q osc) s =
        .next { forStacks (advance (takeSrc s i 0 q) osc) recoverStack with modeNext := some .active } := by
      change execRefRecovery q osc s = _
      simp only [execRefRecovery, hmode, hnext, hfirst, hany]
      rfl
    have hend := hpkg'.trans hpkg
    refine ⟨_, hexec, rfl, congrArg (fun x => x.ref.state) hend, congrArg (fun x => x.ref.index) hend, congrArg Still.timeEst hend,
      congrArg Still.timeValid hend, fun k hk => ?_⟩
    have hk' := hstk k (hn.symm ▸ hk)
    refine ⟨resumed_of_still hk', ?_⟩
    have hframe : ((advance (takeSrc s i 0 q) osc).stk k).tm.frame = s.frame k + wakeFrames s osc :=
      congrArg (fun x => x.tm.frame) (haged k hk)
    rw [← hframe]
    exact congrArg Timer.frame ((congrArg StillStk.tm hk').trans (StillStk.serving_keeps _).1)

/-- Settles O47: a failover is one event with its source, a loss and a recovery change the stacks' clocks and dies in turn. -/
theorem references : Obligations.References := ⟨claims_holdover, claims_lossAndRecovery⟩

end Sys2Proof.Machine
end

section
/-! PROOFS. RETAIN entry, wake events and exit (R53, R394 to R397, R502). -/

namespace Sys2Proof.Machine

/-! ### Entry -/

/-- A stack in RETAIN: its seals aborted, its dies in self-refresh, its PLLs off, its logic rail at retention (R394). -/
def StillStk.retained (x : StillStk) : StillStk := { x.asleep with
  seals := []
  pw := { x.pw with tileMode := 1, railMv := x.pw.railMv.set 0 500 }
  clk := { x.clk with docPll := false, corePll := 0, fixPll := 0 } }

/-- The tile and the PLLs of a stack in RETAIN (R394). -/
def Stack.powerDown (x : Stack) : Stack := { x with
  pw := { x.pw with tileMode := 1, railMv := x.pw.railMv.set 0 500 }, clk := { x.clk with corePll := 0, fixPll := 0 } }

/-- The ports of a stack that RETAIN parks. -/
def parkPorts (s : State) (k : Nat) : State :=
  forN 4 s (fun s i =>
    let p := 4 * k + i
    if (s.prt p).lstate == .active then
      (if (s.prt p).txParked then s else park s p).modPort p (fun x => { x with
        txParked := true, lanes := x.lanes.map (fun l => { l with rx := .parked, frozen := false }) })
    else s)

@[simp] theorem still_parkPorts (s : State) (k : Nat) : (parkPorts s k).still = s.still :=
  still_forN 4 s _ (fun u i => by dsimp only; split_ifs <;> simp)

/-- The turn of a stack in RETAIN entry, its ports by name. -/
theorem retainStack_eq (s : State) (k : Nat) : retainStack s k =
    ((parkPorts ((docentRing (setSelfRefresh (abortSeals s k) k true) k).modStk k Stack.powerDown) k).count k .clk 0 7 1).event
      k .clk 0 0 := rfl

theorem stillSets_retainStack (s : State) (k : Nat) : StillSets k StillStk.retained s (retainStack s k) := by
  rw [retainStack_eq]
  exact ((((stillSets_abortSeals s k).trans (stillSets_setSelfRefresh _ k)).trans (stillSets_docentRing _ k)).trans
    (StillSets.modStk (g := fun x => { x with
      pw := { x.pw with tileMode := 1, railMv := x.pw.railMv.set 0 500 }
      clk := { x.clk with corePll := 0, fixPll := 0 } }) _ k Stack.powerDown (fun _ => rfl))).then_still (by simp)

/-- The package as RETAIN begins, before its stacks (R394). -/
def State.retaining (s : State) : State := { s with mode := .retain, timeValid := false, sync := none, longFrame := false }

/-! ### Wake events -/

/-- The start of the exit on one stack: its tile at the running level's voltage, its PLLs locking (R396). -/
def Stack.startExit (l : Nat) (x : Stack) : Stack := { x with
  pw := { x.pw with tileMode := 0, railMv := x.pw.railMv.set 0 (levelMv l) }
  clk := { x.clk with corePll := 1, fixPll := 1 } }

/-- The start of the exit restores the running level's voltage in every stack (R396). -/
theorem stk_startRetainExit (s : State) (c : WakeCause) (hshape : s.stks.length = s.n) (k : Nat) (hk : k < s.n) :
    (startRetainExit s c).stk k = (s.stk k).startExit s.runLevel := by
  obtain ⟨-, hturn, -⟩ := forN_turns (v := id) (n := s.n) (Q := fun u => u.stks.length = s.n ∧ u.runLevel = s.runLevel)
    (R := fun _ x y => y = x.startExit s.runLevel) (f := fun u k => u.modStk k (Stack.startExit u.runLevel))
    (s := { s with mode := .leavingRetain, wakeCause := WakeCause.code c, wakeInEntry := none })
    (fun u k _ ⟨hlen, hlevel⟩ => ⟨(length_modify' _ _ _).trans hlen, hlevel⟩)
    (fun u k hk ⟨hlen, hlevel⟩ => by rw [id, id, State.stk_modStk_same u k _ (hlen.symm ▸ hk), hlevel])
    (fun u k j _ _ hj => State.stk_modStk_other u k j _ hj) ⟨hshape, rfl⟩ (Nat.le_refl s.n)
  exact hturn k hk

/-- In RETAIN a wake event starts the exit (R395, R396). -/
theorem wakeRetain_of_retain {s : State} {c : WakeCause} (hc : c = .wakeN ∨ c = .squelch ∨ c = .mailbox) (hmode : s.mode = .retain) :
    wakeRetain s c = startRetainExit s c := by
  obtain rfl | rfl | rfl := hc <;> simp [wakeRetain, hmode]

/-- During entry the first wake event is noted (R397). -/
theorem wakeRetain_of_entering {s : State} {c : WakeCause} (hc : c = .wakeN ∨ c = .squelch ∨ c = .mailbox)
    (hmode : s.mode = .enteringRetain) (hnone : s.wakeInEntry = none) : wakeRetain s c = { s with wakeInEntry := some c } := by
  obtain rfl | rfl | rfl := hc <;> simp [wakeRetain, hmode, hnone]

/-- Outside RETAIN a wake event notes its cause at most. -/
theorem wakeRetain_of_ne_retain {s : State} (c : WakeCause) (hmode : s.mode ≠ .retain) :
    wakeRetain s c = { s with wakeInEntry := (wakeRetain s c).wakeInEntry } := by
  unfold wakeRetain
  split_ifs with h h' h''
  · rfl
  · exact absurd (by simpa using h') hmode
  · rfl
  · rfl

/-- Outside RETAIN and its entry no wake event changes anything. -/
theorem wakeRetain_of_other {s : State} (c : WakeCause) (hmode : s.mode ≠ .retain) (henter : s.mode ≠ .enteringRetain) :
    wakeRetain s c = s := by
  simp [wakeRetain, hmode, henter]

/-- A pulse of WAKE_N of 200 ns or more wakes from IDLE or from RETAIN (R395, R502). -/
theorem exec_wakeN_of_long {s : State} {ns : Nat} (hns : 200 ≤ ns) (hreset : s.pins.resetN = true) : exec (.wakeN ns) s =
    .next (wakeRetain (wakeIdle { s with
      wakeLow := max s.wakeLow (ns / 1280), pins := { s.pins with wakeN := decide (ns < 1280) } } 1) .wakeN) := by
  change execWakeN ns s = _
  have hlow : ¬ ns < 50 := by omega
  have hhigh : ¬ ns < 200 := by omega
  simp [execWakeN, hlow, hhigh, hreset]

/-! ### Exit -/

/-- The ports of a stack as RETAIN ends (R324). -/
def wakePorts (s : State) (k : Nat) : State :=
  forN 4 s (fun s i =>
    let p := 4 * k + i
    let s2 := if (s.prt p).lstate == .active then wakeTx s p else s
    if p = s.ref.port then s2.modPort p (fun x => { x with lanes := x.lanes.map (fun l =>
      if l.rx == .parked then { l with rx := .acquiring, wakeMarks := 0 } else l) }) else s2)

@[simp] theorem still_wakePorts (s : State) (k : Nat) : (wakePorts s k).still = s.still :=
  still_forN 4 s _ (fun u i => by dsimp only; split_ifs <;> simp)

theorem stillSets_exitStack (s : State) (k : Nat) : StillSets k (StillStk.serving ∘ StillStk.locked) s (exitStack s k) :=
  ((stillSets_lockStack s k).trans (stillSets_resumeDies _ k)).then_still (still_wakePorts _ k)

/-! ### The mailbox -/

/-- A mailbox write in a mode without a wake event holds its word, and changes registers of its stack alone. -/
theorem onlyStk_writeMboxIn (s : State) (src : Source) (k v : Nat) (hk : k < s.stks.length)
    (h : src ≠ .pmbus ∨ s.mode = .active) :
    OnlyStk k s (writeMboxIn s src k v) ∧ RegsOnly (s.stk k) ((writeMboxIn s src k v).stk k) := by
  have heq : writeMboxIn s src k v = s.setFld k 0 F.DOC_MBOX_IN_DATA v := by
    unfold writeMboxIn
    split_ifs with hsrc
    · obtain h | h := h
      · exact absurd hsrc h
      · have hmode : (s.setFld k 0 F.DOC_MBOX_IN_DATA v).mode = .active := h
        exact wakeRetain_of_other _ (by rw [hmode]; decide) (by rw [hmode]; decide)
    · rfl
  rw [heq]
  refine ⟨onlyStk_modStk s k _, ?_⟩
  rw [RegsOnly, State.setFld, State.setRaw, State.stk_modStk_same s k _ hk]
  rfl

/-- A mailbox write holds its word (R395). -/
theorem fld_writeMboxIn (s : State) (src : Source) (k v : Nat) (hk : k < s.stks.length) (hv : v < 2 ^ 32) :
    (writeMboxIn s src k v).fld k 0 F.DOC_MBOX_IN_DATA = v := by
  have hset : (s.setFld k 0 F.DOC_MBOX_IN_DATA v).fld k 0 F.DOC_MBOX_IN_DATA = v :=
    (State.fld_setFld_same s k 0 F.DOC_MBOX_IN_DATA v hk (by decide) (by decide)).trans (Nat.mod_eq_of_lt hv)
  by_cases hsrc : src = .pmbus
  · subst hsrc
    by_cases hmode : s.mode = .retain
    · exact fld_writeMboxIn_pmbus_of_retain s k v hmode hk hv
    · have hmode' : (s.setFld k 0 F.DOC_MBOX_IN_DATA v).mode ≠ .retain := hmode
      rw [writeMboxIn, if_pos rfl, wakeRetain_of_ne_retain _ hmode']
      exact hset
  · rw [writeMboxIn, if_neg hsrc]
    exact hset

/-! ### O50 -/

/-- RETAIN and its wake events (R53, R394 to R397, R502). -/
theorem claims_retain : Claims.Retain := by
  refine ⟨fun s hshape hmode htime hwake => ?entry, fun s c hshape hc => ⟨fun hmode => ?wake, fun hmode hnone => ?noted⟩,
    fun s osc hshape hmode hnext => ?exit, fun s ns => ⟨fun hns => ?short, fun hns hreset hshape => ⟨fun hmode hnext => ?idle,
    fun hmode => ?retain⟩⟩, fun s src k v hshape hwin => ?mailbox⟩
  case entry =>
    obtain ⟨hpkg, -, hstk⟩ := stillSets_forN stillSets_retainStack s.retaining (m := s.n) hshape.1.ge
    have hexec : exec .retainEntryComplete s = .next (forStacks s.retaining retainStack) := by
      have hlate : (s.mode != .enteringRetain || decide (s.now s.agg < s.retainAt + 18)) = false := by simp [hmode]; omega
      change execRetainEntryComplete s = _
      rw [execRetainEntryComplete, hlate, if_neg Bool.false_ne_true]
      dsimp only
      split
      next c hc => rw [hwake] at hc; cases hc
      next => rfl
    have hdies : (forStacks s.retaining retainStack).skel = s.retaining.skel := skel_forStacks _ _ (fun u k => skel_retainStack u k)
    refine ⟨_, hexec, congrArg Still.mode hpkg, congrArg Still.timeValid hpkg, congrArg Still.sync hpkg, congrArg Skel.dies hdies,
      fun k hk => ?_⟩
    have hk' := hstk k hk
    have hclk := congrArg StillStk.clk hk'
    have hpw := congrArg StillStk.pw hk'
    exact ⟨stopped_of_still (x := (s.stk k).still) (congrArg Clock.docPll hclk) ((congrArg StillStk.chans hk').trans rfl),
      congrArg StillStk.seals hk', congrArg Power.railMv hpw, congrArg Power.tileMode hpw, congrArg Clock.corePll hclk,
      congrArg Clock.fixPll hclk, congrArg (fun x => x.tm.frame) hk', congrArg StillStk.lines hk', congrArg StillStk.tiles hk'⟩
  case wake =>
    obtain ⟨hstate, -⟩ := startRetainExit_spec s c
    refine ⟨_, congrArg Host.Outcome.next (wakeRetain_of_retain hc hmode), congrArg State.mode hstate, congrArg State.wakeCause hstate,
      fun k hk => ?_, ?_⟩
    · rw [stk_startRetainExit s c hshape.1 k hk]
      exact ⟨rfl, rfl⟩
    · rw [hstate]
  case noted => exact congrArg Host.Outcome.next (wakeRetain_of_entering hc hmode hnone)
  case exit =>
    obtain ⟨hpkg, hlen, haged⟩ := still_advance s osc hshape.1
    have hn : (advance s osc).n = s.n := congrArg (fun x => x.part.stks) hpkg
    obtain ⟨hpkg', -, hstk⟩ := stillSets_forN stillSets_exitStack (advance s osc) (m := (advance s osc).n)
      (by rw [hlen, hn]; exact hshape.1.ge)
    have hexec : exec (.retainExitComplete osc) s = .next { forStacks (advance s osc) exitStack with modeNext := some .active } := by
      change execRetainExitComplete osc s = _
      simp only [execRetainExitComplete, hmode, hnext]
      rfl
    refine ⟨_, hexec, rfl, congrArg Still.timeEst (hpkg'.trans hpkg), fun k hk => ?_⟩
    have hk' := hstk k (hn.symm ▸ hk)
    obtain ⟨htm, htiles⟩ := StillStk.serving_keeps ((advance s osc).stk k).still.locked
    exact ⟨resumed_of_still hk',
      (congrArg Timer.frame ((congrArg StillStk.tm hk').trans htm)).trans (congrArg (fun x => x.tm.frame) (haged k hk)),
      ((congrArg StillStk.tiles hk').trans htiles).trans (congrArg StillStk.tiles (haged k hk))⟩
  case short =>
    change execWakeN ns s = _
    have hlow : ¬ 50 ≤ ns := by omega
    simp [execWakeN, hns, hlow]
  case idle =>
    refine ⟨_, exec_wakeN_of_long hns hreset, ?_⟩
    have hidle : wakeIdle { s with
        wakeLow := max s.wakeLow (ns / 1280), pins := { s.pins with wakeN := decide (ns < 1280) } } 1 = { s with
        wakeLow := max s.wakeLow (ns / 1280), pins := { s.pins with wakeN := decide (ns < 1280) }
        wakeCause := 1, modeNext := some .active } := by
      simp [wakeIdle, hmode, hnext]
    rw [hidle, wakeRetain_of_other]
    · exact ⟨rfl, rfl, rfl⟩
    · simp [hmode]
    · simp [hmode]
  case retain =>
    refine ⟨_, exec_wakeN_of_long hns hreset, ?_⟩
    dsimp only
    rw [wakeIdle, if_neg (by simp [hmode]), wakeRetain_of_retain (.inl rfl) (by exact hmode), (startRetainExit_spec _ _).1]
    exact ⟨rfl, rfl⟩
  case mailbox =>
    have hk : k < s.stks.length := by
      simp only [State.winOk, Bool.and_eq_true, decide_eq_true_eq] at hwin
      rw [hshape.1]
      exact hwin.1.1.2
    have hexec : exec (.docMboxInWrite src k v) s = .next (writeMboxIn s src k v.toNat) := by
      change execDocMboxInWrite src k v s = _
      rw [execDocMboxInWrite, if_pos hwin]
    refine ⟨_, hexec, fld_writeMboxIn s src k v.toNat hk v.isLt, fun hsrc hmode => ?_, onlyStk_writeMboxIn s src k v.toNat hk⟩
    subst hsrc
    rw [writeMboxIn_pmbus_of_retain s k v.toNat hmode, (startRetainExit_spec _ _).1]

/-- Settles O50: entry and exit change the stacks in turn, a wake event starts the exit. -/
theorem retainAndWake : Obligations.RetainAndWake := claims_retain

end Sys2Proof.Machine
end

section
/-! PROOFS. What a tick sees of the time base: the counters, marks and tiers of the stacks, the wiring that says which of them tick,
the logic rails, the running level and the reference (R35, R37, R46). -/

namespace Sys2Proof.Machine

/-! ### The timed part -/

/-- The timed part of a stack: its counters, its tier, what says whether it ticks, and its logic rail. -/
structure TimedStk where
  frame    : Nat
  ticks    : Nat
  align    : Bool
  tier     : Nat
  tierNext : Option Nat
  memRead  : Bool
  step     : Nat
  up       : Bool
  down     : Bool
  railMv   : List Nat

/-- The timed part of a stack. -/
def StillStk.timed (x : StillStk) : TimedStk :=
  ⟨x.tm.frame, x.tm.ticks, x.tm.align, x.tm.tier, x.tm.tierNext, x.th.memRead, x.step, x.up, x.down, x.pw.railMv⟩

/-- The timed part of a stack. -/
def Stack.timed (x : Stack) : TimedStk := x.still.timed

@[simp] theorem Stack.timed_eq (x : Stack) : x.timed = ⟨x.tm.frame, x.tm.ticks, x.tm.align, x.tm.tier, x.tm.tierNext, x.th.memRead,
    x.doc.bootStep, x.upFailed, x.downFailed, x.pw.railMv⟩ := by rw [Stack.timed, Stack.still_eq]; rfl

/-- The timed part of the package. -/
structure TimedPkg where
  part      : Part
  agg       : Nat
  runLevel  : Nat
  levelNext : Option Nat
  sync      : Option Nat
  longFrame : Bool
  afterStop : Bool
  ref       : Reference

/-- The timed part of the package. -/
def Still.timedPkg (x : Still) : TimedPkg :=
  ⟨x.part, x.agg, x.runLevel, x.levelNext, x.sync, x.longFrame, x.afterStop, x.ref⟩

/-- The timed part of the package. -/
def State.timedPkg (s : State) : TimedPkg := s.still.timedPkg

/-- Two states have the same timed part. -/
structure SameTimes (s t : State) : Prop where
  pkg : t.timedPkg = s.timedPkg
  stks : t.stks.map Stack.timed = s.stks.map Stack.timed

namespace SameTimes

theorem refl (s : State) : SameTimes s s := ⟨rfl, rfl⟩

theorem trans {s t u : State} (h : SameTimes s t) (g : SameTimes t u) : SameTimes s u := ⟨g.pkg.trans h.pkg, g.stks.trans h.stks⟩

theorem of_still {s t : State} (h : t.still = s.still) : SameTimes s t := by
  refine ⟨congrArg Still.timedPkg h, ?_⟩
  have hmap : ∀ u : State, u.stks.map Stack.timed = u.still.stks.map StillStk.timed := fun u => by
    simp only [State.still, List.map_map]
    rfl
  rw [hmap, hmap, h]

theorem modStk (s : State) (k : Nat) (f : Stack → Stack) (hf : ∀ x, (f x).timed = x.timed) : SameTimes s (s.modStk k f) :=
  ⟨rfl, by rw [State.modStk_stks, map_modify_of_eq Stack.timed f hf]⟩

theorem then_modStk {s t : State} (h : SameTimes s t) (k : Nat) (f : Stack → Stack) (hf : ∀ x, (f x).timed = x.timed) :
    SameTimes s (t.modStk k f) := h.trans (modStk t k f hf)

theorem foldl {α : Type} (f : State → α → State) (h : ∀ s a, SameTimes s (f s a)) (l : List α) (s : State) :
    SameTimes s (l.foldl f s) := by
  induction l generalizing s with
  | nil => exact refl s
  | cons a l ih => exact (h s a).trans (ih (f s a))

theorem forStacks (s : State) (f : State → Nat → State) (h : ∀ s k, SameTimes s (f s k)) : SameTimes s (forStacks s f) :=
  foldl f h _ s

theorem length {s t : State} (h : SameTimes s t) : t.stks.length = s.stks.length := by
  simpa using congrArg List.length h.stks

theorem stk {s t : State} (h : SameTimes s t) (j : Nat) : (t.stk j).timed = (s.stk j).timed := by
  have hpart : t.part = s.part := congrArg TimedPkg.part h.pkg
  have hget : ∀ s : State, (s.stk j).timed = (s.stks.map Stack.timed).getD j (Stack.reset s.part.dies).timed :=
    fun s => (List.getD_map s.stks _ Stack.timed).symm
  rw [hget, hget, h.stks, hpart]

end SameTimes

/-! ### Turns -/

/-- What says whether a stack ticks. -/
def TimedStk.wire (x : TimedStk) : Nat × Bool × Bool := (x.step, x.up, x.down)

/-- Of the timed part, t differs from s in that of stack k, related by R, and at the same wiring. -/
structure Turn (k : Nat) (R : TimedStk → TimedStk → Prop) (s t : State) : Prop where
  pkg : t.timedPkg = s.timedPkg
  length : t.stks.length = s.stks.length
  same : k < s.stks.length → R (s.stk k).timed (t.stk k).timed
  other : ∀ j, j ≠ k → (t.stk j).timed = (s.stk j).timed
  wire : (t.stk k).timed.wire = (s.stk k).timed.wire

namespace Turn

variable {k : Nat} {R : TimedStk → TimedStk → Prop} {s t u : State}

theorem modStk (s : State) (k : Nat) (f : Stack → Stack) (hR : R (s.stk k).timed (f (s.stk k)).timed)
    (hwire : ∀ x, (f x).timed.wire = x.timed.wire) : Turn k R s (s.modStk k f) where
  pkg := rfl
  length := length_modify' _ _ _
  same hk := by rw [State.stk_modStk_same s k f hk]; exact hR
  other j hj := by rw [State.stk_modStk_other s k j f hj]
  wire := State.stk_modStk_proj (fun x => x.timed.wire) hwire s k k

theorem of_same (h : SameTimes s t) (hR : R (s.stk k).timed (s.stk k).timed) : Turn k R s t where
  pkg := h.pkg
  length := h.length
  same _ := by rw [h.stk k]; exact hR
  other j _ := h.stk j
  wire := congrArg TimedStk.wire (h.stk k)

theorem after_same (h : SameTimes s t) (g : Turn k R t u) : Turn k R s u where
  pkg := g.pkg.trans h.pkg
  length := g.length.trans h.length
  same hk := by rw [← h.stk k]; exact g.same (h.length.symm ▸ hk)
  other j hj := (g.other j hj).trans (h.stk j)
  wire := g.wire.trans (congrArg TimedStk.wire (h.stk k))

theorem then_same (g : Turn k R s t) (h : SameTimes t u) : Turn k R s u where
  pkg := h.pkg.trans g.pkg
  length := h.length.trans g.length
  same hk := by rw [h.stk k]; exact g.same hk
  other j hj := (h.stk j).trans (g.other j hj)
  wire := (congrArg TimedStk.wire (h.stk k)).trans g.wire

end Turn

/-- Which stacks tick follows from the wiring, the part and the reference (R477, R511). -/
theorem stackTicks_congr {s t : State} (hpart : t.part = s.part) (href : t.ref = s.ref)
    (hwire : ∀ j, (t.stk j).timed.wire = (s.stk j).timed.wire) : t.stackTicks = s.stackTicks := by
  have hstk : ∀ u : State, ∀ j, (u.stk j).timed.wire = ((u.stk j).doc.bootStep, (u.stk j).upFailed, (u.stk j).downFailed) :=
    fun u j => by rw [Stack.timed_eq]; rfl
  have hw : ∀ j, (t.stk j).doc.bootStep = (s.stk j).doc.bootStep ∧ (t.stk j).upFailed = (s.stk j).upFailed ∧
      (t.stk j).downFailed = (s.stk j).downFailed := fun j => by
    have := hwire j
    rw [hstk, hstk] at this
    simpa using this
  have hreach : t.reach = s.reach := State.reach_congr (by rw [State.n, hpart, State.n]) (fun j => (hw j).2)
  funext k
  rw [State.stackTicks, State.stackTicks, State.inPart, State.inPart, hreach, href, (hw k).1]

theorem SameTimes.stackTicks {s t : State} (h : SameTimes s t) : t.stackTicks = s.stackTicks :=
  stackTicks_congr (congrArg TimedPkg.part h.pkg) (congrArg TimedPkg.ref h.pkg) (fun j => congrArg TimedStk.wire (h.stk j))

/-- What a loop over the stacks that tick leaves: the package, the wiring, the stacks that do not tick; and what R says of the others. -/
structure Round (R : TimedStk → TimedStk → Prop) (s t : State) : Prop where
  pkg : t.timedPkg = s.timedPkg
  length : t.stks.length = s.stks.length
  wire : ∀ j, (t.stk j).timed.wire = (s.stk j).timed.wire
  live : ∀ j, j < s.n → s.stackTicks j = true → R (s.stk j).timed (t.stk j).timed
  still : ∀ j, j < s.n → s.stackTicks j = false → (t.stk j).timed = (s.stk j).timed
  beyond : ∀ j, s.n ≤ j → (t.stk j).timed = (s.stk j).timed

theorem Round.stackTicks {R : TimedStk → TimedStk → Prop} {s t : State} (h : Round R s t) : t.stackTicks = s.stackTicks :=
  stackTicks_congr (congrArg TimedPkg.part h.pkg) (congrArg TimedPkg.ref h.pkg) h.wire

/-- A loop over the stacks that tick. -/
theorem round_forStacks {R : TimedStk → TimedStk → Prop} {F : State → Nat → State} (s : State) (hshape : s.stks.length = s.n)
    (hF : ∀ u k, u.timedPkg = s.timedPkg → Turn k R u (F u k)) :
    Round R s (forStacks s (fun s k => if s.stackTicks k then F s k else s)) := by
  obtain ⟨⟨hpkg, hlen, hwire⟩, hturn, hbeyond⟩ := forN_turns (v := Stack.timed) (n := s.n)
    (R := fun k x y => (s.stackTicks k = true → R x y) ∧ (s.stackTicks k = false → y = x))
    (f := fun s k => if s.stackTicks k then F s k else s)
    (Q := fun u => u.timedPkg = s.timedPkg ∧ u.stks.length = s.n ∧ ∀ j, (u.stk j).timed.wire = (s.stk j).timed.wire)
    (fun u k _ ⟨hpkg, hlen, hwire⟩ => by
      split_ifs
      · have h := hF u k hpkg
        refine ⟨h.pkg.trans hpkg, h.length.trans hlen, fun j => ?_⟩
        by_cases hj : j = k
        · rw [hj, h.wire, hwire]
        · rw [h.other j hj, hwire]
      · exact ⟨hpkg, hlen, hwire⟩)
    (fun u k hk ⟨hpkg, hlen, hwire⟩ => by
      rw [stackTicks_congr (congrArg TimedPkg.part hpkg) (congrArg TimedPkg.ref hpkg) hwire]
      cases h : s.stackTicks k with
      | true => exact ⟨fun _ => (hF u k hpkg).same (hlen.symm ▸ hk), nofun⟩
      | false => exact ⟨nofun, fun _ => rfl⟩)
    (fun u k j _ ⟨hpkg, _, _⟩ hj => by
      split_ifs
      · exact (hF u k hpkg).other j hj
      · rfl)
    (s := s) ⟨rfl, hshape, fun _ => rfl⟩ (Nat.le_refl s.n)
  exact ⟨hpkg, hlen.trans hshape.symm, hwire, fun j hj => (hturn j hj).1, fun j hj => (hturn j hj).2, hbeyond⟩

end Sys2Proof.Machine
end

section
/-! PROOFS. The steps of a tick on the timed part (R35 to R43, R46, R53, R391). -/

namespace Sys2Proof.Machine

/-! ### The frame that ends, and the counters -/

/-- Nothing that ends with the frame changes the time base, but the mark of a long frame. -/
theorem sameTimes_endFrame (s : State) (live : Nat → Bool) : SameTimes { s with longFrame := false } (endFrame s live) := by
  have hlong : ∀ u : State, SameTimes { u with longFrame := false } (endLong u) := fun u => by
    unfold endLong
    split_ifs with h
    · exact .of_still (still_count _ _ _ _ _ _)
    · refine .of_still (?_ : u.still = { u.still with longFrame := false })
      rw [← Bool.eq_false_iff.mpr h]
      rfl
  have hsame : ∀ u : State, u.still = s.still → SameTimes { s with longFrame := false } { u with longFrame := false } :=
    fun u h => .of_still (congrArg (fun x : Still => { x with longFrame := false }) h)
  refine (hsame _ ?_).trans (hlong _)
  rw [still_sendDue]
  refine still_forStacks s _ fun u k => ?_
  split_ifs
  · rw [still_shortEvents]
    exact still_forPcs u k _ (fun _ _ _ _ => still_endFrameWbs _ _ _ _)
  · rfl

/-- The counters of a stack at a tick (R35, R39, R52, R53). -/
def TimedStk.tick (aggNext : Nat) (after : Bool) (x : TimedStk) : TimedStk :=
  if after then { x with align := false }
  else { x with
    frame := (if x.align then aggNext else if x.ticks = 0 then x.frame else satAdd cntMax x.frame 1)
    ticks := x.ticks + 1
    align := false }

theorem turn_tickStack (s : State) (k aggNext : Nat) :
    Turn k (fun x y => y = x.tick aggNext s.afterStop) s (tickCounts (tickStack s k aggNext) k) := by
  refine (Turn.modStk s k _ ?_ (fun x => ?_)).then_same (.of_still (still_tickCounts _ k))
  · unfold TimedStk.tick Timer.tick
    cases s.afterStop <;> rfl
  · unfold Timer.tick
    cases s.afterStop <;> rfl

/-- The number that TIME_SYNC gives is the frame of a stack. -/
theorem turn_force (s : State) (k f : Nat) :
    Turn k (fun x y => y = { x with frame := f }) s (s.modStk k (fun x => { x with tm := { x.tm with frame := f } })) :=
  Turn.modStk s k _ rfl (fun _ => rfl)

/-! ### The package mode, the level and the reference -/

theorem sameTimes_tickMode (s : State) : SameTimes s (tickMode s) := by
  have hactive : SameTimes s (beginActive s) := by
    unfold beginActive
    refine .trans (?_ : SameTimes s { forN s.ports.length s _ with mode := .active, modeNext := none, idleFrames := 0 })
      (.forStacks _ _ fun u k => .of_still (by split_ifs <;> simp))
    have h : (forN s.ports.length s (fun s p => if (s.prt p).lstate == .active then wakeTx s p else s)).still = s.still :=
      still_forN _ s _ (fun u i => by split_ifs <;> simp)
    exact (SameTimes.of_still h).trans ⟨rfl, rfl⟩
  have hidle : SameTimes s (beginIdle s) := by
    unfold beginIdle
    refine .trans (?_ : SameTimes s { forN s.ports.length s _ with mode := .idle, modeNext := none })
      (.forStacks _ _ fun u k => .of_still (by simp))
    have h : (forN s.ports.length s (fun s p =>
        if (s.prt p).lstate == .active && (s.prt p).quiet && !(s.prt p).txParked && (s.prt p).txEvent == 0 then park s p
        else s)).still = s.still := still_forN _ s _ (fun u i => by split_ifs <;> simp)
    exact (SameTimes.of_still h).trans ⟨rfl, rfl⟩
  unfold tickMode
  split
  · exact .refl s
  · exact hactive
  · exact hidle
  · split_ifs <;> exact ⟨rfl, rfl⟩
  · exact ⟨rfl, rfl⟩

theorem timedPkg_congr {s t : State} (h : t.still.pkg = s.still.pkg) : t.timedPkg = s.timedPkg := by
  have hpkg := congrArg Still.timedPkg h
  exact hpkg

/-- The logic rail of a stack at a level's voltage (R391). -/
def Stack.setRail (mv : Nat) (x : Stack) : Stack := { x with pw := { x.pw with railMv := x.pw.railMv.set 0 mv } }

/-- The level that waited for the tick is in force, with its voltage in every stack (R37, R391). -/
theorem timed_setLevel (s : State) (l : Nat) (hshape : s.stks.length = s.n) :
    (setLevel s l).timedPkg = { s with runLevel := l, levelNext := none }.timedPkg ∧ (setLevel s l).stks.length = s.stks.length ∧
    ∀ j, (setLevel s l).stk j = if j < s.n then (s.stk j).setRail (levelMv l) else s.stk j := by
  obtain ⟨hlen, hstk⟩ := stk_forN_modStk { s with runLevel := l, levelNext := none } (Stack.setRail (levelMv l)) s.n hshape.ge
  obtain ⟨hpkg, -, -⟩ := stillSets_forN (f := fun s k => s.modStk k (Stack.setRail (levelMv l)))
    (g := fun _ x => { x with pw := { x.pw with railMv := x.pw.railMv.set 0 (levelMv l) } })
    (fun u k => StillSets.modStk u k _ (fun _ => rfl)) { s with runLevel := l, levelNext := none } hshape.ge
  exact ⟨timedPkg_congr hpkg, hlen, hstk⟩

/-- CLK_REF values that waited for the tick change the reference at most (R381). -/
theorem still_tickRef (s : State) : ∃ r, (tickRef s).still = { s.still with ref := r } := by
  have hfail : ∀ (u : State) (i : Nat) (q : List Bool), ∃ r, (failover u i q).still = { u.still with ref := r } := fun u i q =>
    ⟨_, (still_forStacks _ _ (fun v k => still_event v k _ _ _)).trans (still_refEvent _ _ _)⟩
  unfold tickRef
  split
  · exact ⟨_, rfl⟩
  · next v qual _ =>
    have hset : ∀ u : State, (forStacks u (fun s k => (refFields v.toNat).foldl (fun s e => s.setFld k 0 e.1 e.2) s)).still = u.still :=
      fun u => still_forStacks u _ fun u k => still_foldl _ (fun u e => still_setFld u _ _ _ _) _ u
    dsimp only
    generalize hu : forStacks _ (fun s k => (refFields v.toNat).foldl (fun s e => s.setFld k 0 e.1 e.2) s) = u
    have hstill : u.still = { s.still with ref := { s.ref with refPend := none, qual := qual } } := hu ▸ hset _
    have href : ∀ r, { u with ref := r }.still = { s.still with ref := r } :=
      fun r => congrArg (fun x : Still => { x with ref := r }) hstill
    split_ifs
    · exact ⟨_, hstill⟩
    · split
      · exact ⟨_, href _⟩
      · split
        · next i _ =>
          obtain ⟨r, hr⟩ := hfail u i qual
          exact ⟨r, hr.trans (href r)⟩
        · exact ⟨_, hstill⟩

/-! ### What a tick brings on a stack -/

/-- A change of one stack that leaves its timed part. -/
theorem SameTimes.of_stillSets {k : Nat} {g : StillStk → StillStk} {s t : State} (h : StillSets k g s t)
    (hg : ∀ x, (g x).timed = x.timed) : SameTimes s t := by
  refine ⟨timedPkg_congr h.pkg, List.ext_getElem (by simpa using h.length) fun j hj hj' => ?_⟩
  rw [List.length_map] at hj hj'
  have hget : ∀ u : State, ∀ hu : j < u.stks.length, (u.stks[j]).timed = (u.stk j).still.timed := fun u hu => by
    rw [State.stk, List.getD_eq_getElem _ _ hu]
    rfl
  rw [List.getElem_map, List.getElem_map, hget t hj, hget s hj']
  by_cases hjk : j = k
  · subst hjk
    rw [h.same hj', hg]
  · rw [h.other j hjk]

theorem sameTimes_leaveSelfRefresh (s : State) (k : Nat) (b : Bool) : SameTimes s (leaveSelfRefresh s k b) :=
  .modStk s k _ (fun _ => rfl)

theorem sameTimes_tickStkMode (s : State) (k : Nat) : SameTimes s (tickStkMode s k) := by
  have hserve : ∀ u, SameTimes u (detectPorts (leaveSelfRefresh u k false) k) :=
    fun u => (sameTimes_leaveSelfRefresh u k false).trans (.of_still (still_detectPorts _ k))
  unfold tickStkMode
  split
  · split_ifs
    · exact .of_still (still_holdQueue s k)
    · exact .refl s
  · next m _ =>
    have hmode : SameTimes s (s.modStk k (fun x => { x with mode := m, stkNext := none })) := .modStk s k _ (fun _ => rfl)
    have hevent : SameTimes s ((s.modStk k (fun x => { x with mode := m, stkNext := none })).event k .clk 0 0) :=
      hmode.trans (.of_still (still_event _ _ _ _ _))
    dsimp only
    split_ifs
    · exact hmode.trans (.of_still (still_holdQueue _ k))
    · exact hevent
    · refine .trans ?_ (hserve _)
      exact hevent.then_modStk k _ (fun _ => rfl)

theorem sameTimes_tickMarks (s : State) (k : Nat) : SameTimes s (tickMarks s k) := by
  unfold tickMarks
  have hmarks : SameTimes s (((s.stk k).th.memNext.foldl (fun s m => s.modStk k (fun x => { x with th := { x.th with
      suspect := x.th.suspect.set m.1 m.2.1, memUse := x.th.memUse.set m.1 m.2.2, memDis := x.th.memDis.set m.1 0 } })) s).modStk k
      (fun x => { x with th := { x.th with memNext := [] } })) := by
    refine SameTimes.then_modStk ?_ k _ (fun _ => rfl)
    refine SameTimes.foldl _ (fun u m => ?_) _ s
    exact .modStk u k _ (fun _ => rfl)
  dsimp only
  split_ifs
  · exact hmarks.trans (.of_still (still_report _ _ _ _ _ _))
  · exact hmarks

theorem sameTimes_judgeStage (s : State) (k : Nat) : SameTimes s (judgeStage s k) := by
  unfold judgeStage
  dsimp only
  split_ifs
  · exact .modStk s k _ (fun _ => rfl)
  · exact .refl s

theorem sameTimes_tickStage (s : State) (k : Nat) : SameTimes s (tickStage s k) := by
  have hset : ∀ u j, SameTimes u (setStage u k j) := fun u j => by
    have hstage : SameTimes u ((u.modStk k (fun x => { x with
        th := { x.th with stage := j, holdDown := 0 }, tm := { x.tm with halved := j == 3 } })).event k .thm 0 0) := by
      refine .trans ?_ (.of_still (still_event _ _ _ _ _))
      exact .modStk u k _ (fun _ => rfl)
    unfold setStage
    dsimp only
    split_ifs
    · exact .refl u
    · exact hstage.trans (.of_still (still_enterStage _ k j))
    · exact hstage
  refine .trans ?_ (hset _ _)
  exact .modStk s k _ (fun _ => rfl)

/-- The tier of a stack at a tick, once its memory dies have been read: the tier that waits (R46). -/
def TierTaken (x y : TimedStk) : Prop :=
  y = { x with tier := y.tier, tierNext := y.tierNext } ∧
  ∀ w, x.memRead = true → x.tierNext = some w → y.tier = w ∧ y.tierNext = none

theorem turn_tickTier (s : State) (k : Nat) : Turn k TierTaken s (tickTier s k) := by
  have hlate : (s.stk k).th.memRead = false ∨ (s.stk k).tm.tierNext = none → TierTaken (s.stk k).timed (s.stk k).timed :=
    fun hnone => by
      refine ⟨rfl, fun w hread hnext => ?_⟩
      rw [Stack.timed_eq] at hread hnext
      obtain h | h := hnone
      · simp [h] at hread
      · simp [h] at hnext
  have hset : ∀ w, (∀ v, (s.stk k).tm.tierNext = some v → w = v) → Turn k TierTaken s (setTier s k w) := fun w hw => by
    refine Turn.modStk s k _ ?_ (fun _ => rfl)
    exact ⟨rfl, fun v _ hnext => ⟨hw v hnext, rfl⟩⟩
  unfold tickTier
  dsimp only
  split_ifs with hread hsome hknown hcool
  · exact .of_same (.refl s) (hlate (.inl (by simpa using hread)))
  · refine hset _ fun v hv => ?_
    rw [hv]
    rfl
  · refine hset _ fun v hv => ?_
    simp [hv] at hsome
  · refine .of_same ?_ (hlate (.inr (by simpa using hsome)))
    exact .modStk s k _ (fun _ => rfl)
  · refine .of_same ?_ (hlate (.inr (by simpa using hsome)))
    exact .modStk s k _ (fun _ => rfl)

theorem sameTimes_safeStep2 (s : State) (k : Nat) : SameTimes s (safeStep2 s k) := by
  have hstop : SameTimes s (setSelfRefresh (abortSeals (endRequests s k) k) k true) :=
    ((SameTimes.of_still (still_endRequests s k)).trans (.of_stillSets (stillSets_abortSeals _ k) (fun _ => rfl))).trans
      (.of_stillSets (stillSets_setSelfRefresh _ k) (fun _ => rfl))
  unfold safeStep2
  dsimp only
  split_ifs
  · exact .refl s
  · refine hstop.then_modStk k _ fun x => ?_
    rw [Stack.timed_eq, Stack.timed_eq]
    dsimp only
    split_ifs <;> rfl

theorem turn_tickEvents (s : State) (k : Nat) : Turn k TierTaken s (tickEvents s k) := by
  have hbefore : SameTimes s ((tickStage (judgeStage (tickMarks (tickStkMode s k) k) k) k)) :=
    (((sameTimes_tickStkMode s k).trans (sameTimes_tickMarks _ k)).trans (sameTimes_judgeStage _ k)).trans (sameTimes_tickStage _ k)
  have hafter : ∀ u, SameTimes u (safeStep2 (forN 32 (tickCal (tickIntervals u k) k) (fun s ch => tickPause s k ch)) k) := fun u => by
    refine .trans ?_ (sameTimes_safeStep2 _ k)
    refine .trans ?_ (.of_still (still_forN 32 _ _ fun v ch => still_tickPause v k ch))
    refine .trans ?_ (.of_still (still_tickCal _ k))
    exact .modStk u k _ (fun _ => rfl)
  refine Turn.after_same hbefore (.then_same (.after_same ?_ (turn_tickTier _ k)) (hafter _))
  exact .modStk _ k _ (fun _ => rfl)

/-- The capacity comparison of a tick marks stacks that are short (R165). -/
theorem sameTimes_tickCap (s : State) : SameTimes s (tickCap s) := by
  have hstack : ∀ u k, SameTimes u (capStack u k) := fun u k => by
    have hmark : ∀ b, SameTimes u (u.modStk k (fun x => { x with tm := { x.tm with capShort := b } })) :=
      fun b => .modStk u k _ (fun _ => rfl)
    unfold capStack
    dsimp only
    split_ifs
    · exact (hmark _).trans (.of_still (still_report _ _ _ _ _ _))
    · exact hmark _
  unfold tickCap capCheck
  split_ifs
  · exact .refl s
  · dsimp only
    refine .trans (.forStacks s capStack hstack) (.of_still ?_)
    rw [still_pkgStatusBit]
    split_ifs
    · exact still_count _ _ _ _ _ _
    · rfl

end Sys2Proof.Machine
end

section
/-! PROOFS. The tick as a whole (R35, R37, R39, R42, R46, R52 to R54, R391). -/

namespace Sys2Proof.Machine

/-! ### The parts of a tick -/

/-- What R keeps of a stack, a round over the stacks keeps. -/
theorem Round.keeps {α : Type} {R : TimedStk → TimedStk → Prop} {s t : State} (h : Round R s t) (q : TimedStk → α)
    (hR : ∀ x y, R x y → q y = q x) (j : Nat) : q (t.stk j).timed = q (s.stk j).timed := by
  by_cases hj : j < s.n
  · cases hlive : s.stackTicks j with
    | true => exact hR _ _ (h.live j hj hlive)
    | false => rw [h.still j hj hlive]
  · rw [h.beyond j (Nat.le_of_not_lt hj)]

/-- The counters of every stack that ticks. -/
def countFrames (s : State) (aggNext : Nat) : State :=
  forStacks s (fun s k => if s.stackTicks k then tickCounts (tickStack s k aggNext) k else s)

/-- The frame number that TIME_SYNC gives, in every stack that ticks. -/
def forceFrames (s : State) (f : Nat) : State :=
  forStacks s (fun s k => if s.stackTicks k then s.modStk k (fun x => { x with tm := { x.tm with frame := f } }) else s)

/-- Messages on the ring wait one frame more, but not at the first tick after a stop (R53, R142). -/
def ageTransit (s : State) (after : Bool) : State := { s with
  transit := (if after then s.transit else s.transit.map (fun (r : Req) => r.tick 1)), idleFrames := s.idleFrames + 1 }

/-- The mode, the level, the reference and the ports of the frame that begins. -/
def enterFrame (s : State) : State :=
  { forN (4 * s.n) (tickWakeN (tickRef (tickLevel (tickMode s)))) tickPort with afterStop := false }

/-- The turns of the stacks in the frame that begins. -/
def runStacks (s : State) : State :=
  forStacks s (fun s k => if s.stackTicks k then forPcs (setBudget (tickEvents s k) k) k payOwed else s)

/-- What a tick brings, once the counters stand. -/
def beginFrame (s : State) (after : Bool) : State := updThermN (tickCap (splitStacks (runStacks (enterFrame (ageTransit s after)))))

/-- A natural tick. -/
theorem tickAll_none (s : State) : tickAll s none =
    let s1 := endFrame s s.stackTicks
    beginFrame (countFrames s1 (if s.afterStop || s1.now s1.agg = 0 then s1.frame s1.agg else satAdd cntMax (s1.frame s1.agg) 1))
      s.afterStop := rfl

/-- A tick that TIME_SYNC names. -/
theorem tickAll_some (s : State) (f : Nat) : tickAll s (some f) =
    beginFrame (forceFrames (countFrames (endFrame s s.stackTicks) f) f) s.afterStop := rfl

theorem round_countFrames (s : State) (aggNext : Nat) (hshape : s.stks.length = s.n) :
    Round (fun x y => y = x.tick aggNext s.afterStop) s (countFrames s aggNext) :=
  round_forStacks s hshape fun u k hpkg => by
    have hafter : u.afterStop = s.afterStop := congrArg TimedPkg.afterStop hpkg
    rw [← hafter]
    exact turn_tickStack u k aggNext

theorem round_forceFrames (s : State) (f : Nat) (hshape : s.stks.length = s.n) :
    Round (fun x y => y = { x with frame := f }) s (forceFrames s f) :=
  round_forStacks s hshape fun u k _ => turn_force u k f

/-! ### The begin of a frame -/

/-- The level that the tick brings, and nothing else of the timed part (R37, R391). -/
structure LevelTaken (s t : State) : Prop where
  taken : ∀ l, s.levelNext = some l → t.runLevel = l ∧ t.levelNext = none ∧
    ∀ j, j < s.n → (t.stk j).timed.railMv = (s.stk j).timed.railMv.set 0 (levelMv l)
  kept : s.levelNext = none → t.runLevel = s.runLevel
  pkg : t.timedPkg = { s.timedPkg with runLevel := t.runLevel, levelNext := t.levelNext }
  stk : ∀ j, (t.stk j).timed = { (s.stk j).timed with railMv := (t.stk j).timed.railMv }
  length : t.stks.length = s.stks.length

theorem levelTaken_tickLevel (s : State) (hshape : s.stks.length = s.n) : LevelTaken s (tickLevel s) := by
  cases hnext : s.levelNext with
  | none =>
    have heq : tickLevel s = s := by rw [tickLevel, hnext]
    rw [heq]
    exact ⟨fun l hl => by simp [hnext] at hl, fun _ => rfl, rfl, fun _ => rfl, rfl⟩
  | some l =>
    obtain ⟨hpkg, hlen, hstk⟩ := timed_setLevel s l hshape
    have heq : tickLevel s = setLevel s l := by rw [tickLevel, hnext]
    have hlevel : (setLevel s l).runLevel = l := congrArg TimedPkg.runLevel hpkg
    have hnone : (setLevel s l).levelNext = none := congrArg TimedPkg.levelNext hpkg
    rw [heq]
    refine ⟨fun l' hl => ?_, fun hn => by simp [hnext] at hn, ?_, fun j => ?_, hlen⟩
    · obtain rfl : l = l' := Option.some.inj (hnext.symm.trans hl)
      refine ⟨hlevel, hnone, fun j hj => ?_⟩
      rw [hstk j, if_pos hj]
      rfl
    · rw [hpkg, hlevel, hnone]
      rfl
    · rw [hstk j]
      split_ifs <;> rfl

theorem LevelTaken.after_same {s t u : State} (h : SameTimes s t) (g : LevelTaken t u) : LevelTaken s u := by
  have hlevel : t.levelNext = s.levelNext := congrArg TimedPkg.levelNext h.pkg
  have hn : t.n = s.n := congrArg (fun x => x.part.stks) h.pkg
  refine ⟨fun l hl => ?_, fun hnone => ?_, ?_, fun j => ?_, g.length.trans h.length⟩
  · obtain ⟨hrun, hnone, hrail⟩ := g.taken l (hlevel.trans hl)
    exact ⟨hrun, hnone, fun j hj => by rw [hrail j (hn.symm ▸ hj), h.stk j]⟩
  · exact (g.kept (hlevel.trans hnone)).trans (congrArg TimedPkg.runLevel h.pkg)
  · rw [g.pkg, h.pkg]
  · rw [g.stk j, h.stk j]

/-- Up to the turn of the stacks, the level, the reference and the mark of a stop alone change of the timed part (R37, R53, R381). -/
theorem levelTaken_enterFrame (s : State) (hshape : s.stks.length = s.n) :
    ∃ u r, LevelTaken s u ∧ SameTimes { u with ref := r, afterStop := false } (enterFrame s) ∧ (s.ref.refPend = none → r = s.ref) := by
  have hmode := sameTimes_tickMode s
  have hn : (tickMode s).n = s.n := congrArg (fun x => x.part.stks) hmode.pkg
  have hlevel := (levelTaken_tickLevel (tickMode s) (by rw [hmode.length, hn, hshape])).after_same hmode
  unfold enterFrame
  generalize tickLevel (tickMode s) = u at hlevel
  have href : u.ref = s.ref := congrArg TimedPkg.ref hlevel.pkg
  obtain ⟨r, hr⟩ := still_tickRef u
  refine ⟨u, r, hlevel, .of_still ?_, fun hnone => ?_⟩
  · have h := ((still_forN (4 * s.n) _ tickPort still_tickPort).trans (still_tickWakeN _)).trans hr
    exact congrArg (fun x : Still => { x with afterStop := false }) h
  · have heq : tickRef u = u := by rw [tickRef, href, hnone]
    rw [heq] at hr
    exact (congrArg Still.ref hr).symm.trans href

/-- The stacks' turns in a frame that begins. -/
theorem round_runStacks (s : State) (hshape : s.stks.length = s.n) : Round TierTaken s (runStacks s) :=
  round_forStacks s hshape fun u k _ => (turn_tickEvents u k).then_same (.of_still
    ((still_forPcs _ k payOwed still_payOwed).trans (still_setBudget _ k)))

/-- What the begin of a frame keeps of the counters, and what it brings (R37, R46, R391). -/
structure FrameBegun (s t : State) : Prop where
  counters : ∀ j, (t.stk j).timed.frame = (s.stk j).timed.frame ∧ (t.stk j).timed.ticks = (s.stk j).timed.ticks
  level : ∀ l, s.levelNext = some l → t.runLevel = l ∧ t.levelNext = none ∧
    ∀ j, j < s.n → (t.stk j).timed.railMv = (s.stk j).timed.railMv.set 0 (levelMv l)
  kept : s.levelNext = none → t.runLevel = s.runLevel
  tier : s.ref.refPend = none → ∀ k, k < s.n → s.stackTicks k = true → ∀ w, (s.stk k).timed.memRead = true →
    (s.stk k).timed.tierNext = some w → (t.stk k).timed.tier = w ∧ (t.stk k).timed.tierNext = none
  marks : t.longFrame = s.longFrame ∧ t.sync = s.sync

theorem frameBegun_beginFrame (s : State) (after : Bool) (hshape : s.stks.length = s.n) : FrameBegun s (beginFrame s after) := by
  obtain ⟨u, r, hlevel, henter, href⟩ := levelTaken_enterFrame (ageTransit s after) hshape
  have hend : SameTimes (runStacks (enterFrame (ageTransit s after))) (beginFrame s after) :=
    ((SameTimes.of_still (still_splitStacks _)).trans (sameTimes_tickCap _)).trans (.of_still (still_updThermN _))
  have hlevel' : LevelTaken s u := hlevel.after_same (t := ageTransit s after) ⟨rfl, rfl⟩
  generalize beginFrame s after = t at hend
  generalize enterFrame (ageTransit s after) = v at hend henter
  have hopen := henter.pkg.trans (congrArg (fun x : TimedPkg => { x with ref := r, afterStop := false }) hlevel'.pkg)
  have hn : v.n = s.n := congrArg (fun x => x.part.stks) hopen
  have hround := round_runStacks v (by rw [hn, henter.length]; exact hlevel'.length.trans hshape)
  have hpkg := (hend.pkg.trans hround.pkg).trans hopen
  have hbefore : ∀ j, (v.stk j).timed = { (s.stk j).timed with railMv := (u.stk j).timed.railMv } :=
    fun j => (henter.stk j).trans (hlevel'.stk j)
  have hkeep : ∀ {α : Type} (q : TimedStk → α), (∀ x y, TierTaken x y → q y = q x) → ∀ j,
      q (t.stk j).timed = q { (s.stk j).timed with railMv := (u.stk j).timed.railMv } :=
    fun q hq j => by rw [hend.stk j, hround.keeps q hq j, hbefore j]
  refine ⟨fun j => ⟨hkeep TimedStk.frame (fun x y h => by rw [h.1]) j, hkeep TimedStk.ticks (fun x y h => by rw [h.1]) j⟩,
    fun l hl => ?_, fun hnone => ?_, fun hnone k hk hlive w hread hnext => ?_,
    congrArg TimedPkg.longFrame hpkg, congrArg TimedPkg.sync hpkg⟩
  · obtain ⟨hrun, hnext, hrail⟩ := hlevel'.taken l hl
    refine ⟨(congrArg TimedPkg.runLevel hpkg).trans hrun, (congrArg TimedPkg.levelNext hpkg).trans hnext, fun j hj => ?_⟩
    rw [hkeep TimedStk.railMv (fun x y h => by rw [h.1]) j]
    exact hrail j hj
  · exact (congrArg TimedPkg.runLevel hpkg).trans (hlevel'.kept hnone)
  · have hticks : v.stackTicks = s.stackTicks :=
      stackTicks_congr (congrArg TimedPkg.part hopen) ((congrArg TimedPkg.ref hopen).trans (href hnone)) fun j => by
        rw [hbefore j]
        rfl
    rw [hend.stk k]
    refine (hround.live k (hn.symm ▸ hk) (by rw [hticks, hlive])).2 w ?_ ?_
    · rw [hbefore k]
      exact hread
    · rw [hbefore k]
      exact hnext

end Sys2Proof.Machine
end

section
/-! PROOFS. The two forms of the tick (R35, R39, R42, R52, R54). -/

namespace Sys2Proof.Machine

theorem Round.after_same {R : TimedStk → TimedStk → Prop} {s t u : State} (h : SameTimes s t) (g : Round R t u) : Round R s u := by
  have hn : t.n = s.n := congrArg (fun x => x.part.stks) h.pkg
  have hticks := h.stackTicks
  refine ⟨g.pkg.trans h.pkg, g.length.trans h.length, fun j => (g.wire j).trans (congrArg TimedStk.wire (h.stk j)),
    fun j hj hlive => ?_, fun j hj hlive => ?_, fun j hj => (g.beyond j (hn.symm ▸ hj)).trans (h.stk j)⟩
  · rw [← h.stk j]
    exact g.live j (hn.symm ▸ hj) (by rw [hticks, hlive])
  · exact (g.still j (hn.symm ▸ hj) (by rw [hticks, hlive])).trans (h.stk j)

theorem Round.trans {R R' : TimedStk → TimedStk → Prop} {s t u : State} (h : Round R s t) (g : Round R' t u) :
    Round (fun x y => ∃ z, R x z ∧ R' z y) s u := by
  have hn : t.n = s.n := congrArg (fun x => x.part.stks) h.pkg
  have hticks := h.stackTicks
  refine ⟨g.pkg.trans h.pkg, g.length.trans h.length, fun j => (g.wire j).trans (h.wire j), fun j hj hlive => ?_,
    fun j hj hlive => ?_, fun j hj => (g.beyond j (hn.symm ▸ hj)).trans (h.beyond j hj)⟩
  · exact ⟨_, h.live j hj hlive, g.live j (hn.symm ▸ hj) (by rw [hticks, hlive])⟩
  · exact (g.still j (hn.symm ▸ hj) (by rw [hticks, hlive])).trans (h.still j hj hlive)

/-- The aggregator's frame number after a natural tick (R35, R52, R53). -/
def State.nextFrame (s : State) : Nat :=
  if s.afterStop || s.now s.agg = 0 then s.frame s.agg else satAdd cntMax (s.frame s.agg) 1

/-- The state as the long frame ends (R42). -/
def State.frameEnded (s : State) : State := { s with longFrame := false }

theorem stackTicks_frameEnded (s : State) : s.frameEnded.stackTicks = s.stackTicks := stackTicks_congr rfl rfl (fun _ => rfl)

/-- A natural tick counts in every stack that ticks, and then begins the frame. -/
theorem tickAll_none_spec (s : State) (hshape : s.stks.length = s.n) :
    ∃ u, FrameBegun u (tickAll s none) ∧ Round (fun x y => y = x.tick s.nextFrame s.afterStop) s.frameEnded u := by
  have hend := sameTimes_endFrame s s.stackTicks
  rw [tickAll_none]
  generalize endFrame s s.stackTicks = v at hend
  have hn : v.n = s.n := congrArg (fun x => x.part.stks) hend.pkg
  have hagg : v.agg = s.agg := congrArg TimedPkg.agg hend.pkg
  have hafter : v.afterStop = s.afterStop := congrArg TimedPkg.afterStop hend.pkg
  have hframe : v.frame s.agg = s.frame s.agg := congrArg TimedStk.frame (hend.stk s.agg)
  have hnow : v.now s.agg = s.now s.agg := congrArg TimedStk.ticks (hend.stk s.agg)
  have hlen : v.stks.length = v.n := hend.length.trans (hshape.trans hn.symm)
  have hround := round_countFrames v s.nextFrame hlen
  rw [hafter] at hround
  have hlen' : (countFrames v s.nextFrame).stks.length = (countFrames v s.nextFrame).n :=
    hround.length.trans (hlen.trans (congrArg (fun x => x.part.stks) hround.pkg).symm)
  dsimp only
  rw [hagg, hframe, hnow]
  exact ⟨_, frameBegun_beginFrame _ _ hlen', hround.after_same hend⟩

/-- A tick that TIME_SYNC names gives its number to every stack that ticks (R42). -/
theorem tickAll_some_spec (s : State) (f : Nat) (hshape : s.stks.length = s.n) :
    ∃ u, FrameBegun u (tickAll s (some f)) ∧ Round (fun _ y => y.frame = f) s.frameEnded u := by
  have hend := sameTimes_endFrame s s.stackTicks
  rw [tickAll_some]
  generalize endFrame s s.stackTicks = v at hend
  have hn : v.n = s.n := congrArg (fun x => x.part.stks) hend.pkg
  have hlen : v.stks.length = v.n := hend.length.trans (hshape.trans hn.symm)
  have hcount := round_countFrames v f hlen
  generalize countFrames v f = w at hcount
  have hlen' : w.stks.length = w.n := hcount.length.trans (hlen.trans (congrArg (fun x => x.part.stks) hcount.pkg).symm)
  have hforce := round_forceFrames w f hlen'
  have hlen'' : (forceFrames w f).stks.length = (forceFrames w f).n :=
    hforce.length.trans (hlen'.trans (congrArg (fun x => x.part.stks) hforce.pkg).symm)
  have hround := (hcount.trans hforce).after_same hend
  refine ⟨_, frameBegun_beginFrame _ _ hlen'', hround.pkg, hround.length, hround.wire, fun j hj hlive => ?_, hround.still, hround.beyond⟩
  obtain ⟨z, -, hz⟩ := hround.live j hj hlive
  rw [hz]

theorem dies_of_skel {s t : State} (h : t.skel = s.skel) : t.dies = s.dies := congrArg Skel.dies h

/-- In ACTIVE and IDLE the package ticks (R35). -/
theorem ticking_of_serving {s : State} (h : s.mode = .active ∨ s.mode = .idle) : s.ticking = true := by
  obtain h | h := h <;> rw [State.ticking, h]

theorem exec_frameTick {s : State} (hmode : s.mode = .active ∨ s.mode = .idle) (hsync : s.sync = none) :
    exec .frameTick s = .next (tickAll s none) := by
  change execFrameTick s = _
  rw [execFrameTick, ticking_of_serving hmode, hsync]
  rfl

/-! ### O11 -/

/-- A natural tick (R35, R37, R39, R46, R52, R53, R82, R391). -/
theorem claims_frameTick : Claims.FrameTick := by
  refine ⟨fun s hshape hmode hsync hafter => ?stopped, fun s hshape hmode hsync hafter => ?running⟩
  case stopped =>
    obtain ⟨u, hbegun, hround⟩ := tickAll_none_spec s hshape.1
    have hexec := exec_frameTick hmode hsync
    generalize tickAll s none = t at hexec hbegun
    rw [hafter] at hround
    refine ⟨t, hexec, fun k => ?_⟩
    obtain ⟨hframe, hticks⟩ := hbegun.counters k
    exact ⟨hticks.trans (hround.keeps TimedStk.ticks (fun x y h => by rw [h]; rfl) k),
      hframe.trans (hround.keeps TimedStk.frame (fun x y h => by rw [h]; rfl) k)⟩
  case running =>
    obtain ⟨u, hbegun, hround⟩ := tickAll_none_spec s hshape.1
    have hdies := dies_of_skel (skel_tickAll s none)
    have hexec := exec_frameTick hmode hsync
    generalize tickAll s none = t at hexec hbegun hdies
    rw [hafter] at hround
    have hn : u.n = s.n := congrArg (fun x => x.part.stks) hround.pkg
    have hlevel : u.levelNext = s.levelNext := congrArg TimedPkg.levelNext hround.pkg
    have hlive : s.frameEnded.stackTicks = s.stackTicks := stackTicks_frameEnded s
    have hticked : ∀ k, k < s.n → s.stackTicks k = true →
        (u.stk k).timed = (s.stk k).timed.tick s.nextFrame false := fun k hk h => hround.live k hk (by rw [hlive, h])
    have hcounted : ∀ k, t.frame k = (u.stk k).timed.frame ∧ t.now k = (u.stk k).timed.ticks := hbegun.counters
    refine ⟨t, hexec, fun k hk h hnow halign => ?_, fun k hk h halign hagg => ?_, fun k h => ?_, fun l hl => ?_, fun hnone => ?_,
      fun k w hk href h hread hnext => ?_, ?_, hdies⟩
    · have halign' : (s.stk k).timed.align = false := halign
      have hnow' : (s.stk k).timed.ticks ≠ 0 := hnow
      obtain ⟨hframe, hticks⟩ := hcounted k
      rw [hframe, hticks, hticked k hk h]
      simp only [TimedStk.tick, halign', Bool.false_eq_true, if_false, if_neg hnow']
      exact ⟨rfl, rfl⟩
    · have halign' : (s.stk k).timed.align = true := halign
      rw [(hcounted k).1, hticked k hk h]
      simp only [TimedStk.tick, halign', Bool.false_eq_true, if_false, if_true]
      simp [State.nextFrame, hafter, hagg]
    · have hstill : (u.stk k).timed = (s.stk k).timed := by
        by_cases hk : k < s.n
        · exact hround.still k hk (by rw [hlive, h])
        · exact hround.beyond k (Nat.le_of_not_lt hk)
      obtain ⟨hframe, hticks⟩ := hcounted k
      rw [hframe, hticks, hstill]
      exact ⟨rfl, rfl⟩
    · obtain ⟨hrun, hnone, hrail⟩ := hbegun.level l (hlevel.trans hl)
      refine ⟨hrun, hnone, fun k hk => (hrail k (hn.symm ▸ hk)).trans ?_⟩
      rw [hround.keeps TimedStk.railMv (fun x y h => by rw [h]; rfl) k]
      rfl
    · exact (hbegun.kept (hlevel.trans hnone)).trans (congrArg TimedPkg.runLevel hround.pkg)
    · have htier := hbegun.tier ((congrArg (fun x => x.ref.refPend) hround.pkg).trans href) k (hn.symm ▸ hk)
        (by rw [hround.stackTicks, hlive, h]) w
      rw [hticked k hk h] at htier
      exact htier hread hnext
    · exact hbegun.marks.1.trans (congrArg TimedPkg.longFrame hround.pkg)

/-- The package that TIME_SYNC_APPLY ticks: aged where time was estimated (R43). -/
theorem exec_timeSyncApply {s : State} {f : Nat} (hshape : s.stks.length = s.n) (hmode : s.mode = .active ∨ s.mode = .idle)
    (hsync : s.sync = some f) :
    ∃ u, exec .timeSyncApply s = .next { tickAll u (some f) with timeValid := true, timeEst := false } ∧
      u.stks.length = u.n ∧ u.n = s.n ∧ u.sync = none ∧ u.stackTicks = s.stackTicks ∧ u.dies = s.dies := by
  have hexec : ∀ u : State, u = (if s.timeEst = true then
      (ageAll { s with sync := none } (f - (s.frame s.agg + 1))).setCnt 0 .tic 0 4 (f - (s.frame s.agg + 1)) else { s with sync := none }) →
      exec .timeSyncApply s = .next { tickAll u (some f) with timeValid := true, timeEst := false } := fun u hu => by
    subst hu
    change execTimeSyncApply s = _
    simp only [execTimeSyncApply, hsync, ticking_of_serving hmode]
    rfl
  refine ⟨_, hexec _ rfl, ?_⟩
  split_ifs
  · obtain ⟨hpkg, hlen, haged⟩ := still_ageAll { s with sync := none } (f - (s.frame s.agg + 1)) hshape
    have hset := still_setCnt (ageAll { s with sync := none } (f - (s.frame s.agg + 1))) 0 .tic 0 4 (f - (s.frame s.agg + 1))
    have hdies : ((ageAll { s with sync := none } (f - (s.frame s.agg + 1))).setCnt 0 .tic 0 4 (f - (s.frame s.agg + 1))).skel =
        s.skel := by simp [State.fields_skel]
    generalize (ageAll { s with sync := none } (f - (s.frame s.agg + 1))).setCnt 0 .tic 0 4 (f - (s.frame s.agg + 1)) = u at hset hdies
    have hall := (congrArg Still.pkg hset).trans hpkg
    have hn : u.n = s.n := congrArg (fun x => x.part.stks) hall
    have hlen' : u.stks.length = s.stks.length := (length_still_congr hset).trans hlen
    refine ⟨hlen'.trans (hshape.trans hn.symm), hn, congrArg Still.sync hall,
      stackTicks_congr (congrArg Still.part hall) (congrArg Still.ref hall) fun j => ?_, congrArg Skel.dies hdies⟩
    by_cases hj : j < s.n
    · have htimed := (stk_still_congr hset j).trans (haged j hj)
      exact congrArg (fun x => x.timed.wire) htimed
    · have hpart : u.part = s.part := congrArg Still.part hall
      have hnone : s.stks.length ≤ j := hshape ▸ Nat.le_of_not_lt hj
      rw [State.stk, State.stk, List.getD_eq_default _ _ (hlen'.symm ▸ hnone), List.getD_eq_default _ _ hnone, hpart]
  · exact ⟨hshape, rfl, rfl, stackTicks_congr rfl rfl (fun _ => rfl), rfl⟩

/-- The tick that applies a TIME_SYNC (R42, R54). -/
theorem claims_timeSyncApply : Claims.TimeSyncApply := by
  intro s f hshape hmode hsync
  obtain ⟨u, hexec, hlen, hn, hnone, hlive, hdies⟩ := exec_timeSyncApply hshape.1 hmode hsync
  obtain ⟨v, hbegun, hround⟩ := tickAll_some_spec u f hlen
  have hskel := dies_of_skel (skel_tickAll u (some f))
  generalize tickAll u (some f) = t at hexec hbegun hskel
  refine ⟨_, hexec, fun k hk h => ?_, ?_, rfl, rfl, hskel.trans hdies⟩
  · exact (hbegun.counters k).1.trans (hround.live k (hn.symm ▸ hk) (by rw [stackTicks_frameEnded, hlive, h]))
  · exact hbegun.marks.2.trans ((congrArg TimedPkg.sync hround.pkg).trans hnone)

/-- Settles O11: the stacks that tick count first, then the frame begins with what waited for it. -/
theorem frameTicks : Obligations.FrameTicks := ⟨claims_frameTick, claims_timeSyncApply⟩

end Sys2Proof.Machine
end

section
/-! PROOFS. Rules of the channel pages and the pseudo-channels: fields written together, and what a change of one channel or
pseudo-channel leaves (R12, R252 to R254). -/

namespace Sys2Proof.Machine

/-! ### Fields written together -/

/-- A write of field f leaves field g: f has a place, and g is above it, below it, or in another register of the page. -/
def FRef.apart (f g : FRef) : Bool :=
  decide (f.page = g.page) && decide (f.lo ≤ f.hi + 1) && decide (f.hi < 32) &&
  (decide (f.off ≠ g.off) || decide (f.hi < g.lo) || (decide (g.hi < f.lo) && decide (g.lo ≤ g.hi + 1)))

theorem fld_setFld_of_apart (s : State) (k i : Nat) (f g : FRef) (v : Nat) (hk : k < s.stks.length) (h : f.apart g = true) :
    (s.setFld k i f v).fld k i g = s.fld k i g := by
  simp only [FRef.apart, Bool.and_eq_true, Bool.or_eq_true, decide_eq_true_eq] at h
  obtain ⟨⟨⟨hpage, hlo⟩, hhi⟩, hplace⟩ := h
  by_cases hoff : f.off = g.off
  · exact State.fld_setFld_sibling s k i f g v hk hpage.symm hoff.symm hlo hhi (by omega)
  · refine State.fld_setFld_other s k k i i f g v (.inr (.inr ?_))
    rw [regKey, regKey, hpage]
    omega

theorem State.setFlds_cons (s : State) (k i : Nat) (x : FRef × Nat) (l : List (FRef × Nat)) :
    s.setFlds k i (x :: l) = (s.setFld k i x.1 x.2).setFlds k i l := rfl

theorem length_setFld (s : State) (k i : Nat) (f : FRef) (v : Nat) : (s.setFld k i f v).stks.length = s.stks.length :=
  length_modify' _ _ _

/-- Fields written elsewhere leave a field. -/
theorem fld_setFlds_of_apart (s : State) (k i : Nat) (l : List (FRef × Nat)) (g : FRef) (hk : k < s.stks.length)
    (h : l.all (fun x => x.1.apart g) = true) : (s.setFlds k i l).fld k i g = s.fld k i g := by
  induction l generalizing s with
  | nil => rfl
  | cons x l ih =>
    rw [List.all_cons, Bool.and_eq_true] at h
    rw [State.setFlds_cons, ih _ (by rw [length_setFld]; exact hk) h.2, fld_setFld_of_apart s k i x.1 g x.2 hk h.1]

/-- The n-th of the fields written reads as written, where the later ones are apart from it. -/
theorem fld_setFlds_same (s : State) (k i : Nat) (l : List (FRef × Nat)) (n : Nat) (g : FRef) (v : Nat) (hk : k < s.stks.length)
    (hget : l[n]? = some (g, v)) (hplace : (decide (g.lo ≤ g.hi + 1) && decide (g.hi < 32)) = true)
    (h : (l.drop (n + 1)).all (fun x => x.1.apart g) = true) : (s.setFlds k i l).fld k i g = v % 2 ^ (g.hi + 1 - g.lo) := by
  induction l generalizing s n with
  | nil => cases hget
  | cons x l ih =>
    cases n with
    | zero =>
      simp only [Bool.and_eq_true, decide_eq_true_eq] at hplace
      obtain rfl : x = (g, v) := by simpa using hget
      rw [State.setFlds_cons, fld_setFlds_of_apart _ k i l g (by rw [length_setFld]; exact hk) h]
      exact State.fld_setFld_same s k i g v hk hplace.1 hplace.2
    | succ n => exact ih _ n (by rw [length_setFld]; exact hk) hget h

/-- Fields written at other offsets of the page leave a register. -/
theorem raw_setFlds_of_off (s : State) (k i : Nat) (l : List (FRef × Nat)) (pg : Page) (off : Nat)
    (h : l.all (fun x => decide (x.1.page = pg) && decide (x.1.off ≠ off)) = true) :
    (s.setFlds k i l).raw k pg i off = s.raw k pg i off := by
  induction l generalizing s with
  | nil => rfl
  | cons x l ih =>
    simp only [List.all_cons, Bool.and_eq_true, decide_eq_true_eq] at h
    obtain ⟨⟨hpage, hoff⟩, hl⟩ := h
    rw [State.setFlds_cons, ih _ (by simpa using hl)]
    refine State.raw_setRaw_other s k k x.1.page pg i i x.1.off off _ (.inr (.inr ?_))
    rw [regKey, regKey, hpage]
    omega

/-- Fields of a stack's page change its stored registers alone. -/
theorem regsOnly_setFlds (s : State) (k i : Nat) (l : List (FRef × Nat)) (h : l.all (fun x => !x.1.page.isPkg) = true) :
    StksFrame (AtStk k RegsOnly) s (s.setFlds k i l) := by
  induction l generalizing s with
  | nil => exact .refl (fun _ _ => ⟨rfl, fun _ => rfl⟩) s
  | cons x l ih =>
    rw [List.all_cons, Bool.and_eq_true, Bool.not_eq_true'] at h
    have hset : StksFrame (AtStk k RegsOnly) s (s.setFld k i x.1 x.2) :=
      .modStk (fun _ _ => ⟨rfl, fun _ => rfl⟩) s k _ fun y => ⟨by rw [RegsOnly, if_neg (by simp [h.1])], fun hk => absurd rfl hk⟩
    exact StksFrame.trans (fun _ x y z hxy hyz => ⟨by rw [RegsOnly, hyz.1, hxy.1], fun hj => (hyz.2 hj).trans (hxy.2 hj)⟩)
      hset (ih _ h.2)

/-- One bit of a word as a field. -/
theorem bits_one (n b : Nat) : bits n b b = b2n (bitAt n b) := by
  have hw : b + 1 - b = 1 := by omega
  rw [bits, hw, Nat.shiftRight_eq_div_pow, bitAt, Nat.testBit_eq_decide_div_mod_eq, b2n]
  split_ifs with h
  · simpa using h
  · simp at h
    omega

theorem bits_lt (n hi lo : Nat) : bits n hi lo < 2 ^ (hi + 1 - lo) := Nat.mod_lt _ (Nat.two_pow_pos _)

/-! ### One channel -/

/-- Of a stack only stored registers and channel c changed. -/
def RegsCh (c : Nat) (x y : Stack) : Prop :=
  y = { x with regs := y.regs, chans := y.chans } ∧ ∀ d, d ≠ c → y.ch d = x.ch d

theorem RegsCh.refl (c : Nat) (x : Stack) : RegsCh c x x := ⟨rfl, fun _ _ => rfl⟩

theorem RegsCh.trans {c : Nat} {x y z : Stack} (h : RegsCh c x y) (g : RegsCh c y z) : RegsCh c x z :=
  ⟨by rw [g.1, h.1], fun d hd => (g.2 d hd).trans (h.2 d hd)⟩

theorem RegsCh.of_regsOnly {c : Nat} {x y : Stack} (h : RegsOnly x y) : RegsCh c x y := by
  rw [RegsOnly] at h
  exact ⟨by rw [h], fun _ _ => by rw [h]; rfl⟩

theorem regsCh_modCh (x : Stack) (c : Nat) (f : Chan → Chan) : RegsCh c x (x.modCh c f) :=
  ⟨rfl, fun _ hd => getD_modify_other _ _ _ _ _ hd⟩

/-- t is s but for stored registers and channel c of stack k. -/
abbrev ChFrame (k c : Nat) (s t : State) : Prop := StksFrame (AtStk k (RegsCh c)) s t

namespace ChFrame

variable {k c : Nat} {s t u : State}

theorem trans (h : ChFrame k c s t) (g : ChFrame k c t u) : ChFrame k c s u :=
  StksFrame.trans (fun _ _ _ _ hxy hyz => ⟨hxy.1.trans hyz.1, fun hj => (hyz.2 hj).trans (hxy.2 hj)⟩) h g

theorem modCh (s : State) (k c : Nat) (f : Chan → Chan) : ChFrame k c s (s.modCh k c f) :=
  .modStk (fun _ x => ⟨.refl c x, fun _ => rfl⟩) s k _ fun x => ⟨regsCh_modCh x c f, fun hk => absurd rfl hk⟩

theorem setFlds (s : State) (k i c : Nat) (l : List (FRef × Nat)) (h : l.all (fun x => !x.1.page.isPkg) = true) :
    ChFrame k c s (s.setFlds k i l) :=
  (regsOnly_setFlds s k i l h).mono fun _ _ _ hxy => ⟨.of_regsOnly hxy.1, hxy.2⟩

end ChFrame

theorem State.ch_modCh_same (s : State) (k c : Nat) (f : Chan → Chan) (hk : k < s.stks.length) (hc : c < (s.stk k).chans.length) :
    ((s.modCh k c f).stk k).ch c = f ((s.stk k).ch c) := by
  rw [State.modCh, State.stk_modStk_same s k _ hk]
  exact getD_modify_same _ _ _ _ hc

theorem State.ch_modCh_other (s : State) (k c d : Nat) (f : Chan → Chan) (hd : d ≠ c) :
    ((s.modCh k c f).stk k).ch d = (s.stk k).ch d :=
  State.stk_modStk_proj (fun x => x.ch d) (fun x => (regsCh_modCh x c f).2 d hd) s k k

/-- A change of a channel leaves every register. -/
theorem State.raw_modCh (s : State) (k c j : Nat) (f : Chan → Chan) (pg : Page) (i off : Nat) :
    (s.modCh k c f).raw j pg i off = s.raw j pg i off := by
  have hregs := State.stk_modStk_proj Stack.regs (f := (·.modCh c f)) (fun _ => rfl) s k j
  have hpkg := State.stk_modStk_proj Stack.pkgRegs (f := (·.modCh c f)) (fun _ => rfl) s k j
  exact State.raw_congr (s := s) (t := s.modCh k c f) rfl hregs hpkg pg i off

/-- A register leaves the channels. -/
theorem State.chans_setRaw (s : State) (k : Nat) (pg : Page) (i off v j : Nat) :
    ((s.setRaw k pg i off v).stk j).chans = (s.stk j).chans :=
  State.stk_modStk_proj Stack.chans (fun x => by split_ifs <;> rfl) s k j

theorem State.ch_setFld (s : State) (k i : Nat) (f : FRef) (v j d : Nat) : ((s.setFld k i f v).stk j).ch d = (s.stk j).ch d := by
  rw [Stack.ch, State.setFld, State.chans_setRaw, Stack.ch]

theorem State.ch_setFlds (s : State) (k i : Nat) (l : List (FRef × Nat)) (j d : Nat) :
    ((s.setFlds k i l).stk j).ch d = (s.stk j).ch d := by
  induction l generalizing s with
  | nil => rfl
  | cons x l ih => rw [State.setFlds_cons, ih, State.ch_setFld]

/-- A window that accepts accesses is of a stack of the part. -/
theorem lt_of_winOk {s : State} {k : Nat} (hshape : Shaped s) (h : s.winOk k = true) : k < s.stks.length := by
  simp only [State.winOk, Bool.and_eq_true, decide_eq_true_eq] at h
  rw [hshape.1]
  exact h.1.1.2

end Sys2Proof.Machine
end

section
/-! PROOFS. Retrain pauses and delays (R252, R254, R263). -/

namespace Sys2Proof.Machine

/-! ### One pseudo-channel -/

theorem OnlyStkErr.trans {k : Nat} {s t u : State} (h : OnlyStkErr k s t) (g : OnlyStkErr k t u) : OnlyStkErr k s u :=
  ⟨by rw [g.1, h.1], fun j hj => (g.2 j hj).trans (h.2 j hj)⟩

theorem OnlyStk.stkErr {k : Nat} {s t : State} (h : OnlyStk k s t) : OnlyStkErr k s t := ⟨by rw [h.1], h.2⟩

theorem OnlyCh.refl (k c : Nat) (s : State) : OnlyCh k c s s :=
  ⟨⟨rfl, fun _ _ => rfl⟩, fun _ _ _ _ _ => rfl, rfl, rfl, fun _ _ => rfl⟩

theorem OnlyCh.trans {k c : Nat} {s t u : State} (h : OnlyCh k c s t) (g : OnlyCh k c t u) : OnlyCh k c s u := by
  obtain ⟨hstk, hregs, hpkg, hkeep, hch⟩ := h
  obtain ⟨gstk, gregs, gpkg, gkeep, gch⟩ := g
  exact ⟨hstk.trans gstk, fun pg i o ho hlt => (gregs pg i o ho hlt).trans (hregs pg i o ho hlt), gpkg.trans hpkg,
    by rw [gkeep, hkeep], fun d hd => (gch d hd).trans (hch d hd)⟩

theorem onlyCh_modCh (s : State) (k c : Nat) (f : Chan → Chan) : OnlyCh k c s (s.modCh k c f) := by
  have hpkg := State.stk_modStk_proj Stack.pkgRegs (f := (·.modCh c f)) (fun _ => rfl) s k k
  have hkeep := State.stk_modStk_rel (R := fun x y => y = { x with regs := y.regs, chans := y.chans, cnt := y.cnt, rg := y.rg })
    (f := (·.modCh c f)) (fun _ => rfl) (fun _ => rfl) s k k
  exact ⟨(onlyStk_modStk s k _).stkErr, fun pg i o _ _ => State.raw_modCh s k c k f pg i o, hpkg, hkeep,
    fun d hd => State.ch_modCh_other s k c d f hd⟩

theorem OnlyPc.refl (k c i : Nat) (s : State) : OnlyPc k c i s s := ⟨.refl k c s, rfl, fun _ _ => rfl⟩

theorem OnlyPc.trans {k c i : Nat} {s t u : State} (h : OnlyPc k c i s t) (g : OnlyPc k c i t u) : OnlyPc k c i s u := by
  obtain ⟨hch, hkeep, hpc⟩ := h
  obtain ⟨gch, gkeep, gpc⟩ := g
  exact ⟨hch.trans gch, by rw [gkeep, hkeep], fun j hj => (gpc j hj).trans (hpc j hj)⟩

theorem onlyPc_modPc (s : State) (k c i : Nat) (f : PChan → PChan) : OnlyPc k c i s (s.modPc k c i f) := by
  have hrel := State.stk_modStk_rel (f := (·.modCh c (·.modPc i f)))
    (R := fun x y => y.ch c = { x.ch c with pcs := (y.ch c).pcs } ∧ ∀ j, j ≠ i → (y.ch c).pc j = (x.ch c).pc j)
    (fun _ => ⟨rfl, fun _ _ => rfl⟩)
    (fun x => getD_modify_rel (R := fun y z : Chan => z = { y with pcs := z.pcs } ∧ ∀ j, j ≠ i → z.pc j = y.pc j)
      (f := (·.modPc i f)) (fun _ => ⟨rfl, fun _ _ => rfl⟩) (fun _ => ⟨rfl, fun _ hj => getD_modify_other _ _ _ _ _ hj⟩)
      x.chans c c Chan.reset) s k k
  exact ⟨onlyCh_modCh s k c _, hrel.1, hrel.2⟩

/-- What leaves the channels changes no pseudo-channel. -/
theorem onlyPc_of_onlyCh {k c : Nat} (i : Nat) {s t : State} (h : OnlyCh k c s t) (hch : (t.stk k).ch c = (s.stk k).ch c) :
    OnlyPc k c i s t := ⟨h, by rw [hch], fun j _ => by rw [State.pcOf, hch, State.pcOf]⟩

theorem HasPc.lt {s : State} {k c i : Nat} (hshape : Shaped s) (h : HasPc s k c i) :
    k < s.stks.length ∧ c < (s.stk k).chans.length ∧ i < ((s.stk k).ch c).pcs.length :=
  ⟨hshape.1 ▸ h.1.1, h.1.2, h.2⟩

theorem pcOf_modPc_of_hasPc {s : State} {k c i : Nat} (f : PChan → PChan) (hshape : Shaped s) (h : HasPc s k c i) :
    (s.modPc k c i f).pcOf k c i = f (s.pcOf k c i) := by
  obtain ⟨hk, hc, hi⟩ := h.lt hshape
  exact State.pcOf_modPc_same s k c i f hk hc hi

/-! ### Delays -/

theorem delay_setDelay_same (p : PChan) (pin v : Nat) :
    (p.setDelay pin v).delay pin = bits v 21 16 * 2 ^ 16 + bits v 14 8 * 2 ^ 8 + bits v 6 0 := by
  have ha := bits_lt v 21 16
  have hb := bits_lt v 14 8
  have hc := bits_lt v 6 0
  rw [PChan.delay, PChan.setDelay, mget_mput_same, BitVec.toNat_ofNat, Nat.mod_eq_of_lt (by omega)]

theorem delay_setDelay_other (p : PChan) (pin q v : Nat) (h : q ≠ pin) : (p.setDelay pin v).delay q = p.delay q := by
  rw [PChan.delay, PChan.setDelay, mget_mput_other _ _ _ _ _ _ h, PChan.delay]

/-! ### Writes of CTL_TRN_CTRL without GO (R258) -/

/-- The fields that a write of CTL_TRN_CTRL stores. -/
def trnFields (s : State) (src : Source) (k ch v : Nat) : List (FRef × Nat) :=
  [(F.CTL_TRN_CTRL_PAUSE_EN, bits v 29 29),
    (F.CTL_TRN_CTRL_PAUSE, if Source.isDocent k src then bits v 28 28 else s.fld k ch F.CTL_TRN_CTRL_PAUSE),
    (F.CTL_TRN_CTRL_PC, bits v 24 24), (F.CTL_TRN_CTRL_MODE, bits v 21 20), (F.CTL_TRN_CTRL_TARGET, bits v 19 19),
    (F.CTL_TRN_CTRL_SWEEP_PARAM, bits v 17 16), (F.CTL_TRN_CTRL_BURSTS, bits v 15 0)]

/-- CTL_TRN_CTRL as written, before what GO and ABORT do. -/
def State.trnSet (s : State) (src : Source) (k ch v : Nat) : State := s.setFlds k ch (trnFields s src k ch v)

theorem regsOnly_trnSet (s : State) (src : Source) (k ch v : Nat) : StksFrame (AtStk k RegsOnly) s (s.trnSet src k ch v) :=
  regsOnly_setFlds s k ch _ rfl

/-- Without an ABORT from Docent that meets a running operation, a write without GO stores fields alone. -/
theorem writeTrn_none (s : State) (src : Source) (k ch v : Nat)
    (h : (Source.isDocent k src && bitAt v 30 && s.flag k ch F.CTL_TRN_STATUS_BUSY) = false) :
    writeTrn s src k ch v none = s.trnSet src k ch v := by
  unfold writeTrn
  dsimp only
  rw [h, if_neg Bool.false_ne_true]
  rfl

/-- A command that writes CTL_TRN_CTRL without GO, in what it says of its fields. -/
theorem runs_trnSet {c : Instr} {s : State} {src : Source} {k ch v : Nat} {P : State → Prop}
    (hexec : exec c s = .next (writeTrn s src k ch v none))
    (h : (Source.isDocent k src && bitAt v 30 && s.flag k ch F.CTL_TRN_STATUS_BUSY) = false)
    (hP : P (s.trnSet src k ch v)) :
    Runs c s (fun t => P t ∧ OnlyStk k s t ∧ RegsOnly (s.stk k) (t.stk k)) := by
  rw [writeTrn_none s src k ch v h] at hexec
  have hframe := regsOnly_trnSet s src k ch v
  exact ⟨_, hexec, hP, hframe.onlyStk, (hframe.stack k).1⟩

theorem fld_trnSet_pause (s : State) (src : Source) (k ch v : Nat) (hk : k < s.stks.length) :
    (s.trnSet src k ch v).fld k ch F.CTL_TRN_CTRL_PAUSE =
      if Source.isDocent k src then b2n (bitAt v 28) else s.fld k ch F.CTL_TRN_CTRL_PAUSE := by
  rw [State.trnSet, fld_setFlds_same s k ch _ 1 F.CTL_TRN_CTRL_PAUSE _ hk rfl rfl rfl, bits_one]
  have hlt := bits_lt (s.raw k F.CTL_TRN_CTRL_PAUSE.page ch F.CTL_TRN_CTRL_PAUSE.off) 28 28
  split_ifs
  · exact Nat.mod_eq_of_lt (by cases bitAt v 28 <;> decide)
  · exact Nat.mod_eq_of_lt hlt

theorem fld_trnSet_pauseEn (s : State) (src : Source) (k ch v : Nat) (hk : k < s.stks.length) :
    (s.trnSet src k ch v).fld k ch F.CTL_TRN_CTRL_PAUSE_EN = b2n (bitAt v 29) := by
  rw [State.trnSet, fld_setFlds_same s k ch _ 0 F.CTL_TRN_CTRL_PAUSE_EN _ hk rfl rfl rfl, bits_one]
  exact Nat.mod_eq_of_lt (by cases bitAt v 29 <;> decide)

theorem bitAt_toNat {n : Nat} (v : BitVec n) (i : Nat) : bitAt v.toNat i = v.getLsbD i := rfl

/-! ### A pause that ends for a refresh debt (R254) -/

/-- Every pseudo-channel of a channel out of its pause. -/
def Chan.unpaused (c : Chan) : Chan := { c with pcs := c.pcs.map (fun p => { p with paused := false }) }

theorem testBit_putBits_zero (n b : Nat) : (putBits n b b 0).testBit b = false := by
  have h := bits_putBits_same n b b 0 (by omega)
  rw [bits_one, bitAt, b2n] at h
  by_contra hb
  rw [Bool.not_eq_false] at hb
  rw [if_pos hb] at h
  simp at h

/-- The end of a pause changes the channel and its status bit (R254). -/
theorem endPause_eq (s : State) (k ch : Nat) : endPause s k ch = (s.modCh k ch Chan.unpaused).setRaw k .ctl ch 0x0C
    (putBits ((s.modCh k ch Chan.unpaused).raw k .ctl ch 0x0C) 17 17 0) := rfl

/-- The end of a pause, and PAUSE cleared. -/
def State.pauseEnded (s : State) (k ch : Nat) : State := (endPause s k ch).setFld k ch F.CTL_TRN_CTRL_PAUSE 0

/-- A debt of 8 on a paused pseudo-channel ends the pause (R254). -/
theorem exec_pauseDebt {s : State} {k ch : Nat} (hk : k < s.n) (hch : ch < 32)
    (h : ∃ p ∈ ((s.stk k).ch ch).pcs, p.paused = true ∧ ∃ e ∈ p.banks, 8 ≤ e.2.debt) :
    exec (.pauseDebt k ch) s = .next ((s.pauseEnded k ch).report k K.CTL_PAUSE_DEBT ch 0 0) := by
  change execPauseDebt k ch s = _
  have hany : ((s.stk k).ch ch).pcs.any (fun p => p.paused && p.banks.any (fun e => decide (8 ≤ e.2.debt))) = true := by
    simpa using h
  rw [execPauseDebt, hany, decide_eq_true (And.intro hk hch)]
  rfl

/-- A paused pseudo-channel is of a channel that exists. -/
theorem lt_of_paused {x : Stack} {ch : Nat} (h : ∃ p ∈ (x.ch ch).pcs, p.paused = true) : ch < x.chans.length := by
  by_contra hnot
  obtain ⟨p, hp, hpaused⟩ := h
  rw [Stack.ch, List.getD_eq_default _ _ (by omega)] at hp
  rw [List.eq_of_mem_replicate hp] at hpaused
  cases hpaused

theorem chFrame_pauseEnded (s : State) (k ch : Nat) : ChFrame k ch s (s.pauseEnded k ch) := by
  have hset : ∀ (u : State) (off v : Nat), ChFrame k ch u (u.setRaw k .ctl ch off v) := fun u off v =>
    .modStk (fun _ x => ⟨.refl ch x, fun _ => rfl⟩) u k _ fun x => ⟨⟨rfl, fun _ _ => rfl⟩, fun hk => absurd rfl hk⟩
  exact ((ChFrame.modCh s k ch _).trans (hset _ _ _)).trans (hset _ _ _)

theorem ch_pauseEnded (s : State) (k ch : Nat) (hk : k < s.stks.length) (hc : ch < (s.stk k).chans.length) :
    ((s.pauseEnded k ch).stk k).ch ch = ((s.stk k).ch ch).unpaused := by
  rw [State.pauseEnded, State.ch_setFld, endPause_eq, Stack.ch, State.chans_setRaw]
  exact State.ch_modCh_same s k ch _ hk hc

theorem registers_pauseEnded (s : State) (k ch : Nat) (hk : k < s.stks.length) :
    (s.pauseEnded k ch).fld k ch F.CTL_TRN_CTRL_PAUSE = 0 ∧ ((s.pauseEnded k ch).raw k .ctl ch 0x0C).testBit 17 = false := by
  have hlen : k < (s.modCh k ch Chan.unpaused).stks.length := by
    rw [(ChFrame.modCh s k ch Chan.unpaused).length]
    exact hk
  have hend : k < (endPause s k ch).stks.length := by
    rw [endPause_eq, State.setRaw, State.modStk_stks, length_modify']
    exact hlen
  have hother : (s.pauseEnded k ch).raw k .ctl ch 0x0C = (endPause s k ch).raw k .ctl ch 0x0C :=
    State.raw_setRaw_other (endPause s k ch) k k .ctl .ctl ch ch 0x140 0x0C _ (.inr (.inr (by unfold regKey; omega)))
  refine ⟨State.fld_setFld_same (endPause s k ch) k ch F.CTL_TRN_CTRL_PAUSE 0 hend (by decide) (by decide), ?_⟩
  rw [hother, endPause_eq, State.raw_setRaw_same _ k .ctl ch 0x0C _ hlen, Nat.testBit_mod_two_pow, testBit_putBits_zero,
    Bool.and_false]

/-- A report leaves every register but PAGE_ERR. -/
theorem otherRegs_report (s : State) (k : Nat) (x : Kind) (i sub addr : Nat) : OtherRegs k s (s.report k x i sub addr) :=
  fun pg j o ho hlt => raw_report_other s k k x i sub addr pg j o (.inr (.inr (by unfold regKey; omega)))

/-- A pause ends for a debt (R254). -/
theorem pauseDebt_ends {s : State} {k ch : Nat} (hshape : Shaped s) (hk : k < s.n) (hch : ch < 32)
    (hdebt : ∃ p ∈ ((s.stk k).ch ch).pcs, p.paused = true ∧ ∃ e ∈ p.banks, 8 ≤ e.2.debt) :
    Runs (.pauseDebt k ch) s (fun t => (∀ p ∈ ((t.stk k).ch ch).pcs, p.paused = false) ∧
      t.fld k ch F.CTL_TRN_CTRL_PAUSE = 0 ∧ Raised s t k K.CTL_PAUSE_DEBT ch ∧ (t.raw k .ctl ch 0x0C).testBit 17 = false ∧
      OnlyStk k s t ∧ ∀ d, d ≠ ch → (t.stk k).ch d = (s.stk k).ch d) := by
  have hlen : k < s.stks.length := hshape.1 ▸ hk
  have hexec := exec_pauseDebt hk hch hdebt
  obtain ⟨p, hp, hpaused, -⟩ := hdebt
  have hunpaused := ch_pauseEnded s k ch hlen (lt_of_paused ⟨p, hp, hpaused⟩)
  have hframe := chFrame_pauseEnded s k ch
  obtain ⟨hpause, hbit⟩ := registers_pauseEnded s k ch hlen
  generalize s.pauseEnded k ch = u at hunpaused hframe hpause hbit hexec
  have hraised := raised_report_of_stack_page u k K.CTL_PAUSE_DEBT ch 0 0 (hframe.length.symm ▸ hlen) (by decide) rfl
  have hstk := stk_report u k K.CTL_PAUSE_DEBT ch 0 0
  have hch' : ∀ d, ((u.report k K.CTL_PAUSE_DEBT ch 0 0).stk k).ch d = (u.stk k).ch d := fun d => by rw [(hstk k).1]; rfl
  have honly : OnlyStk k u (u.report k K.CTL_PAUSE_DEBT ch 0 0) :=
    ⟨report_of_stack_page u k K.CTL_PAUSE_DEBT ch 0 0 rfl, fun j hj => (hstk j).2 hj⟩
  refine ⟨_, hexec, fun q hq => ?_, ?_, ?_, ?_, hframe.onlyStk.trans honly, fun d hd => (hch' d).trans ((hframe.stack k).1.2 d hd)⟩
  · rw [hch', hunpaused] at hq
    obtain ⟨r, -, rfl⟩ := List.mem_map.mp hq
    rfl
  · have hraw := otherRegs_report u k K.CTL_PAUSE_DEBT ch 0 0 .ctl ch 0x140 (by decide) (by decide)
    exact (congrArg (bits · 28 28) hraw).trans hpause
  · exact hraised.of_bit (by decide)
  · rwa [otherRegs_report u k K.CTL_PAUSE_DEBT ch 0 0 .ctl ch 0x0C (by decide) (by decide)]

/-! ### Writes of CTL_DLY (R252, R263) -/

theorem exec_ctlDlyWrite {s : State} (src : Source) {k ch : Nat} (v : Reg32) (hwin : s.winOk k = true) (hch : ch < 32) :
    exec (.ctlDlyWrite src k ch v) s = .next (writeDly s k ch v.toNat) := by
  change execCtlDlyWrite src k ch v s = _
  rw [execCtlDlyWrite, hwin, decide_eq_true hch]
  rfl

/-- In MAINTENANCE and in a pause a delay acts at once (R252). -/
theorem writeDly_now {s : State} {k ch pc pin : Nat} (v : Nat) (hpc : s.fld k ch F.CTL_DLY_SEL_PC = pc)
    (hpin : s.fld k ch F.CTL_DLY_SEL_PIN = pin) (hlt : pin < 36)
    (hnow : (s.stk k).mode = .maintenance ∨ (s.pcOf k ch pc).paused = true) :
    writeDly s k ch v = s.modPc k ch pc (fun p => p.setDelay pin v) := by
  unfold writeDly
  dsimp only
  rw [hpc, hpin, if_neg (by omega), if_pos (by simpa using hnow)]

/-- Elsewhere it waits for the next tick (R252). -/
theorem writeDly_later {s : State} {k ch pc pin : Nat} (v : Nat) (hpc : s.fld k ch F.CTL_DLY_SEL_PC = pc)
    (hpin : s.fld k ch F.CTL_DLY_SEL_PIN = pin) (hlt : pin < 36) (hmode : (s.stk k).mode ≠ .maintenance)
    (hpaused : (s.pcOf k ch pc).paused = false) :
    writeDly s k ch v = s.modCh k ch (fun c => { c with dlyPend := c.dlyPend ++ [(pc * 64 + pin, BitVec.ofNat 32 v)] }) := by
  unfold writeDly
  dsimp only
  rw [hpc, hpin, if_neg (by omega), if_neg (by simp [hmode, hpaused])]

/-- Pins that do not exist take no delay (R263). -/
theorem writeDly_none {s : State} {k ch : Nat} (v : Nat) (h : 36 ≤ s.fld k ch F.CTL_DLY_SEL_PIN) : writeDly s k ch v = s := by
  unfold writeDly
  dsimp only
  rw [if_pos h]

/-! ### The claim -/

/-- Retrain pauses and delays (R252, R254). -/
theorem claims_pauses : Claims.Pauses := by
  refine ⟨fun s k ch v hshape hwin hch habort => ⟨fun hv => ?request, fun hv => ?clear, fun p hv => ?host⟩,
    fun s k ch hshape hk hch hdebt => pauseDebt_ends hshape hk hch hdebt,
    fun s src k ch pc pin v hshape hpc hwin hch hselPc hselPin => ⟨fun hpin hnow => ?now,
      fun hpin hmode hpaused => ?later, fun hpin => ?none⟩⟩
  case request =>
    have hexec : exec (.pauseRequest (.docent k) k ch v) s = .next (writeTrn s (.docent k) k ch v.toNat none) := by
      change execPauseRequest (.docent k) k ch v s = _
      rw [execPauseRequest, hwin, decide_eq_true hch, bitAt_toNat, hv]
      rfl
    refine runs_trnSet hexec (by rw [bitAt_toNat, habort]; simp) ?_
    rw [fld_trnSet_pause s _ k ch _ (lt_of_winOk hshape hwin), bitAt_toNat, hv]
    simp [Source.isDocent, b2n]
  case clear =>
    have hexec : exec (.pauseClear (.docent k) k ch v) s = .next (writeTrn s (.docent k) k ch v.toNat none) := by
      change execPauseClear (.docent k) k ch v s = _
      rw [execPauseClear, hwin, decide_eq_true hch, bitAt_toNat, hv]
      rfl
    refine runs_trnSet hexec (by rw [bitAt_toNat, habort]; simp) ?_
    rw [fld_trnSet_pause s _ k ch _ (lt_of_winOk hshape hwin), bitAt_toNat, hv]
    simp [Source.isDocent, b2n]
  case host =>
    have hexec : exec (.pauseEnClear (.port p) k ch v) s = .next (writeTrn s (.port p) k ch v.toNat none) := by
      change execPauseEnClear (.port p) k ch v s = _
      rw [execPauseEnClear, hwin, decide_eq_true hch, bitAt_toNat, hv]
      rfl
    have hk := lt_of_winOk hshape hwin
    obtain ⟨t, ht, ⟨hen, hpause⟩, hframe⟩ := runs_trnSet (P := fun t => t.fld k ch F.CTL_TRN_CTRL_PAUSE_EN = 0 ∧
      t.fld k ch F.CTL_TRN_CTRL_PAUSE = s.fld k ch F.CTL_TRN_CTRL_PAUSE) hexec (by simp [Source.isDocent]) (by
        rw [fld_trnSet_pauseEn s _ k ch _ hk, fld_trnSet_pause s _ k ch _ hk, bitAt_toNat, hv]
        simp [Source.isDocent, b2n])
    exact ⟨t, ht, hen, hpause, hframe⟩
  case now =>
    have hexec := exec_ctlDlyWrite src v hwin hch
    rw [writeDly_now v.toNat hselPc hselPin hpin hnow] at hexec
    refine ⟨_, hexec, ?_, fun q hq => ?_, onlyPc_modPc s k ch pc _⟩
    · rw [pcOf_modPc_of_hasPc _ hshape hpc, delay_setDelay_same]
    · rw [pcOf_modPc_of_hasPc _ hshape hpc, delay_setDelay_other _ _ _ _ hq]
  case later =>
    have hexec := exec_ctlDlyWrite src v hwin hch
    rw [writeDly_later v.toNat hselPc hselPin hpin hmode hpaused] at hexec
    obtain ⟨hk, hc, -⟩ := hpc.lt hshape
    refine ⟨_, hexec, onlyCh_modCh s k ch _, ?_⟩
    rw [State.ch_modCh_same s k ch _ hk hc, BitVec.ofNat_toNat, BitVec.setWidth_eq]
  case none =>
    rw [exec_ctlDlyWrite src v hwin hch, writeDly_none v.toNat (hselPin.symm ▸ hpin)]

end Sys2Proof.Machine
end

section
/-! PROOFS. Training operations (R250 to R252, R258 to R262). -/

namespace Sys2Proof.Machine

/-! ### GO and ABORT (R258) -/

/-- A GO is refused: reserved MODE or SWEEP_PARAM, a pattern or sweep where none may run, or an unusable channel (R250, R258). -/
def State.trnRefused (s : State) (k ch v : Nat) : Bool :=
  bits v 21 20 == 3 || bits v 17 16 == 3 || (decide (bits v 21 20 < 2) && !s.trnAllowed k ch (bits v 24 24)) ||
    ((s.stk k).ch ch).unusable

/-- An operation that begins: it is pending, drives the training row, and BUSY is set alone (R250, R261). -/
def State.trnStarted (s : State) (k ch : Nat) (t : TrnRun) : State :=
  (driveRow (s.modCh k ch (fun c => { c with trnPend := some t })) k ch t).setFlds k ch [(F.CTL_TRN_STATUS_BUSY, 1),
    (F.CTL_TRN_STATUS_DONE, 0), (F.CTL_TRN_STATUS_REJECTED, 0), (F.CTL_TRN_STATUS_ABORTED, 0)]

/-- GO from a port does nothing (R258). -/
theorem writeTrn_port (s : State) (p k ch v : Nat) (o : Option TrnResult) :
    writeTrn s (.port p) k ch v o = s.trnSet (.port p) k ch v := by
  cases o <;> rfl

/-- A write of CTL_TRN_CTRL leaves what an operation takes from the other registers. -/
theorem trnRun_trnSet (s : State) (src : Source) (k ch v : Nat) (r : TrnResult) :
    (s.trnSet src k ch v).trnRun k ch v r = s.trnRun k ch v r := by
  have hpat : (s.trnSet src k ch v).raw k .ctl ch 0x144 = s.raw k .ctl ch 0x144 := raw_setFlds_of_off s k ch _ .ctl _ rfl
  have hlo : (s.trnSet src k ch v).raw k .ctl ch 0x148 = s.raw k .ctl ch 0x148 := raw_setFlds_of_off s k ch _ .ctl _ rfl
  have hhi : (s.trnSet src k ch v).raw k .ctl ch 0x14C = s.raw k .ctl ch 0x14C := raw_setFlds_of_off s k ch _ .ctl _ rfl
  have hsweep : (s.trnSet src k ch v).raw k .ctl ch 0x150 = s.raw k .ctl ch 0x150 := raw_setFlds_of_off s k ch _ .ctl _ rfl
  have hpattern : (s.trnSet src k ch v).fld k ch F.CTL_TRN_PAT_PATTERN = s.fld k ch F.CTL_TRN_PAT_PATTERN := congrArg (bits · 2 0) hpat
  have hstart : (s.trnSet src k ch v).fld k ch F.CTL_TRN_SWEEP_START = s.fld k ch F.CTL_TRN_SWEEP_START :=
    congrArg (bits · 22 16) hsweep
  have hstop : (s.trnSet src k ch v).fld k ch F.CTL_TRN_SWEEP_END = s.fld k ch F.CTL_TRN_SWEEP_END := congrArg (bits · 30 24) hsweep
  have hstep : (s.trnSet src k ch v).fld k ch F.CTL_TRN_SWEEP_STEP = s.fld k ch F.CTL_TRN_SWEEP_STEP := congrArg (bits · 6 0) hsweep
  unfold State.trnRun
  rw [hpattern, hstart, hstop, hstep, hlo, hhi]

section Write
variable (s : State) (k ch v : Nat) (r : TrnResult) (hbusy : s.flag k ch F.CTL_TRN_STATUS_BUSY = false) (hgo : bitAt v 31 = true)
include hbusy hgo

/-- GO from Docent while nothing runs, in its two outcomes (R258). -/
theorem writeTrn_go : writeTrn s (.docent k) k ch v (some r) = if s.trnRefused k ch v = true then
    (s.trnSet (.docent k) k ch v).setFld k ch F.CTL_TRN_STATUS_REJECTED 1
    else (s.trnSet (.docent k) k ch v).trnStarted k ch ((s.trnSet (.docent k) k ch v).trnRun k ch v r) := by
  have hdoc : Source.isDocent k (.docent k) = true := by simp [Source.isDocent]
  unfold writeTrn State.trnSet trnFields
  dsimp only
  rw [hdoc, hbusy, hgo]
  simp only [Bool.and_false, Bool.true_and, Bool.not_true, Bool.false_eq_true, if_false, Bool.false_or, if_true]
  rfl

theorem writeTrn_accepted (hok : s.trnRefused k ch v = false) :
    writeTrn s (.docent k) k ch v (some r) = (s.trnSet (.docent k) k ch v).trnStarted k ch (s.trnRun k ch v r) := by
  rw [writeTrn_go s k ch v r hbusy hgo, if_neg (by simp [hok]), trnRun_trnSet]

theorem writeTrn_rejected (hbad : s.trnRefused k ch v = true) :
    writeTrn s (.docent k) k ch v (some r) = (s.trnSet (.docent k) k ch v).setFld k ch F.CTL_TRN_STATUS_REJECTED 1 := by
  rw [writeTrn_go s k ch v r hbusy hgo, if_pos hbad]

end Write

/-- BUSY is a bit: it reads 0 where it is not set. -/
theorem fld_busy_eq_zero {s : State} {k ch : Nat} (h : s.flag k ch F.CTL_TRN_STATUS_BUSY = false) :
    s.fld k ch F.CTL_TRN_STATUS_BUSY = 0 := by
  have hlt : s.fld k ch F.CTL_TRN_STATUS_BUSY < 2 := bits_lt _ 31 31
  have hne : s.fld k ch F.CTL_TRN_STATUS_BUSY ≠ 1 := by simpa [State.flag] using h
  omega

/-! ### An operation that begins -/

/-- The training row is driven by a change of one pseudo-channel, or not at all (R250). -/
theorem driveRow_cases (s : State) (k ch : Nat) (t : TrnRun) :
    (∃ f, driveRow s k ch t = s.modPc k ch t.pc f) ∨ driveRow s k ch t = s := by
  by_cases h : t.mode < 2 ∧ t.target = 1
  · exact .inl ⟨_, if_pos h⟩
  · exact .inr (if_neg h)

theorem chFrame_driveRow (s : State) (k ch : Nat) (t : TrnRun) : ChFrame k ch s (driveRow s k ch t) := by
  obtain ⟨f, h⟩ | h := driveRow_cases s k ch t <;> rw [h]
  · exact .modCh s k ch _
  · exact StksFrame.refl (fun _ x => ⟨RegsCh.refl ch x, fun _ => rfl⟩) s

theorem chFrame_trnStarted (s : State) (k ch : Nat) (t : TrnRun) : ChFrame k ch s (s.trnStarted k ch t) :=
  ((ChFrame.modCh s k ch _).trans (chFrame_driveRow _ k ch t)).trans (.setFlds _ k ch ch _ rfl)

/-- The status of an operation that begins: BUSY alone (R261). -/
theorem status_trnStarted (s : State) (k ch : Nat) (t : TrnRun) (hk : k < s.stks.length) :
    (s.trnStarted k ch t).fld k ch F.CTL_TRN_STATUS_BUSY = 1 ∧ (s.trnStarted k ch t).fld k ch F.CTL_TRN_STATUS_DONE = 0 ∧
    (s.trnStarted k ch t).fld k ch F.CTL_TRN_STATUS_REJECTED = 0 ∧ (s.trnStarted k ch t).fld k ch F.CTL_TRN_STATUS_ABORTED = 0 := by
  have hlen : k < (driveRow (s.modCh k ch (fun c => { c with trnPend := some t })) k ch t).stks.length := by
    rw [(chFrame_driveRow _ k ch t).length, (ChFrame.modCh s k ch _).length]
    exact hk
  exact ⟨fld_setFlds_same _ k ch _ 0 _ 1 hlen rfl rfl rfl, fld_setFlds_same _ k ch _ 1 _ 0 hlen rfl rfl rfl,
    fld_setFlds_same _ k ch _ 2 _ 0 hlen rfl rfl rfl, fld_setFlds_same _ k ch _ 3 _ 0 hlen rfl rfl rfl⟩

/-- The operation that begins is pending. -/
theorem trnPend_trnStarted (s : State) (k ch : Nat) (t : TrnRun) (hk : k < s.stks.length) (hc : ch < (s.stk k).chans.length) :
    (((s.trnStarted k ch t).stk k).ch ch).trnPend = some t := by
  have hpend : (((s.modCh k ch (fun c => { c with trnPend := some t })).stk k).ch ch).trnPend = some t := by
    rw [State.ch_modCh_same s k ch _ hk hc]
  have hdrive : ∀ u : State, (((driveRow u k ch t).stk k).ch ch).trnPend = ((u.stk k).ch ch).trnPend := fun u => by
    obtain ⟨f, h⟩ | h := driveRow_cases u k ch t <;> rw [h]
    rw [(onlyPc_modPc u k ch t.pc f).2.1]
  rw [State.trnStarted, State.ch_setFlds, hdrive, hpend]

/-- TARGET 1 drives the pattern through the training row (R250). -/
theorem trnRow_trnStarted (s : State) (k ch : Nat) (t : TrnRun) (hk : k < s.stks.length) (hc : ch < (s.stk k).chans.length)
    (hpc : t.pc < ((s.stk k).ch ch).pcs.length) (hmode : t.mode < 2) (htarget : t.target = 1) :
    ((s.trnStarted k ch t).pcOf k ch t.pc).trnRow.map Prod.fst = some t.pattern := by
  have hframe := ChFrame.modCh s k ch (fun c => { c with trnPend := some t })
  have hch := State.ch_modCh_same s k ch (fun c => { c with trnPend := some t }) hk hc
  have hchans : ch < ((s.modCh k ch (fun c => { c with trnPend := some t })).stk k).chans.length := by
    rw [State.modCh, State.stk_modStk_same s k _ hk, Stack.modCh_chans, List.length_modify]
    exact hc
  rw [State.trnStarted, State.pcOf, State.ch_setFlds, ← State.pcOf, driveRow, if_pos ⟨hmode, htarget⟩,
    State.pcOf_modPc_same _ k ch t.pc _ (hframe.length.symm ▸ hk) hchans (by rw [hch]; exact hpc)]
  rfl

end Sys2Proof.Machine
end

section
/-! PROOFS. Commands of training operations, and what an operation leaves (R250 to R252, R258 to R262). -/

namespace Sys2Proof.Machine

/-! ### GO -/

/-- The three commands of GO, each with its MODE (R258). -/
def trnCommands : List ((Source → Nat → Nat → Reg32 → TrnResult → Instr) × Nat) :=
  [(.trnPattern, 0), (.trnSweep, 1), (.trnTrackingPass, 2)]

section Go
variable {c : (Source → Nat → Nat → Reg32 → TrnResult → Instr) × Nat} {s : State} {k ch : Nat} {v : Reg32}

/-- A GO with the MODE of its command is a write of CTL_TRN_CTRL. -/
theorem exec_trnGo (hc : c ∈ trnCommands) (hwin : s.winOk k = true) (hch : ch < 32) (hgo : v.getLsbD 31 = true)
    (hmode : bits v.toNat 21 20 = c.2) (src : Source) (r : TrnResult) :
    exec (c.1 src k ch v r) s = .next (writeTrn s src k ch v.toNat (some r)) := by
  have hrun : trnGo s src k ch c.2 v.toNat r = writeTrn s src k ch v.toNat (some r) := by
    rw [trnGo, hwin, decide_eq_true hch, bitAt_toNat, hgo, hmode, beq_self_eq_true]
    rfl
  simp only [trnCommands, List.mem_cons, List.not_mem_nil, or_false] at hc
  obtain rfl | rfl | rfl := hc
  · exact congrArg Host.Outcome.next hrun
  · exact congrArg Host.Outcome.next hrun
  · exact congrArg Host.Outcome.next hrun

theorem mode_lt_of_mem (hc : c ∈ trnCommands) : c.2 < 3 := by
  simp only [trnCommands, List.mem_cons, List.not_mem_nil, or_false] at hc
  obtain rfl | rfl | rfl := hc <;> decide

theorem trnRefused_eq_false (hc : c ∈ trnCommands) (hmode : bits v.toNat 21 20 = c.2)
    (hallowed : c.2 = 2 ∨ s.trnAllowed k ch (bits v.toNat 24 24) = true) (hparam : bits v.toNat 17 16 ≠ 3)
    (husable : ((s.stk k).ch ch).unusable = false) : s.trnRefused k ch v.toNat = false := by
  have hlt := mode_lt_of_mem hc
  have h3 : c.2 ≠ 3 := by omega
  rw [State.trnRefused, hmode, husable]
  obtain h | h := hallowed <;> simp [h, h3, hparam]

theorem trnRefused_eq_true (hc : c ∈ trnCommands) (hmode : bits v.toNat 21 20 = c.2)
    (h : (c.2 ≠ 2 ∧ s.trnAllowed k ch (bits v.toNat 24 24) = false) ∨ bits v.toNat 17 16 = 3 ∨ ((s.stk k).ch ch).unusable = true) :
    s.trnRefused k ch v.toNat = true := by
  have hlt := mode_lt_of_mem hc
  rw [State.trnRefused, hmode]
  obtain ⟨hne, hnot⟩ | h | h := h
  · have h2 : c.2 < 2 := by omega
    simp [h2, hnot]
  · simp [h]
  · simp [h]

/-- An operation that begins, after its registers are written (R258). -/
theorem runs_trnStarted {i : Instr} {r : TrnResult} (hshape : Shaped s) (hhas : HasCh s k ch)
    (hexec : exec i s = .next ((s.trnSet (.docent k) k ch v.toNat).trnStarted k ch (s.trnRun k ch v.toNat r))) :
    Runs i s (fun t => ((t.stk k).ch ch).trnPend = some (s.trnRun k ch v.toNat r) ∧
      (bits v.toNat 21 20 < 2 → v.getLsbD 19 = true → HasPc s k ch (bits v.toNat 24 24) →
        ((t.pcOf k ch (bits v.toNat 24 24)).trnRow.map Prod.fst) = some (s.trnRun k ch v.toNat r).pattern) ∧
      t.fld k ch F.CTL_TRN_STATUS_BUSY = 1 ∧ t.fld k ch F.CTL_TRN_STATUS_DONE = 0 ∧
      t.fld k ch F.CTL_TRN_STATUS_REJECTED = 0 ∧ t.fld k ch F.CTL_TRN_STATUS_ABORTED = 0 ∧ OnlyStk k s t ∧
      t.stk k = { s.stk k with regs := (t.stk k).regs, chans := (t.stk k).chans } ∧
      ∀ d, d ≠ ch → (t.stk k).ch d = (s.stk k).ch d) := by
  have hk : k < s.stks.length := hshape.1 ▸ hhas.1
  have hset := regsOnly_trnSet s (.docent k) k ch v.toNat
  have hchans : ((s.trnSet (.docent k) k ch v.toNat).stk k).chans = (s.stk k).chans := by rw [(hset.stack k).1]
  have hch : ((s.trnSet (.docent k) k ch v.toNat).stk k).ch ch = (s.stk k).ch ch := by rw [Stack.ch, hchans, Stack.ch]
  have hk' : k < (s.trnSet (.docent k) k ch v.toNat).stks.length := hset.length.symm ▸ hk
  have hc' : ch < ((s.trnSet (.docent k) k ch v.toNat).stk k).chans.length := hchans.symm ▸ hhas.2
  have hframe := (ChFrame.setFlds s k ch ch _ rfl : ChFrame k ch s (s.trnSet (.docent k) k ch v.toNat)).trans
    (chFrame_trnStarted _ k ch (s.trnRun k ch v.toNat r))
  obtain ⟨hbusy, hdone, hrejected, haborted⟩ := status_trnStarted _ k ch (s.trnRun k ch v.toNat r) hk'
  obtain ⟨hkeep, hother⟩ := (hframe.stack k).1
  refine ⟨_, hexec, trnPend_trnStarted _ k ch _ hk' hc', fun hmode htarget hpc => ?_, hbusy, hdone, hrejected, haborted, hframe.onlyStk,
    hkeep, hother⟩
  refine trnRow_trnStarted _ k ch _ hk' hc' (by rw [hch]; exact hpc.2) hmode ?_
  change bits v.toNat 19 19 = 1
  rw [bits_one, bitAt_toNat, htarget]
  rfl

/-- A GO that is rejected stores its fields and REJECTED (R258). -/
theorem runs_trnRejected {i : Instr} (hshape : Shaped s) (hhas : HasCh s k ch) (hbusy : s.flag k ch F.CTL_TRN_STATUS_BUSY = false)
    (hexec : exec i s = .next ((s.trnSet (.docent k) k ch v.toNat).setFld k ch F.CTL_TRN_STATUS_REJECTED 1)) :
    Runs i s (fun t => t.fld k ch F.CTL_TRN_STATUS_REJECTED = 1 ∧ t.fld k ch F.CTL_TRN_STATUS_BUSY = 0 ∧ OnlyStk k s t ∧
      RegsOnly (s.stk k) (t.stk k)) := by
  have hk : k < s.stks.length := hshape.1 ▸ hhas.1
  have hset := regsOnly_trnSet s (.docent k) k ch v.toNat
  have hk' : k < (s.trnSet (.docent k) k ch v.toNat).stks.length := hset.length.symm ▸ hk
  have hrej := regsOnly_setFlds (s.trnSet (.docent k) k ch v.toNat) k ch [(F.CTL_TRN_STATUS_REJECTED, 1)] rfl
  refine ⟨_, hexec, fld_setFlds_same _ k ch [(F.CTL_TRN_STATUS_REJECTED, 1)] 0 _ 1 hk' rfl rfl rfl, ?_, hset.onlyStk.trans hrej.onlyStk, ?_⟩
  · rw [fld_setFld_of_apart _ k ch _ _ _ hk' rfl, State.trnSet, fld_setFlds_of_apart s k ch _ _ hk rfl]
    exact fld_busy_eq_zero hbusy
  · have h := (hrej.stack k).1
    rw [RegsOnly, (hset.stack k).1] at h
    exact h

end Go

/-! ### ABORT -/

/-- An ABORT from Docent that meets a running operation ends it (R258). -/
theorem writeTrn_abort (s : State) (k ch v : Nat) (habort : bitAt v 30 = true) (hbusy : s.flag k ch F.CTL_TRN_STATUS_BUSY = true) :
    writeTrn s (.docent k) k ch v none =
      ((s.trnSet (.docent k) k ch v).modCh k ch (fun c => { c with trnPend := none })).setFlds k ch
        [(F.CTL_TRN_STATUS_BUSY, 0), (F.CTL_TRN_STATUS_ABORTED, 1)] := by
  have hdoc : Source.isDocent k (.docent k) = true := by simp [Source.isDocent]
  unfold writeTrn State.trnSet trnFields
  dsimp only
  rw [hdoc, hbusy, habort]
  rfl

/-! ### Results (R251, R252, R261, R262) -/

/-- The sum of the powers of two whose exponents a filter selects has just those bits. -/
theorem testBit_sum_filter (f P : Nat → Bool) (n : Nat) :
    ((List.range n).filter P).foldl (fun a i => a + b2n (f i) * 2 ^ i) 0 < 2 ^ n ∧
    ∀ j, (((List.range n).filter P).foldl (fun a i => a + b2n (f i) * 2 ^ i) 0).testBit j = (decide (j < n) && P j && f j) := by
  induction n with
  | zero => exact ⟨Nat.one_pos, fun j => by simp⟩
  | succ n ih =>
    obtain ⟨hlt, hbit⟩ := ih
    rw [List.range_succ, List.filter_append, List.foldl_append]
    generalize ((List.range n).filter P).foldl (fun a i => a + b2n (f i) * 2 ^ i) 0 = m at hlt hbit
    have hstep : ([n].filter P).foldl (fun a i => a + b2n (f i) * 2 ^ i) m = 2 ^ n * b2n (P n && f n) + m := by
      cases hP : P n <;> simp [hP, b2n, Nat.add_comm]
    rw [hstep]
    have hb : b2n (P n && f n) ≤ 1 := by cases P n && f n <;> decide
    refine ⟨?_, fun j => ?_⟩
    · calc 2 ^ n * b2n (P n && f n) + m < 2 ^ n * 1 + 2 ^ n := by
            have := Nat.mul_le_mul_left (2 ^ n) hb
            omega
        _ = 2 ^ (n + 1) := by rw [Nat.pow_succ]; omega
    · rw [Nat.testBit_two_pow_mul_add _ hlt]
      obtain hj | rfl | hj := Nat.lt_trichotomy j n
      · rw [if_pos hj, hbit j, decide_eq_true hj, decide_eq_true (by omega)]
      · rw [if_neg (by omega), Nat.sub_self, decide_eq_true (by omega), Bool.true_and]
        cases P j && f j <;> rfl
      · rw [if_neg (by omega), decide_eq_false (by omega)]
        have hpow : 2 ^ 1 ≤ 2 ^ (j - n) := Nat.pow_le_pow_right (by decide) (by omega)
        rw [Nat.testBit_lt_two_pow (by omega)]
        rfl

/-- A pin's pass bits are those of the steps that ran (R252, R262). -/
theorem getLsbD_passes (t : TrnRun) (pin i : Nat) (hi : i < 128) : (t.passes pin).getLsbD i =
    (decide (t.start ≤ i ∧ i ≤ t.stop ∧ (i - t.start) % t.step = 0) && (t.res.passMaps.getD pin 0).getLsbD i) := by
  have hbit := (testBit_sum_filter (fun i => bitAt (t.res.passMaps.getD pin 0).toNat i)
    (fun i => decide (t.start ≤ i ∧ i ≤ t.stop) && (i - t.start) % t.step == 0) 128).2 i
  rw [TrnRun.passes, BitVec.getLsbD_ofNat, TrnRun.steps, hbit, decide_eq_true hi, Bool.true_and, Bool.true_and, bitAt_toNat]
  congr 1
  rw [Bool.eq_iff_iff]
  simp [and_assoc]

/-- A sweep leaves errors on a pin just if a step that ran has failed (R252). -/
theorem errors_sweep_eq_zero (t : TrnRun) (pin : Nat) (hmode : t.mode = 1) : t.errors pin = 0 ↔
    ∀ i, i < 128 → t.start ≤ i → i ≤ t.stop → (i - t.start) % t.step = 0 → (t.res.passMaps.getD pin 0).getLsbD i = true := by
  have hall : t.errors pin = 0 ↔ t.steps.all (fun i => bitAt (t.passes pin).toNat i) = true := by
    rw [TrnRun.errors, hmode]
    split_ifs with h
    · simp [h]
    · simp only [h]
      simp
  rw [hall, List.all_eq_true]
  constructor
  · intro h i hi hstart hstop hstep
    have hmem : i ∈ t.steps := by simp [TrnRun.steps, hi, hstart, hstop, hstep]
    have hbit := h i hmem
    rw [bitAt_toNat, getLsbD_passes t pin i hi] at hbit
    exact (Bool.and_eq_true_iff.mp hbit).2
  · intro h i hmem
    simp only [TrnRun.steps, List.mem_filter, List.mem_range, Bool.and_eq_true, decide_eq_true_eq, beq_iff_eq] at hmem
    obtain ⟨hi, ⟨hstart, hstop⟩, hstep⟩ := hmem
    rw [bitAt_toNat, getLsbD_passes t pin i hi, decide_eq_true ⟨hstart, hstop, hstep⟩, h i hi hstart hstop hstep]
    rfl

/-- Of a list made for the pins, the entry of a pin. -/
theorem getD_map_pins {α : Type} (f : Nat → α) (d : α) (pin : Nat) (h : pin < 36) : ((List.range 36).map f).getD pin d = f pin := by
  simp [List.getD, h]

/-- The pins with an error. -/
theorem erring_isEmpty (t : TrnRun) : (!t.erring.isEmpty) = true ↔ ∃ pin, pin < 36 ∧ t.errors pin ≠ 0 := by
  rw [Bool.not_eq_true', List.isEmpty_eq_false_iff_exists_mem]
  simp [TrnRun.erring, pick]

/-- A channel with the results of an operation. -/
def Chan.withResults (t : TrnRun) (c : Chan) : Chan := { c with
  trnErr := (List.range 36).map t.errors, trnMap := if t.mode = 1 then (List.range 36).map t.passes else [] }

/-- A channel where no operation is pending. -/
def Chan.idle (c : Chan) : Chan := { c with trnPend := none }

/-- The state when a pattern or a sweep is done, before TRN_DONE pulses (R261). -/
def State.trnEnded (s : State) (k ch : Nat) (t : TrnRun) : State :=
  (trnResults (s.modCh k ch Chan.idle) k ch t).setFlds k ch [(F.CTL_TRN_STATUS_BUSY, 0), (F.CTL_TRN_STATUS_DONE, 1)]

theorem exec_trnDone {s : State} {k ch : Nat} {t : TrnRun} (hpend : ((s.stk k).ch ch).trnPend = some t) (hmode : t.mode < 2) :
    exec (.trnDone k ch) s = .next ((s.trnEnded k ch t).event k .ctl ch 0) := by
  have h2 : t.mode ≠ 2 := by omega
  change execTrnDone k ch s = _
  simp only [execTrnDone, hpend, beq_eq_false_iff_ne.mpr h2, Bool.false_and, Bool.false_eq_true, if_false, if_neg h2]
  rfl

end Sys2Proof.Machine
end

section
/-! PROOFS. Training operations: the claim (R250 to R252, R258 to R262). -/

namespace Sys2Proof.Machine

/-! ### Done -/

/-- The results of an operation: fields of the channel's page, and the channel. -/
def trnResultFields (t : TrnRun) : List (FRef × Nat) :=
  [(F.CTL_TRN_STATUS_FAIL_VALID, b2n (!t.erring.isEmpty)),
    (F.CTL_TRN_STATUS_FAIL_BURST, if t.erring.isEmpty then 0 else min (t.res.firstFail.getD 0) (t.burstCount - 1)),
    (F.CTL_TRN_FAIL_LO_MASK, t.failPins % 2 ^ 32), (F.CTL_TRN_FAIL_HI_MASK, t.failPins / 2 ^ 32)]

theorem trnResults_eq (s : State) (k ch : Nat) (t : TrnRun) :
    trnResults s k ch t = (s.modCh k ch (Chan.withResults t)).setFlds k ch (trnResultFields t) := rfl

theorem chFrame_trnResults (s : State) (k ch : Nat) (t : TrnRun) : ChFrame k ch s (trnResults s k ch t) :=
  (ChFrame.modCh s k ch _).trans (.setFlds _ k ch ch _ rfl)

theorem chFrame_trnEnded (s : State) (k ch : Nat) (t : TrnRun) : ChFrame k ch s (s.trnEnded k ch t) :=
  ((ChFrame.modCh s k ch _).trans (chFrame_trnResults _ k ch t)).trans (.setFlds _ k ch ch _ rfl)

/-- The channel of an operation that is done (R251, R252, R262). -/
theorem ch_trnEnded (s : State) (k ch : Nat) (t : TrnRun) (hk : k < s.stks.length) (hc : ch < (s.stk k).chans.length) :
    ((s.trnEnded k ch t).stk k).ch ch = (((s.stk k).ch ch).idle).withResults t := by
  have hframe := ChFrame.modCh s k ch Chan.idle
  have hchans : ch < ((s.modCh k ch Chan.idle).stk k).chans.length := by
    rw [State.modCh, State.stk_modStk_same s k _ hk, Stack.modCh_chans, List.length_modify]
    exact hc
  rw [State.trnEnded, State.ch_setFlds, trnResults_eq, State.ch_setFlds,
    State.ch_modCh_same _ k ch _ (hframe.length.symm ▸ hk) hchans, State.ch_modCh_same s k ch _ hk hc]

/-- The status of an operation that is done (R261). -/
theorem status_trnEnded (s : State) (k ch : Nat) (t : TrnRun) (hk : k < s.stks.length) :
    (s.trnEnded k ch t).fld k ch F.CTL_TRN_STATUS_BUSY = 0 ∧ (s.trnEnded k ch t).fld k ch F.CTL_TRN_STATUS_DONE = 1 ∧
    (s.trnEnded k ch t).fld k ch F.CTL_TRN_STATUS_FAIL_VALID = b2n (!t.erring.isEmpty) := by
  have hidle : k < ((s.modCh k ch Chan.idle).modCh k ch (Chan.withResults t)).stks.length := by
    rw [(ChFrame.modCh _ k ch _).length, (ChFrame.modCh s k ch _).length]
    exact hk
  have hlen : k < (trnResults (s.modCh k ch Chan.idle) k ch t).stks.length := by
    rw [(chFrame_trnResults _ k ch t).length, (ChFrame.modCh s k ch _).length]
    exact hk
  refine ⟨fld_setFlds_same _ k ch _ 0 _ 0 hlen rfl rfl rfl, fld_setFlds_same _ k ch _ 1 _ 1 hlen rfl rfl rfl, ?_⟩
  rw [State.trnEnded, fld_setFlds_of_apart _ k ch _ _ hlen rfl, trnResults_eq,
    fld_setFlds_same _ k ch _ 0 _ (b2n (!t.erring.isEmpty)) hidle rfl rfl rfl]
  exact Nat.mod_eq_of_lt (by cases !t.erring.isEmpty <;> decide)

/-- The interrupt enables of the channel's page are as before. -/
theorem raw_trnEnded (s : State) (k ch : Nat) (t : TrnRun) : (s.trnEnded k ch t).raw k .ctl ch 0x18 = s.raw k .ctl ch 0x18 := by
  have hdone : ∀ u : State, (u.setFlds k ch [(F.CTL_TRN_STATUS_BUSY, 0), (F.CTL_TRN_STATUS_DONE, 1)]).raw k .ctl ch 0x18 =
      u.raw k .ctl ch 0x18 := fun u => raw_setFlds_of_off u k ch _ .ctl 0x18 rfl
  have hresults : ∀ u : State, (u.setFlds k ch (trnResultFields t)).raw k .ctl ch 0x18 = u.raw k .ctl ch 0x18 :=
    fun u => raw_setFlds_of_off u k ch _ .ctl 0x18 rfl
  rw [State.trnEnded, hdone, trnResults_eq, hresults, State.raw_modCh, State.raw_modCh]

/-- A pulse depends on the enables and on the queue alone (R85). -/
theorem Pulsed.of_raw_eq {s u t : State} {k : Nat} {pg : Page} {i n : Nat} (h : Pulsed u t k pg i n)
    (hraw : u.raw k pg i 0x18 = s.raw k pg i 0x18) (hirqs : u.irqs = s.irqs) : Pulsed s t k pg i n := by
  rwa [Pulsed, hraw, hirqs] at h

/-- The interrupt queue is no register. -/
theorem fld_withIrqs (s : State) (q : List Irq) (k i : Nat) (f : FRef) : ({ s with irqs := q } : State).fld k i f = s.fld k i f := rfl

theorem stk_withIrqs (s : State) (q : List Irq) (k : Nat) : ({ s with irqs := q } : State).stk k = s.stk k := rfl

/-- A pattern or a sweep that is done (R251, R252, R261, R262). -/
theorem trnDone_ends (s : State) (k ch : Nat) (r : TrnRun) (hshape : Shaped s) (hhas : HasCh s k ch)
    (hpend : ((s.stk k).ch ch).trnPend = some r) (hmode : r.mode < 2) :
    Runs (.trnDone k ch) s (fun t =>
      t.fld k ch F.CTL_TRN_STATUS_BUSY = 0 ∧ t.fld k ch F.CTL_TRN_STATUS_DONE = 1 ∧ Pulsed s t k .ctl ch 0 ∧
      ((t.stk k).ch ch) = (((s.stk k).ch ch).idle).withResults r ∧
      t.fld k ch F.CTL_TRN_STATUS_FAIL_VALID = b2n (!r.erring.isEmpty) ∧
      t = { s with stks := t.stks, irqs := t.irqs } ∧ (∀ j, j ≠ k → t.stk j = s.stk j) ∧
      t.stk k = { s.stk k with regs := (t.stk k).regs, chans := (t.stk k).chans }) := by
  have hk : k < s.stks.length := hshape.1 ▸ hhas.1
  have hch := ch_trnEnded s k ch r hk hhas.2
  obtain ⟨hbusy, hdone, hvalid⟩ := status_trnEnded s k ch r hk
  have hraw := raw_trnEnded s k ch r
  have hframe := chFrame_trnEnded s k ch r
  have hexec := exec_trnDone hpend hmode
  generalize s.trnEnded k ch r = u at hch hbusy hdone hvalid hraw hframe hexec
  have hirqs : u.irqs = s.irqs := by rw [hframe.state]
  have hpulsed := (pulsed_event u k .ctl ch 0).of_raw_eq hraw hirqs
  obtain ⟨q, hq⟩ : ∃ q, u.event k .ctl ch 0 = { u with irqs := q } := ⟨_, State.event_eq u k .ctl ch 0⟩
  rw [hq] at hexec hpulsed
  refine ⟨_, hexec, (fld_withIrqs u q k ch _).trans hbusy, (fld_withIrqs u q k ch _).trans hdone, hpulsed, ?_,
    (fld_withIrqs u q k ch _).trans hvalid, ?_, fun j hj => ?_, ?_⟩
  · rw [stk_withIrqs, hch]
  · rw [hframe.state]
  · rw [stk_withIrqs, hframe.onlyStk.2 j hj]
  · rw [stk_withIrqs]
    exact (hframe.stack k).1.1

/-- Training operations (R250 to R252, R258 to R262). -/
theorem claims_trainingOps : Claims.TrainingOps := by
  refine ⟨fun c hc s k ch v r hshape hhas hwin hch hgo hmode hbusy => ⟨fun hallowed hparam husable => ?accepted, fun hbad => ?rejected,
    fun p => ?port⟩, fun s k ch v hshape hhas hwin hch habort hbusy => ?abort, fun s k ch r hshape hhas hpend hmode => ?done⟩
  case accepted =>
    have hexec := exec_trnGo hc hwin hch hgo hmode (.docent k) r
    rw [writeTrn_accepted s k ch v.toNat r hbusy hgo (trnRefused_eq_false hc hmode hallowed hparam husable)] at hexec
    have hruns := runs_trnStarted hshape hhas hexec
    rwa [hmode] at hruns
  case rejected =>
    have hexec := exec_trnGo hc hwin hch hgo hmode (.docent k) r
    rw [writeTrn_rejected s k ch v.toNat r hbusy hgo (trnRefused_eq_true hc hmode hbad)] at hexec
    exact runs_trnRejected hshape hhas hbusy hexec
  case port =>
    have hexec := exec_trnGo hc hwin hch hgo hmode (.port p) r
    rw [writeTrn_port] at hexec
    have hframe := regsOnly_trnSet s (.port p) k ch v.toNat
    refine ⟨_, hexec, ?_, raw_setFlds_of_off s k ch _ .ctl 0x154 rfl, hframe.onlyStk, (hframe.stack k).1⟩
    rw [State.trnSet, fld_setFlds_of_apart s k ch _ _ (lt_of_winOk hshape hwin) rfl]
    exact fld_busy_eq_zero hbusy
  case abort =>
    have hexec : exec (.trnAbort (.docent k) k ch v) s = .next (writeTrn s (.docent k) k ch v.toNat none) := by
      change execTrnAbort (.docent k) k ch v s = _
      rw [execTrnAbort, hwin, decide_eq_true hch, bitAt_toNat, habort]
      rfl
    rw [writeTrn_abort s k ch v.toNat habort hbusy] at hexec
    have hset := regsOnly_trnSet s (.docent k) k ch v.toNat
    have hk : k < (s.trnSet (.docent k) k ch v.toNat).stks.length := hset.length.symm ▸ lt_of_winOk hshape hwin
    have hc : ch < ((s.trnSet (.docent k) k ch v.toNat).stk k).chans.length := by
      rw [(hset.stack k).1]
      exact hhas.2
    have hmod := ChFrame.modCh (s.trnSet (.docent k) k ch v.toNat) k ch Chan.idle
    have hframe := ((ChFrame.setFlds s k ch ch _ rfl : ChFrame k ch s (s.trnSet (.docent k) k ch v.toNat)).trans hmod).trans
      (.setFlds _ k ch ch [(F.CTL_TRN_STATUS_BUSY, 0), (F.CTL_TRN_STATUS_ABORTED, 1)] rfl)
    have hk' : k < ((s.trnSet (.docent k) k ch v.toNat).modCh k ch Chan.idle).stks.length := hmod.length.symm ▸ hk
    refine ⟨_, hexec, ?_, fld_setFlds_same _ k ch _ 0 _ 0 hk' rfl rfl rfl, fld_setFlds_same _ k ch _ 1 _ 1 hk' rfl rfl rfl,
      hframe.onlyStk, (hframe.stack k).1.1⟩
    rw [State.ch_setFlds, State.ch_modCh_same _ k ch _ hk hc]
  case done =>
    obtain ⟨t, hexec, hbusy, hdone, hpulsed, hch, hvalid, hframe⟩ := trnDone_ends s k ch r hshape hhas hpend hmode
    have herr : ∀ pin, pin < 36 → ((t.stk k).ch ch).trnErr.getD pin 0 = r.errors pin := fun pin hpin => by
      rw [hch]
      exact getD_map_pins _ 0 pin hpin
    refine ⟨t, hexec, hbusy, hdone, hpulsed, by rw [hch]; rfl, fun h0 => ⟨?_, fun pin hpin => ?_⟩, fun h1 pin hpin => ⟨fun i hi => ?_, ?_⟩,
      ?_, hframe⟩
    · rw [hch]
      exact if_neg (by omega)
    · rw [herr pin hpin, TrnRun.errors, h0]
      rfl
    · have hmap : ((t.stk k).ch ch).trnMap.getD pin 0 = r.passes pin := by
        rw [hch, Chan.withResults, if_pos h1]
        exact getD_map_pins _ 0 pin hpin
      rw [hmap, getLsbD_passes r pin i hi]
    · rw [herr pin hpin]
      exact errors_sweep_eq_zero r pin h1
    · have hone : b2n (!r.erring.isEmpty) = 1 ↔ (!r.erring.isEmpty) = true := by cases !r.erring.isEmpty <;> decide
      rw [hvalid, hone, erring_isEmpty]
      exact exists_congr fun pin => and_congr_right fun hpin => by rw [herr pin hpin]

end Sys2Proof.Machine
end

section
/-! PROOFS. Tracking passes (R48, R253). -/

namespace Sys2Proof.Machine

/-! ### One pseudo-channel, and what becomes of it -/

/-- Pseudo-channel pc of channel ch of stack k stands in the lists of a state. -/
def State.holdsPc (s : State) (k ch pc : Nat) : Prop :=
  k < s.stks.length ∧ ch < (s.stk k).chans.length ∧ pc < ((s.stk k).ch ch).pcs.length

/-- From s to t only that pseudo-channel changed, by g, beside counters and what a report changes. -/
structure PcTo (k ch pc : Nat) (g : PChan → PChan) (s t : State) : Prop where
  only : OnlyPc k ch pc s t
  holds : s.holdsPc k ch pc → t.holdsPc k ch pc
  pc : s.holdsPc k ch pc → t.pcOf k ch pc = g (s.pcOf k ch pc)

namespace PcTo

variable {k ch pc : Nat} {g h : PChan → PChan} {s t u : State}

theorem refl (s : State) : PcTo k ch pc id s s := ⟨.refl k ch pc s, id, fun _ => rfl⟩

theorem congr (a : PcTo k ch pc g s t) (e : g (s.pcOf k ch pc) = h (s.pcOf k ch pc)) : PcTo k ch pc h s t :=
  ⟨a.only, a.holds, fun hs => (a.pc hs).trans e⟩

theorem trans (a : PcTo k ch pc g s t) (b : PcTo k ch pc h t u) : PcTo k ch pc (h ∘ g) s u where
  only := a.only.trans b.only
  holds hs := b.holds (a.holds hs)
  pc hs := by rw [b.pc (a.holds hs), a.pc hs, Function.comp]

theorem modPc (s : State) (k ch pc : Nat) (f : PChan → PChan) : PcTo k ch pc f s (s.modPc k ch pc f) where
  only := onlyPc_modPc s k ch pc f
  holds hs := by
    obtain ⟨hk, hc, hp⟩ := hs
    refine ⟨(length_modify' _ _ _).symm ▸ hk, ?_, ?_⟩
    · rw [State.modPc, State.modCh, State.stk_modStk_same s k _ hk, Stack.modCh_chans, List.length_modify]
      exact hc
    · rw [State.modPc, State.ch_modCh_same s k ch _ hk hc, Chan.modPc_pcs, List.length_modify]
      exact hp
  pc hs := State.pcOf_modPc_same s k ch pc f hs.1 hs.2.1 hs.2.2

/-- What leaves the channels. -/
theorem of_chans (honly : OnlyCh k ch s t) (hlen : t.stks.length = s.stks.length) (hch : (t.stk k).chans = (s.stk k).chans) :
    PcTo k ch pc id s t := by
  have hsame : (t.stk k).ch ch = (s.stk k).ch ch := by rw [Stack.ch, hch, Stack.ch]
  refine ⟨onlyPc_of_onlyCh pc honly hsame, fun hs => ?_, fun _ => by rw [State.pcOf, hsame]; rfl⟩
  rwa [State.holdsPc, hlen, hch, hsame]

theorem count (s : State) (k ch pc c n : Nat) : PcTo k ch pc id s (s.count k .ctl ch c n) := by
  have hframe := CountFrame.count s k .ctl ch c n rfl
  have hstk := hframe.stk
  refine of_chans ⟨hframe.onlyStk.stkErr, fun pg i o _ _ => hframe.raw k pg i o, by rw [hstk k], ?_, fun d _ => by rw [hstk k]; rfl⟩
    hframe.length (by rw [hstk k])
  rw [hstk k]

theorem report (s : State) (k ch pc sub addr : Nat) (x : Kind) (hx : x.page.isPkg = false) :
    PcTo k ch pc id s (s.report k x ch sub addr) := by
  have hstk := stk_report s k x ch sub addr
  have hkeep := (hstk k).1
  obtain ⟨st, ep, heq, hlen⟩ := s.report_eq k x ch sub addr
  refine of_chans ⟨⟨by rw [report_of_stack_page s k x ch sub addr hx], fun j hj => (hstk j).2 hj⟩, otherRegs_report s k x ch sub addr,
    by rw [hkeep], ?_, fun d _ => by rw [hkeep]; rfl⟩ (by rw [heq, hlen]) (by rw [hkeep])
  rw [hkeep]

end PcTo

/-! ### Delays that move -/

/-- A pin's read delay moved within its 128 steps (R253). -/
def PChan.move (pin : Nat) (d : Int) (p : PChan) : PChan :=
  if d = 0 ∨ (bits (p.delay pin) 6 0 : Int) + d < 0 ∨ 127 < (bits (p.delay pin) 6 0 : Int) + d then p
  else p.setDelay pin (putBits (p.delay pin) 6 0 ((bits (p.delay pin) 6 0 : Int) + d).toNat)

theorem pcTo_moveDelay (s : State) (k ch pc pin : Nat) (d : Int) : PcTo k ch pc (PChan.move pin d) s (moveDelay s k ch pc pin d) := by
  unfold moveDelay
  dsimp only
  split_ifs with h
  · exact (PcTo.refl s).congr (if_pos h).symm
  · exact ((PcTo.modPc s k ch pc _).trans (.count _ k ch pc 7 1)).congr (if_neg h).symm

/-- Every pin of a list moved as its three reads say (R253). -/
def PChan.track (r : TrnResult) (l : List Nat) (p : PChan) : PChan := l.foldl (fun p pin => p.move pin (trackStep r pin)) p

theorem pcTo_moveDelays (k ch pc : Nat) (r : TrnResult) (l : List Nat) (s : State) :
    PcTo k ch pc (PChan.track r l) s (l.foldl (fun s pin => moveDelay s k ch pc pin (trackStep r pin)) s) := by
  induction l generalizing s with
  | nil => exact .refl s
  | cons pin l ih => exact (pcTo_moveDelay s k ch pc pin _).trans (ih _)

/-- Of a pseudo-channel delays alone changed. -/
def DlyOnly (p q : PChan) : Prop := q = { p with dly := q.dly }

theorem DlyOnly.trans {p q r : PChan} (h : DlyOnly p q) (g : DlyOnly q r) : DlyOnly p r := by rw [DlyOnly, g, h]

theorem dlyOnly_move (pin : Nat) (d : Int) (p : PChan) : DlyOnly p (p.move pin d) := by
  unfold PChan.move
  split_ifs <;> rfl

theorem dlyOnly_track (r : TrnResult) (l : List Nat) (p : PChan) : DlyOnly p (p.track r l) := by
  induction l generalizing p with
  | nil => rfl
  | cons pin l ih => exact (dlyOnly_move pin _ p).trans (ih _)

theorem PChan.delay_move_other (p : PChan) (pin q : Nat) (d : Int) (h : q ≠ pin) : (p.move pin d).delay q = p.delay q := by
  unfold PChan.move
  split_ifs
  · rfl
  · exact delay_setDelay_other p pin q _ h

/-- A pin's read delay moves within its 128 steps, and stays where it would leave them (R253). -/
theorem PChan.delay_move_zero (p : PChan) (pin : Nat) : (p.move pin 0).delay pin = p.delay pin := by
  rw [PChan.move, if_pos (.inl rfl)]

theorem PChan.delay_move_same (p : PChan) (pin : Nat) (d : Int) (hd : d ≠ 0) (hlow : 0 ≤ (bits (p.delay pin) 6 0 : Int) + d)
    (hhigh : (bits (p.delay pin) 6 0 : Int) + d ≤ 127) :
    (bits ((p.move pin d).delay pin) 6 0 : Int) = (bits (p.delay pin) 6 0 : Int) + d := by
  rw [PChan.move, if_neg (by omega), delay_setDelay_same]
  generalize (bits (p.delay pin) 6 0 : Int) + d = n at hlow hhigh
  have hput := bits_putBits_same (p.delay pin) 6 0 n.toNat (by omega)
  have hlt := bits_lt (putBits (p.delay pin) 6 0 n.toNat) 6 0
  generalize putBits (p.delay pin) 6 0 n.toNat = v at hput hlt
  have hlow7 : bits (bits v 21 16 * 2 ^ 16 + bits v 14 8 * 2 ^ 8 + bits v 6 0) 6 0 = bits v 6 0 := by
    have hdef : ∀ x, bits x 6 0 = x % 128 := fun x => by
      rw [bits, Nat.shiftRight_zero]
      rfl
    rw [hdef] at hlt ⊢
    omega
  rw [hlow7, hput]
  omega

theorem PChan.delay_move_congr {p p' : PChan} (pin : Nat) (d : Int) (h : p.delay pin = p'.delay pin) :
    (p.move pin d).delay pin = (p'.move pin d).delay pin := by
  unfold PChan.move
  rw [h]
  split_ifs
  · exact h
  · rw [delay_setDelay_same, delay_setDelay_same]

/-- Of pins that are moved each once, each has the delay of its own move (R253). -/
theorem PChan.delay_track (r : TrnResult) (l : List Nat) (hl : l.Nodup) (p : PChan) (q : Nat) (hq : q ∈ l) :
    (p.track r l).delay q = (p.move q (trackStep r q)).delay q := by
  have hnot : ∀ (l : List Nat) (p : PChan), q ∉ l → (p.track r l).delay q = p.delay q := fun l => by
    induction l with
    | nil => exact fun _ _ => rfl
    | cons pin l ih =>
      intro p hq
      rw [List.mem_cons, not_or] at hq
      exact (ih _ hq.2).trans (PChan.delay_move_other p pin q _ hq.1)
  induction l generalizing p with
  | nil => cases hq
  | cons pin l ih =>
    rw [List.nodup_cons] at hl
    obtain rfl | hmem := List.mem_cons.mp hq
    · exact hnot l _ hl.1
    · have hne : q ≠ pin := fun h => hl.1 (h ▸ hmem)
      exact (ih hl.2 _ hmem).trans (PChan.delay_move_congr q _ (PChan.delay_move_other p pin q _ hne))

/-! ### A pass -/

/-- A pseudo-channel after its pass at local tick n (R253). -/
def PChan.passed (r : TrnResult) (n : Nat) (p : PChan) : PChan :=
  { p.track r (List.range 36) with trkLast := n, trkDue := false, trnRow := some (6, 0) }

/-- The reports of a pass (R253). -/
def reportPass (s : State) (k ch pc : Nat) (r : TrnResult) : State :=
  let s1 := if (List.range 36).any (fun i => r.atZero.getD i 0 == 0 && r.atMinus.getD i 0 != 0 && r.atPlus.getD i 0 != 0) then
    s.report k K.CTL_TRK_MARGIN ch pc 0 else s
  if (List.range 36).any (fun i => r.atZero.getD i 0 != 0) then s1.report k K.CTL_TRK_FAIL ch pc 0 else s1

theorem trackPass_eq (s : State) (k ch pc : Nat) (r : TrnResult) : trackPass s k ch pc r =
    (reportPass ((List.range 36).foldl (fun s pin => moveDelay s k ch pc pin (trackStep r pin)) s) k ch pc r).modPc k ch pc
      (fun p => { p with trkLast := s.now k, trkDue := false, trnRow := some (6, 0) }) := rfl

theorem pcTo_reportPass (s : State) (k ch pc : Nat) (r : TrnResult) : PcTo k ch pc id s (reportPass s k ch pc r) := by
  have hmargin := PcTo.report s k ch pc pc 0 K.CTL_TRK_MARGIN rfl
  have hfail : ∀ u : State, PcTo k ch pc id u (u.report k K.CTL_TRK_FAIL ch pc 0) := fun u => .report u k ch pc pc 0 _ rfl
  unfold reportPass
  dsimp only
  split_ifs
  · exact hmargin.trans (hfail _)
  · exact hfail _
  · exact hmargin
  · exact .refl s

theorem pcTo_trackPass (s : State) (k ch pc : Nat) (r : TrnResult) :
    PcTo k ch pc (PChan.passed r (s.now k)) s (trackPass s k ch pc r) := by
  rw [trackPass_eq]
  exact (((pcTo_moveDelays k ch pc r (List.range 36) s).trans (pcTo_reportPass _ k ch pc r)).trans
    (.modPc _ k ch pc (fun p => { p with trkLast := s.now k, trkDue := false, trnRow := some (6, 0) }))).congr rfl

/-- A change of a channel leaves what has been reported on a stack's page. -/
theorem Raised.modCh {s t : State} {k i : Nat} {x : Kind} (h : Raised s t k x i) (hx : x.bit < 24) (hp : x.page.isPkg = false) (c : Nat)
    (f : Chan → Chan) : Raised s (t.modCh k c f) k x i := by
  rw [Raised, if_pos hx, hp, if_neg Bool.false_ne_true] at h ⊢
  rwa [State.raw_modCh]

/-- A pin that fails at its own setting is reported (R253). -/
theorem raised_trackPass (s : State) (k ch pc : Nat) (r : TrnResult) (hs : s.holdsPc k ch pc)
    (hfail : ∃ pin, pin < 36 ∧ r.atZero.getD pin 0 ≠ 0) : Raised s (trackPass s k ch pc r) k K.CTL_TRK_FAIL ch := by
  have hany : (List.range 36).any (fun i => r.atZero.getD i 0 != 0) = true := by simpa using hfail
  have hreport : ∀ u : State, u.holdsPc k ch pc → Raised u (reportPass u k ch pc r) k K.CTL_TRK_FAIL ch := fun u hu => by
    have hlen := ((PcTo.report u k ch pc pc 0 K.CTL_TRK_MARGIN rfl).holds hu).1
    unfold reportPass
    dsimp only
    rw [if_pos hany]
    split_ifs
    · exact (raised_report_of_stack_page _ k K.CTL_TRK_FAIL ch pc 0 hlen (by decide) rfl).of_bit (by decide)
    · exact raised_report_of_stack_page u k K.CTL_TRK_FAIL ch pc 0 hu.1 (by decide) rfl
  have hmoved := (pcTo_moveDelays k ch pc r (List.range 36) s).holds hs
  rw [trackPass_eq]
  exact ((hreport _ hmoved).of_bit (by decide)).modCh (by decide) rfl ch _

/-- Work in the window takes no more slots of it at once than it needs (R49). -/
theorem windowLeft_le (s : State) (k : Nat) (p : PChan) (claims : Nat → Bool) (act n : Nat) : s.windowLeft k p claims act n ≤ n :=
  (List.length_filter_le _ _).trans_eq List.length_range

/-- Work in the window takes slots of it now, and owes the rest (R48, R49). -/
theorem slots_payWindow (s : State) (k : Nat) (p : PChan) (act : Nat) :
    (s.payWindow k p act).winUsed act + mget (s.payWindow k p act).owed act 0 = p.winUsed act + mget p.owed act 0 := by
  have hle := windowLeft_le s k p p.owes act (mget p.owed act 0)
  rw [State.payWindow, PChan.winUsed, PChan.useWindow, mget_mput_same, mget_mput_same]
  omega

/-- The pseudo-channel that begins n slots of work in the window (R48). -/
def State.begins (s : State) (act n : Nat) (p : PChan) : PChan :=
  { s.wakePc p with owed := mput p.owed act (mget p.owed act 0 + n) 0 }

theorem pcTo_workWindow (s : State) (k ch pc act n : Nat) (hpaused : (s.pcOf k ch pc).paused = false) :
    PcTo k ch pc (fun p => s.payWindow k (s.begins act n p) act) s (s.workWindow k ch pc act n) :=
  (PcTo.modPc s k ch pc (fun p => if p.paused then s.begins act n p else s.payWindow k (s.begins act n p) act)).congr
    (if_neg (by simp [hpaused]))

theorem exec_trackingPass {s : State} {k ch pc : Nat} {r : TrnResult} (hruns : s.pcRuns k ch pc = true)
    (hdue : (s.pcOf k ch pc).trkDue = true ∨ (s.flag k ch F.CTL_CTRL_TRK_EN = true ∧
      max 64 (s.fld k ch F.CTL_TRK_TRK_FRAMES) ≤ s.now k - (s.pcOf k ch pc).trkLast))
    (hfree : s.windowFree k ch pc 5 = true) :
    exec (.trackingPass k ch pc r) s = .next ((trackPass s k ch pc r).workWindow k ch pc 5 48) := by
  have hpass : s.passDue k ch pc = true := by
    rw [State.passDue]
    simpa using hdue
  change execTrackingPass k ch pc r s = _
  rw [execTrackingPass, hruns, hpass, hfree]
  rfl

/-- A pass and its slots, on the pseudo-channel (R48, R253). -/
theorem pcTo_trackingPass (s : State) (k ch pc : Nat) (r : TrnResult) (hs : s.holdsPc k ch pc)
    (hpaused : (s.pcOf k ch pc).paused = false) :
    ∃ u : State, PcTo k ch pc (fun p => u.payWindow k (u.begins 5 48 (p.passed r (s.now k))) 5) s
      ((trackPass s k ch pc r).workWindow k ch pc 5 48) := by
  have hpass := pcTo_trackPass s k ch pc r
  have hkeep : ((trackPass s k ch pc r).pcOf k ch pc).paused = false := by
    rw [hpass.pc hs, PChan.passed]
    change ((s.pcOf k ch pc).track r (List.range 36)).paused = false
    rw [dlyOnly_track r (List.range 36) (s.pcOf k ch pc)]
    exact hpaused
  exact ⟨_, hpass.trans (pcTo_workWindow _ k ch pc 5 48 hkeep)⟩

/-- A pass leaves the accounting of its pseudo-channel. -/
theorem slots_passed (r : TrnResult) (n : Nat) (p : PChan) : (p.passed r n).win = p.win ∧ (p.passed r n).owed = p.owed := by
  have h := dlyOnly_track r (List.range 36) p
  unfold PChan.passed
  generalize p.track r (List.range 36) = q at h
  rw [h]
  exact ⟨rfl, rfl⟩

theorem delay_congr {p q : PChan} (h : p.dly = q.dly) (pin : Nat) : p.delay pin = q.delay pin := by
  rw [PChan.delay, h, PChan.delay]

/-- The read delay of a pin after a pass is that of the pin's move (R253). -/
theorem delay_passed (r : TrnResult) (n : Nat) (p : PChan) (pin : Nat) (h : pin < 36) :
    (p.passed r n).delay pin = (p.move pin (trackStep r pin)).delay pin := by
  have htrack := PChan.delay_track r (List.range 36) List.nodup_range p pin (List.mem_range.mpr h)
  rw [← htrack]
  unfold PChan.passed
  generalize p.track r (List.range 36) = q
  exact delay_congr rfl pin

theorem slots_begins (s : State) (act n : Nat) (p : PChan) :
    (s.begins act n p).winUsed act + mget (s.begins act n p).owed act 0 = p.winUsed act + (mget p.owed act 0 + n) := by
  have howed : mget (s.begins act n p).owed act 0 = mget p.owed act 0 + n := mget_mput_same _ _ _ _
  rw [howed]
  rfl

/-- Slots of the window change no delay, and no note of the last pass. -/
theorem begun_keeps (s : State) (k act n : Nat) (p : PChan) : (s.payWindow k (s.begins act n p) act).dly = p.dly ∧
    (s.payWindow k (s.begins act n p) act).trkLast = p.trkLast ∧ (s.payWindow k (s.begins act n p) act).trkDue = p.trkDue :=
  ⟨rfl, rfl, rfl⟩

/-- The read delay moves away from the side that alone fails (R253). -/
theorem trackStep_none {r : TrnResult} {pin : Nat} (hminus : r.atMinus.getD pin 0 = 0) (hplus : r.atPlus.getD pin 0 = 0) :
    trackStep r pin = 0 := by
  unfold trackStep
  dsimp only
  rw [hminus, hplus]
  simp

theorem trackStep_minus {r : TrnResult} {pin : Nat} (hzero : r.atZero.getD pin 0 = 0) (hminus : r.atMinus.getD pin 0 ≠ 0)
    (hplus : r.atPlus.getD pin 0 = 0) : trackStep r pin = 1 := by
  unfold trackStep
  dsimp only
  rw [if_neg (not_not.mpr hzero), if_pos ⟨hminus, hplus⟩]

theorem trackStep_plus {r : TrnResult} {pin : Nat} (hzero : r.atZero.getD pin 0 = 0) (hminus : r.atMinus.getD pin 0 = 0)
    (hplus : r.atPlus.getD pin 0 ≠ 0) : trackStep r pin = -1 := by
  unfold trackStep
  dsimp only
  rw [if_neg (not_not.mpr hzero), if_neg (fun h => hplus h.2), if_pos ⟨hplus, hminus⟩]

/-- Tracking passes (R48, R253). -/
theorem claims_tracking : Claims.Tracking := by
  intro s k ch pc r hshape hpc hruns hdue hfree
  have hs : s.holdsPc k ch pc := hpc.lt hshape
  have hpaused : (s.pcOf k ch pc).paused = false := by
    simp only [State.pcRuns, Bool.and_eq_true, Bool.not_eq_true'] at hruns
    exact hruns.2
  have howed : mget (s.pcOf k ch pc).owed 5 0 = 0 := by
    simpa [State.windowFree, PChan.owes] using hfree
  have hexec := exec_trackingPass (r := r) hruns hdue hfree
  have hraised : (∃ pin, pin < 36 ∧ r.atZero.getD pin 0 ≠ 0) →
      Raised s ((trackPass s k ch pc r).workWindow k ch pc 5 48) k K.CTL_TRK_FAIL ch :=
    fun h => (raised_trackPass s k ch pc r hs h).modCh (by decide) rfl ch _
  obtain ⟨u, hto⟩ := pcTo_trackingPass s k ch pc r hs hpaused
  generalize (trackPass s k ch pc r).workWindow k ch pc 5 48 = t at hexec hraised hto
  have hpcOf := hto.pc hs
  obtain ⟨hdly, hlast, hdueEnd⟩ := begun_keeps u k 5 48 ((s.pcOf k ch pc).passed r (s.now k))
  have hdelay : ∀ pin, pin < 36 → (t.pcOf k ch pc).delay pin = ((s.pcOf k ch pc).move pin (trackStep r pin)).delay pin :=
    fun pin hpin => by rw [hpcOf, delay_congr hdly, delay_passed r _ _ pin hpin]
  refine ⟨t, hexec, ?_, by rw [hpcOf, hlast]; rfl, by rw [hpcOf, hdueEnd]; rfl, fun pin hpin hminus hplus => ?_,
    fun pin hpin hzero hminus hplus hlt => ?_, fun pin hpin hzero hminus hplus hpos => ?_, hraised, hto.only⟩
  · obtain ⟨hwin, howed'⟩ := slots_passed r (s.now k) (s.pcOf k ch pc)
    rw [hpcOf, slots_payWindow, slots_begins, PChan.winUsed, hwin, howed', howed, PChan.winUsed, Nat.zero_add]
  · rw [hdelay pin hpin, trackStep_none hminus hplus, PChan.delay_move_zero]
  · have hmove := PChan.delay_move_same (s.pcOf k ch pc) pin 1 (by decide) (by omega) (by omega)
    rw [hdelay pin hpin, trackStep_minus hzero hminus hplus]
    omega
  · have hlt := bits_lt ((s.pcOf k ch pc).delay pin) 6 0
    have hmove := PChan.delay_move_same (s.pcOf k ch pc) pin (-1) (by decide) (by omega) (by omega)
    rw [hdelay pin hpin, trackStep_plus hzero hminus hplus]
    omega

/-- Settles O37: an operation, a pass or a pause changes its channel's page and its pseudo-channels alone. -/
theorem training : Obligations.Training := ⟨claims_trainingOps, claims_tracking, claims_pauses⟩

end Sys2Proof.Machine
end

section
/-! PROOFS. Rules of the writes of a stack's window that this part uses: the write commands that no other stack takes part in, and the
stored registers that a write changes (R12, R17, R75, R92). -/

namespace Sys2Proof.Machine

/-! ### Write commands of a stack's window -/

/-- A page of a stack's window stands at its index there (R77). -/
theorem stkPageAt_index {n i : Nat} {pg : Page} (h : stkPageAt n = some (pg, i)) : pg.index i = n := by
  unfold stkPageAt at h
  repeat (rw [ite_eq_iff] at h; obtain ⟨hn, h⟩ | ⟨-, h⟩ := h; · (cases h; simp only [Page.index]; omega))
  cases h

/-- The page that an address of a stack's window leads to stands in that window (R75, R77). -/
theorem Leads.stkPage {s : State} {a : Reg32} {k i off : Nat} {pg : Page} (h : Leads s a (k + 1) pg i off) :
    stkPageAt (pg.index i) = some (pg, i) := by
  simp only [Leads, State.target] at h
  split at h
  · cases h
  · split at h
    · rename_i p hpage
      simp only [Option.some.injEq, Target.mk.injEq] at h
      obtain ⟨hwin, rfl, rfl, -⟩ := h
      rw [if_neg (by omega)] at hpage
      rw [stkPageAt_index hpage]
      exact hpage
    · cases h

/-- A write command of stack k's window that is not carried is answered OK and performed in stack k (R75, R92). -/
theorem writeCmd_of_writable {s : State} {src : Source} {a : Reg32} {k i off : Nat} {pg : Page} (v : Nat) (p : Target → Bool)
    (hw : Writable s src a k pg i off) (hcarried : (Target.mk (k + 1) pg i off).carried v = false)
    (hp : p (Target.mk (k + 1) pg i off) = true) :
    writeCmd s src a.toNat v p = { writeIn s src k pg i off v with mgmtOut := (0, stOk) } := by
  obtain ⟨hlead, hans, hbusy⟩ := hw
  have hcmt : pg ≠ .cmt := by
    rintro rfl
    exact absurd hlead.window.2 (by decide)
  have hholder : s.holder src ⟨k + 1, pg, i, off⟩ = k := by simp [State.holder]
  have hmgmt : mgmtWr s src a.toNat v none = (stOk, writeIn s src k pg i off v) := by
    rw [mgmtWr, hlead]
    simp only [hbusy, Bool.false_and, Bool.false_eq_true, if_false]
    rw [doWrite32, hans, hcarried, hholder]
    simp [hcmt]
  rw [writeCmd, hlead]
  simp only [hp, if_true, hmgmt]

/-! ### Stored registers of one stack -/

/-- t is s but for stored registers of stack k's window. -/
abbrev RegsFrame (k : Nat) (s t : State) : Prop := StksFrame (AtStk k RegsOnly) s t

namespace RegsFrame

variable {k : Nat} {s t u : State}

theorem refl (k : Nat) (s : State) : RegsFrame k s s := StksFrame.refl (fun _ _ => ⟨rfl, fun _ => rfl⟩) s

theorem trans (h : RegsFrame k s t) (g : RegsFrame k t u) : RegsFrame k s u :=
  StksFrame.trans (fun _ _ _ _ hxy hyz => ⟨by rw [RegsOnly, hyz.1, hxy.1], fun hj => (hyz.2 hj).trans (hxy.2 hj)⟩) h g

/-- A change of one stack's stored registers. -/
theorem modStk (s : State) (k : Nat) (f : Stack → Stack) (hf : ∀ x, RegsOnly x (f x)) : RegsFrame k s (s.modStk k f) :=
  StksFrame.modStk (fun _ _ => ⟨rfl, fun _ => rfl⟩) s k f fun x => ⟨hf x, fun hk => absurd rfl hk⟩

theorem setRaw (s : State) (k : Nat) (pg : Page) (i off v : Nat) (hp : pg.isPkg = false) : RegsFrame k s (s.setRaw k pg i off v) :=
  modStk s k _ fun x => by rw [RegsOnly, if_neg (by simp [hp])]

end RegsFrame

/-- Registers at different offsets of a page have different keys. -/
theorem regKey_ne_of_off (pg : Page) (i : Nat) {a b : Nat} (h : a ≠ b) : regKey pg i a ≠ regKey pg i b := by
  unfold regKey
  omega

/-- The state of a page's staged image: DIRTY reads as set (R86, R91). -/
theorem dirty_setStage (s : State) (k : Nat) (pg : Page) (i : Nat) (ff d : Bool) (hk : k < s.stks.length) :
    (s.setStage k pg i ff d).dirty k pg i = d := by
  rw [State.dirty, State.setStage, State.raw_setRaw_same s k pg i 0x1C _ hk]
  cases ff <;> cases d <;> decide

/-- The state of a page's staged image is one register (R86). -/
theorem raw_setStage_other (s : State) (k : Nat) (pg qg : Page) (i j o : Nat) (ff d : Bool) (h : regKey qg j o ≠ regKey pg i 0x1C) :
    (s.setStage k pg i ff d).raw k qg j o = s.raw k qg j o :=
  State.raw_setRaw_other s k k pg qg i j 0x1C o _ (.inr (.inr h))

end Sys2Proof.Machine
end

section
/-! PROOFS. The staged image of a page: writes to it, and DISCARD (R86, R87, R91). -/

namespace Sys2Proof.Machine

/-! ### Staged writes (R87, R91) -/

/-- A number with the bits of a mask taken from another. -/
theorem testBit_takeBits (old v m b : Nat) (hb : b < 32) :
    (((old &&& (0xFFFFFFFF ^^^ m)) ||| (v &&& m)) % 2 ^ 32).testBit b = if m.testBit b then v.testBit b else old.testBit b := by
  have hones : Nat.testBit 0xFFFFFFFF b = true := by
    rw [show 0xFFFFFFFF = 2 ^ 32 - 1 by rfl, Nat.testBit_two_pow_sub_one, decide_eq_true hb]
  simp only [Nat.testBit_mod_two_pow, Nat.testBit_and, Nat.testBit_or, Nat.testBit_xor, hones, hb, decide_true]
  cases m.testBit b <;> simp

/-- The bits that a write of a staged offset of stack k's window takes. -/
def stMask (pg : Page) (off : Nat) : Nat := maskAt pg (off - 0x700) (· == .st) &&& (2 ^ 32 - 1)

theorem testBit_stMask (pg : Page) (off b : Nat) (hb : b < 32) : (stMask pg off).testBit b = stBit pg off b := by
  rw [stMask, Nat.testBit_and, Nat.testBit_two_pow_sub_one, decide_eq_true hb, Bool.and_true]
  rfl

/-- A write of a staged offset with ST fields, on a page of a stack's window (R87, R91). -/
theorem writeStaged_of_stBit (s : State) (k : Nat) (pg : Page) (i off v : Nat) (hp : pg.isPkg = false)
    (hst : ∃ b, b < 32 ∧ stBit pg off b = true) : ∃ ff, writeStaged s k pg i off v =
      (s.setRaw k pg i off ((s.raw k pg i off &&& (0xFFFFFFFF ^^^ stMask pg off)) ||| (v &&& stMask pg off))).setStage k pg i ff true := by
  have hpage : pg ≠ .rte := by rintro rfl; exact absurd hp (by decide)
  have hpart : (if 0xC80 ≤ off then partMask s.part pg off else 2 ^ 32 - 1) = 2 ^ 32 - 1 := by
    rw [partMask, if_pos hpage, ite_self]
  have hne : stMask pg off ≠ 0 := by
    obtain ⟨b, hb, hbit⟩ := hst
    intro h0
    rw [← testBit_stMask pg off b hb, h0, Nat.zero_testBit] at hbit
    cases hbit
  rw [writeStaged, hpart, ← stMask, if_neg hne]
  exact ⟨_, rfl⟩

theorem claims_stagedWrite : Claims.StagedWrite := by
  intro s src a v k i off pg hshape hw hadm hp hlo hhi hst
  have hk : k < s.stks.length := hshape.1 ▸ hw.1.window.1
  have hcarried : (Target.mk (k + 1) pg i off).carried v.toNat = false := by simp [Target.carried, hp, hadm]
  have hlabel : pg ≠ .label := by rintro rfl; exact absurd hp (by decide)
  have hwrite : writeIn s src k pg i off v.toNat = writeStaged s k pg i off v.toNat := by
    rw [writeIn, if_neg hlabel, if_neg (by omega), if_neg (by omega), if_pos hhi]
  obtain ⟨ff, hstaged⟩ := writeStaged_of_stBit s k pg i off v.toNat hp hst
  have hset := RegsFrame.setRaw s k pg i off
    ((s.raw k pg i off &&& (0xFFFFFFFF ^^^ stMask pg off)) ||| (v.toNat &&& stMask pg off)) hp
  have hframe := hset.trans (.setRaw _ k pg i 0x1C (b2n ff * 4 + b2n true) hp)
  refine ⟨{ writeIn s src k pg i off v.toNat with mgmtOut := (0, stOk) }, ?_, ?_⟩
  · change execStagedWrite src a v s = _
    rw [execStagedWrite, writeCmd_of_writable v.toNat _ hw hcarried (by simp [hlo, hhi])]
  · rw [hwrite, hstaged]
    refine ⟨fun b hb => ?_, dirty_setStage _ k pg i ff true (hset.length ▸ hk), fun qg j o hne hstage => ?_, ?_, hframe.onlyStk.2,
      (hframe.stack k).1⟩
    · refine (congrArg (Nat.testBit · b) (raw_setStage_other _ k pg pg i i off ff true (regKey_ne_of_off pg i (by omega)))).trans ?_
      simp only [State.raw_setRaw_same s k pg i off _ hk]
      rw [testBit_takeBits _ _ _ b hb, testBit_stMask pg off b hb]
    · exact (raw_setStage_other _ k pg qg i j o ff true hstage).trans (State.raw_setRaw_other s k k pg qg i j off o _ (.inr (.inr hne)))
    · exact congrArg (fun t : State => { t with mgmtOut := (0, stOk) }) hframe.state

/-! ### Sparse maps that are copied in part -/

theorem mfind_eq_none {α : Type} (m : SMap α) (k : Nat) (h : ∀ e ∈ m, e.1 ≠ k) : mfind m k = none := by
  induction m with
  | nil => rfl
  | cons e m ih => rw [mfind_cons, if_neg (h e List.mem_cons_self), ih fun x hx => h x (List.mem_cons_of_mem e hx)]

/-- What a selection of the keys lists. -/
theorem mfind_filter {α : Type} (p : Nat → Bool) (m : SMap α) (k : Nat) :
    mfind (m.filter (fun e => p e.1)) k = if p k then mfind m k else none := by
  induction m with
  | nil => simp
  | cons e m ih =>
    obtain ⟨j, v⟩ := e
    rw [List.filter_cons, mfind_cons]
    by_cases hj : j = k
    · subst hj
      by_cases hp : p j = true
      · simp [hp, mfind_cons]
      · simp [hp, ih]
    · rw [if_neg hj, ← ih]
      split_ifs
      · rw [mfind_cons, if_neg hj]
      · rfl

/-- Keys that are listed d further leave every other key. -/
theorem mfind_foldl_mset_other {α : Type} (d : Nat) (l m : SMap α) (k : Nat) (h : ∀ e ∈ l, e.1 + d ≠ k) :
    mfind (l.foldl (fun m e => mset m (e.1 + d) e.2) m) k = mfind m k := by
  induction l generalizing m with
  | nil => rfl
  | cons e l ih =>
    rw [List.foldl_cons, ih _ fun x hx => h x (List.mem_cons_of_mem e hx),
      mfind_mset_other m _ k e.2 (h e List.mem_cons_self).symm]

/-- A key of a map with rising keys is listed d further with its value. -/
theorem mfind_foldl_mset {α : Type} (d : Nat) (l m : SMap α) (hl : Rising l) (k : Nat) :
    mfind (l.foldl (fun m e => mset m (e.1 + d) e.2) m) (k + d) = (mfind l k).or (mfind m (k + d)) := by
  induction l generalizing m with
  | nil => rfl
  | cons e l ih =>
    obtain ⟨hfirst, htail⟩ := List.pairwise_cons.mp hl
    rw [List.foldl_cons, ih _ htail, mfind_cons]
    by_cases he : e.1 = k
    · subst he
      rw [mfind_eq_none l e.1 fun x hx => (hfirst x hx).ne', if_pos rfl, mfind_mset_same]
      rfl
    · rw [if_neg he, mfind_mset_other m _ _ e.2 (by omega)]

/-! ### DISCARD (R86, R91) -/

/-- No ST register stands among the common registers of a page (R79, R80); the label table has none of these. -/
theorem isStReg_off (pg : Page) (off : Nat) (hlabel : pg ≠ .label) (h : isStReg pg off = true) : 0x100 ≤ off := by
  have hregs : ∀ r ∈ pg.regs, r.flds.any (fun f => f.acc == .st) = true → 0x100 ≤ r.off := by
    cases pg
    case label => exact absurd rfl hlabel
    all_goals decide
  unfold isStReg at h
  split at h
  · rename_i r hr
    have hreg := hregs r (List.mem_of_find?_eq_some hr) h
    have hcover := List.find?_some hr
    split_ifs at hcover
    · rw [← beq_iff_eq.mp hcover]
      exact hreg
    · simp only [Bool.and_eq_true, decide_eq_true_eq] at hcover
      omega
  · cases h

/-- Where the live ST registers of a stack's window stand. -/
theorem isLiveKey_off {key : Nat} (h : isLiveKey false key = true) : 0x100 ≤ key % 4096 ∧ key % 4096 < 0x800 := by
  unfold isLiveKey at h
  split at h
  · rename_i p hpage
    have hlabel : p.1 ≠ .label := by
      intro hl
      have hpkg := isPkg_of_stkPageAt _ p.2 p.1 hpage
      rw [hl] at hpkg
      cases hpkg
    rw [Bool.and_eq_true, decide_eq_true_eq] at h
    exact ⟨isStReg_off _ _ hlabel h.2, h.1⟩
  · cases h

/-- DISCARD changes only the staged image of its page. -/
theorem mfind_discardRegs_other (n : Nat) (m : SMap Reg32) (key : Nat) (h : key / 4096 ≠ n ∨ key % 4096 < 0x800) :
    mfind (discardRegs false n m) key = mfind m key := by
  unfold discardRegs
  rw [mfind_foldl_mset_other, mfind_filter (fun j => !(j / 4096 == n && isStagedKey j))]
  · rw [if_pos]
    simp only [isStagedKey, Bool.not_eq_true', Bool.and_eq_false_imp, beq_iff_eq, decide_eq_true_eq]
    omega
  · intro e he
    simp only [List.mem_filter, Bool.and_eq_true, beq_iff_eq] at he
    obtain ⟨-, hpage, hlive⟩ := he
    have hoff := isLiveKey_off hlive
    omega

/-- DISCARD copies a live ST register of its page into the staged image. -/
theorem mfind_discardRegs_staged (m : SMap Reg32) (hm : Rising m) (key : Nat) (hlive : isLiveKey false key = true) :
    mfind (discardRegs false (key / 4096) m) (key + 0x700) = mfind m key := by
  have hoff := isLiveKey_off hlive
  have hstaged : isStagedKey (key + 0x700) = true := by
    simp only [isStagedKey, Bool.and_eq_true, decide_eq_true_eq]
    omega
  have hpage : (key + 0x700) / 4096 = key / 4096 := by omega
  unfold discardRegs
  rw [mfind_foldl_mset 0x700 _ _ (List.Pairwise.filter _ hm),
    mfind_filter (fun j => j / 4096 == key / 4096 && isLiveKey false j), mfind_filter (fun j => !(j / 4096 == key / 4096 && isStagedKey j))]
  simp [hlive, hstaged, hpage]

/-- Stack k after DISCARD of a page of its window, but for PAGE_STAGE_STATE. -/
def State.unstaged (s : State) (k n : Nat) : State := s.modStk k (fun x => { x with regs := discardRegs false n x.regs })

theorem stk_unstaged (s : State) (k n : Nat) (hk : k < s.stks.length) :
    (s.unstaged k n).stk k = { s.stk k with regs := discardRegs false n (s.stk k).regs } :=
  State.stk_modStk_same s k _ hk

theorem discardStage_eq (s : State) (k : Nat) (pg : Page) (i : Nat) (hp : pg.isPkg = false) :
    ∃ ff, discardStage s k pg i = (s.unstaged k (pg.index i)).setStage k pg i ff false := by
  rw [discardStage]
  simp only [hp, Bool.false_eq_true, if_false]
  exact ⟨_, rfl⟩

/-- Registers of other pages, and live registers, read as before. -/
theorem raw_unstaged_other (s : State) (k n : Nat) (hk : k < s.stks.length) (pg : Page) (i off : Nat) (hoff : off < 0x1000)
    (h : pg.index i ≠ n ∨ off < 0x800) : (s.unstaged k n).raw k pg i off = s.raw k pg i off := by
  have hkey : regKey pg i off / 4096 ≠ n ∨ regKey pg i off % 4096 < 0x800 := by
    unfold regKey
    omega
  unfold State.raw mget
  rw [stk_unstaged s k n hk]
  cases pg.isPkg
  · simp only [Bool.false_eq_true, if_false, mfind_discardRegs_other n _ _ hkey]
    rfl
  · rfl

/-- A live ST register of the page reads the same in the staged image. -/
theorem raw_unstaged_staged (s : State) (k : Nat) (hk : k < s.stks.length) (pg : Page) (i off : Nat) (hlo : 0x100 ≤ off)
    (hhi : off < 0x800) (hst : isStReg pg off = true) (hpage : stkPageAt (pg.index i) = some (pg, i)) (hp : pg.isPkg = false)
    (hm : Rising (s.stk k).regs) : (s.unstaged k (pg.index i)).raw k pg i (off + 0x700) = s.raw k pg i off := by
  have hindex : regKey pg i off / 4096 = pg.index i := by unfold regKey; omega
  have hmod : regKey pg i off % 4096 = off := by unfold regKey; omega
  have hlive : isLiveKey false (regKey pg i off) = true := by
    simp [isLiveKey, keyPage, hindex, hmod, hpage, hhi, hst]
  have hfind := mfind_discardRegs_staged (s.stk k).regs hm _ hlive
  rw [hindex] at hfind
  unfold State.raw mget
  rw [stk_unstaged s k _ hk]
  simp only [hp, Bool.false_eq_true, if_false]
  rw [show regKey pg i (off + 0x700) = regKey pg i off + 0x700 from (Nat.add_assoc _ _ _).symm, hfind,
    resetAt_staged _ pg off hlo hhi]
  rfl

theorem claims_discard : Claims.Discard := by
  intro s src a k i pg hshape hw hadm hcap hm
  obtain ⟨hkn, hp⟩ := hw.1.window
  have hpage := hw.1.stkPage
  have hk : k < s.stks.length := hshape.1 ▸ hkn
  have hlabel : pg ≠ .label := by rintro rfl; exact absurd hp (by decide)
  have hcarried : (Target.mk (k + 1) pg i 0x1C).carried 2 = false := by simp [Target.carried, hp, hadm]
  have hwrite : writeIn s src k pg i 0x1C 2 = discardStage s k pg i := by
    rw [writeIn, if_neg hlabel, if_pos (by decide), writeCommon]
    simp [bitAt, hcap, show Nat.testBit 2 1 = true by decide]
  obtain ⟨ff, hdiscard⟩ := discardStage_eq s k pg i hp
  have hcopy : RegsFrame k s (s.unstaged k (pg.index i)) := .modStk s k _ fun _ => rfl
  have hframe := hcopy.trans (.setRaw _ k pg i 0x1C (b2n ff * 4 + b2n false) hp)
  refine ⟨{ writeIn s src k pg i 0x1C 2 with mgmtOut := (0, stOk) }, ?_, ?_⟩
  · change execDiscard src a s = _
    rw [execDiscard, writeCmd_of_writable 2 _ hw hcarried (by simp [hlabel])]
  · rw [hwrite, hdiscard]
    refine ⟨fun off hlo hhi hst => ⟨?_, ?_⟩, dirty_setStage _ k pg i ff false (hcopy.length ▸ hk), fun qg j o hne ho => ?_, ?_,
      hframe.onlyStk.2, (hframe.stack k).1⟩
    · exact (raw_setStage_other _ k pg pg i i (off + 0x700) ff false (regKey_ne_of_off pg i (by omega))).trans
        (raw_unstaged_staged s k hk pg i off hlo hhi hst hpage hp hm)
    · exact (raw_setStage_other _ k pg pg i i off ff false (regKey_ne_of_off pg i (by omega))).trans
        (raw_unstaged_other s k _ hk pg i off (by omega) (.inr hhi))
    · refine (raw_setStage_other _ k pg qg i j o ff false ?_).trans (raw_unstaged_other s k _ hk qg j o ho (.inl hne))
      unfold regKey
      omega
    · exact congrArg (fun t : State => { t with mgmtOut := (0, stOk) }) hframe.state

/-- Settles O7: a staged write is one register and PAGE_STAGE_STATE; DISCARD lists each live ST register of the page 0x700 further. -/
theorem stagedImage : Obligations.StagedImage := ⟨claims_stagedWrite, claims_discard⟩

end Sys2Proof.Machine
end

section
/-! PROOFS. The counters of a page: COUNTER_CLEAR, and the latch of a counter's high half (R82, R88). -/

namespace Sys2Proof.Machine

/-! ### COUNTER_CLEAR (R82) -/

/-- The first m counters of a page at 0. -/
def State.zeroed (s : State) (k : Nat) (pg : Page) (i m : Nat) : State :=
  (List.range m).foldl (fun s c => s.setCnt k pg i c 0) s

theorem State.zeroed_succ (s : State) (k : Nat) (pg : Page) (i m : Nat) :
    s.zeroed k pg i (m + 1) = (s.zeroed k pg i m).setCnt k pg i m 0 := by
  simp [State.zeroed, List.range_succ]

theorem countFrame_setCnt (s : State) (k : Nat) (pg : Page) (i c v : Nat) (hp : pg.isPkg = false) :
    CountFrame k s (s.setCnt k pg i c v) := by
  rw [State.setCnt]
  simp only [hp, Bool.false_eq_true, if_false]
  exact StksFrame.modStk (fun _ _ => ⟨rfl, fun _ => rfl⟩) s k _ (fun _ => ⟨rfl, fun hk => absurd rfl hk⟩)

theorem countFrame_zeroed (s : State) (k : Nat) (pg : Page) (i m : Nat) (hp : pg.isPkg = false) :
    CountFrame k s (s.zeroed k pg i m) := by
  induction m with
  | zero => exact .refl k s
  | succ m ih =>
    rw [State.zeroed_succ]
    exact ih.trans (countFrame_setCnt _ k pg i m 0 hp)

/-- Each of the first m counters reads 0. -/
theorem cntVal_zeroed_same (s : State) (k : Nat) (pg : Page) (i m c : Nat) (hp : pg.isPkg = false) (hk : k < s.stks.length)
    (hc : c < m) : (s.zeroed k pg i m).cntVal k pg i c = 0 := by
  induction m with
  | zero => omega
  | succ m ih =>
    rw [State.zeroed_succ]
    by_cases hm : c = m
    · subst hm
      exact State.cntVal_setCnt_same _ k pg i c 0 ((countFrame_zeroed s k pg i c hp).length ▸ hk)
    · rw [State.cntVal_setCnt_other _ k k pg pg i i m c 0 (.inr (.inr (regKey_ne_of_off pg i (by omega)))), ih (by omega)]

/-- Counters of other pages read as before. -/
theorem cntVal_zeroed_other (s : State) (k : Nat) (pg qg : Page) (i j m c : Nat) (hpage : qg.index j ≠ pg.index i) (hc : c < 32)
    (hm : m ≤ 32) : (s.zeroed k pg i m).cntVal k qg j c = s.cntVal k qg j c := by
  induction m with
  | zero => rfl
  | succ m ih =>
    have hkey : regKey qg j (0xF00 + 8 * c) ≠ regKey pg i (0xF00 + 8 * m) := by
      unfold regKey
      omega
    rw [State.zeroed_succ, State.cntVal_setCnt_other _ k k pg qg i j m c 0 (.inr (.inr hkey)), ih (by omega)]

/-- A page has at most 32 counters (R79). -/
theorem cap_counters_le (pg : Page) : pg.cap.2.2 ≤ 32 := by cases pg <;> decide

/-- A stored register is no counter. -/
theorem cntVal_setRaw (s : State) (k x : Nat) (pg qg : Page) (i j off c v : Nat) :
    (s.setRaw k pg i off v).cntVal x qg j c = s.cntVal x qg j c := by
  have hcnt : ((s.setRaw k pg i off v).stk x).cnt = (s.stk x).cnt :=
    State.stk_modStk_proj Stack.cnt (fun _ => by split <;> rfl) s k x
  rw [State.cntVal, State.cntVal, hcnt]
  rfl

/-- What COUNTER_CLEAR leaves: COUNTER_FREEZE as it was, and the counters of the page at 0 (R82). -/
def State.cleared (s : State) (k : Nat) (pg : Page) (i : Nat) : State :=
  (s.setRaw k pg i 0x08 (s.raw k pg i 0x08 % 2)).zeroed k pg i pg.cap.2.2

theorem writeIn_counterClear (s : State) (src : Source) (k : Nat) (pg : Page) (i : Nat) (hp : pg.isPkg = false)
    (hcap : pg.cap.2.1 = true) (hnxl : pg ≠ .nxl) : writeIn s src k pg i 8 (2 + s.raw k pg i 8 % 2) = s.cleared k pg i := by
  have hlabel : pg ≠ .label := by rintro rfl; exact absurd hp (by decide)
  have htic : pg ≠ .tic := by rintro rfl; exact absurd hp (by decide)
  have hgo : bitAt (2 + s.raw k pg i 8 % 2) 1 = true := by
    obtain h | h := Nat.mod_two_eq_zero_or_one (s.raw k pg i 8) <;> rw [h] <;> decide
  rw [writeIn, if_neg hlabel, if_pos (by decide), writeCommon, if_pos rfl, writePageCtrl, if_neg htic, if_pos hgo, clearCounters]
  simp only [hcap, Bool.not_true, Bool.false_eq_true, if_false, if_neg hnxl, Nat.add_mod_left, Nat.mod_mod]
  rfl

theorem frozen_cleared (s : State) (k : Nat) (pg : Page) (i : Nat) (hp : pg.isPkg = false) (hk : k < s.stks.length) :
    (s.cleared k pg i).frozen k pg i = s.frozen k pg i := by
  rw [State.cleared, (countFrame_zeroed _ k pg i _ hp).frozen, State.frozen, State.frozen,
    State.raw_setRaw_same s k pg i 8 _ hk, bitAt, bitAt, Nat.testBit_mod_two_pow, Nat.testBit_zero, Nat.testBit_zero, Nat.mod_mod]
  rfl

/-- Of a stack only the stored registers of its window and its counters changed. -/
def RegsCntOnly (x y : Stack) : Prop := y = { x with regs := y.regs, cnt := y.cnt }

theorem stksFrame_cleared (s : State) (k : Nat) (pg : Page) (i : Nat) (hp : pg.isPkg = false) :
    StksFrame (AtStk k RegsCntOnly) s (s.cleared k pg i) := by
  have hset := RegsFrame.setRaw s k pg i 8 (s.raw k pg i 8 % 2) hp
  refine StksFrame.trans (fun _ x y z hxy hyz => ⟨by rw [RegsCntOnly, hyz.1, hxy.1], fun hj => (hyz.2 hj).trans (hxy.2 hj)⟩)
    (hset.mono fun _ x y h => ⟨by rw [RegsCntOnly, h.1], h.2⟩)
    ((countFrame_zeroed _ k pg i pg.cap.2.2 hp).mono fun _ x y h => ⟨by rw [RegsCntOnly, h.1], h.2⟩)

theorem claims_counterClear : Claims.CounterClear := by
  intro s src a k i pg hshape hw hcap hnxl
  obtain ⟨hkn, hp⟩ := hw.1.window
  have hk : k < s.stks.length := hshape.1 ▸ hkn
  have hlabel : pg ≠ .label := by rintro rfl; exact absurd hp (by decide)
  have hcarried : (Target.mk (k + 1) pg i 8).carried (2 + s.raw k pg i 8 % 2) = false := by simp [Target.carried, hp]
  have hholder : s.holder src ⟨k + 1, pg, i, 8⟩ = k := by simp [State.holder]
  have hlen : (s.setRaw k pg i 8 (s.raw k pg i 8 % 2)).stks.length = s.stks.length := length_modify' _ _ _
  have hframe := stksFrame_cleared s k pg i hp
  refine ⟨{ s.cleared k pg i with mgmtOut := (0, stOk) }, ?_, fun c hc => ?_, fun qg j c _ hpage hc => ?_,
    frozen_cleared s k pg i hp hk, ?_, hframe.onlyStk.2, (hframe.stack k).1⟩
  · change execCounterClear src a s = _
    rw [execCounterClear, hw.1]
    simp only [hholder]
    rw [writeCmd_of_writable _ _ hw hcarried (by simp [hlabel]), writeIn_counterClear s src k pg i hp hcap hnxl]
  · exact cntVal_zeroed_same _ k pg i _ c hp (hlen.symm ▸ hk) hc
  · exact (cntVal_zeroed_other _ k pg qg i j _ c hpage hc (cap_counters_le pg)).trans (cntVal_setRaw s k k pg qg i j 8 c _)
  · exact congrArg (fun t : State => { t with mgmtOut := (0, stOk) }) hframe.state

/-! ### The latch of the high half (R88) -/

/-- The state after the high half of a counter is latched for a source. -/
def State.latched (s : State) (src : Source) (k : Nat) (pg : Page) (i c : Nat) : State :=
  s.modStk k (fun x => { x with latch := mput x.latch (latchKey pg i src) (s.counterVal k pg i c / 2 ^ 32) 0 })

theorem stk_latched (s : State) (src : Source) (k : Nat) (pg : Page) (i c : Nat) (hk : k < s.stks.length) :
    (s.latched src k pg i c).stk k =
      { s.stk k with latch := mput (s.stk k).latch (latchKey pg i src) (s.counterVal k pg i c / 2 ^ 32) 0 } :=
  State.stk_modStk_same s k _ hk

/-- Of a stack only the latches of counters changed. -/
def LatchOnly (x y : Stack) : Prop := y = { x with latch := y.latch }

theorem latchOnly_latched (s : State) (src : Source) (k j : Nat) (pg : Page) (i c : Nat) :
    LatchOnly (s.stk j) ((s.latched src k pg i c).stk j) := by
  refine State.stk_modStk_rel (R := LatchOnly) (fun _ => rfl) ?_ s k j
  exact fun _ => rfl

/-- The low word of a counter: its low half, and the high half in the latch of the source. -/
theorem readCounter_low (s : State) (src : Source) (k : Nat) (pg : Page) (i c : Nat) (hc : c < pg.cap.2.2) :
    readCounter s src k pg i (0xF00 + 8 * c) = (s.counterVal k pg i c % 2 ^ 32, s.latched src k pg i c) := by
  have hindex : (0xF00 + 8 * c - 0xF00) / 8 = c := by omega
  simp only [readCounter, hindex]
  rw [if_neg (by omega), if_pos (by omega)]
  rfl

/-- The high word of a counter: the latch of the source. -/
theorem readCounter_high (s : State) (src : Source) (k : Nat) (pg : Page) (i c : Nat) (hc : c < pg.cap.2.2) :
    readCounter s src k pg i (0xF04 + 8 * c) = (mget (s.stk k).latch (latchKey pg i src) 0, s) := by
  have hindex : (0xF04 + 8 * c - 0xF00) / 8 = c := by omega
  simp only [readCounter, hindex]
  rw [if_neg (by omega), if_neg (by omega)]

/-- A read of the low word of a counter, where the page answers. -/
theorem exec_counterLowRead (s : State) (src : Source) (a : Reg32) (win i c : Nat) (pg : Page)
    (hlead : Leads s a win pg i (0xF00 + 8 * c)) (hans : s.answers src ⟨win, pg, i, 0xF00 + 8 * c⟩ = true) (hlabel : pg ≠ .label)
    (hc : c < pg.cap.2.2) : exec (.counterLowRead src a) s = .next
      (let k := s.holder src ⟨win, pg, i, 0xF00 + 8 * c⟩
      { s.latched src k pg i c with mgmtOut := (BitVec.ofNat 32 (s.counterVal k pg i c % 2 ^ 32), stOk) }) := by
  have hread : ∀ k, readReg s src k pg i (0xF00 + 8 * c) = readCounter s src k pg i (0xF00 + 8 * c) := fun k => by
    rw [readReg, if_neg hlabel, if_neg (by omega), if_neg (by omega), if_neg (by omega)]
  have hoff : ¬(pg = .label ∨ 0xF00 + 8 * c < 0xF00 ∨ (0xF00 + 8 * c) % 8 ≠ 0) := by
    rintro (h | h | h)
    · exact hlabel h
    · omega
    · omega
  change execCounterLowRead src a s = _
  rw [execCounterLowRead, hlead]
  simp only
  rw [if_neg hoff, mgmtRd, hlead]
  simp only [hans, Bool.not_true, Bool.false_eq_true, if_false, hread, readCounter_low s src _ pg i c hc]

theorem claims_counterLatch : Claims.CounterLatch := by
  intro s src a win i c pg hshape hlead hans hlabel hc _
  have hwin : s.winOk (s.holder src ⟨win, pg, i, 0xF00 + 8 * c⟩) = true := by
    rw [State.answers, Bool.and_eq_true] at hans
    exact hans.1
  have hk := lt_of_winOk hshape hwin
  refine ⟨_, exec_counterLowRead s src a win i c pg hlead hans hlabel hc, ?_⟩
  generalize s.holder src ⟨win, pg, i, 0xF00 + 8 * c⟩ = k at hk
  have hstk := stk_latched s src k pg i c hk
  refine ⟨?_, ?_, fun src' hsrc => ?_, rfl, fun j hj => State.stk_modStk_other s k j _ hj,
    latchOnly_latched s src k k pg i c⟩
  · simp only [Prod.mk.injEq, and_true]
    exact BitVec.eq_of_toNat_eq (by simp)
  · rw [readCounter_high _ src k pg i c hc]
    refine (congrArg (fun x : Stack => mget x.latch (latchKey pg i src) 0) hstk).trans ?_
    exact mget_mput_same _ _ _ _
  · rw [readCounter_high _ src' k pg i c hc, readCounter_high _ src' k pg i c hc]
    refine (congrArg (fun x : Stack => mget x.latch (latchKey pg i src') 0) hstk).trans ?_
    exact mget_mput_other _ _ _ _ _ _ hsrc

/-- Settles O8: a clear sets the page's counters one after the other; a read of a low word writes one latch. -/
theorem counters : Obligations.Counters := ⟨claims_counterClear, claims_counterLatch⟩

end Sys2Proof.Machine
end

section
/-! PROOFS. Writes that a stack sends to the copies of the package pages that it reaches (R17, R34, R510, R511). -/

namespace Sys2Proof.Machine

/-! ### What such a write leaves -/

namespace CopyFrame

theorem setRaw (s : State) (k : Nat) (pg : Page) (i off v : Nat) (hp : pg.isPkg = true) : CopyFrame s (s.setRaw k pg i off v) := by
  unfold State.setRaw
  exact modStk s k _ (fun x => by simp [hp])

theorem setFlds (s : State) (k i : Nat) (l : List (FRef × Nat)) (h : ∀ x ∈ l, x.1.page.isPkg = true) :
    CopyFrame s (s.setFlds k i l) := by
  induction l generalizing s with
  | nil => exact refl s
  | cons x l ih =>
    exact (setRaw s k x.1.page i x.1.off _ (h x List.mem_cons_self)).trans (ih _ fun y hy => h y (List.mem_cons_of_mem x hy))

/-- The ring joins the same stacks (R511). -/
theorem reach {s t : State} (h : CopyFrame s t) : t.reach = s.reach :=
  State.reach_congr (congrArg Part.stks h.part) fun j => by rw [h.stack j]; exact ⟨rfl, rfl⟩

/-- The counters of the package pages are no copy's. -/
theorem pkgCnt {s t : State} (h : CopyFrame s t) : t.pkgCnt = s.pkgCnt := by rw [h.state]

end CopyFrame

/-- Another stack's registers leave a copy. -/
theorem pkgRegs_setRaw_other (s : State) (k j : Nat) (pg : Page) (i off v : Nat) (h : j ≠ k) :
    ((s.setRaw k pg i off v).stk j).pkgRegs = (s.stk j).pkgRegs := congrArg Stack.pkgRegs (State.stk_modStk_other s k j _ h)

theorem pkgRegs_setFlds_other (s : State) (k j i : Nat) (l : List (FRef × Nat)) (h : j ≠ k) :
    ((s.setFlds k i l).stk j).pkgRegs = (s.stk j).pkgRegs := by
  induction l generalizing s with
  | nil => rfl
  | cons x l ih => rw [State.setFlds_cons, ih, State.setFld, pkgRegs_setRaw_other s k j _ _ _ _ h]

/-- The cost of a message is counted in no copy. -/
theorem pkgRegs_ringTx (s : State) (k j x : Nat) : ((s.ringTx k j).stk x).pkgRegs = (s.stk x).pkgRegs := by
  rw [(CountFrame.ringTx s k j).stk x]

/-! ### A register of a copy -/

/-- A register of a package page as a copy holds it. -/
def copyReg (p : Part) (m : SMap Reg32) (pg : Page) (off : Nat) : Nat :=
  (mget m (regKey pg 0 off) (BitVec.ofNat 32 (resetAt p pg off))).toNat

theorem raw_eq_copyReg (s : State) (k : Nat) (pg : Page) (off : Nat) (hp : pg.isPkg = true) :
    s.raw k pg 0 off = copyReg s.part (s.stk k).pkgRegs pg off := by
  simp [State.raw, copyReg, hp]

theorem pkgRegs_setRaw_same (s : State) (k : Nat) (pg : Page) (off v : Nat) (hk : k < s.stks.length) (hp : pg.isPkg = true) :
    ((s.setRaw k pg 0 off v).stk k).pkgRegs =
      mput (s.stk k).pkgRegs (regKey pg 0 off) (BitVec.ofNat 32 v) (BitVec.ofNat 32 (resetAt s.part pg off)) := by
  rw [State.setRaw, State.stk_modStk_same s k _ hk]
  simp only [hp, if_true]

/-- A register that a copy lists reads as listed, and the others as before. -/
theorem copyReg_mput (p : Part) (m : SMap Reg32) (pg : Page) (off v : Nat) :
    copyReg p (mput m (regKey pg 0 off) (BitVec.ofNat 32 v) (BitVec.ofNat 32 (resetAt p pg off))) pg off = v % 2 ^ 32 ∧
    ∀ (qg : Page) (o : Nat), regKey qg 0 o ≠ regKey pg 0 off →
      copyReg p (mput m (regKey pg 0 off) (BitVec.ofNat 32 v) (BitVec.ofNat 32 (resetAt p pg off))) qg o = copyReg p m qg o :=
  ⟨by rw [copyReg, mget_mput_same, BitVec.toNat_ofNat], fun qg o h => by rw [copyReg, mget_mput_other _ _ _ _ _ _ h, copyReg]⟩

/-! ### The write, copy by copy -/

/-- What a write W does in stack k where stack a reaches it: the write and its message (R34, R511). -/
def copyTo (a : Nat) (W : State → Nat → State) (s : State) (k : Nat) : State :=
  if s.reach a k then (W s k).ringTx a k else s

/-- What a write sent to every copy does: P holds between each copy that is reached before and after, and the others stay. -/
structure SentToCopies (a : Nat) (P : SMap Reg32 → SMap Reg32 → Prop) (s t : State) : Prop where
  frame : CopyFrame s t
  reached : ∀ k, k < s.n → s.reach a k = true → P (s.stk k).pkgRegs (t.stk k).pkgRegs
  apart : ∀ k, k < s.n → s.reach a k = false → (t.stk k).pkgRegs = (s.stk k).pkgRegs

/-- A write that changes one copy, sent to every copy. -/
theorem sentToCopies_forStacks (s : State) (a : Nat) (W : State → Nat → State) (P : SMap Reg32 → SMap Reg32 → Prop)
    (hframe : ∀ u k, CopyFrame u (W u k)) (hP : ∀ u k, k < s.n → CopyFrame s u → P (u.stk k).pkgRegs ((W u k).stk k).pkgRegs)
    (hother : ∀ u k j, j ≠ k → ((W u k).stk j).pkgRegs = (u.stk j).pkgRegs) : SentToCopies a P s (forStacks s (copyTo a W)) := by
  obtain ⟨hall, hturn, -⟩ := forN_turns (v := Stack.pkgRegs) (Q := CopyFrame s) (n := s.n) (f := copyTo a W)
    (R := fun k x y => (s.reach a k = true → P x y) ∧ (s.reach a k = false → y = x))
    (fun u k _ hu => by
      unfold copyTo
      split
      · exact (hu.trans (hframe u k)).trans (.ringTx _ a k)
      · exact hu)
    (fun u k hk hu => by
      have hreach : u.reach a k = s.reach a k := by rw [hu.reach]
      unfold copyTo
      split
      · rename_i hr
        rw [pkgRegs_ringTx]
        exact ⟨fun _ => hP u k hk hu, fun hn => by rw [← hreach, hr] at hn; cases hn⟩
      · rename_i hr
        exact ⟨fun hy => absurd (hreach.trans hy) hr, fun _ => rfl⟩)
    (fun u k j _ _ hj => by
      unfold copyTo
      split
      · rw [pkgRegs_ringTx, hother u k j hj]
      · rfl)
    (CopyFrame.refl s) (Nat.le_refl s.n)
  exact ⟨hall, fun k hk => (hturn k hk).1, fun k hk => (hturn k hk).2⟩

/-! ### Several fields -/

/-- A field that is written among fields apart from it reads as written. -/
theorem fld_setFlds_of_mem (s : State) (k i : Nat) (l : List (FRef × Nat)) (g : FRef) (v : Nat) (hk : k < s.stks.length)
    (hplace : ∀ x ∈ l, x.1.lo ≤ x.1.hi + 1 ∧ x.1.hi < 32) (hapart : l.Pairwise (fun x y => y.1.apart x.1 = true))
    (hmem : (g, v) ∈ l) : (s.setFlds k i l).fld k i g = v % 2 ^ (g.hi + 1 - g.lo) := by
  induction l generalizing s with
  | nil => cases hmem
  | cons x l ih =>
    obtain ⟨hfirst, htail⟩ := List.pairwise_cons.mp hapart
    have hlen : k < (s.setFld k i x.1 x.2).stks.length := by rwa [length_setFld]
    rw [State.setFlds_cons]
    obtain rfl | hrest := List.mem_cons.mp hmem
    · obtain ⟨hlo, hhi⟩ := hplace _ List.mem_cons_self
      rw [fld_setFlds_of_apart _ k i l g hlen (List.all_eq_true.mpr hfirst)]
      exact State.fld_setFld_same s k i g v hk hlo hhi
    · exact ih _ hlen (fun y hy => hplace y (List.mem_cons_of_mem x hy)) htail hrest

end Sys2Proof.Machine
end

section
/-! PROOFS. Events on package pages: PAGE_ERR bits and miss events reach every copy at the tick (R84, R168, R510). -/

namespace Sys2Proof.Machine

/-! ### PAGE_ERR bits (R84, R510) -/

/-- A page of the package window is a package page, and stands at its index there (R78). -/
theorem pkgPageAt_spec {n i : Nat} {pg : Page} (h : pkgPageAt n = some (pg, i)) : pg.isPkg = true ∧ pg.index i = n := by
  unfold pkgPageAt at h
  repeat (rw [ite_eq_iff] at h; obtain ⟨hn, h⟩ | ⟨-, h⟩ := h; · (cases h; simp only [Page.index, Page.isPkg, true_and]; omega))
  cases h

/-- Beside the label table each package page stands at one index (R78). -/
theorem pkgPageAt_index {pg : Page} (hp : pg.isPkg = true) (hlabel : pg ≠ .label) : pkgPageAt (pg.index 0) = some (pg, 0) := by
  cases pg <;> simp_all [Page.isPkg, Page.index, pkgPageAt]

theorem Page.index_of_isPkg {pg : Page} (hp : pg.isPkg = true) (hlabel : pg ≠ .label) (i : Nat) : pg.index i = pg.index 0 := by
  cases pg <;> simp_all [Page.isPkg, Page.index]

/-- PAGE_ERR of a page beside the label table is the register of no other page's events. -/
theorem eq_of_pkgPageAt {n : Nat} {p : Page × Nat} {pg : Page} (h : pkgPageAt n = some p) (hp : pg.isPkg = true)
    (hlabel : pg ≠ .label) (hkey : regKey pg 0 0x10 = regKey p.1 0 0x10) : n = pg.index 0 ∧ p.1 = pg := by
  have hat := pkgPageAt_index hp hlabel
  have hindex : p.1.index 0 = pg.index 0 := by
    unfold regKey at hkey
    omega
  obtain ⟨hpp, hn⟩ := pkgPageAt_spec (pg := p.1) (i := p.2) h
  have hpl : p.1 ≠ .label := by
    intro he
    rw [← hindex, he] at hat
    exact hlabel (congrArg Prod.fst (Option.some.inj hat)).symm
  have hpage : n = pg.index 0 := by rw [← hn, Page.index_of_isPkg hpp hpl, hindex]
  rw [hpage, hat] at h
  exact ⟨hpage, (congrArg Prod.fst (Option.some.inj h)).symm⟩

/-- PAGE_ERR bit n of a package page set in stack k's copy (R84). -/
def setErr (pg : Page) (n : Nat) (s : State) (k : Nat) : State := s.setRaw k pg 0 0x10 (s.raw k pg 0 0x10 ||| 2 ^ n)

theorem sendErr_of_page (s : State) (e : Nat × Nat × Nat) (p : Page × Nat) (h : pkgPageAt e.2.1 = some p) :
    sendErr s e = forStacks s (copyTo e.1 (setErr p.1 e.2.2)) := by
  rw [sendErr, h]
  rfl

theorem sendErr_of_no_page (s : State) (e : Nat × Nat × Nat) (h : pkgPageAt e.2.1 = none) : sendErr s e = s := by
  rw [sendErr, h]

/-- Bit n of PAGE_ERR of a page is set between two copies, and no other register changes. -/
def ErrSet (p : Part) (pg : Page) (n : Nat) (x y : SMap Reg32) : Prop :=
  copyReg p y pg 0x10 = (copyReg p x pg 0x10 ||| 2 ^ n) % 2 ^ 32 ∧
  ∀ qg off, regKey qg 0 off ≠ regKey pg 0 0x10 → copyReg p y qg off = copyReg p x qg off

theorem sentToCopies_sendErr (s : State) (e : Nat × Nat × Nat) (p : Page × Nat) (hshape : s.stks.length = s.n)
    (h : pkgPageAt e.2.1 = some p) : SentToCopies e.1 (ErrSet s.part p.1 e.2.2) s (sendErr s e) := by
  have hp : p.1.isPkg = true := (pkgPageAt_spec h).1
  rw [sendErr_of_page s e p h]
  refine sentToCopies_forStacks s e.1 _ _ (fun u k => .setRaw u k p.1 0 0x10 _ hp) (fun u k hk hu => ?_)
    (fun u k j hj => pkgRegs_setRaw_other u k j p.1 0 0x10 _ hj)
  rw [setErr, pkgRegs_setRaw_same u k p.1 0x10 _ (by rw [hu.length, hshape]; exact hk) hp, raw_eq_copyReg u k p.1 0x10 hp, hu.part]
  exact copyReg_mput s.part _ p.1 0x10 _

/-- From s to t the PAGE_ERR events listed have set their bits in every copy that their stacks reach, and nothing else happened. -/
structure ErrsSent (s : State) (l : List (Nat × Nat × Nat)) (t : State) : Prop where
  frame : CopyFrame s t
  bits : ∀ j pg b, j < s.n → pg.isPkg = true → pg ≠ .label → b < 32 →
    ((t.raw j pg 0 0x10).testBit b = true ↔
      (s.raw j pg 0 0x10).testBit b = true ∨ ∃ e ∈ l, e.2.1 = pg.index 0 ∧ e.2.2 = b ∧ s.reach e.1 j = true)
  others : ∀ j pg off, j < s.n → pg.isPkg = true → off ≠ 0x10 → off < 0x1000 → t.raw j pg 0 off = s.raw j pg 0 off

namespace ErrsSent

theorem nil (s : State) : ErrsSent s [] s := ⟨.refl s, fun _ _ _ _ _ _ _ => by simp, fun _ _ _ _ _ _ _ => rfl⟩

theorem trans {s t u : State} {l l' : List (Nat × Nat × Nat)} (h : ErrsSent s l t) (g : ErrsSent t l' u) : ErrsSent s (l ++ l') u where
  frame := h.frame.trans g.frame
  bits j pg b hj hp hlabel hb := by
    have hn : t.n = s.n := congrArg Part.stks h.frame.part
    rw [g.bits j pg b (hn ▸ hj) hp hlabel hb, h.bits j pg b hj hp hlabel hb, h.frame.reach]
    simp only [List.mem_append, or_and_right, exists_or, or_assoc]
  others j pg off hj hp hoff hlt := by
    have hn : t.n = s.n := congrArg Part.stks h.frame.part
    rw [g.others j pg off (hn ▸ hj) hp hoff hlt, h.others j pg off hj hp hoff hlt]

/-- One event. -/
theorem single (s : State) (e : Nat × Nat × Nat) (hshape : s.stks.length = s.n) : ErrsSent s [e] (sendErr s e) := by
  cases hpage : pkgPageAt e.2.1 with
  | none =>
    rw [sendErr_of_no_page s e hpage]
    refine ⟨.refl s, fun j pg b _ hp hlabel _ => ⟨.inl, ?_⟩, fun _ _ _ _ _ _ _ => rfl⟩
    rintro (h | ⟨d, hd, hindex, -⟩)
    · exact h
    · rw [List.mem_singleton.mp hd] at hindex
      rw [hindex, pkgPageAt_index hp hlabel] at hpage
      cases hpage
  | some p =>
    obtain ⟨hframe, hreached, hapart⟩ := sentToCopies_sendErr s e p hshape hpage
    refine ⟨hframe, fun j pg b hj hp hlabel hb => ?_, fun j pg off hj hp hoff hlt => ?_⟩
    · simp only [List.mem_singleton, exists_eq_left]
      rw [raw_eq_copyReg _ _ _ _ hp, raw_eq_copyReg _ _ _ _ hp, hframe.part]
      cases hr : s.reach e.1 j with
      | false => simp [hapart j hj hr]
      | true =>
        obtain ⟨hset, hkeep⟩ := hreached j hj hr
        by_cases hkey : regKey pg 0 0x10 = regKey p.1 0 0x10
        · obtain ⟨hindex, rfl⟩ := eq_of_pkgPageAt hpage hp hlabel hkey
          rw [hset, Nat.testBit_mod_two_pow, Nat.testBit_or, Nat.testBit_two_pow]
          simp [hb, hindex]
        · have hindex : e.2.1 ≠ pg.index 0 := by
            intro he
            rw [he, pkgPageAt_index hp hlabel] at hpage
            exact hkey (by rw [← Option.some.inj hpage])
          simp [hkeep pg 0x10 hkey, hindex]
    · rw [raw_eq_copyReg _ _ _ _ hp, raw_eq_copyReg _ _ _ _ hp, hframe.part]
      cases hr : s.reach e.1 j with
      | false => rw [hapart j hj hr]
      | true =>
        refine (hreached j hj hr).2 pg off ?_
        unfold regKey
        omega

/-- The events of a list, one after the other. -/
theorem foldl (s : State) (l : List (Nat × Nat × Nat)) (hshape : s.stks.length = s.n) : ErrsSent s l (l.foldl sendErr s) := by
  induction l generalizing s with
  | nil => exact nil s
  | cons e l ih =>
    have hfirst := single s e hshape
    have hn : (sendErr s e).n = s.n := congrArg Part.stks hfirst.frame.part
    exact hfirst.trans (ih _ (by rw [hfirst.frame.length, hshape, hn]))

end ErrsSent

/-- The PAGE_ERR events that stack k's tick sends (R510). -/
def ownErr (k : Nat) (e : Nat × Nat × Nat) : Bool := e.1 == k && !isMissBit e

theorem exec_pageErrBroadcast (s : State) (k : Nat) (hk : k < s.n) : exec (.pageErrBroadcast k) s =
    .next ((s.errDue.filter (ownErr k)).foldl sendErr { s with errDue := s.errDue.filter (fun e => !ownErr k e) }) := by
  change execPageErrBroadcast k s = _
  rw [execPageErrBroadcast, decide_eq_true hk]
  rfl

theorem claims_pageErrBroadcast : Claims.PageErrBroadcast := by
  intro s k hshape hk
  have hsent := ErrsSent.foldl { s with errDue := s.errDue.filter (fun e => !ownErr k e) } (s.errDue.filter (ownErr k)) hshape.1
  refine ⟨_, exec_pageErrBroadcast s k hk, ?_⟩
  generalize (s.errDue.filter (ownErr k)).foldl sendErr { s with errDue := s.errDue.filter (fun e => !ownErr k e) } = t at hsent
  have hdue : t.errDue = s.errDue.filter (fun e => !ownErr k e) := by rw [hsent.frame.state]
  refine ⟨?_, fun j pg b hj hr hp hlabel hb => ?_, ?_, hsent.frame.stack⟩
  · rw [hdue]
    congr 1
    funext e
    simp [ownErr, bne]
  · refine (hsent.bits j pg b hj hp hlabel hb).trans (or_congr_right ⟨?_, ?_⟩)
    · rintro ⟨⟨a, n, c⟩, he, rfl, rfl, -⟩
      simp only [List.mem_filter, ownErr, Bool.and_eq_true, beq_iff_eq, Bool.not_eq_true'] at he
      obtain ⟨hmem, rfl, hmiss⟩ := he
      exact ⟨hmem, hmiss⟩
    · rintro ⟨hmem, hmiss⟩
      exact ⟨_, List.mem_filter.mpr ⟨hmem, by simp [ownErr, hmiss]⟩, rfl, rfl, hr⟩
  · rw [hdue]
    exact hsent.frame.state

/-! ### Miss events (R168) -/

/-- What a miss event writes in SCH_MISS_LAST, and a late one in SCH_MISS_LABEL (R168, R174). -/
def missFields (m : Miss) : List (FRef × Nat) :=
  [(F.SCH_MISS_LAST_KIND, b2n (!m.late)), (F.SCH_MISS_LAST_STACK, m.stack), (F.SCH_MISS_LAST_CHANNEL, m.ch),
    (F.SCH_MISS_LAST_PC, m.pc), (F.SCH_MISS_LAST_CLASS, m.cls), (F.SCH_MISS_LAST_FRAME, m.frame)] ++
  (if m.late then [(F.SCH_MISS_LABEL_LABEL, m.label)] else [])

/-- These are fields of two registers of SCH. -/
theorem missFields_page (m : Miss) : ∀ x ∈ missFields m, x.1.page = .sch ∧ (x.1.off = 0x130 ∨ x.1.off = 0x134) := by
  unfold missFields
  cases m.late <;> simp [F.SCH_MISS_LAST_KIND, F.SCH_MISS_LAST_STACK, F.SCH_MISS_LAST_CHANNEL, F.SCH_MISS_LAST_PC,
    F.SCH_MISS_LAST_CLASS, F.SCH_MISS_LAST_FRAME, F.SCH_MISS_LABEL_LABEL]

theorem missFields_place (m : Miss) : ∀ x ∈ missFields m, x.1.lo ≤ x.1.hi + 1 ∧ x.1.hi < 32 := by
  unfold missFields
  cases m.late <;> simp [F.SCH_MISS_LAST_KIND, F.SCH_MISS_LAST_STACK, F.SCH_MISS_LAST_CHANNEL, F.SCH_MISS_LAST_PC,
    F.SCH_MISS_LAST_CLASS, F.SCH_MISS_LAST_FRAME, F.SCH_MISS_LABEL_LABEL]

theorem missFields_apart (m : Miss) : (missFields m).Pairwise (fun x y => y.1.apart x.1 = true) := by
  unfold missFields
  cases m.late <;> simp <;> decide

/-- The fields of a miss event are written between two copies of SCH, and its other registers stay. -/
def MissSet (p : Part) (m : Miss) (x y : SMap Reg32) : Prop :=
  (∀ g v, (g, v) ∈ missFields m → bits (copyReg p y .sch g.off) g.hi g.lo = v % 2 ^ (g.hi + 1 - g.lo)) ∧
  ∀ off, off ≠ 0x130 → off ≠ 0x134 → copyReg p y .sch off = copyReg p x .sch off

theorem sentToCopies_missFields (s : State) (m : Miss) (hshape : s.stks.length = s.n) :
    SentToCopies m.stack (MissSet s.part m) s (s.setPkg m.stack (missFields m)) := by
  have hpage := missFields_page m
  refine sentToCopies_forStacks s m.stack (fun u k => u.setFlds k 0 (missFields m)) _
    (fun u k => .setFlds u k 0 _ fun x hx => by rw [(hpage x hx).1]; rfl) (fun u k hk hu => ⟨fun g v hg => ?_, fun off h0 h4 => ?_⟩)
    (fun u k j hj => pkgRegs_setFlds_other u k j 0 _ hj)
  · have hfld := fld_setFlds_of_mem u k 0 _ g v (by rw [hu.length, hshape]; exact hk) (missFields_place m) (missFields_apart m) hg
    have hpart := (CopyFrame.setFlds u k 0 (missFields m) fun x hx => by rw [(hpage x hx).1]; rfl).part
    rwa [State.fld, (hpage _ hg).1, raw_eq_copyReg _ _ _ _ rfl, hpart, hu.part] at hfld
  · have hkeep := raw_setFlds_of_off u k 0 (missFields m) .sch off (List.all_eq_true.mpr fun x hx => by
      obtain ⟨hsch, hoff⟩ := hpage x hx
      simp only [hsch, decide_true, Bool.true_and, decide_eq_true_eq]
      omega)
    have hpart := (CopyFrame.setFlds u k 0 (missFields m) fun x hx => by rw [(hpage x hx).1]; rfl).part
    rwa [raw_eq_copyReg _ _ _ _ rfl, raw_eq_copyReg _ _ _ _ rfl, hpart, hu.part] at hkeep

/-- A counter of a package page is counted in no copy. -/
theorem count_of_isPkg (s : State) (k : Nat) (pg : Page) (i c n : Nat) (hp : pg.isPkg = true) :
    s.count k pg i c n = { s with pkgCnt := (s.count k pg i c n).pkgCnt } := by
  unfold State.count
  split
  · rfl
  · simp only [State.setCnt, hp, if_true]

/-- The counter of a miss event: of late misses by class, and then of short ones. -/
def Miss.counter (m : Miss) : Nat := m.cls + if m.late then 0 else 4

/-- The interrupt enables of SCH that a miss event asks. -/
def Miss.enable (m : Miss) : FRef := if m.late then F.SCH_CTRL_LATE_IRQ_EN else F.SCH_CTRL_SHORT_IRQ_EN

/-- The interrupt message of a miss event (R168). -/
def Miss.irq (m : Miss) : Irq :=
  { kind := 2, count := 1, source := BitVec.ofNat 32 (pageAddr .sch m.stack 0 0),
    detail := BitVec.ofNat 32 (b2n (!m.late) * 2 ^ 7 + m.stack * 2 ^ 4 + m.cls), frame := m.frame % 65536 }

/-- The state with a miss event counted, and written in every copy. -/
def State.missed (s : State) (m : Miss) : State := (s.count m.stack .sch 0 m.counter 1).setPkg m.stack (missFields m)

theorem applyMiss_eq (s : State) (m : Miss) : applyMiss s m = { s.missed m with
    irqs := if bitAt ((s.missed m).fld m.stack 0 m.enable) m.cls then addIrq (s.missed m).irqs m.irq else (s.missed m).irqs } := by
  rw [apply_ite (fun q => ({ s.missed m with irqs := q } : State))]
  rfl

/-- From s to t a miss event was applied to every copy of SCH that its stack reaches, and nothing else happened. -/
structure MissApplied (s : State) (m : Miss) (t : State) : Prop where
  state : t = { s with stks := t.stks, pkgCnt := t.pkgCnt, irqs := t.irqs }
  length : t.stks.length = s.stks.length
  stack : ∀ k, t.stk k = { s.stk k with pkgRegs := (t.stk k).pkgRegs, cnt := (t.stk k).cnt }
  counted : s.frozen m.stack .sch 0 = false →
    t.cntVal m.stack .sch 0 m.counter = satAdd cntMax (s.cntVal m.stack .sch 0 m.counter) 1
  fields : ∀ k g v, k < s.n → s.reach m.stack k = true → (g, v) ∈ missFields m → t.fld k 0 g = v % 2 ^ (g.hi + 1 - g.lo)
  others : ∀ k off, k < s.n → off ≠ 0x130 → off ≠ 0x134 → t.raw k .sch 0 off = s.raw k .sch 0 off
  irqs : t.irqs = if bitAt (s.fld m.stack 0 m.enable) m.cls then addIrq s.irqs m.irq else s.irqs

theorem missApplied_applyMiss (s : State) (m : Miss) (hshape : s.stks.length = s.n) (hm : m.stack < s.n) :
    MissApplied s m (applyMiss s m) := by
  have hcount := count_of_isPkg s m.stack .sch 0 m.counter 1 rfl
  have hcnt : s.frozen m.stack .sch 0 = false → (s.count m.stack .sch 0 m.counter 1).cntVal m.stack .sch 0 m.counter =
      satAdd cntMax (s.cntVal m.stack .sch 0 m.counter) 1 := State.cntVal_count_same s m.stack .sch 0 _ 1 (hshape ▸ hm)
  generalize hs1 : s.count m.stack .sch 0 m.counter 1 = s1 at hcount hcnt
  have hmissed : s.missed m = s1.setPkg m.stack (missFields m) := by rw [State.missed, hs1]
  obtain ⟨hframe, hreached, hapart⟩ : SentToCopies m.stack (MissSet s.part m) s1 (s.missed m) := by
    rw [hmissed]
    have hpart : s1.part = s.part := by rw [hcount]
    exact hpart ▸ sentToCopies_missFields s1 m (by rw [hcount]; exact hshape)
  have hstk : ∀ k, s1.stk k = s.stk k := fun k => by rw [hcount]; rfl
  have hn : s1.n = s.n := by rw [hcount]; rfl
  have hreach : s1.reach = s.reach := by rw [hcount]; rfl
  have hraw : ∀ k off, s1.raw k .sch 0 off = s.raw k .sch 0 off := fun k off => by rw [hcount]; rfl
  have hpart : (s.missed m).part = s.part := by rw [hframe.part, hcount]
  have hother : ∀ k off, k < s.n → off ≠ 0x130 → off ≠ 0x134 → (s.missed m).raw k .sch 0 off = s.raw k .sch 0 off := by
    intro k off hk h0 h4
    rw [raw_eq_copyReg _ _ _ _ rfl, raw_eq_copyReg _ _ _ _ rfl, hpart, ← hstk]
    cases hr : s1.reach m.stack k with
    | false => rw [hapart k (hn ▸ hk) hr]
    | true => exact (hreached k (hn ▸ hk) hr).2 off h0 h4
  have henable : (s.missed m).fld m.stack 0 m.enable = s.fld m.stack 0 m.enable := by
    unfold State.fld Miss.enable
    cases m.late <;> exact congrArg (bits · _ _) (hother m.stack 0x100 hm (by decide) (by decide))
  have hirqs : (s.missed m).irqs = s.irqs := by rw [hframe.state, hcount]
  rw [applyMiss_eq, henable, hirqs]
  refine ⟨?_, ?_, fun k => ?_, fun hf => ?_, fun k g v hk hr hg => ?_, hother, rfl⟩
  · rw [hframe.state, hcount]
  · exact hframe.length.trans (by rw [hcount])
  · exact (hframe.stack k).trans (by rw [hstk]; rfl)
  · rw [← hcnt hf]
    exact congrArg (mget · _ 0) hframe.pkgCnt
  · have hset := (hreached k (hn ▸ hk) (by rw [hreach, hr])).1 g v hg
    have hpage := (missFields_page m _ hg).1
    refine Eq.trans ?_ hset
    change (s.missed m).fld k 0 g = _
    rw [State.fld, show g.page = .sch from hpage, raw_eq_copyReg _ _ _ _ rfl, hpart]

/-- A part has at most eight stacks (R1). -/
theorem State.n_le (s : State) : s.n ≤ 8 := by
  unfold State.n
  cases s.part <;> decide

/-- What a miss event leaves in the registers of a copy, field by field (R174). -/
theorem MissApplied.registers {s t : State} {m : Miss} (h : MissApplied s m t) (k : Nat) (hk : k < s.n)
    (hr : s.reach m.stack k = true) (hm : m.stack < s.n) (hch : m.ch < 32) (hpc : m.pc < 2) (hcls : m.cls < 4)
    (hframe : m.frame < 65536) (hlabel : m.label < 4096) :
    t.fld k 0 F.SCH_MISS_LAST_KIND = (if m.late then 0 else 1) ∧ t.fld k 0 F.SCH_MISS_LAST_STACK = m.stack ∧
    t.fld k 0 F.SCH_MISS_LAST_CHANNEL = m.ch ∧ t.fld k 0 F.SCH_MISS_LAST_PC = m.pc ∧ t.fld k 0 F.SCH_MISS_LAST_CLASS = m.cls ∧
    t.fld k 0 F.SCH_MISS_LAST_FRAME = m.frame ∧ (m.late = true → t.fld k 0 F.SCH_MISS_LABEL_LABEL = m.label) := by
  have hread : ∀ g v, (g, v) ∈ missFields m → v < 2 ^ (g.hi + 1 - g.lo) → t.fld k 0 g = v := fun g v hg hv => by
    rw [h.fields k g v hk hr hg, Nat.mod_eq_of_lt hv]
  have hstack : m.stack < 8 := Nat.lt_of_lt_of_le hm s.n_le
  have hkind : b2n (!m.late) = if m.late then 0 else 1 := by cases m.late <;> rfl
  have hbit : b2n (!m.late) < 2 := by cases m.late <;> decide
  refine ⟨hkind ▸ hread _ _ ?_ hbit, hread _ _ ?_ hstack, hread _ _ ?_ hch, hread _ _ ?_ hpc, hread _ _ ?_ hcls,
    hread _ _ ?_ hframe, fun hlate => hread _ _ ?_ hlabel⟩
  case refine_7 => simp [missFields, hlate]
  all_goals simp [missFields]

theorem exec_missEventApply (s : State) (m : Miss) (h : s.missDue = [m]) : exec .missEventApply s = .next
    ((s.errDue.filter isMissBit).foldl sendErr
      (applyMiss { s with missDue := [], errDue := s.errDue.filter (fun e => !isMissBit e) } m)) := by
  change execMissEventApply s = _
  rw [execMissEventApply, h]
  rfl

/-- A miss bit is one of SCH. -/
theorem index_of_isMissBit {e : Nat × Nat × Nat} (h : isMissBit e = true) : e.2.1 = Page.index 0 .sch := by
  simp only [isMissBit, Bool.and_eq_true, beq_iff_eq] at h
  exact h.1

theorem claims_missEventApply : Claims.MissEventApply := by
  intro s m hshape hdue hm hall hch hpc hcls hframe hlabel hfrozen hroom
  have hreach : ∀ k, k < s.n → s.reach m.stack k = true := by
    intro k hk
    have hring : s.ringTo m.stack k = true := by
      simp only [State.reachAll, List.all_eq_true, List.mem_range] at hall
      exact hall k hk
    simp only [State.ringTo, State.reach, Bool.or_eq_true, Bool.and_eq_true] at hring ⊢
    obtain h | ⟨-, h⟩ := hring
    · exact .inl (.inl h)
    · exact h
  have happ := missApplied_applyMiss { s with missDue := [], errDue := s.errDue.filter (fun e => !isMissBit e) } m hshape.1 hm
  refine ⟨_, exec_missEventApply s m hdue, ?_⟩
  generalize applyMiss { s with missDue := [], errDue := s.errDue.filter (fun e => !isMissBit e) } m = u at happ
  have hn : u.n = s.n := by rw [happ.state]; rfl
  have hureach : u.reach = s.reach := State.reach_congr hn fun j => by rw [happ.stack j]; exact ⟨rfl, rfl⟩
  have hsent := ErrsSent.foldl u (s.errDue.filter isMissBit) (by rw [happ.length, hn]; exact hshape.1)
  generalize (s.errDue.filter isMissBit).foldl sendErr u = t at hsent
  have hirqs : t.irqs = u.irqs := by rw [hsent.frame.state]
  refine ⟨by rw [hsent.frame.state, happ.state], by rw [hsent.frame.state, happ.state], fun k b hk hb => ?_, ?_, fun k hk => ?_,
    fun hoff => ?_, fun hon => ?_, ?_, fun k => ?_⟩
  · rw [hsent.bits k .sch b (hn ▸ hk) rfl (by decide) hb, happ.others k 0x10 hk (by decide) (by decide), hureach]
    refine or_congr_right ⟨?_, ?_⟩
    · rintro ⟨e, he, -, hbit, hr⟩
      obtain ⟨hmem, hmiss⟩ := List.mem_filter.mp he
      exact ⟨e, hmem, hmiss, hbit, hr⟩
    · rintro ⟨e, hmem, hmiss, hbit, hr⟩
      exact ⟨e, List.mem_filter.mpr ⟨hmem, hmiss⟩, index_of_isMissBit hmiss, hbit, hr⟩
  · exact (congrArg (mget · _ 0) hsent.frame.pkgCnt).trans (happ.counted hfrozen)
  · have hkeep : ∀ g : FRef, g.page = .sch → g.off = 0x130 ∨ g.off = 0x134 → t.fld k 0 g = u.fld k 0 g := by
      intro g hpage hoff
      rw [State.fld, State.fld, hpage, hsent.others k .sch g.off (hn ▸ hk) rfl (by omega) (by omega)]
    have hregs := happ.registers k hk (hreach k hk) hm hch hpc hcls hframe hlabel
    rwa [hkeep _ rfl (.inl rfl), hkeep _ rfl (.inl rfl), hkeep _ rfl (.inl rfl), hkeep _ rfl (.inl rfl), hkeep _ rfl (.inl rfl),
      hkeep _ rfl (.inl rfl), hkeep _ rfl (.inr rfl)]
  · exact hirqs.trans (happ.irqs.trans (if_neg (Bool.eq_false_iff.mp hoff)))
  · obtain ⟨q, hq, hkind, -, hdetail⟩ := exists_mem_addIrq s.irqs m.irq hroom
    have hadd : t.irqs = addIrq s.irqs m.irq := hirqs.trans (happ.irqs.trans (if_pos hon))
    exact ⟨q, hadd ▸ hq, hkind, hdetail⟩
  · rw [hsent.frame.state, happ.state]
  · rw [hsent.frame.stack k, happ.stack k]
    rfl

/-- Settles O9: the writes reach the copies stack by stack; each sets one bit, or the fields of the miss, and counts its message. -/
theorem pageEvents : Obligations.PageEvents := ⟨claims_pageErrBroadcast, claims_missEventApply⟩

end Sys2Proof.Machine
end

section
/-! PROOFS. The queries of the tile-state map and of ADM (R74, R293), and the end of a deaccession (R294). -/

namespace Sys2Proof.Machine

/-! ### What the live masks decide (R64 to R66) -/

/-- Registers below ADM's probe are enough for the live masks. -/
theorem State.masks_congr {s t : State} {k : Nat} (h : ∀ off, off < 0x200 → t.raw k .adm 0 off = s.raw k .adm 0 off) :
    t.masks k false = s.masks k false := by
  refine List.map_congr_left fun n hn => ?_
  have hlt := List.mem_range.mp hn
  simp only [State.mask, Bool.false_eq_true, if_false]
  rw [h _ (by omega), h _ (by omega)]

theorem State.locOf_congr {s t : State} {k : Nat} (h : ∀ off, off < 0x200 → t.raw k .adm 0 off = s.raw k .adm 0 off) :
    t.locOf k = s.locOf k := by
  funext o
  rw [State.locOf, State.locOf, State.masks_congr h]

theorem State.backed_congr {s t : State} (h : t.part = s.part) : t.backed = s.backed := by
  funext o
  rw [State.backed, State.backed, h]

/-- A register of another page of the stack's window leaves ADM. -/
theorem raw_adm_setRaw (s : State) (k : Nat) (pg : Page) (o v off : Nat) (ho : o < 0x1000) (hoff : off < 0x1000)
    (hp : pg.index 0 ≠ Page.index 0 .adm ∨ 0x200 ≤ o ∧ off < 0x200) :
    (s.setRaw k pg 0 o v).raw k .adm 0 off = s.raw k .adm 0 off := by
  refine State.raw_setRaw_other s k k pg .adm 0 0 o off v (.inr (.inr ?_))
  have hadm : Page.index 0 .adm = 8 := rfl
  unfold regKey
  omega

theorem RegsFrame.setFld (s : State) (k i : Nat) (f : FRef) (v : Nat) (hp : f.page.isPkg = false) :
    RegsFrame k s (s.setFld k i f v) :=
  .setRaw s k f.page i f.off _ hp

/-! ### Tile queries (R293) -/

/-- TSM_QUERY_RES.STATE of a tile state (R293). -/
def TileState.code : TileState → Nat
  | .invalid => 0
  | .opened => 1
  | .sealed => 2
  | .retired => 3

theorem tsmLookup_of_backed (s : State) (k o : Nat)
    (ho : o = s.fld k 0 F.TSM_QUERY_LO_BASE_31_12 * 2 ^ 12 + s.fld k 0 F.TSM_QUERY_HI_BASE_39_32 * 2 ^ 32) (hback : s.backed o = true)
    (hstk : (s.locOf k o).stack = k) : tsmLookup s k =
      2 ^ 31 + b2n ((s.stk k).openList.any (fun e => e.tile == (s.locOf k o).tile)) * 2 ^ 30 +
        ((s.stk k).tileSt (s.locOf k o).tile).code := by
  subst ho
  unfold tsmLookup
  simp only [hback, hstk, beq_self_eq_true, Bool.and_self, if_true]
  cases (s.stk k).tileSt _ <;> rfl

/-- IN_STACK and STATE of a result (R293). -/
theorem bits_tsmResult (listed : Bool) (st : TileState) : bits ((2 ^ 31 + b2n listed * 2 ^ 30 + st.code) % 2 ^ 32) 31 31 = 1 ∧
    bits ((2 ^ 31 + b2n listed * 2 ^ 30 + st.code) % 2 ^ 32) 1 0 = st.code := by
  cases listed <;> cases st <;> decide

/-- The state with an offset in the query registers, before its result. -/
def State.queried (s : State) (k : Nat) (hi : Bool) (v : Nat) : State :=
  if hi then s.setFld k 0 F.TSM_QUERY_HI_BASE_39_32 (bits v 7 0) else s.setFld k 0 F.TSM_QUERY_LO_BASE_31_12 (bits v 31 12)

theorem regsFrame_queried (s : State) (k : Nat) (hi : Bool) (v : Nat) : RegsFrame k s (s.queried k hi v) := by
  unfold State.queried
  split
  · exact .setFld s k 0 _ _ rfl
  · exact .setFld s k 0 _ _ rfl

theorem raw_adm_queried (s : State) (k : Nat) (hi : Bool) (v off : Nat) (h : off < 0x200) :
    (s.queried k hi v).raw k .adm 0 off = s.raw k .adm 0 off := by
  unfold State.queried
  split
  · exact raw_adm_setRaw s k .tsm 0x104 _ off (by decide) (by omega) (.inl (by decide))
  · exact raw_adm_setRaw s k .tsm 0x100 _ off (by decide) (by omega) (.inl (by decide))

/-- What a write of a query register leaves: the query as written, and its result where the stack holds the tile (R293). -/
theorem tsmQuery_spec (s : State) (k : Nat) (hi : Bool) (v : Nat) (hk : k < s.stks.length) :
    RegsFrame k s (writeTsmQuery s k hi v) ∧
    (∀ f : FRef, f.page = .tsm → f.off ≠ 0x108 → (writeTsmQuery s k hi v).fld k 0 f = (s.queried k hi v).fld k 0 f) ∧
    ∀ o, o = (s.queried k hi v).fld k 0 F.TSM_QUERY_LO_BASE_31_12 * 2 ^ 12 +
        (s.queried k hi v).fld k 0 F.TSM_QUERY_HI_BASE_39_32 * 2 ^ 32 → s.backed o = true → (s.locOf k o).stack = k →
      bits (tsmQueryRes (writeTsmQuery s k hi v) k) 31 31 = 1 ∧
      bits (tsmQueryRes (writeTsmQuery s k hi v) k) 1 0 = ((s.stk k).tileSt (s.locOf k o).tile).code := by
  have hframe := regsFrame_queried s k hi v
  have hloc : (s.queried k hi v).locOf k = s.locOf k := State.locOf_congr fun off h => raw_adm_queried s k hi v off h
  have hwrite : writeTsmQuery s k hi v = (s.queried k hi v).setRaw k .tsm 0 0x108 (tsmLookup (s.queried k hi v) k) := rfl
  refine ⟨hframe.trans (.setRaw _ k .tsm 0 0x108 _ rfl), fun f hpage hoff => ?_, fun o ho hback hstk => ?_⟩
  · rw [hwrite, State.fld, State.fld, hpage, State.raw_setRaw_other _ k k .tsm .tsm 0 0 0x108 f.off _
      (.inr (.inr (regKey_ne_of_off .tsm 0 hoff)))]
  · have htiles : ((s.queried k hi v).stk k).tileSt = (s.stk k).tileSt := by rw [(hframe.stack k).1]; rfl
    have hlook := tsmLookup_of_backed _ k o ho (by rwa [State.backed_congr hframe.part]) (by rwa [hloc])
    rw [tsmQueryRes, hwrite, State.raw_setRaw_same _ k .tsm 0 0x108 _ (hframe.length ▸ hk), hlook, hloc, htiles]
    exact bits_tsmResult _ _

theorem exec_tsmQuery (s : State) (src : Source) (k : Nat) (hi : Bool) (v : Reg32) (hwin : s.winOk k = true) :
    exec (.tsmQuery src k hi v) s = .next (writeTsmQuery s k hi v.toNat) := by
  change execTsmQuery src k hi v s = _
  simp [execTsmQuery, hwin]

/-! ### The ADM probe (R74) -/

/-- A probe register takes its field, and nothing else changes. -/
theorem runs_admProbe {s : State} {src : Source} {k off : Nat} {v : Reg32} {f : FRef} {x : Nat} {P : State → Prop}
    (hexec : exec (.admProbe src k off v) s = .next (s.setFld k 0 f x)) (hk : k < s.stks.length)
    (hf : f.page.isPkg = false ∧ f.lo ≤ f.hi + 1 ∧ f.hi < 32) (hx : x < 2 ^ (f.hi + 1 - f.lo)) (hP : P (s.setFld k 0 f x)) :
    Runs (.admProbe src k off v) s (fun t => t.fld k 0 f = x ∧ OnlyStk k s t ∧ RegsOnly (s.stk k) (t.stk k) ∧ P t) := by
  obtain ⟨hp, hlo, hhi⟩ := hf
  have hframe := RegsFrame.setFld s k 0 f x hp
  exact ⟨_, hexec, (State.fld_setFld_same s k 0 f x hk hlo hhi).trans (Nat.mod_eq_of_lt hx), hframe.onlyStk, (hframe.stack k).1, hP⟩

theorem exec_admProbe (s : State) (src : Source) (k off : Nat) (v : Reg32) (hwin : s.winOk k = true) :
    exec (.admProbe src k off v) s = .next (if off = 0x200 then s.setFld k 0 F.ADM_PROBE_LO_OFFSET_31_0 v.toNat
      else if off = 0x204 then s.setFld k 0 F.ADM_PROBE_HI_OFFSET_39_32 (bits v.toNat 7 0)
      else if off = 0x208 then s.setFld k 0 F.ADM_PROBE_CTRL_USE_STAGED (bits v.toNat 0 0) else s) := by
  change execAdmProbe src k off v s = _
  simp [execAdmProbe, hwin]

/-- The row and column of a probe with the live masks (R74). -/
theorem admProbeRes_live (s : State) (k : Nat) (h : s.flag k 0 F.ADM_PROBE_CTRL_USE_STAGED = false) : (admProbeRes s k).2 =
    (s.locOf k (s.fld k 0 F.ADM_PROBE_LO_OFFSET_31_0 + s.fld k 0 F.ADM_PROBE_HI_OFFSET_39_32 * 2 ^ 32)).row * 2 ^ 5 +
    (s.locOf k (s.fld k 0 F.ADM_PROBE_LO_OFFSET_31_0 + s.fld k 0 F.ADM_PROBE_HI_OFFSET_39_32 * 2 ^ 32)).col := by
  unfold admProbeRes
  simp only [h]
  rfl

/-- A probe of an offset's low word decomposes the offset with the live masks (R74). -/
theorem admProbeRes_setFld_lo (s : State) (k v : Nat) (hk : k < s.stks.length) (hv : v < 2 ^ 32)
    (h : s.flag k 0 F.ADM_PROBE_CTRL_USE_STAGED = false) : (admProbeRes (s.setFld k 0 F.ADM_PROBE_LO_OFFSET_31_0 v) k).2 =
    (s.locOf k (v + s.fld k 0 F.ADM_PROBE_HI_OFFSET_39_32 * 2 ^ 32)).row * 2 ^ 5 +
    (s.locOf k (v + s.fld k 0 F.ADM_PROBE_HI_OFFSET_39_32 * 2 ^ 32)).col := by
  have hloc : (s.setFld k 0 F.ADM_PROBE_LO_OFFSET_31_0 v).locOf k = s.locOf k := State.locOf_congr fun off hoff =>
    raw_adm_setRaw s k .adm 0x200 _ off (by decide) (by omega) (.inr ⟨by decide, hoff⟩)
  have hlo : (s.setFld k 0 F.ADM_PROBE_LO_OFFSET_31_0 v).fld k 0 F.ADM_PROBE_LO_OFFSET_31_0 = v :=
    (State.fld_setFld_same s k 0 _ v hk (by decide) (by decide)).trans (Nat.mod_eq_of_lt hv)
  rw [admProbeRes_live, hloc, hlo, fld_setFld_of_apart s k 0 _ F.ADM_PROBE_HI_OFFSET_39_32 v hk rfl]
  rw [State.flag, fld_setFld_of_apart s k 0 _ F.ADM_PROBE_CTRL_USE_STAGED v hk rfl]
  exact h

/-- A write of a query register, in what the claim says of it; lo and up are the two parts of the offset that it leaves. -/
theorem runs_tsmQuery {s : State} {src : Source} {k : Nat} {hi : Bool} {v : Reg32} {f : FRef} {x lo up : Nat} (hwin : s.winOk k = true)
    (hk : k < s.stks.length) (hf : f.page = .tsm ∧ f.off ≠ 0x108) (hx : (s.queried k hi v.toNat).fld k 0 f = x)
    (hlo : (s.queried k hi v.toNat).fld k 0 F.TSM_QUERY_LO_BASE_31_12 = lo)
    (hup : (s.queried k hi v.toNat).fld k 0 F.TSM_QUERY_HI_BASE_39_32 = up) :
    Runs (.tsmQuery src k hi v) s (fun t => t.fld k 0 f = x ∧ OnlyStk k s t ∧ RegsOnly (s.stk k) (t.stk k) ∧
      ∀ o, o = lo * 2 ^ 12 + up * 2 ^ 32 → s.backed o = true → (s.locOf k o).stack = k →
        bits (tsmQueryRes t k) 31 31 = 1 ∧ bits (tsmQueryRes t k) 1 0 =
          match (s.stk k).tileSt (s.locOf k o).tile with | .invalid => 0 | .opened => 1 | .sealed => 2 | .retired => 3) := by
  obtain ⟨hframe, hfld, hres⟩ := tsmQuery_spec s k hi v.toNat hk
  rw [hlo, hup] at hres
  refine ⟨_, exec_tsmQuery s src k hi v hwin, (hfld f hf.1 hf.2).trans hx, hframe.onlyStk, (hframe.stack k).1,
    fun o ho hback hstk => ?_⟩
  obtain ⟨hin, hst⟩ := hres o ho hback hstk
  refine ⟨hin, hst.trans ?_⟩
  cases (s.stk k).tileSt (s.locOf k o).tile <;> rfl

theorem claims_queries : Claims.Queries := by
  refine ⟨fun s src k v hshape hwin => ⟨?_, ?_⟩, fun s src k v hshape hwin => ⟨?_, ?_, ?_⟩⟩
  · have hk := lt_of_winOk hshape hwin
    have hlo := (State.fld_setFld_same s k 0 F.TSM_QUERY_LO_BASE_31_12 (bits v.toNat 31 12) hk (by decide) (by decide)).trans
      (Nat.mod_eq_of_lt (bits_lt _ _ _))
    exact runs_tsmQuery hwin hk ⟨rfl, by decide⟩ hlo hlo (fld_setFld_of_apart s k 0 _ _ _ hk rfl)
  · have hk := lt_of_winOk hshape hwin
    have hhi := (State.fld_setFld_same s k 0 F.TSM_QUERY_HI_BASE_39_32 (bits v.toNat 7 0) hk (by decide) (by decide)).trans
      (Nat.mod_eq_of_lt (bits_lt _ _ _))
    exact runs_tsmQuery hwin hk ⟨rfl, by decide⟩ hhi (fld_setFld_of_apart s k 0 _ _ _ hk rfl) hhi
  · have hk := lt_of_winOk hshape hwin
    exact runs_admProbe (exec_admProbe s src k 0x200 v hwin) hk (by decide) v.isLt
      fun h => admProbeRes_setFld_lo s k v.toNat hk v.isLt h
  · have hk := lt_of_winOk hshape hwin
    obtain ⟨t, hexec, hfld, honly, hregs, -⟩ := runs_admProbe (P := fun _ => True) (exec_admProbe s src k 0x204 v hwin) hk (by decide)
      (bits_lt v.toNat 7 0) trivial
    exact ⟨t, hexec, hfld, honly, hregs⟩
  · have hk := lt_of_winOk hshape hwin
    obtain ⟨t, hexec, hfld, honly, hregs, -⟩ := runs_admProbe (P := fun _ => True) (exec_admProbe s src k 0x208 v hwin) hk (by decide)
      (bits_lt v.toNat 0 0) trivial
    exact ⟨t, hexec, hfld, honly, hregs⟩

end Sys2Proof.Machine
end

section
/-! PROOFS. What the slots, the sealer's write-backs and the opening of a tile leave of the tile-state map (R208 to R216, R234, R275,
R281). -/

namespace Sys2Proof.Machine

/-! ### Changes that keep the tiles of a stack -/

/-- From s to t only stack k, the dies' bytes and the free values drawn changed; of the stack its tiles' states and which of its
channels are usable stay. -/
structure KeepsTiles (k : Nat) (s t : State) : Prop where
  state : t = { s with stks := t.stks, dies := t.dies, free := t.free }
  length : t.stks.length = s.stks.length
  other : ∀ j, j ≠ k → t.stk j = s.stk j
  tiles : (t.stk k).tiles = (s.stk k).tiles
  usable : (t.stk k).chans.map Chan.unusable = (s.stk k).chans.map Chan.unusable

namespace KeepsTiles

variable {k : Nat} {s t u : State}

theorem refl (k : Nat) (s : State) : KeepsTiles k s s := ⟨rfl, rfl, fun _ _ => rfl, rfl, rfl⟩

theorem trans (h : KeepsTiles k s t) (g : KeepsTiles k t u) : KeepsTiles k s u where
  state := by rw [g.state, h.state]
  length := g.length.trans h.length
  other j hj := (g.other j hj).trans (h.other j hj)
  tiles := g.tiles.trans h.tiles
  usable := g.usable.trans h.usable

theorem draw (k : Nat) (s : State) : KeepsTiles k s s.draw.2 := ⟨rfl, rfl, fun _ _ => rfl, rfl, rfl⟩

theorem setDie (s : State) (k : Nat) (l : Loc) (bs : List Byte) : KeepsTiles k s (s.setDie k l bs) :=
  ⟨rfl, rfl, fun _ _ => rfl, rfl, rfl⟩

theorem modStk (s : State) (k : Nat) (f : Stack → Stack) (htiles : ∀ x, (f x).tiles = x.tiles)
    (husable : ∀ x, (f x).chans.map Chan.unusable = x.chans.map Chan.unusable) : KeepsTiles k s (s.modStk k f) :=
  ⟨rfl, length_modify' _ _ _, fun j hj => State.stk_modStk_other s k j f hj, State.stk_modStk_proj Stack.tiles htiles s k k,
    State.stk_modStk_proj (fun x => x.chans.map Chan.unusable) husable s k k⟩

/-- A change of stack k that leaves its tiles and channels. -/
theorem of_stksFrame {R : Stack → Stack → Prop} (h : StksFrame (AtStk k R) s t)
    (hR : ∀ x y, R x y → y.tiles = x.tiles ∧ y.chans = x.chans) : KeepsTiles k s t := by
  obtain ⟨htiles, hchans⟩ := hR _ _ (h.stack k).1
  exact ⟨by rw [h.state], h.length, fun j hj => (h.stack j).2 hj, htiles, by rw [hchans]⟩

theorem modCh (s : State) (k c : Nat) (f : Chan → Chan) (hf : ∀ x, (f x).unusable = x.unusable) : KeepsTiles k s (s.modCh k c f) :=
  modStk s k _ (fun _ => rfl) fun x => map_modify_of_eq Chan.unusable f hf x.chans c

theorem modPc (s : State) (k c i : Nat) (f : PChan → PChan) : KeepsTiles k s (s.modPc k c i f) := modCh s k c _ fun _ => rfl

theorem count (s : State) (k : Nat) (pg : Page) (i c n : Nat) (hp : pg.isPkg = false) : KeepsTiles k s (s.count k pg i c n) :=
  of_stksFrame (CountFrame.count s k pg i c n hp) fun x y h => by rw [h]; exact ⟨rfl, rfl⟩

theorem report (s : State) (k : Nat) (x : Kind) (i sub addr : Nat) (hp : x.page.isPkg = false) :
    KeepsTiles k s (s.report k x i sub addr) := by
  have hstk := stk_report s k x i sub addr
  obtain ⟨st, ep, heq, hlen⟩ := s.report_eq k x i sub addr
  refine ⟨by rw [report_of_stack_page s k x i sub addr hp], by rw [heq, hlen], fun j hj => (hstk j).2 hj, ?_, ?_⟩
  · rw [(hstk k).1]
  · rw [(hstk k).1]

theorem foldl {α : Type} (f : State → α → State) (hf : ∀ s a, KeepsTiles k s (f s a)) (l : List α) (s : State) :
    KeepsTiles k s (l.foldl f s) := by
  induction l generalizing s with
  | nil => exact refl k s
  | cons a l ih => exact (hf s a).trans (ih _)

/-! ### Slots (R234, R238, R244) -/

theorem activate (s : State) (k ch pc bank row : Nat) : KeepsTiles k s (activate s k ch pc bank row) := by
  have hopen : KeepsTiles k s ((s.modPc k ch pc s.wakePc).count k .ctl ch 0 1) := (modPc s k ch pc _).trans (count _ k .ctl ch 0 1 rfl)
  simp only [Machine.activate]
  split
  · split
    · exact (hopen.trans (modPc _ k ch pc _)).trans (modPc _ k ch pc _)
    · exact hopen.trans (modPc _ k ch pc _)
  · exact hopen.trans (modPc _ k ch pc _)

theorem openRow (s : State) (k : Nat) (l : Loc) (w : Who) : KeepsTiles k s (openRow s k l w) := by
  simp only [Machine.openRow]
  split
  · exact refl k s
  · exact ((draw k s).trans (modPc _ k l.ch l.pc _)).trans (activate _ k l.ch l.pc _ _)

theorem busTurn (s : State) (k ch pc : Nat) (w : Who) (wr : Bool) : KeepsTiles k s (busTurn s k ch pc w wr) := by
  unfold Machine.busTurn
  split
  · exact modPc s k ch pc _
  · split
    · exact refl k s
    · exact (modPc s k ch pc _).trans (count _ k .ctl ch 5 1 rfl)

/-- A word of the sealer takes its slot from the window (R48). -/
theorem charge1 (s : State) (k : Nat) (l : Loc) (w : Who) (wr : Bool) (hw : w.bg = true) : KeepsTiles k s (charge1 s k l w wr) := by
  rw [Machine.charge1, takeSlot, if_pos hw, State.workWindow]
  exact ((openRow s k l w).trans (busTurn _ k l.ch l.pc w wr)).trans (modPc _ k l.ch l.pc _)

theorem postWrite (s : State) (k : Nat) (l : Loc) (w : Who) (hw : w.bg = true) : KeepsTiles k s (postWrite s k l w) := by
  rw [Machine.postWrite, hw, Bool.true_or, if_pos rfl]
  exact charge1 s k l w true hw

/-! ### Lines (R211, R213, R215) -/

theorem writeBack (s : State) (k : Nat) (y : Line) (w : Who) (hw : w.bg = true) : KeepsTiles k s (writeBack s k y w) := by
  simp only [Machine.writeBack]
  refine ((foldl _ (fun u i => ?_) _ s).trans (count _ k .vit 0 2 _ rfl)).trans (modStk _ k _ (fun _ => rfl) fun _ => rfl)
  exact (setDie u k _ _).trans (postWrite _ k _ w hw)

theorem touch (s : State) (k : Nat) (l : Loc) (way : Nat) : KeepsTiles k s (touch s k l way) := modCh s k l.ch _ fun _ => rfl

theorem modLine (s : State) (k : Nat) (l : Loc) (parity : Bool) (f : Line → Line) : KeepsTiles k s (s.modLine k l parity f) :=
  modStk s k _ (fun _ => rfl) fun _ => rfl

/-- A change of the lines. -/
theorem withLines (s : State) (k : Nat) (g : Stack → List Line) : KeepsTiles k s (s.modStk k (fun x => { x with lines := g x })) :=
  modStk s k _ (fun _ => rfl) fun _ => rfl

theorem alloc (s : State) (k : Nat) (l : Loc) (parity pin : Bool) (w : Who) (hw : w.bg = true) (h : alloc s k l parity pin w = some t) :
    KeepsTiles k s t := by
  unfold Machine.alloc at h
  split at h
  · cases h
  · simp only at h
    split at h
    · cases h
    · obtain rfl := Option.some.inj h
      refine (KeepsTiles.trans ?_ (withLines _ k _)).trans (touch _ k l _)
      split
      · exact (writeBack s k _ w hw).trans (withLines _ k _)
      · exact refl k s

/-! ### A tile that turns OPEN (R215, R281, R286) -/

theorem listOpen (s : State) (k x : Nat) (turns : Bool) : KeepsTiles k s (listOpen s k x turns) := by
  unfold Machine.listOpen
  simp only
  split
  · exact modStk s k _ (fun _ => rfl) fun _ => rfl
  · split
    · exact refl k s
    · split
      · exact modStk s k _ (fun _ => rfl) fun _ => rfl
      · have hmark : KeepsTiles k s (s.modStk k (fun x => { x with overflow := true })) := modStk s k _ (fun _ => rfl) fun _ => rfl
        exact (hmark.trans (count _ k .scb 0 7 1 rfl)).trans (report _ k _ 0 0 _ rfl)

theorem pinParity (s : State) (k x : Nat) (w : Who) (hw : w.bg = true) : KeepsTiles k s (pinParity s k x w) := by
  unfold Machine.pinParity
  simp only
  split
  · exact refl k s
  · split
    · exact count s k .vit 0 4 1 rfl
    · split
      · exact modLine s k _ true _
      · split
        · rename_i t halloc
          exact alloc s k _ true true w hw halloc
        · exact refl k s

/-! ### A tile that leaves the open list and its seal (R277) -/

/-- A change of the seals. -/
theorem withSeals (s : State) (k : Nat) (g : Stack → List Seal) : KeepsTiles k s (s.modStk k (fun x => { x with seals := g x })) :=
  modStk s k _ (fun _ => rfl) fun _ => rfl

theorem abortSeal (s : State) (k x : Nat) : KeepsTiles k s (abortSeal s k x) := by
  unfold Machine.abortSeal
  split
  · exact (withSeals s k _).trans (count _ k .scb 0 4 1 rfl)
  · exact refl k s

theorem dropSeal (s : State) (k x : Nat) : KeepsTiles k s (dropSeal s k x) :=
  (abortSeal s k x).trans (withSeals _ k _)

theorem unlist (s : State) (k x : Nat) : KeepsTiles k s (unlist s k x) := modStk s k _ (fun _ => rfl) fun _ => rfl

theorem dropAccs (s : State) (k x : Nat) : KeepsTiles k s (dropAccs s k x) := modCh s k (tileCh x) _ fun _ => rfl

theorem dropLines (s : State) (k x : Nat) (parity : Bool) : KeepsTiles k s (dropLines s k x parity) :=
  modStk s k _ (fun _ => rfl) fun _ => rfl

end KeepsTiles

end Sys2Proof.Machine
end

section
/-! PROOFS. Deaccession: RETIRE, RELEASE and REOPEN over the tiles of a span (R279, R294). -/

namespace Sys2Proof.Machine

/-! ### One tile takes a state (R275, R279) -/

/-- From s to t tile x of stack k took state st; beside it only what `KeepsTiles` lets change did. -/
structure SetsTile (k x : Nat) (st : TileState) (s t : State) : Prop where
  state : t = { s with stks := t.stks, dies := t.dies, free := t.free }
  length : t.stks.length = s.stks.length
  other : ∀ j, j ≠ k → t.stk j = s.stk j
  same : k < s.stks.length → (t.stk k).tileSt x = st
  tiles : ∀ y, y ≠ x → (t.stk k).tileSt y = (s.stk k).tileSt y
  usable : (t.stk k).chans.map Chan.unusable = (s.stk k).chans.map Chan.unusable

theorem KeepsTiles.tileSt {k : Nat} {s t : State} (h : KeepsTiles k s t) (x : Nat) : (t.stk k).tileSt x = (s.stk k).tileSt x := by
  rw [Stack.tileSt, h.tiles, Stack.tileSt]

namespace SetsTile

variable {k x : Nat} {st : TileState} {s t u : State}

theorem setTile (s : State) (k x : Nat) (st : TileState) : SetsTile k x st s (s.setTile k x st) where
  state := rfl
  length := length_modify' _ _ _
  other j hj := State.stk_modStk_other s k j _ hj
  same hk := by
    rw [State.setTile, State.stk_modStk_same s k _ hk]
    exact mget_mput_same _ _ _ _
  tiles y hy := by
    refine State.stk_modStk_proj (fun z => z.tileSt y) ?_ s k k
    exact fun _ => mget_mput_other _ _ _ _ _ _ hy
  usable := by
    refine State.stk_modStk_proj (fun z => z.chans.map Chan.unusable) ?_ s k k
    exact fun _ => rfl

theorem after (h : KeepsTiles k s t) (g : SetsTile k x st t u) : SetsTile k x st s u where
  state := by rw [g.state, h.state]
  length := g.length.trans h.length
  other j hj := (g.other j hj).trans (h.other j hj)
  same hk := g.same (h.length ▸ hk)
  tiles y hy := (g.tiles y hy).trans (h.tileSt y)
  usable := g.usable.trans h.usable

theorem then_keeps (h : SetsTile k x st s t) (g : KeepsTiles k t u) : SetsTile k x st s u where
  state := by rw [g.state, h.state]
  length := g.length.trans h.length
  other j hj := (g.other j hj).trans (h.other j hj)
  same hk := (g.tileSt x).trans (h.same hk)
  tiles y hy := (g.tileSt y).trans (h.tiles y hy)
  usable := g.usable.trans h.usable

theorem retireTile (s : State) (k x : Nat) (h : (s.stk k).tileSt x ≠ .retired) : SetsTile k x .retired s (retireTile s k x) := by
  rw [Machine.retireTile, if_neg h]
  exact (after ((KeepsTiles.dropSeal s k x).trans (.unlist _ k x)) (setTile _ k x .retired)).then_keeps (.count _ k .tsm 0 2 1 rfl)

theorem length_retireTile (s : State) (k x : Nat) : (Machine.retireTile s k x).stks.length = s.stks.length := by
  by_cases h : (s.stk k).tileSt x = .retired
  · rw [Machine.retireTile, if_pos h]
  · exact (retireTile s k x h).length

theorem turnOpen (s : State) (k x : Nat) (w : Who) (hw : w.bg = true) : SetsTile k x .opened s (turnOpen s k x w) :=
  ((setTile s k x .opened).then_keeps (.listOpen _ k x true)).then_keeps (.pinParity _ k x w hw)

end SetsTile

/-! ### What leaves the dies and brings no line -/

/-- From s to t the dies' bytes stay, and stack k holds no line that it did not hold. -/
structure KeepsStore (k : Nat) (s t : State) : Prop where
  dies : t.dies = s.dies
  lines : ∀ y ∈ (t.stk k).lines, y ∈ (s.stk k).lines

namespace KeepsStore

variable {k : Nat} {s t u : State}

theorem refl (k : Nat) (s : State) : KeepsStore k s s := ⟨rfl, fun _ h => h⟩

theorem trans (h : KeepsStore k s t) (g : KeepsStore k t u) : KeepsStore k s u :=
  ⟨g.dies.trans h.dies, fun y hy => h.lines y (g.lines y hy)⟩

theorem modStk (s : State) (k : Nat) (f : Stack → Stack) (hf : ∀ x, (f x).lines = x.lines) : KeepsStore k s (s.modStk k f) :=
  ⟨rfl, fun _ hy => State.stk_modStk_proj Stack.lines hf s k k ▸ hy⟩

theorem count (s : State) (k : Nat) (pg : Page) (i c n : Nat) (hp : pg.isPkg = false) : KeepsStore k s (s.count k pg i c n) := by
  have hframe := CountFrame.count s k pg i c n hp
  exact ⟨by rw [hframe.state], fun y hy => by rwa [hframe.stk k] at hy⟩

theorem abortSeal (s : State) (k x : Nat) : KeepsStore k s (abortSeal s k x) := by
  unfold Machine.abortSeal
  split
  · exact trans (modStk s k _ (by exact fun _ => rfl)) (count _ k .scb 0 4 1 rfl)
  · exact refl k s

theorem retireTile (s : State) (k x : Nat) : KeepsStore k s (retireTile s k x) := by
  unfold Machine.retireTile
  split
  · exact refl k s
  · have hseal : KeepsStore k s (dropSeal s k x) := (abortSeal s k x).trans (modStk _ k _ fun _ => rfl)
    have hlist : KeepsStore k (dropSeal s k x) (unlist (dropSeal s k x) k x) := modStk _ k _ fun _ => rfl
    have htile : KeepsStore k (unlist (dropSeal s k x) k x) ((unlist (dropSeal s k x) k x).setTile k x .retired) :=
      modStk _ k _ fun _ => rfl
    exact ((hseal.trans hlist).trans htile).trans (count _ k .tsm 0 2 1 rfl)

theorem setTile (s : State) (k x : Nat) (st : TileState) : KeepsStore k s (s.setTile k x st) := modStk s k _ fun _ => rfl

theorem dropAccs (s : State) (k x : Nat) : KeepsStore k s (dropAccs s k x) := modStk s k _ fun _ => rfl

/-- A tile's lines, parity included, are dropped without a write-back (R279). -/
theorem dropLines (s : State) (k x : Nat) (hk : k < s.stks.length) : KeepsStore k s (dropLines s k x true) ∧
    ∀ y ∈ ((dropLines s k x true).stk k).lines, (y.loc k 0).tile ≠ x := by
  have hlines : ((Machine.dropLines s k x true).stk k).lines =
      (s.stk k).lines.filter (fun y => !((y.loc k 0).tile == x && (true || !y.parity))) := by
    rw [Machine.dropLines, State.stk_modStk_same s k _ hk]
  refine ⟨⟨rfl, fun y hy => ?_⟩, fun y hy => ?_⟩
  · rw [hlines] at hy
    exact (List.mem_filter.mp hy).1
  · rw [hlines] at hy
    simpa using (List.mem_filter.mp hy).2

end KeepsStore

/-! ### A deaccession acts on one tile (R279) -/

/-- The state into which an action brings tiles: RETIRE, RELEASE, REOPEN. -/
def deaccTo : Nat → TileState
  | 0 => .retired
  | 1 => .invalid
  | _ => .opened

/-- An action changes tiles in this state: RETIRE all but the RETIRED ones, RELEASE and REOPEN these. -/
def deaccActs (act : Nat) (st : TileState) : Bool := (st == .retired) != decide (act = 0)

/-- The state of a tile after an action. -/
def deaccState (act : Nat) (st : TileState) : TileState := if act = 0 ∨ st = .retired then deaccTo act else st

theorem deaccState_of_acts {act : Nat} {st : TileState} (h : deaccActs act st = true) : deaccState act st = deaccTo act := by
  refine if_pos ?_
  by_cases hact : act = 0
  · exact .inl hact
  · exact .inr (by simpa [deaccActs, hact] using h)

theorem deaccState_of_not_acts {act : Nat} {st : TileState} (h : deaccActs act st = false) : deaccState act st = st := by
  by_cases hact : act = 0
  · have hst : st = .retired := by simpa [deaccActs, hact] using h
    rw [deaccState, if_pos (.inl hact), hact, hst]
    rfl
  · have hst : st ≠ .retired := by simpa [deaccActs, hact] using h
    exact if_neg (by simp [hact, hst])

/-- What an action does to a tile that it changes. -/
def deaccOne (act k : Nat) (s : State) (x : Nat) : State :=
  match act with
  | 0 => dropLines (dropAccs (retireTile s k x) k x) k x true
  | 1 => dropLines (dropAccs (s.setTile k x .invalid) k x) k x true
  | _ => turnOpen s k x Who.sealer

theorem deaccTile_eq (act k : Nat) (acc : Nat × State) (x : Nat) (h : ((acc.2.stk k).ch (tileCh x)).unusable = false) :
    deaccTile act k acc x =
      if deaccActs act ((acc.2.stk k).tileSt x) = true then (acc.1 + 1, deaccOne act k acc.2 x) else acc := by
  unfold deaccTile deaccOne deaccActs
  rw [if_neg (by simp [h])]
  split <;> by_cases hst : (acc.2.stk k).tileSt x = .retired <;> simp_all

theorem setsTile_deaccOne (act k : Nat) (s : State) (x : Nat) (h : deaccActs act ((s.stk k).tileSt x) = true) :
    SetsTile k x (deaccTo act) s (deaccOne act k s x) := by
  unfold deaccOne
  split
  · have hst : (s.stk k).tileSt x ≠ .retired := by simpa [deaccActs] using h
    exact ((SetsTile.retireTile s k x hst).then_keeps (.dropAccs _ k x)).then_keeps (.dropLines _ k x true)
  · exact ((SetsTile.setTile s k x .invalid).then_keeps (.dropAccs _ k x)).then_keeps (.dropLines _ k x true)
  · rename_i h0 h1
    have hto : deaccTo act = .opened := by
      unfold deaccTo
      split <;> simp_all
    rw [hto]
    exact SetsTile.turnOpen s k x Who.sealer rfl

/-- RETIRE and RELEASE leave no line of the tile, and write nothing to the dies (R279). -/
theorem keepsStore_deaccOne (act k : Nat) (s : State) (x : Nat) (hk : k < s.stks.length) (hact : act < 2) :
    KeepsStore k s (deaccOne act k s x) ∧ ∀ y ∈ ((deaccOne act k s x).stk k).lines, (y.loc k 0).tile ≠ x := by
  have hdrop : ∀ u, KeepsStore k s u → u.stks.length = s.stks.length → KeepsStore k s (dropLines (dropAccs u k x) k x true) ∧
      ∀ y ∈ ((dropLines (dropAccs u k x) k x true).stk k).lines, (y.loc k 0).tile ≠ x := fun u hu hlen => by
    obtain ⟨hstore, hgone⟩ := KeepsStore.dropLines (dropAccs u k x) k x (by rw [(KeepsTiles.dropAccs u k x).length, hlen]; exact hk)
    exact ⟨(hu.trans (.dropAccs u k x)).trans hstore, hgone⟩
  obtain rfl | rfl : act = 0 ∨ act = 1 := by omega
  · exact hdrop _ (.retireTile s k x) (SetsTile.length_retireTile s k x)
  · exact hdrop _ (.setTile s k x .invalid) (SetsTile.setTile s k x .invalid).length

/-! ### A deaccession over a list of tiles -/

/-- The tiles of a list that an action changes in stack k. -/
def State.deaccChanges (s : State) (act k : Nat) (xs : List Nat) : List Nat := xs.filter (fun x => deaccActs act ((s.stk k).tileSt x))

/-- An action has gone over the tiles listed, from s to t, and changed n of them. -/
structure Deaccessed (act k : Nat) (xs : List Nat) (s : State) (n : Nat) (t : State) : Prop where
  state : t = { s with stks := t.stks, dies := t.dies, free := t.free }
  length : t.stks.length = s.stks.length
  other : ∀ j, j ≠ k → t.stk j = s.stk j
  usable : (t.stk k).chans.map Chan.unusable = (s.stk k).chans.map Chan.unusable
  inside : ∀ x ∈ xs, (t.stk k).tileSt x = deaccState act ((s.stk k).tileSt x)
  outside : OtherTiles k s t xs
  changed : n = (s.deaccChanges act k xs).length
  store : act < 2 → KeepsStore k s t
  gone : act < 2 → ∀ x ∈ s.deaccChanges act k xs, ∀ y ∈ (t.stk k).lines, (y.loc k 0).tile ≠ x

namespace Deaccessed

variable {act k n m : Nat} {xs ys : List Nat} {s t u : State}

theorem nil (act k : Nat) (s : State) : Deaccessed act k [] s 0 s :=
  ⟨rfl, rfl, fun _ _ => rfl, rfl, nofun, fun _ _ => rfl, rfl, fun _ => .refl k s, fun _ => nofun⟩

/-- One tile, on a usable channel. -/
theorem single (act k : Nat) (s : State) (x c : Nat) (hk : k < s.stks.length) (h : ((s.stk k).ch (tileCh x)).unusable = false) :
    ∃ n, (deaccTile act k (c, s) x).1 = c + n ∧ Deaccessed act k [x] s n (deaccTile act k (c, s) x).2 := by
  rw [deaccTile_eq act k (c, s) x h]
  cases hacts : deaccActs act ((s.stk k).tileSt x) with
  | true =>
    have hset := setsTile_deaccOne act k s x hacts
    rw [if_pos rfl]
    refine ⟨1, rfl, hset.state, hset.length, hset.other, hset.usable, fun y hy => ?_, fun y hy => ?_, ?_,
      fun hact => (keepsStore_deaccOne act k s x hk hact).1, fun hact y hy => ?_⟩
    · rw [List.mem_singleton.mp hy, hset.same hk, deaccState_of_acts hacts]
    · exact hset.tiles y (by simpa using hy)
    · simp [State.deaccChanges, hacts]
    · obtain rfl : y = x := by simpa using (List.mem_filter.mp hy).1
      exact (keepsStore_deaccOne act k s y hk hact).2
  | false =>
    rw [if_neg Bool.false_ne_true]
    refine ⟨0, rfl, rfl, rfl, fun _ _ => rfl, rfl, fun y hy => ?_, fun _ _ => rfl, ?_, fun _ => .refl k s, fun _ y hy => ?_⟩
    · rw [List.mem_singleton.mp hy, deaccState_of_not_acts hacts]
    · simp [State.deaccChanges, hacts]
    · simp [State.deaccChanges, hacts] at hy

/-- One list of tiles after another, with no tile in common. -/
theorem append (h : Deaccessed act k xs s n t) (g : Deaccessed act k ys t m u) (hdis : ∀ x ∈ xs, x ∉ ys) :
    Deaccessed act k (xs ++ ys) s (n + m) u := by
  have htile : ∀ y ∈ ys, (t.stk k).tileSt y = (s.stk k).tileSt y := fun y hy => h.outside y fun hx => hdis y hx hy
  have hchanges : t.deaccChanges act k ys = s.deaccChanges act k ys := List.filter_congr fun y hy => by rw [htile y hy]
  refine ⟨by rw [g.state, h.state], g.length.trans h.length, fun j hj => (g.other j hj).trans (h.other j hj), g.usable.trans h.usable,
    fun x hx => ?_, fun x hx => ?_, ?_, fun hact => (h.store hact).trans (g.store hact), fun hact x hx y hy => ?_⟩
  · obtain hx | hx := List.mem_append.mp hx
    · rw [g.outside x (hdis x hx), h.inside x hx]
    · rw [g.inside x hx, htile x hx]
  · rw [List.mem_append, not_or] at hx
    exact (g.outside x hx.2).trans (h.outside x hx.1)
  · rw [g.changed, h.changed, hchanges, State.deaccChanges, State.deaccChanges, State.deaccChanges, List.filter_append,
      List.length_append]
  · rw [State.deaccChanges, List.filter_append, List.mem_append] at hx
    obtain hx | hx := hx
    · exact h.gone hact x hx y ((g.store hact).lines y hy)
    · exact g.gone hact x (hchanges ▸ hx) y hy

/-- The tiles of a list, one after the other. -/
theorem foldl (act k : Nat) (xs : List Nat) (s : State) (c : Nat) (hk : k < s.stks.length) (hdup : xs.Nodup)
    (husable : ∀ x ∈ xs, ((s.stk k).ch (tileCh x)).unusable = false) :
    ∃ n, (xs.foldl (deaccTile act k) (c, s)).1 = c + n ∧ Deaccessed act k xs s n (xs.foldl (deaccTile act k) (c, s)).2 := by
  induction xs generalizing s c with
  | nil => exact ⟨0, rfl, nil act k s⟩
  | cons x xs ih =>
    obtain ⟨hx, hrest⟩ := List.nodup_cons.mp hdup
    obtain ⟨n, hn, hone⟩ := single act k s x c hk (husable x List.mem_cons_self)
    have hch : ∀ d, (((deaccTile act k (c, s) x).2.stk k).ch d).unusable = ((s.stk k).ch d).unusable := fun d => by
      have hget : ∀ y : Stack, (y.ch d).unusable = (y.chans.map Chan.unusable).getD d Chan.reset.unusable := fun y =>
        (List.getD_map y.chans Chan.reset Chan.unusable).symm
      rw [hget, hget, hone.usable]
    obtain ⟨m, hm, hall⟩ := ih (deaccTile act k (c, s) x).2 (deaccTile act k (c, s) x).1 (by rw [hone.length]; exact hk) hrest
      fun y hy => by rw [hch]; exact husable y (List.mem_cons_of_mem x hy)
    rw [List.foldl_cons]
    exact ⟨n + m, by rw [hm, hn, Nat.add_assoc], hone.append hall fun y hy => by rwa [List.mem_singleton.mp hy]⟩

end Deaccessed

/-! ### The command (R294) -/

theorem spanTiles_congr {s t : State} {k : Nat} (hpart : t.part = s.part)
    (h : ∀ off, off < 0x200 → t.raw k .adm 0 off = s.raw k .adm 0 off) : t.spanTiles k = s.spanTiles k := by
  funext base n
  simp only [State.spanTiles, State.locOf_congr h, State.backed_congr hpart]

/-- The state with the action of a deaccession written. -/
def State.deaccSet (s : State) (k act : Nat) : State := s.setFld k 0 F.TSM_DEACC_CTRL_ACTION act

/-- What TSM_DEACC_STATUS takes when an operation begins that has changed n tiles. -/
def deaccFields (n : Nat) : List (FRef × Nat) :=
  [(F.TSM_DEACC_STATUS_BUSY, 1), (F.TSM_DEACC_STATUS_DONE, 0), (F.TSM_DEACC_STATUS_REJECTED, 0), (F.TSM_DEACC_STATUS_CHANGED, n)]

/-- A GO that is taken: the action goes over the tiles of the span. -/
theorem writeDeacc_go (s : State) (k v act : Nat) (xs : List Nat) (hgo : bitAt v 31 = true) (hact : bits v 1 0 = act) (hlt : act < 3)
    (hbusy : s.flag k 0 F.TSM_DEACC_STATUS_BUSY = false)
    (hxs : xs = s.spanTiles k (s.fld k 0 F.TSM_DEACC_BASE_LO_BASE_31_12 + s.fld k 0 F.TSM_DEACC_BASE_HI_BASE_39_32 * 2 ^ 20)
      (s.fld k 0 F.TSM_DEACC_TILES_TILES)) : writeDeacc s k v =
    (xs.foldl (deaccTile act k) (0, s.deaccSet k act)).2.setFlds k 0
      (deaccFields (xs.foldl (deaccTile act k) (0, s.deaccSet k act)).1) := by
  have hspan : (s.deaccSet k act).spanTiles k = s.spanTiles k := spanTiles_congr rfl fun off hoff =>
    raw_adm_setRaw s k .tsm 0x11C _ off (by decide) (by omega) (.inl (by decide))
  have hne : (act == 3) = false := by simp; omega
  unfold writeDeacc
  simp only [hgo, hbusy, hact, hne, Bool.not_true, Bool.false_or, Bool.false_eq_true, if_false]
  rw [← State.deaccSet, hspan, ← hxs]
  rfl

/-- A tile whose state an action changes is one that it acts on. -/
theorem deaccActs_of_ne {act : Nat} {st : TileState} (h : deaccState act st ≠ st) : deaccActs act st = true := by
  by_contra hacts
  exact h (deaccState_of_not_acts (Bool.eq_false_iff.mpr hacts))

/-- A deaccession command with GO, in what the claim says of it. -/
theorem runs_deaccession {c : Instr} {s : State} {k act : Nat} {v : Reg32} {xs : List Nat}
    (hexec : exec c s = .next (deacc s k act v.toNat)) (hshape : Shaped s) (hlt : act < 3) (hwin : s.winOk k = true)
    (hgo : v.getLsbD 31 = true) (hact : bits v.toNat 1 0 = act) (hbusy : s.flag k 0 F.TSM_DEACC_STATUS_BUSY = false) (hdup : xs.Nodup)
    (hxs : xs = s.spanTiles k (s.fld k 0 F.TSM_DEACC_BASE_LO_BASE_31_12 + s.fld k 0 F.TSM_DEACC_BASE_HI_BASE_39_32 * 2 ^ 20)
      (s.fld k 0 F.TSM_DEACC_TILES_TILES)) (husable : ∀ x ∈ xs, ((s.stk k).ch (tileCh x)).unusable = false) :
    Runs c s (fun t =>
      (∀ x ∈ xs, (t.stk k).tileSt x = deaccState act ((s.stk k).tileSt x)) ∧
      OtherTiles k s t xs ∧
      (act < 2 → (∀ x ∈ xs, (t.stk k).tileSt x ≠ (s.stk k).tileSt x → ∀ y ∈ (t.stk k).lines, (y.loc k 0).tile ≠ x) ∧
        t.dies = s.dies) ∧
      t.fld k 0 F.TSM_DEACC_STATUS_CHANGED = (s.deaccChanges act k xs).length % 2 ^ 28 ∧
      t.fld k 0 F.TSM_DEACC_STATUS_BUSY = 1 ∧ t.fld k 0 F.TSM_DEACC_STATUS_DONE = 0 ∧
      t = { s with stks := t.stks, dies := t.dies, free := t.free } ∧ ∀ j, j ≠ k → t.stk j = s.stk j) := by
  have hk := lt_of_winOk hshape hwin
  have hset : RegsFrame k s (s.deaccSet k act) := .setFld s k 0 _ _ rfl
  have hstart : (s.deaccSet k act).stk k = { s.stk k with regs := ((s.deaccSet k act).stk k).regs } := (hset.stack k).1
  obtain ⟨n, hn, hrun⟩ := Deaccessed.foldl act k xs (s.deaccSet k act) 0 (hset.length ▸ hk) hdup fun x hx => by
    rw [hstart]
    exact husable x hx
  have hwrite := writeDeacc_go s k v.toNat act xs hgo hact hlt hbusy hxs
  rw [hn, Nat.zero_add] at hwrite
  generalize (xs.foldl (deaccTile act k) (0, s.deaccSet k act)).2 = u at hrun hwrite
  have huk : k < u.stks.length := by rw [hrun.length, hset.length]; exact hk
  have hend : RegsFrame k u (u.setFlds k 0 (deaccFields n)) := regsOnly_setFlds u k 0 _ rfl
  have hlast : (u.setFlds k 0 (deaccFields n)).stk k = { u.stk k with regs := ((u.setFlds k 0 (deaccFields n)).stk k).regs } :=
    (hend.stack k).1
  have htile : ∀ x, ((u.setFlds k 0 (deaccFields n)).stk k).tileSt x = (u.stk k).tileSt x := fun x => by rw [hlast]; rfl
  have hfirst : ∀ x, ((s.deaccSet k act).stk k).tileSt x = (s.stk k).tileSt x := fun x => by rw [hstart]; rfl
  have hchanges : (s.deaccSet k act).deaccChanges act k xs = s.deaccChanges act k xs := by
    simp only [State.deaccChanges, hfirst]
  have hinside : ∀ x ∈ xs, ((u.setFlds k 0 (deaccFields n)).stk k).tileSt x = deaccState act ((s.stk k).tileSt x) := fun x hx => by
    rw [htile, hrun.inside x hx, hfirst]
  refine ⟨u.setFlds k 0 (deaccFields n), ?_, hinside, fun x hx => ?_, fun hact2 => ⟨fun x hx hne y hy => ?_, ?_⟩, ?_, ?_, ?_, ?_,
    fun j hj => ?_⟩
  · rw [hexec, deacc, if_pos, hwrite]
    simp only [hwin, hact, beq_self_eq_true, Bool.and_true, Bool.true_and]
    exact hgo
  · rw [htile, hrun.outside x hx, hfirst]
  · rw [hlast] at hy
    rw [hinside x hx] at hne
    exact hrun.gone hact2 x (hchanges ▸ List.mem_filter.mpr ⟨hx, deaccActs_of_ne hne⟩) y hy
  · rw [hend.state]
    exact (hrun.store hact2).dies.trans (by rw [hset.state])
  · rw [fld_setFlds_same u k 0 (deaccFields n) 3 F.TSM_DEACC_STATUS_CHANGED n huk rfl rfl rfl, hrun.changed, hchanges]
    rfl
  · exact fld_setFlds_same u k 0 (deaccFields n) 0 F.TSM_DEACC_STATUS_BUSY 1 huk rfl rfl rfl
  · exact fld_setFlds_same u k 0 (deaccFields n) 1 F.TSM_DEACC_STATUS_DONE 0 huk rfl rfl rfl
  · rw [hend.state, hrun.state, hset.state]
  · exact ((hend.stack j).2 hj).trans ((hrun.other j hj).trans ((hset.stack j).2 hj))

/-! ### The end of an operation (R294) -/

/-- What TSM_DEACC_STATUS takes when an operation is done. -/
def deaccDoneFields : List (FRef × Nat) := [(F.TSM_DEACC_STATUS_BUSY, 0), (F.TSM_DEACC_STATUS_DONE, 1)]

theorem exec_deaccDone (s : State) (k : Nat) (hbusy : s.flag k 0 F.TSM_DEACC_STATUS_BUSY = true) :
    exec (.deaccDone k) s = .next ((s.setFlds k 0 deaccDoneFields).event k .tsm 0 0) := by
  change execDeaccDone k s = _
  rw [execDeaccDone, if_pos hbusy]
  rfl

/-- The event of a page changes no stack and no field (R85). -/
theorem stk_event (s : State) (k : Nat) (pg : Page) (i n j : Nat) : (s.event k pg i n).stk j = s.stk j := by
  rw [State.event_eq, stk_withIrqs]

theorem fld_event (s : State) (k : Nat) (pg : Page) (i n j x : Nat) (f : FRef) : (s.event k pg i n).fld j x f = s.fld j x f := by
  rw [State.event_eq, fld_withIrqs]

theorem runs_deaccDone (s : State) (k : Nat) (hk : k < s.stks.length) (hbusy : s.flag k 0 F.TSM_DEACC_STATUS_BUSY = true) :
    Runs (.deaccDone k) s (fun t => t.fld k 0 F.TSM_DEACC_STATUS_BUSY = 0 ∧ t.fld k 0 F.TSM_DEACC_STATUS_DONE = 1 ∧
      Pulsed s t k .tsm 0 0 ∧ t = { s with stks := t.stks, irqs := t.irqs } ∧ (∀ j, j ≠ k → t.stk j = s.stk j) ∧
      RegsOnly (s.stk k) (t.stk k)) := by
  have hframe : RegsFrame k s (s.setFlds k 0 deaccDoneFields) := regsOnly_setFlds s k 0 _ rfl
  have hidle := fld_setFlds_same s k 0 deaccDoneFields 0 F.TSM_DEACC_STATUS_BUSY 0 hk rfl rfl rfl
  have hdone := fld_setFlds_same s k 0 deaccDoneFields 1 F.TSM_DEACC_STATUS_DONE 1 hk rfl rfl rfl
  have henable := raw_setFlds_of_off s k 0 deaccDoneFields .tsm 0x18 rfl
  have hexec := exec_deaccDone s k hbusy
  generalize s.setFlds k 0 deaccDoneFields = u at hframe hidle hdone henable hexec
  have hpulse := (pulsed_event u k .tsm 0 0).of_raw_eq henable (by rw [hframe.state])
  refine ⟨_, hexec, ?_, ?_, hpulse, ?_, fun j hj => ?_, ?_⟩
  · rw [fld_event, hidle]
    rfl
  · rw [fld_event, hdone]
    rfl
  · rw [State.event_eq, hframe.state]
  · rw [stk_event]
    exact (hframe.stack j).2 hj
  · rw [stk_event]
    exact (hframe.stack k).1

theorem claims_deaccession : Claims.Deaccession := by
  refine ⟨fun c hc s src k v xs hshape hwin hgo hact hbusy hdup hxs husable => ?_,
    fun s k hshape hk hbusy => runs_deaccDone s k (hshape.1 ▸ hk) hbusy⟩
  simp only [List.mem_cons, List.not_mem_nil, or_false] at hc
  obtain rfl | rfl | rfl := hc
  · exact runs_deaccession rfl hshape (by decide) hwin hgo hact hbusy hdup hxs husable
  · exact runs_deaccession rfl hshape (by decide) hwin hgo hact hbusy hdup hxs husable
  · exact runs_deaccession rfl hshape (by decide) hwin hgo hact hbusy hdup hxs husable

/-- Settles O41: a deaccession goes over the tiles of its span one by one, and each turn is what `Deaccessed` states; a query stores
its offset and the result at that time. -/
theorem tileCommands : Obligations.TileCommands := ⟨claims_deaccession, claims_queries⟩

end Sys2Proof.Machine
end

section
/-! PROOFS. What a GO leaves: an accepted one in every copy of CMT_RESULT, a rejected one in BUSY_REJECTS (R92, R95, R99, R100). -/

namespace Sys2Proof.Machine

/-! ### Fields of one page, sent to every copy -/

/-- Fields of register off of a package page: each has a place there, and none covers another. -/
abbrev FieldsAt (pg : Page) (off : Nat) (gs : List FRef) : Prop :=
  (∀ g ∈ gs, g.page = pg ∧ g.off = off ∧ g.lo ≤ g.hi + 1 ∧ g.hi < 32) ∧ gs.Pairwise (fun f g => g.apart f = true)

/-- t is s with fields of register off of a package page written in every copy that stack a reaches (R17, R511). -/
structure FieldsSent (s : State) (a : Nat) (pg : Page) (off : Nat) (l : List (FRef × Nat)) (t : State) : Prop where
  frame : CopyFrame s t
  fields : ∀ k g v, k < s.n → s.reach a k = true → (g, v) ∈ l → t.fld k 0 g = v % 2 ^ (g.hi + 1 - g.lo)
  others : ∀ k qg i o, regKey qg i o ≠ regKey pg 0 off → t.raw k qg i o = s.raw k qg i o

/-- Fields of one register leave every other register. -/
theorem raw_setFlds_other (s : State) (k j : Nat) (pg qg : Page) (i off o : Nat) (l : List (FRef × Nat))
    (hl : ∀ x ∈ l, x.1.page = pg ∧ x.1.off = off) (hkey : regKey qg i o ≠ regKey pg 0 off) :
    (s.setFlds k 0 l).raw j qg i o = s.raw j qg i o := by
  induction l generalizing s with
  | nil => rfl
  | cons x l ih =>
    obtain ⟨hpage, hoff⟩ := hl x List.mem_cons_self
    rw [State.setFlds_cons, ih _ fun y hy => hl y (List.mem_cons_of_mem x hy)]
    exact State.raw_setRaw_other s k j x.1.page qg 0 i x.1.off o _ (.inr (.inr (by rwa [hpage, hoff])))

/-- A relation that every turn of a loop keeps holds over the loop. -/
theorem foldl_rel {α : Type} {R : State → State → Prop} (hrefl : ∀ s, R s s) (htrans : ∀ {s t u}, R s t → R t u → R s u)
    (f : State → α → State) (hf : ∀ s x, R s (f s x)) (l : List α) (s : State) : R s (l.foldl f s) := by
  induction l generalizing s with
  | nil => exact hrefl s
  | cons x l ih => exact htrans (hf s x) (ih (f s x))

/-- What every turn of a loop leaves is as before the loop. -/
theorem foldl_keeps {α β : Type} (g : State → β) (f : State → α → State) (hf : ∀ u x, g (f u x) = g u) (l : List α) (s : State) :
    g (l.foldl f s) = g s :=
  foldl_rel (R := fun s t => g t = g s) (fun _ => rfl) (fun h k => k.trans h) f hf l s

theorem fieldsSent_setPkg (s : State) (a : Nat) (pg : Page) (off : Nat) (l : List (FRef × Nat)) (hshape : s.stks.length = s.n)
    (hp : pg.isPkg = true) (hl : FieldsAt pg off (l.map Prod.fst)) : FieldsSent s a pg off l (s.setPkg a l) := by
  have hplace : ∀ x ∈ l, x.1.page = pg ∧ x.1.off = off ∧ x.1.lo ≤ x.1.hi + 1 ∧ x.1.hi < 32 :=
    fun x hx => hl.1 x.1 (List.mem_map_of_mem hx)
  have hapart := List.pairwise_map.mp hl.2
  have hpkg : ∀ x ∈ l, x.1.page.isPkg = true := fun x hx => by rw [(hplace x hx).1]; exact hp
  have hsent : SentToCopies a (fun x y => ∀ g v, (g, v) ∈ l → bits (copyReg s.part y pg off) g.hi g.lo = v % 2 ^ (g.hi + 1 - g.lo))
      s (s.setPkg a l) := by
    refine sentToCopies_forStacks s a (fun u k => u.setFlds k 0 l) _ (fun u k => .setFlds u k 0 l hpkg) (fun u k hk hu g v hg => ?_)
      (fun u k j hj => pkgRegs_setFlds_other u k j 0 l hj)
    obtain ⟨hpage, hoff, -, -⟩ := hplace _ hg
    have hfld := fld_setFlds_of_mem u k 0 l g v (by rw [hu.length, hshape]; exact hk) (fun x hx => (hplace x hx).2.2) hapart hg
    rwa [State.fld, hpage, hoff, raw_eq_copyReg _ _ _ _ hp, (CopyFrame.setFlds u k 0 l hpkg).part, hu.part] at hfld
  refine ⟨hsent.frame, fun k g v hk hr hg => ?_, fun k qg i o hkey => ?_⟩
  · obtain ⟨hpage, hoff, -, -⟩ := hplace _ hg
    rw [State.fld, hpage, hoff, raw_eq_copyReg _ _ _ _ hp, hsent.frame.part]
    exact hsent.reached k hk hr g v hg
  · refine foldl_keeps (fun u => u.raw k qg i o) _ (fun u j => ?_) (List.range s.n) s
    split_ifs
    · rw [raw_ringTx, raw_setFlds_other u j k pg qg i off o l (fun x hx => ⟨(hplace x hx).1, (hplace x hx).2.1⟩) hkey]
    · rfl

/-! ### An accepted GO (R92 step 1, R99, R100) -/

/-- What an accepted GO writes in CMT_RESULT (R100). -/
def goFields (src : Source) (v : Nat) : List (FRef × Nat) :=
  [(F.CMT_RESULT_BUSY, 1), (F.CMT_RESULT_DONE, 0), (F.CMT_RESULT_CHECK_ONLY, bits v 30 30),
    (F.CMT_RESULT_SOURCE, Source.code src), (F.CMT_RESULT_TAG, bits v 15 0)]

theorem fieldsAt_goFields (src : Source) (v : Nat) : FieldsAt .cmt 0x104 ((goFields src v).map Prod.fst) := by
  change FieldsAt .cmt 0x104 [F.CMT_RESULT_BUSY, F.CMT_RESULT_DONE, F.CMT_RESULT_CHECK_ONLY, F.CMT_RESULT_SOURCE, F.CMT_RESULT_TAG]
  decide

/-- The sequencer of a COMMIT that begins: the checks start, and a stack that is lost fails them (R92, R93). -/
def State.goCommit (s : State) (checkOnly : Bool) : Commit :=
  { phase := .checking, checkOnly := checkOnly, target := 0, applied := [], acked := [], got := [],
    status := if s.cmtLost.isSome then 10 else 0, failStack := s.cmtLost.getD 0, held := [] }

/-- A GO is accepted in ACTIVE or IDLE while no COMMIT runs (R92, R397). -/
theorem writeCommit_of_accepted (s : State) (src : Source) (v : Nat) (hgo : bitAt v 31 = true)
    (hreach : s.reach (s.srcStack src) s.agg = true) (hrst : s.inReset s.agg = false) (hmode : s.mode = .active ∨ s.mode = .idle)
    (hbusy : s.cmtBusy = false) :
    writeCommit s src v = { s.setPkg s.agg (goFields src v) with commit := s.goCommit (bitAt v 30) } := by
  have hopen : (s.mode == .active || s.mode == .idle) = true := by
    obtain h | h := hmode <;> rw [h] <;> rfl
  rw [writeCommit, if_neg (by simp [hgo, hreach]), if_neg (by simp [hbusy, hopen, hrst])]
  rfl

/-- A GO while a COMMIT runs is counted in BUSY_REJECTS (R95). -/
theorem writeCommit_of_busy (s : State) (src : Source) (v : Nat) (hgo : bitAt v 31 = true)
    (hreach : s.reach (s.srcStack src) s.agg = true) (hbusy : s.cmtBusy = true) : writeCommit s src v = s.count s.agg .cmt 0 3 1 := by
  rw [writeCommit, if_neg (by simp [hgo, hreach]), if_pos (by simp [hbusy])]

/-- What an accepted GO leaves: CMT_RESULT written in every copy, the checks begun, and nothing else changed but the messages' cost. -/
theorem runs_of_accepted {c : Instr} {s : State} {src : Source} {v : Nat} {b : Bool} (hexec : exec c s = .next (writeCommit s src v))
    (hb : bitAt v 30 = b) (hshape : Shaped s) (hgo : bitAt v 31 = true) (hreach : s.reach (s.srcStack src) s.agg = true)
    (hrst : s.inReset s.agg = false) (hmode : s.mode = .active ∨ s.mode = .idle) (hbusy : s.cmtBusy = false)
    (hsrc : Source.code src < 64) : Runs c s (fun t =>
      (∀ k, k < s.n → s.reach s.agg k = true →
        t.fld k 0 F.CMT_RESULT_BUSY = 1 ∧ t.fld k 0 F.CMT_RESULT_DONE = 0 ∧ t.fld k 0 F.CMT_RESULT_CHECK_ONLY = b2n b ∧
        t.fld k 0 F.CMT_RESULT_SOURCE = Source.code src ∧ t.fld k 0 F.CMT_RESULT_TAG = v % 65536) ∧
      t.commit.phase = .checking ∧ t.commit.checkOnly = b ∧ t = { s with stks := t.stks, commit := t.commit } ∧
      ∀ k, t.stk k = { s.stk k with pkgRegs := (t.stk k).pkgRegs, cnt := (t.stk k).cnt }) := by
  subst hb
  obtain ⟨hframe, hfields, -⟩ := fieldsSent_setPkg s s.agg .cmt 0x104 (goFields src v) hshape.1 rfl (fieldsAt_goFields src v)
  rw [writeCommit_of_accepted s src v hgo hreach hrst hmode hbusy] at hexec
  generalize s.setPkg s.agg (goFields src v) = u at hframe hfields hexec
  have hread : ∀ k g x, k < s.n → s.reach s.agg k = true → (g, x) ∈ goFields src v → x < 2 ^ (g.hi + 1 - g.lo) → u.fld k 0 g = x :=
    fun k g x hk hr hg hx => (hfields k g x hk hr hg).trans (Nat.mod_eq_of_lt hx)
  refine ⟨_, hexec, fun k hk hr => ⟨?_, ?_, ?_, ?_, ?_⟩, rfl, rfl, ?_, hframe.stack⟩
  · exact hread k _ 1 hk hr (by simp [goFields]) (by decide)
  · exact hread k _ 0 hk hr (by simp [goFields]) (by decide)
  · exact hread k _ _ hk hr (by simp [goFields, bits_one]) (by cases bitAt v 30 <;> decide)
  · exact hread k _ _ hk hr (by simp [goFields]) hsrc
  · exact hread k _ _ hk hr (by simp [goFields, bits]) (Nat.mod_lt _ (by decide))
  · rw [hframe.state]

/-- The command of a GO, by its CHECK_ONLY (R92, R99). -/
def goCommand (src : Source) (v : Reg32) : Instr := if v.getLsbD 30 = true then .commitCheckOnly src v else .commit src v

theorem exec_goCommand (s : State) (src : Source) (v : Reg32) (hgo : v.getLsbD 31 = true) (hwin : s.winOk (s.srcStack src) = true) :
    exec (goCommand src v) s = .next (writeCommit s src v.toNat) := by
  have hbit : bitAt v.toNat 31 = true := hgo
  unfold goCommand
  split_ifs with h
  · have hcheck : bitAt v.toNat 30 = true := h
    change execCommitCheckOnly src v s = _
    simp [execCommitCheckOnly, hbit, hcheck, hwin]
  · have hcheck : bitAt v.toNat 30 = false := Bool.eq_false_iff.mpr h
    change execCommit src v s = _
    simp [execCommit, hbit, hcheck, hwin]

/-- Settles O14: an accepted GO writes the fields of CMT_RESULT in every copy and starts the sequencer; another GO is one count. -/
theorem commitAccept : Obligations.CommitAccept := by
  refine ⟨fun s src v hshape hgo hcheck hwin hreach hrst hmode hbusy hsrc => ?_,
    fun s src v hshape hgo hcheck hwin hreach hrst hmode hbusy hsrc => ?_, fun s src v hgo hbusy hwin hreach => ?_⟩
  · have hexec := exec_goCommand s src v hgo hwin
    rw [goCommand, hcheck, if_neg Bool.false_ne_true] at hexec
    exact runs_of_accepted hexec hcheck hshape hgo hreach hrst hmode hbusy hsrc
  · have hexec := exec_goCommand s src v hgo hwin
    rw [goCommand, if_pos hcheck] at hexec
    exact runs_of_accepted hexec hcheck hshape hgo hreach hrst hmode hbusy hsrc
  · have hexec := exec_goCommand s src v hgo hwin
    rw [writeCommit_of_busy s src v.toNat hgo hreach hbusy] at hexec
    refine ⟨_, hexec, State.count_of_isPkg s s.agg .cmt 0 3 1 rfl, fun hf => ?_⟩
    rw [State.count, if_neg (by simp [hf]), State.cntVal, State.setCnt]
    exact mget_mput_same _ _ _ _

end Sys2Proof.Machine
end

section
/-! PROOFS. Prepare and confirm of a COMMIT: APPLY and its acknowledgements, CONFIRM and ABORT (R92, R97). -/

namespace Sys2Proof.Machine

/-! ### Messages from the aggregator -/

theorem CntOnly.trans {x y z : Stack} (h : CntOnly x y) (g : CntOnly y z) : CntOnly x z := by rw [CntOnly, g, h]

/-- A message from the aggregator to every stack. -/
def State.broadcast (s : State) : State := forStacks s (fun u k => u.ringTx u.agg k)

/-- The messages change counters alone (R34). -/
theorem cntFrame_broadcast (s : State) : StksFrame (fun _ => CntOnly) s s.broadcast :=
  .foldl (R := fun _ => CntOnly) (fun _ _ => rfl) (fun _ _ _ _ h g => h.trans g) _
    (fun u k => (CountFrame.ringTx u u.agg k).mono fun _ _ _ h => h.1) _ s

/-- The stacks that a CONFIRM or an ABORT of the aggregator reaches (R92 step 5). -/
def State.confirmable (s : State) : List Nat := (List.range s.n).filter (fun k => s.reach s.agg k && !s.inReset k)

theorem mem_confirmable (s : State) (j : Nat) :
    j ∈ s.confirmable ↔ j < s.n ∧ s.reach s.agg j = true ∧ s.inReset j = false := by
  simp [State.confirmable]

/-! ### APPLY (R92 step 4) -/

theorem exec_apply (s : State) (k : Nat) (hphase : s.commit.phase = .prepared) (hk : k < s.n) (hrst : s.inReset k = false)
    (hreach : s.reach s.agg k = true) (hnew : k ∉ s.commit.applied) : exec (.apply k) s = .next
      (if s.stagedRun < s.runLevel then
        ({ s with commit := { s.commit with applied := s.commit.applied ++ [k] } }).modStk k (Stack.setRail (levelMv s.stagedRun))
      else { s with commit := { s.commit with applied := s.commit.applied ++ [k] } }) := by
  change execApply k s = _
  rw [execApply, if_neg (by simp [hphase, hk, hrst, hreach, hnew])]
  rfl

theorem runs_apply (s : State) (k : Nat) (hshape : Shaped s) (hphase : s.commit.phase = .prepared) (hk : k < s.n)
    (hrst : s.inReset k = false) (hreach : s.reach s.agg k = true) (hnew : k ∉ s.commit.applied) :
    Runs (.apply k) s (fun t => t.commit = { s.commit with applied := s.commit.applied ++ [k] } ∧
      t = { s with stks := t.stks, commit := t.commit } ∧ (∀ j, j ≠ k → t.stk j = s.stk j) ∧
      t.stk k = { s.stk k with pw := { (s.stk k).pw with railMv := (t.stk k).pw.railMv } } ∧
      (s.runLevel ≤ s.stagedRun → t.stk k = s.stk k)) := by
  refine ⟨_, exec_apply s k hphase hk hrst hreach hnew, ?_⟩
  split_ifs with hfaster
  · have hstk := State.stk_modStk_same { s with commit := { s.commit with applied := s.commit.applied ++ [k] } } k
      (Stack.setRail (levelMv s.stagedRun)) (hshape.1 ▸ hk)
    refine ⟨rfl, rfl, fun j hj => State.stk_modStk_other _ k j _ hj, ?_, fun hslow => absurd hfaster (Nat.not_lt.mpr hslow)⟩
    rw [hstk]
    rfl
  · exact ⟨rfl, rfl, fun _ _ => rfl, rfl, fun _ => rfl⟩

/-! ### Acknowledgements and CONFIRM (R92 step 5) -/

/-- The state when the aggregator has received stack k's acknowledgement in time. -/
def State.acknowledged (s : State) (k : Nat) : State :=
  { s with commit := { s.commit with acked := s.commit.acked ++ [k] } }.ringTx k s.agg

/-- The sequencer once CONFIRM is sent. -/
def State.confirmedCommit (s : State) (k : Nat) : Commit :=
  { s.commit with acked := s.commit.acked ++ [k], phase := .confirmed, got := s.confirmable }

theorem exec_applyAck (s : State) (k : Nat) (hphase : s.commit.phase = .prepared) (happ : k ∈ s.commit.applied)
    (hnew : k ∉ s.commit.acked) (hreach : s.reach k s.agg = true) : exec (.applyAck k) s = .next
      (if s.commit.target ≤ s.now s.agg + 1 then s.ringTx k s.agg
      else if (List.range s.n).all (s.commit.acked ++ [k]).contains = true then
        { (s.acknowledged k).broadcast with commit := s.confirmedCommit k }
      else s.acknowledged k) := by
  have hcommit : s.confirmedCommit k = { (s.acknowledged k).commit with phase := .confirmed, got := s.confirmable } := by
    rw [State.acknowledged, (CountFrame.ringTx _ k s.agg).state]
    rfl
  change execApplyAck k s = _
  rw [execApplyAck, if_neg (by simp [hphase, happ, hnew, hreach]), hcommit]
  rfl

/-- What an acknowledgement changes beside the sequencer: the counters of messages. -/
theorem acknowledged_eq (s : State) (k : Nat) : (s.acknowledged k).commit = { s.commit with acked := s.commit.acked ++ [k] } ∧
    StksFrame (fun _ => CntOnly) { s with commit := { s.commit with acked := s.commit.acked ++ [k] } } (s.acknowledged k) := by
  have h := CountFrame.ringTx { s with commit := { s.commit with acked := s.commit.acked ++ [k] } } k s.agg
  refine ⟨?_, h.mono fun _ _ _ g => g.1⟩
  rw [State.acknowledged, h.state]

theorem runs_applyAck (s : State) (k : Nat) (hphase : s.commit.phase = .prepared) (happ : k ∈ s.commit.applied)
    (hnew : k ∉ s.commit.acked) (hreach : s.reach k s.agg = true) : Runs (.applyAck k) s (fun t =>
      (s.commit.target ≤ s.now s.agg + 1 → t.commit = s.commit) ∧
      (s.now s.agg + 1 < s.commit.target → t.commit.acked = s.commit.acked ++ [k] ∧ t.commit.applied = s.commit.applied) ∧
      (t.commit.phase = .confirmed ↔ s.now s.agg + 1 < s.commit.target ∧ ∀ j, j < s.n → j = k ∨ j ∈ s.commit.acked) ∧
      (t.commit.phase = .confirmed → ∀ j, j ∈ t.commit.got ↔ j < s.n ∧ s.reach s.agg j = true ∧ s.inReset j = false) ∧
      t = { s with stks := t.stks, commit := t.commit } ∧ ∀ j, t.stk j = { s.stk j with cnt := (t.stk j).cnt }) := by
  refine ⟨_, exec_applyAck s k hphase happ hnew hreach, ?_⟩
  obtain ⟨hcommit, hack⟩ := acknowledged_eq s k
  have hall : (List.range s.n).all (s.commit.acked ++ [k]).contains = true ↔ ∀ j, j < s.n → j = k ∨ j ∈ s.commit.acked := by
    simp [or_comm]
  split_ifs with hlate hlast
  · have hframe := CountFrame.ringTx s k s.agg
    have hsame : (s.ringTx k s.agg).commit = s.commit := by rw [hframe.state]
    refine ⟨fun _ => hsame, fun h => absurd hlate (Nat.not_le.mpr h), ?_, ?_, ?_, hframe.stk⟩
    · simp [hsame, hphase, Nat.not_lt.mpr hlate]
    · simp [hsame, hphase]
    · rw [hframe.state]
  · have hsent := cntFrame_broadcast (s.acknowledged k)
    refine ⟨fun h => absurd h hlate, fun _ => ⟨rfl, rfl⟩, iff_of_true rfl ⟨Nat.not_le.mp hlate, hall.mp hlast⟩,
      fun _ => mem_confirmable s, ?_, fun j => ?_⟩
    · rw [hsent.state, hack.state]
    · exact (hack.stack j).trans (hsent.stack j)
  · refine ⟨fun h => absurd h hlate, fun _ => by rw [hcommit]; exact ⟨rfl, rfl⟩, ?_, ?_, ?_, hack.stack⟩
    · simp [hcommit, hphase, ← hall, hlast]
    · simp [hcommit, hphase]
    · rw [hack.state]

/-! ### ABORT (R92 step 5, R97) -/

/-- An abort names the lowest stack that has not acknowledged. -/
theorem unacked_of_lowest (s : State) (k : Nat) (hphase : s.commit.phase = .prepared) (hk : k < s.n) (hnew : k ∉ s.commit.acked)
    (hlower : ∀ j, j < k → j ∈ s.commit.acked) : s.unacked = k := by
  have hfind : (List.range s.n).find? (fun k => !s.commit.acked.contains k) = some k := by
    rw [List.find?_range_eq_some]
    exact ⟨by simpa using hnew, List.mem_range.mpr hk, fun j hj => by simp [hlower j hj]⟩
  rw [State.unacked, hphase, hfind]
  rfl

/-- Stacks that acknowledged and do not get the ABORT. -/
def State.lostAborts (s : State) : List Nat := s.commit.acked.filter (fun k => !s.confirmable.contains k && !s.inReset k)

theorem exec_commitAbort (s : State) (hphase : s.commit.phase = .prepared) (hlate : s.commit.target ≤ s.now s.agg + 1) :
    exec .commitAbort s = .next { s.broadcast with
      commit := { s.commit with phase := .aborted, failStack := s.unacked, got := s.confirmable }
      splitDue := s.splitDue ++ s.lostAborts.map (fun k => (s.commit.target, k)) } := by
  change execCommitAbort s = _
  rw [execCommitAbort, if_pos (by simp [hphase, hlate]), sendAbort]
  simp only [hphase]
  rfl

theorem mem_splitDue_abort (s : State) (e : Nat × Nat) : e ∈ s.splitDue ++ s.lostAborts.map (fun k => (s.commit.target, k)) ↔
    e ∈ s.splitDue ∨ (e.1 = s.commit.target ∧ e.2 ∈ s.commit.acked ∧ e.2 ∉ s.confirmable ∧ s.inReset e.2 = false) := by
  obtain ⟨tick, k⟩ := e
  simp only [List.mem_append, List.mem_map, State.lostAborts, List.mem_filter, Prod.mk.injEq, Bool.and_eq_true, Bool.not_eq_true',
    List.contains_eq_mem, decide_eq_false_iff_not]
  refine or_congr_right ⟨?_, ?_⟩
  · rintro ⟨j, hj, rfl, rfl⟩
    exact ⟨rfl, hj⟩
  · rintro ⟨rfl, hk⟩
    exact ⟨k, hk, rfl, rfl⟩

theorem claims_commitPrepare : Claims.CommitPrepare := by
  refine ⟨runs_apply, fun s k _ => runs_applyAck s k, fun s k _ hphase hlate hk hnew hlower => ?_⟩
  have hsent := cntFrame_broadcast s
  refine ⟨_, exec_commitAbort s hphase hlate, ?_, mem_confirmable s, mem_splitDue_abort s, ?_, hsent.stack⟩
  · rw [unacked_of_lowest s k hphase hk hnew hlower]
  · rw [hsent.state]

end Sys2Proof.Machine
end

section
/-! PROOFS. The check step of a COMMIT: its outcome, and what the checks leave of every configuration (R92 step 3, R93, R94). -/

namespace Sys2Proof.Machine

/-! ### What the check step leaves -/

/-- t is s but for state bits of staged images, CMT, counters of messages and free values. -/
structure StageFrame (s t : State) : Prop where
  state : t = { s with stks := t.stks, free := t.free }
  length : t.stks.length = s.stks.length
  stack : ∀ k, t.stk k = { s.stk k with regs := (t.stk k).regs, pkgRegs := (t.stk k).pkgRegs, cnt := (t.stk k).cnt }
  raw : ∀ k pg i off, IsPage pg i → pg ≠ .cmt → off ≠ 0x1C → off < 0x1000 → t.raw k pg i off = s.raw k pg i off

/-- CMT stands alone at its index of the package window (R78). -/
theorem regKey_ne_cmt {pg : Page} {i off : Nat} (o : Nat) (hp : pg.isPkg = true) (hpage : IsPage pg i) (hcmt : pg ≠ .cmt)
    (hoff : off < 0x1000) (ho : o < 0x1000) : regKey pg i off ≠ regKey .cmt 0 o := by
  have hindex : pg.index i ≠ Page.index 0 .cmt := by
    intro h
    rw [IsPage, if_pos hp, h] at hpage
    have hat : pkgPageAt (Page.index 0 .cmt) = some (.cmt, 0) := rfl
    rw [hat] at hpage
    cases hpage
    exact hcmt rfl
  unfold regKey
  omega

namespace StageFrame

theorem refl (s : State) : StageFrame s s := ⟨rfl, rfl, fun _ => rfl, fun _ _ _ _ _ _ _ _ => rfl⟩

theorem trans {s t u : State} (h : StageFrame s t) (g : StageFrame t u) : StageFrame s u where
  state := by rw [g.state, h.state]
  length := g.length.trans h.length
  stack k := by rw [g.stack k, h.stack k]
  raw k pg i off hpage hcmt hne hlt := (g.raw k pg i off hpage hcmt hne hlt).trans (h.raw k pg i off hpage hcmt hne hlt)

theorem foldl {α : Type} (f : State → α → State) (hf : ∀ s a, StageFrame s (f s a)) (l : List α) (s : State) :
    StageFrame s (l.foldl f s) :=
  foldl_rel refl trans f hf l s

theorem n {s t : State} (h : StageFrame s t) : t.n = s.n := by rw [h.state]; rfl

theorem setStage (s : State) (k : Nat) (pg : Page) (i : Nat) (ff d : Bool) : StageFrame s (s.setStage k pg i ff d) where
  state := rfl
  length := length_modify' _ _ _
  stack j := State.stk_modStk_rel (R := fun x y => y = { x with regs := y.regs, pkgRegs := y.pkgRegs, cnt := y.cnt }) (fun _ => rfl)
    (fun x => by split_ifs <;> rfl) s k j
  raw j qg i' o _ _ hne hlt := State.raw_setRaw_other s k j pg qg i i' 0x1C o _ (.inr (.inr (by unfold regKey; omega)))

theorem clearStages (s : State) (k : Nat) (clean : Bool) : StageFrame s (clearStages s k clean) := by
  unfold Machine.clearStages
  exact foldl _ (fun u (p : Page × Nat) => setStage u k p.1 p.2 false _) _ s

theorem ringTx (s : State) (k j : Nat) : StageFrame s (s.ringTx k j) := by
  have h := CountFrame.ringTx s k j
  exact ⟨by rw [h.state], h.length, fun x => by rw [h.stk x], fun x pg i off _ _ _ _ => h.raw x pg i off⟩

theorem broadcast (s : State) : StageFrame s s.broadcast := foldl _ (fun u k => ringTx u u.agg k) _ s

/-- Fields of CMT that are written in every copy. -/
theorem setPkg (s : State) (a off : Nat) (l : List (FRef × Nat)) (hshape : s.stks.length = s.n) (hoff : off < 0x1000)
    (hl : FieldsAt .cmt off (l.map Prod.fst)) : StageFrame s (s.setPkg a l) := by
  obtain ⟨hframe, -, hothers⟩ := fieldsSent_setPkg s a .cmt off l hshape rfl hl
  refine ⟨by rw [hframe.state], hframe.length, fun k => by rw [hframe.stack k], fun k pg i o hpage hcmt _ hlt => ?_⟩
  cases hp : pg.isPkg with
  | false => exact hframe.raw k pg i o hp
  | true => exact hothers k pg i o (regKey_ne_cmt off hp hpage hcmt hlt hoff)

end StageFrame

/-! ### A failed check (R93, R101) -/

/-- What a failed check writes in CMT_FAIL (R101). -/
def failFields (f : Failed) : List (FRef × Nat) :=
  [(F.CMT_FAIL_WINDOW, b2n (!f.page.isPkg)), (F.CMT_FAIL_PAGE, f.page.index f.inst), (F.CMT_FAIL_ITEM, f.item)]

theorem fieldsAt_failFields (f : Failed) : FieldsAt .cmt 0x108 ((failFields f).map Prod.fst) := by
  change FieldsAt .cmt 0x108 [F.CMT_FAIL_WINDOW, F.CMT_FAIL_PAGE, F.CMT_FAIL_ITEM]
  decide

/-- FIRST_FAIL of the page of a failed check, in stack k. -/
def markFail (f : Failed) (s : State) (k : Nat) : State := s.setStage k f.page f.inst true (s.dirty k f.page f.inst)

/-- The state with CMT_FAIL written, and FIRST_FAIL set on the page of a failed check. -/
def State.failMarked (s : State) (f : Failed) : State :=
  if f.status = 10 then s.setPkg s.agg (failFields f)
  else if f.page.isPkg || f.page == .adm then
    forStacks (s.setPkg s.agg (failFields f)) (fun u k => if u.reach u.agg k then markFail f u k else u)
  else markFail f (s.setPkg s.agg (failFields f)) f.stack

theorem recordFail_eq (s : State) (f : Failed) : recordFail s f = { s.failMarked f with
    commit := { (s.failMarked f).commit with phase := .done, status := f.status, failStack := f.stack } } := rfl

theorem stageFrame_failMarked (s : State) (f : Failed) (hshape : s.stks.length = s.n) : StageFrame s (s.failMarked f) := by
  have hsent := StageFrame.setPkg s s.agg 0x108 (failFields f) hshape (by decide) (fieldsAt_failFields f)
  have hmark : ∀ u k, StageFrame u (markFail f u k) := fun u k => .setStage u k f.page f.inst true _
  unfold State.failMarked
  split_ifs
  · exact hsent
  · refine hsent.trans (.foldl _ (fun u k => ?_) _ _)
    split_ifs
    · exact hmark u k
    · exact .refl u
  · exact hsent.trans (hmark _ _)

/-! ### The target tick (R94) -/

/-- The target is at least two ticks ahead, and a ramp's length is a free value. -/
theorem ticksToApply_spec (s : State) : 2 ≤ (ticksToApply s).1 ∧ StageFrame s (ticksToApply s).2 := by
  unfold ticksToApply
  dsimp only
  split_ifs
  · exact ⟨Nat.le_refl 2, .refl s⟩
  · exact ⟨Nat.le_max_left 2 _, rfl, rfl, fun _ => rfl, fun _ _ _ _ _ _ _ _ => rfl⟩

/-! ### The outcome -/

/-- The check that fails: a lost stack's, found as the GO was accepted, or the first of the others (R93). -/
def State.failedCheck (s : State) : Option Failed :=
  if s.commit.status = 10 then some { status := 10, stack := s.commit.failStack, page := .stk, inst := 0, item := 0 } else runChecks s

/-- The sequencer after the check step, with the target tick of a COMMIT that goes on. -/
def State.checkedCommit (s : State) (target : Nat) : Commit :=
  match s.failedCheck with
  | some f => { s.commit with phase := .done, status := f.status, failStack := f.stack }
  | none =>
    if s.commit.checkOnly then { s.commit with phase := .done, status := 0, failStack := 0 }
    else { s.commit with phase := .prepared, target := target, status := 0, failStack := 0 }

/-- The state with FIRST_FAIL cleared on every page (R86, R96). -/
def State.firstFailsCleared (s : State) : State := forStacks s (fun u k => clearStages u k false)

theorem stageFrame_firstFailsCleared (s : State) : StageFrame s s.firstFailsCleared :=
  .foldl _ (fun u k => .clearStages u k false) _ s

theorem exec_commitCheckDone (s : State) (hphase : s.commit.phase = .checking) : exec .commitCheckDone s = .next
    (match s.failedCheck with
    | some f => recordFail s.firstFailsCleared f
    | none =>
      if s.commit.checkOnly then { s.firstFailsCleared with
        commit := { s.firstFailsCleared.commit with phase := .done, status := 0, failStack := 0 } }
      else { (ticksToApply s.firstFailsCleared).2.broadcast with
        commit := { (ticksToApply s.firstFailsCleared).2.broadcast.commit with
          phase := .prepared, target := s.now s.agg + (ticksToApply s.firstFailsCleared).1, status := 0, failStack := 0 } }) := by
  change execCommitCheckDone s = _
  rw [execCommitCheckDone, if_neg (by simp [hphase])]
  rfl

theorem commitCheckDone_spec (s : State) (hshape : Shaped s) (hphase : s.commit.phase = .checking) : ∃ u target,
    exec .commitCheckDone s = .next { u with commit := s.checkedCommit target } ∧ s.now s.agg + 2 ≤ target ∧ StageFrame s u := by
  have hclear := stageFrame_firstFailsCleared s
  have hexec := exec_commitCheckDone s hphase
  unfold State.checkedCommit
  cases hfail : s.failedCheck with
  | some f =>
    have hframe := hclear.trans (stageFrame_failMarked _ f (by rw [hclear.length, hclear.n]; exact hshape.1))
    have hcommit : (s.firstFailsCleared.failMarked f).commit = s.commit := by rw [hframe.state]
    rw [hfail] at hexec
    simp only [recordFail_eq, hcommit] at hexec
    exact ⟨_, _, hexec, Nat.le_refl _, hframe⟩
  | none =>
    rw [hfail] at hexec
    simp only at hexec
    split_ifs at hexec ⊢
    · have hcommit : s.firstFailsCleared.commit = s.commit := by rw [hclear.state]
      rw [hcommit] at hexec
      exact ⟨_, _, hexec, Nat.le_refl _, hclear⟩
    · obtain ⟨htwo, hticks⟩ := ticksToApply_spec s.firstFailsCleared
      have hframe := (hclear.trans hticks).trans (.broadcast _)
      have hcommit : (ticksToApply s.firstFailsCleared).2.broadcast.commit = s.commit := by rw [hframe.state]
      rw [hcommit] at hexec
      exact ⟨_, _, hexec, Nat.add_le_add_left htwo _, hframe⟩

theorem claims_commitCheckDone : Claims.CommitCheckDone := by
  intro s hshape hphase
  obtain ⟨u, target, hexec, htarget, hframe⟩ := commitCheckDone_spec s hshape hphase
  have hlabels : ∀ k, (u.stk k).labels = (s.stk k).labels ∧ (u.stk k).stLabels = (s.stk k).stLabels := fun k => by
    rw [hframe.stack k]
    exact ⟨rfl, rfl⟩
  have hdies : u.dies = s.dies := by rw [hframe.state]
  refine ⟨_, hexec, fun hlost hpass hgo => ?_, fun hlost hpass hcheck => ?_, fun hlost f hfail => ?_, fun hlost => ?_, hframe.raw,
    hlabels, hdies⟩
  · have hcommit : s.checkedCommit target = { s.commit with phase := .prepared, target := target, status := 0, failStack := 0 } := by
      simp [State.checkedCommit, State.failedCheck, hlost, hpass, hgo]
    rw [hcommit]
    exact ⟨rfl, htarget, rfl⟩
  · simp [State.checkedCommit, State.failedCheck, hlost, hpass, hcheck]
  · simp [State.checkedCommit, State.failedCheck, hlost, hfail]
  · simp [State.checkedCommit, State.failedCheck, hlost]

/-- Settles O15: the check step changes state bits and the sequencer; each message of prepare and confirm changes the sequencer and
counters. -/
theorem commitRun : Obligations.CommitRun := ⟨claims_commitCheckDone, claims_commitPrepare⟩

end Sys2Proof.Machine
end

section
/-! PROOFS. The staged image of a stack becomes live: the registers that a copy of every staged value leaves (R92 step 6, R134). -/

namespace Sys2Proof.Machine

/-! ### Staged values take the place of live ones -/

/-- A key of a map with rising keys is listed d below with its value. -/
theorem mfind_foldl_mset_sub {α : Type} (d : Nat) (l m : SMap α) (hl : Rising l) (hd : ∀ e ∈ l, d ≤ e.1) (k : Nat) :
    mfind (l.foldl (fun m e => mset m (e.1 - d) e.2) m) k = (mfind l (k + d)).or (mfind m k) := by
  induction l generalizing m with
  | nil => rfl
  | cons e l ih =>
    obtain ⟨hfirst, htail⟩ := List.pairwise_cons.mp hl
    have hde := hd e List.mem_cons_self
    rw [List.foldl_cons, ih _ htail fun x hx => hd x (List.mem_cons_of_mem e hx), mfind_cons]
    by_cases he : e.1 = k + d
    · have hk : e.1 - d = k := by omega
      rw [if_pos he, ← he, mfind_eq_none l e.1 fun x hx => (hfirst x hx).ne', hk, mfind_mset_same]
      rfl
    · rw [if_neg he, mfind_mset_other m _ _ e.2 (by omega)]

/-- A live ST register reads what its staged image lists (R92 step 6). -/
theorem mfind_applyRegs (pkg : Bool) (m : SMap Reg32) (hm : Rising m) (key : Nat) (hlive : isLiveKey pkg key = true)
    (hlo : 0x100 ≤ key % 4096) (hhi : key % 4096 < 0x800) : mfind (applyRegs pkg m) key = mfind m (key + 0x700) := by
  have hstaged : isStagedKey (key + 0x700) = true := by
    simp only [isStagedKey, Bool.and_eq_true, decide_eq_true_eq]
    omega
  unfold applyRegs
  rw [mfind_foldl_mset_sub 0x700 _ _ (List.Pairwise.filter _ hm), mfind_filter isStagedKey, mfind_filter (fun j => !isLiveKey pkg j)]
  · simp [hstaged, hlive]
  · intro e he
    simp only [List.mem_filter, isStagedKey, Bool.and_eq_true, decide_eq_true_eq] at he
    omega

/-- The key of a live ST register of a page. -/
theorem isLiveKey_regKey (pg : Page) (i off : Nat) (hpage : IsPage pg i) (hhi : off < 0x800) (hst : isStReg pg off = true) :
    isLiveKey pg.isPkg (regKey pg i off) = true := by
  have hindex : regKey pg i off / 4096 = pg.index i := by unfold regKey; omega
  have hmod : regKey pg i off % 4096 = off := by unfold regKey; omega
  have hat : keyPage pg.isPkg (regKey pg i off) = some (pg, i) := by
    rw [keyPage, hindex]
    exact hpage
  rw [isLiveKey, hat]
  simp [hmod, hhi, hst]

/-- A stack with every staged value live (R92 step 6). -/
def Stack.applied (x : Stack) : Stack :=
  { x with regs := applyRegs false x.regs, pkgRegs := applyRegs true x.pkgRegs, labels := x.stLabels }

theorem raw_applied (s : State) (k : Nat) (hk : k < s.stks.length) (hregs : Rising (s.stk k).regs) (hpkg : Rising (s.stk k).pkgRegs)
    (pg : Page) (i off : Nat) (hpage : IsPage pg i) (hlo : 0x100 ≤ off) (hhi : off < 0x800) (hst : isStReg pg off = true) :
    (s.modStk k Stack.applied).raw k pg i off = s.raw k pg i (off + 0x700) := by
  have hmod : regKey pg i off % 4096 = off := by unfold regKey; omega
  have hlive := isLiveKey_regKey pg i off hpage hhi hst
  have hkey : regKey pg i (off + 0x700) = regKey pg i off + 0x700 := (Nat.add_assoc _ _ _).symm
  unfold State.raw mget
  rw [State.stk_modStk_same s k _ hk, hkey, resetAt_staged _ pg off hlo hhi]
  cases hp : pg.isPkg with
  | false =>
    rw [hp] at hlive
    simp only [Bool.false_eq_true, if_false]
    exact congrArg (fun v : Option Reg32 => (v.getD (BitVec.ofNat 32 (resetAt s.part pg off))).toNat)
      (mfind_applyRegs false _ hregs _ hlive (by omega) (by omega))
  | true =>
    rw [hp] at hlive
    simp only [if_true]
    exact congrArg (fun v : Option Reg32 => (v.getD (BitVec.ofNat 32 (resetAt s.part pg off))).toNat)
      (mfind_applyRegs true _ hpkg _ hlive (by omega) (by omega))

/-! ### DIRTY clears -/

/-- Clearing DIRTY and FIRST_FAIL changes PAGE_STAGE_STATE alone. -/
theorem raw_clearStages (s : State) (k j : Nat) (clean : Bool) (pg : Page) (i off : Nat) (hne : off ≠ 0x1C) (hlt : off < 0x1000) :
    (clearStages s k clean).raw j pg i off = s.raw j pg i off := by
  unfold clearStages
  exact foldl_keeps (fun u => u.raw j pg i off) _ (fun u (p : Page × Nat) =>
    State.raw_setRaw_other u k j p.1 pg p.2 i 0x1C off _ (.inr (.inr (by unfold regKey; omega)))) _ s

/-- The state of every staged image is a register of its own (R86, R90). -/
theorem stagedPages_apart : ∀ e ∈ stagedPages, ∀ p ∈ stagedPages, e ≠ p →
    p.1.isPkg ≠ e.1.isPkg ∨ regKey e.1 e.2 0x1C ≠ regKey p.1 p.2 0x1C := by decide

/-- DIRTY clears on every page that is turned to, and stays clear (R91). -/
theorem dirty_foldl_setStage (k : Nat) (e : Page × Nat) (he : e ∈ stagedPages) (l : List (Page × Nat)) (hl : l ⊆ stagedPages)
    (s : State) (hk : k < s.stks.length) (h : e ∈ l ∨ s.dirty k e.1 e.2 = false) :
    (l.foldl (fun s p => s.setStage k p.1 p.2 false (s.dirty k p.1 p.2 && !true)) s).dirty k e.1 e.2 = false := by
  induction l generalizing s with
  | nil => simpa using h
  | cons p l ih =>
    refine ih (List.subset_of_cons_subset hl) _ (hk.trans_eq (length_modify' _ _ _).symm) ?_
    by_cases hep : e = p
    · subst hep
      right
      rw [dirty_setStage s k e.1 e.2 false _ hk, Bool.not_true, Bool.and_false]
    · have hkeep : (s.setStage k p.1 p.2 false (s.dirty k p.1 p.2 && !true)).dirty k e.1 e.2 = s.dirty k e.1 e.2 := by
        rw [State.dirty, State.setStage, State.raw_setRaw_other s k k p.1 e.1 p.2 e.2 0x1C 0x1C _
          (.inr (stagedPages_apart e he p (hl List.mem_cons_self) hep)), State.dirty]
      rw [hkeep]
      obtain hmem | hclean := h
      · exact .inl (List.mem_of_ne_of_mem hep hmem)
      · exact .inr hclean

theorem dirty_clearStages (s : State) (k : Nat) (hk : k < s.stks.length) (e : Page × Nat) (he : e ∈ stagedPages) :
    (clearStages s k true).dirty k e.1 e.2 = false :=
  dirty_foldl_setStage k e he stagedPages (List.Subset.refl _) s hk (.inl he)

/-! ### Credits -/

/-- t is s but for the ports. -/
def PortsOnly (s t : State) : Prop := t = { s with ports := t.ports }

namespace PortsOnly

theorem trans {s t u : State} (h : PortsOnly s t) (g : PortsOnly t u) : PortsOnly s u := by rw [PortsOnly, g, h]

theorem foldl {α : Type} (f : State → α → State) (hf : ∀ s a, PortsOnly s (f s a)) (l : List α) (s : State) :
    PortsOnly s (l.foldl f s) :=
  foldl_rel (R := PortsOnly) (fun _ => rfl) trans f hf l s

theorem modPort (s : State) (p : Nat) (f : Port → Port) : PortsOnly s (s.modPort p f) := rfl

theorem issueCredits (s : State) (p : Nat) : PortsOnly s (issueCredits s p) := by
  refine foldl _ (fun u e => ?_) _ s
  dsimp only
  split_ifs <;> rfl

theorem regrant (old s : State) (p : Nat) : PortsOnly s (regrant old s p) := by
  unfold Machine.regrant
  dsimp only
  split_ifs
  · rfl
  · refine trans (foldl _ (fun u c => ?_) _ s) (issueCredits _ p)
    split_ifs <;> rfl

theorem regrantMgmt (old s : State) (p : Nat) : PortsOnly s (regrantMgmt old s p) := rfl

end PortsOnly

/-! ### The stack that applies -/

/-- Between s and t stack k applied its staged values (R92 step 6). -/
structure Applied (s t : State) (k : Nat) : Prop where
  live : ∀ pg i off, IsPage pg i → pg ≠ .label → 0x100 ≤ off → off < 0x800 → isStReg pg off = true →
    t.raw k pg i off = s.raw k pg i (off + 0x700)
  labels : (t.stk k).labels = (s.stk k).stLabels
  clean : ∀ e ∈ stagedPages, t.dirty k e.1 e.2 = false

/-- The state of stack k with its staged values live, and the ports as the credits of its own leave them (R134). -/
theorem applyStack_eq (s : State) (k : Nat) :
    ∃ u, PortsOnly (s.modStk k Stack.applied) u ∧ applyStack s k = clearStages u k true := by
  refine ⟨_, ?_, rfl⟩
  refine .trans (t := forN 4 (s.modStk k Stack.applied) (fun u i => u.modPort (4 * k + i)
    (fun y => { y with buckets := y.buckets.filter (fun e => !rateChanged (s.stk k) e.1) }))) ?_ ?_
  · exact .foldl _ (fun u i => .modPort u (4 * k + i) _) _ _
  · exact .foldl _ (fun u i => (PortsOnly.regrant s u (4 * k + i)).trans (.regrantMgmt s _ (4 * k + i))) _ _

theorem applied_applyStack (s : State) (k : Nat) (hk : k < s.stks.length) (hregs : Rising (s.stk k).regs)
    (hpkg : Rising (s.stk k).pkgRegs) : Applied s (applyStack s k) k := by
  obtain ⟨u, hports, heq⟩ := applyStack_eq s k
  rw [heq]
  have hlen : k < u.stks.length := by
    rw [hports, State.modStk_stks, length_modify']
    exact hk
  have hraw : ∀ pg i off, u.raw k pg i off = (s.modStk k Stack.applied).raw k pg i off := fun pg i off => by rw [hports]; rfl
  have hstk : u.stk k = (s.stk k).applied := by
    rw [← State.stk_modStk_same s k Stack.applied hk, hports]
    rfl
  refine ⟨fun pg i off hpage _ hlo hhi hst => ?_, ?_, fun e he => dirty_clearStages u k hlen e he⟩
  · rw [raw_clearStages u k k true pg i off (by omega) (by omega), hraw]
    exact raw_applied s k hk hregs hpkg pg i off hpage hlo hhi hst
  · rw [(StageFrame.clearStages u k true).stack k, hstk]
    rfl

/-- What an applying stack leaves: the other stacks, and everything but stacks and ports. -/
theorem applyStack_frame (s : State) (k : Nat) :
    applyStack s k = { s with stks := (applyStack s k).stks, ports := (applyStack s k).ports } ∧
    (applyStack s k).stks.length = s.stks.length ∧ ∀ j, j ≠ k → (applyStack s k).stk j = s.stk j := by
  obtain ⟨u, hports, heq⟩ := applyStack_eq s k
  have hclear : StksFrame (AtStk k (fun _ _ => True)) u (clearStages u k true) :=
    .foldl (fun _ _ => ⟨trivial, fun _ => rfl⟩) (fun _ _ _ _ h g => ⟨trivial, fun hj => (g.2 hj).trans (h.2 hj)⟩) _
      (fun v (p : Page × Nat) => .modStk (fun _ _ => ⟨trivial, fun _ => rfl⟩) v k _ (fun _ => ⟨trivial, fun hk => absurd rfl hk⟩)) _ u
  rw [heq]
  refine ⟨?_, ?_, fun j hj => ?_⟩
  · rw [hclear.state, hports]
    rfl
  · rw [hclear.length, hports]
    exact length_modify' _ _ _
  · rw [(hclear.stack j).2 hj, hports]
    exact State.stk_modStk_other s k j _ hj

end Sys2Proof.Machine
end

section
/-! PROOFS. The apply step of a COMMIT over the stacks, and what follows it at the tick (R92 step 6, R97, R156, R165, R391). -/

namespace Sys2Proof.Machine

/-! ### Reports of COMMIT_SPLIT (R97) -/

theorem RgOnly.trans {x y z : Stack} (h : RgOnly x y) (g : RgOnly y z) : RgOnly x z := by rw [RgOnly, g, h]

/-- t is s but for the stacks' intakes and the PAGE_ERR bits to be sent, of which there may be more: what reports change (R510). -/
structure ReportFrame (s t : State) : Prop where
  state : t = { s with stks := t.stks, errPend := t.errPend }
  length : t.stks.length = s.stks.length
  errPend : s.errPend ⊆ t.errPend
  stack : ∀ k, RgOnly (s.stk k) (t.stk k)

namespace ReportFrame

theorem refl (s : State) : ReportFrame s s := ⟨rfl, rfl, List.Subset.refl _, fun _ => rfl⟩

theorem trans {s t u : State} (h : ReportFrame s t) (g : ReportFrame t u) : ReportFrame s u where
  state := by rw [g.state, h.state]
  length := g.length.trans h.length
  errPend := List.Subset.trans h.errPend g.errPend
  stack k := (h.stack k).trans (g.stack k)

theorem foldl {α : Type} (f : State → α → State) (hf : ∀ s a, ReportFrame s (f s a)) (l : List α) (s : State) :
    ReportFrame s (l.foldl f s) :=
  foldl_rel refl trans f hf l s

theorem report (s : State) (k : Nat) (x : Kind) (i sub addr : Nat) (hx : x.bit < 24) (hp : x.page.isPkg = true) :
    ReportFrame s (s.report k x i sub addr) := by
  obtain ⟨hstate, hlen, hstk⟩ := stk_report_of_isPkg s k x i sub addr hx hp
  refine ⟨?_, hlen, ?_, fun j => (hstk j).1⟩
  · rw [hstate]
  · rw [hstate]
    exact List.subset_append_left _ _

variable {s t : State} (h : ReportFrame s t)
include h

theorem raw (k : Nat) (pg : Page) (i off : Nat) : t.raw k pg i off = s.raw k pg i off :=
  State.raw_congr (by rw [h.state]) (by rw [h.stack k]) (by rw [h.stack k]) pg i off

theorem n : t.n = s.n := by rw [h.state]; rfl

end ReportFrame

/-- COMMIT_SPLIT that is due is reported; what is due later waits (R97). -/
theorem reportFrame_splitStacks (s : State) :
    ReportFrame { s with splitDue := s.splitDue.filter (fun e => !decide (e.1 ≤ s.now s.agg)) } (splitStacks s) := by
  refine .foldl _ (fun u e => ?_) _ _
  split_ifs
  · exact .refl u
  · exact .report u _ _ _ _ _ (by decide) rfl

/-! ### The loop over the stacks -/

/-- What tick T brings to stack k: nothing under reset, its staged values with CONFIRM, COMMIT_SPLIT without it (R92 step 6, R97). -/
def applyTurn (s : State) (k : Nat) : State :=
  if s.inReset k then s else if s.commit.got.contains k then applyStack s k else s.report k K.CMT_SPLIT 0 0 0

/-- A COMMIT_SPLIT of stack k waits to be sent to every copy (R97, R510). -/
def SplitSent (t : State) (k : Nat) : Prop := (k, Page.index 0 .cmt, K.CMT_SPLIT.bit) ∈ t.errPend

/-- From s to t tick T came to the stacks below m. -/
structure AppliedBelow (s : State) (m : Nat) (t : State) : Prop where
  state : t = { s with stks := t.stks, ports := t.ports, errPend := t.errPend }
  length : t.stks.length = s.stks.length
  errPend : s.errPend ⊆ t.errPend
  applied : ∀ k, k < m → s.inReset k = false → k ∈ s.commit.got → Applied s t k
  split : ∀ k, k < m → s.inReset k = false → k ∉ s.commit.got → RgOnly (s.stk k) (t.stk k) ∧ SplitSent t k
  rest : ∀ k, m ≤ k → t.stk k = s.stk k

/-- What a stack applied stays where its stack does. -/
theorem Applied.congr {s t u : State} {k : Nat} (h : Applied s t k) (hraw : ∀ pg i off, u.raw k pg i off = t.raw k pg i off)
    (hlabels : (u.stk k).labels = (t.stk k).labels) : Applied s u k where
  live pg i off hpage hlabel hlo hhi hst := (hraw pg i off).trans (h.live pg i off hpage hlabel hlo hhi hst)
  labels := hlabels.trans h.labels
  clean e he := by rw [State.dirty, hraw]; exact h.clean e he

/-- What a turn of stack k leaves: the other stacks, the package but its ports and the bits to be sent. -/
theorem applyTurn_frame (s : State) (k : Nat) :
    applyTurn s k = { s with
      stks := (applyTurn s k).stks, ports := (applyTurn s k).ports, errPend := (applyTurn s k).errPend } ∧
    (applyTurn s k).stks.length = s.stks.length ∧ s.errPend ⊆ (applyTurn s k).errPend ∧
    ∀ j, j ≠ k → (applyTurn s k).stk j = s.stk j := by
  unfold applyTurn
  split_ifs
  · exact ⟨rfl, rfl, List.Subset.refl _, fun _ _ => rfl⟩
  · obtain ⟨hstate, hlen, hother⟩ := applyStack_frame s k
    refine ⟨?_, hlen, ?_, hother⟩
    · rw [hstate]
    · rw [hstate]
      exact List.Subset.refl _
  · obtain ⟨hstate, hlen, hstk⟩ := stk_report_of_isPkg s k K.CMT_SPLIT 0 0 0 (by decide) rfl
    refine ⟨?_, hlen, ?_, fun j hj => (hstk j).2 hj⟩
    · rw [hstate]
    · rw [hstate]
      exact List.subset_append_left _ _

theorem AppliedBelow.zero (s : State) : AppliedBelow s 0 s :=
  ⟨rfl, rfl, List.Subset.refl _, nofun, nofun, fun _ _ => rfl⟩

/-- Tick T comes to the next stack. -/
theorem AppliedBelow.succ {s t : State} {m : Nat} (h : AppliedBelow s m t) (hm : m < s.stks.length) (hregs : Rising (s.stk m).regs)
    (hpkg : Rising (s.stk m).pkgRegs) : AppliedBelow s (m + 1) (applyTurn t m) := by
  obtain ⟨hstate, hlen, herr, hother⟩ := applyTurn_frame t m
  have hpart : (applyTurn t m).part = t.part := by rw [hstate]
  have hpart' : t.part = s.part := by rw [h.state]
  have hself := h.rest m (Nat.le_refl m)
  have hrst : t.inReset m = s.inReset m := by rw [State.inReset, State.inReset, hself]
  have hgot : t.commit.got = s.commit.got := by rw [h.state]
  refine ⟨by rw [hstate, h.state], hlen.trans h.length, List.Subset.trans h.errPend herr, fun k hk hlive hmem => ?_,
    fun k hk hlive hmem => ?_, fun k hk => (hother k (by omega)).trans (h.rest k (by omega))⟩
  · by_cases hkm : k = m
    · subst hkm
      have hturn : applyTurn t k = applyStack t k := by
        rw [applyTurn, if_neg (by simp [hrst, hlive]), if_pos (by simp [hgot, hmem])]
      have happ := applied_applyStack t k (h.length ▸ hm) (hself ▸ hregs) (hself ▸ hpkg)
      rw [hturn]
      refine ⟨fun pg i off hpage hlabel hlo hhi hst => ?_, by rw [happ.labels, hself], happ.clean⟩
      rw [happ.live pg i off hpage hlabel hlo hhi hst, State.raw_congr hpart' (by rw [hself]) (by rw [hself])]
    · have hk' := hother k hkm
      exact (h.applied k (by omega) hlive hmem).congr (State.raw_congr hpart (by rw [hk']) (by rw [hk'])) (by rw [hk'])
  · by_cases hkm : k = m
    · subst hkm
      have hturn : applyTurn t k = t.report k K.CMT_SPLIT 0 0 0 := by
        rw [applyTurn, if_neg (by simp [hrst, hlive]), if_neg (by simp [hgot, hmem])]
      obtain ⟨hrep, -, hstk⟩ := stk_report_of_isPkg t k K.CMT_SPLIT 0 0 0 (by decide) rfl
      rw [hturn]
      refine ⟨hself ▸ (hstk k).1, ?_⟩
      rw [SplitSent, hrep]
      exact List.mem_append_right _ (List.mem_singleton_self _)
    · obtain ⟨hrg, hsent⟩ := h.split k (by omega) hlive hmem
      exact ⟨by rw [hother k hkm]; exact hrg, herr hsent⟩

theorem appliedBelow_forN (s : State) (m : Nat) (hm : m ≤ s.stks.length)
    (hrising : ∀ k, k < m → Rising (s.stk k).regs ∧ Rising (s.stk k).pkgRegs) : AppliedBelow s m (forN m s applyTurn) := by
  induction m with
  | zero => exact .zero s
  | succ m ih =>
    rw [forN, List.range_succ, List.foldl_append, List.foldl_cons, List.foldl_nil]
    exact (ih (by omega) fun k hk => hrising k (by omega)).succ hm (hrising m (by omega)).1 (hrising m (by omega)).2

/-! ### What follows at the tick: level, budgets, capacity, counters -/

/-- Of a stack only its copy of the package pages, its Registrar, its budget, its capacity mark and its rails changed. -/
def SettledStk (x y : Stack) : Prop := y = { x with
  pkgRegs := y.pkgRegs, rg := y.rg, budget := y.budget
  tm := { x.tm with capShort := y.tm.capShort }, pw := { x.pw with railMv := y.pw.railMv } }

/-- t is s but for what the tick brings after the staged values: SCH_PAGE_STATUS, reports, budgets, capacity marks, rails, counters of
package pages and interrupt messages. -/
structure SettleFrame (s t : State) : Prop where
  state : t = { s with stks := t.stks, errPend := t.errPend, pkgCnt := t.pkgCnt, irqs := t.irqs }
  length : t.stks.length = s.stks.length
  errPend : s.errPend ⊆ t.errPend
  stack : ∀ k, SettledStk (s.stk k) (t.stk k)
  raw : ∀ k pg i off, off < 0x1000 → ¬(pg = .sch ∧ off = 0x0C) → t.raw k pg i off = s.raw k pg i off

namespace SettleFrame

theorem refl (s : State) : SettleFrame s s := ⟨rfl, rfl, List.Subset.refl _, fun _ => rfl, fun _ _ _ _ _ _ => rfl⟩

theorem trans {s t u : State} (h : SettleFrame s t) (g : SettleFrame t u) : SettleFrame s u where
  state := by rw [g.state, h.state]
  length := g.length.trans h.length
  errPend := List.Subset.trans h.errPend g.errPend
  stack k := by rw [SettledStk, g.stack k, h.stack k]
  raw k pg i off hlt hne := (g.raw k pg i off hlt hne).trans (h.raw k pg i off hlt hne)

theorem foldl {α : Type} (f : State → α → State) (hf : ∀ s a, SettleFrame s (f s a)) (l : List α) (s : State) :
    SettleFrame s (l.foldl f s) :=
  foldl_rel refl trans f hf l s

theorem of_report {s t : State} (h : ReportFrame s t) : SettleFrame s t where
  state := by rw [h.state]
  length := h.length
  errPend := h.errPend
  stack k := by rw [SettledStk, h.stack k]
  raw k pg i off _ _ := h.raw k pg i off

/-- A change of the package's counters and interrupt messages. -/
theorem of_eq {s t : State} (h : t = { s with pkgCnt := t.pkgCnt, irqs := t.irqs }) : SettleFrame s t := by
  rw [h]
  exact ⟨rfl, rfl, List.Subset.refl _, fun _ => rfl, fun _ _ _ _ _ _ => rfl⟩

/-- A change of a stack's budget, capacity mark and rails. -/
theorem modStk (s : State) (k : Nat) (f : Stack → Stack) (hf : ∀ x, SettledStk x (f x)) (hpkg : ∀ x, (f x).pkgRegs = x.pkgRegs) :
    SettleFrame s (s.modStk k f) where
  state := rfl
  length := length_modify' _ _ _
  errPend := List.Subset.refl _
  stack j := State.stk_modStk_rel (R := SettledStk) (fun _ => rfl) hf s k j
  raw j pg i off _ _ := State.raw_congr (s := s) (t := s.modStk k f) rfl
    (State.stk_modStk_proj Stack.regs (fun x => by rw [hf x]) s k j) (State.stk_modStk_proj Stack.pkgRegs hpkg s k j) pg i off

/-- SCH_PAGE_STATUS is written in a copy. -/
theorem setStatus (s : State) (k v : Nat) : SettleFrame s (s.setRaw k .sch 0 0x0C v) where
  state := rfl
  length := length_modify' _ _ _
  errPend := List.Subset.refl _
  stack j := State.stk_modStk_rel (R := SettledStk) (fun _ => rfl) (fun _ => by rfl) s k j
  raw j pg i off hlt hne := by
    refine State.raw_setRaw_other s k j .sch pg 0 i 0x0C off v (.inr ?_)
    by_cases hp : pg.isPkg = true
    · right
      have hindex : pg ≠ .sch → pg.index i ≠ Page.index 0 .sch := by
        intro hsch
        cases pg <;> simp_all [Page.isPkg, Page.index]
        omega
      by_cases hsch : pg = .sch
      · subst hsch
        exact regKey_ne_of_off .sch 0 fun h => hne ⟨rfl, h⟩
      · have hi := hindex hsch
        unfold regKey
        omega
    · exact .inl fun h => hp h.symm

theorem pkgStatusBit (s : State) (n : Nat) (v : Bool) : SettleFrame s (s.pkgStatusBit .sch n v) := by
  have hset : SettleFrame s (forStacks s (fun u k =>
      u.setRaw k .sch 0 0x0C (putBits (u.raw k .sch 0 0x0C) (16 + n) (16 + n) (b2n v)))) := foldl _ (fun u k => setStatus u k _) _ s
  unfold State.pkgStatusBit
  dsimp only
  split_ifs
  · refine hset.trans (of_eq ?_)
    rw [State.event_eq]
  · exact hset

theorem count (s : State) (k : Nat) (pg : Page) (i c n : Nat) (hp : pg.isPkg = true) : SettleFrame s (s.count k pg i c n) :=
  of_eq (by rw [State.count_of_isPkg s k pg i c n hp])

theorem setBudget (s : State) (k : Nat) : SettleFrame s (setBudget s k) := modStk s k _ (fun _ => rfl) (fun _ => rfl)

theorem capStack (s : State) (k : Nat) : SettleFrame s (capStack s k) := by
  have hmark : ∀ b, SettleFrame s (s.modStk k (fun x => { x with tm := { x.tm with capShort := b } })) :=
    fun b => modStk s k _ (fun _ => rfl) (fun _ => rfl)
  unfold Machine.capStack
  dsimp only
  split_ifs
  · exact (hmark _).trans (of_report (.report _ k K.SCH_CAPACITY_SHORT 0 0 0 (by decide) rfl))
  · exact hmark _

theorem capCheck (s : State) : SettleFrame s (capCheck s) := by
  have hstacks : SettleFrame s (forStacks s Machine.capStack) := foldl _ capStack _ s
  unfold Machine.capCheck
  dsimp only
  refine .trans ?_ (pkgStatusBit _ 0 _)
  split_ifs
  · exact hstacks.trans (count _ _ .sch 0 10 1 rfl)
  · exact hstacks

end SettleFrame

end Sys2Proof.Machine
end

section
/-! PROOFS. COMMIT_APPLY and COMMIT_COMPLETE: every staged value live at once, the running level, and the outcome in CMT_RESULT
(R92 steps 6 and 7, R97, R100, R391). -/

namespace Sys2Proof.Machine

/-! ### The running level (R390, R391) -/

/-- Whether a stack runs on conservative trims depends on the OTP controllers alone (R390). -/
theorem trimCap_congr {s t : State} (hlen : t.stks.length = s.stks.length) (hotp : ∀ k, (t.stk k).otp = (s.stk k).otp) :
    t.trimCap = s.trimCap := by
  have hmap : t.stks.map Stack.otp = s.stks.map Stack.otp := by
    refine List.ext_getElem (by simpa using hlen) fun k hk hk' => ?_
    rw [List.length_map] at hk hk'
    have h := hotp k
    rw [State.stk, State.stk, List.getD_eq_getElem _ _ hk, List.getD_eq_getElem _ _ hk'] at h
    simpa using h
  have hany : ∀ u : State, u.trimCap = (u.stks.map Stack.otp).any Otp.conservative := fun u => by
    rw [State.trimCap, List.any_map]
    rfl
  rw [hany, hany, hmap]

/-- What follows the staged values at the tick leaves the level that they give. -/
theorem SettleFrame.targetLevel {s t : State} (h : SettleFrame s t) : t.targetLevel = s.targetLevel := by
  have hagg : t.agg = s.agg := by rw [h.state]
  have hcap : t.supplyCap = s.supplyCap := by rw [h.state]
  have htrim := trimCap_congr h.length fun k => by rw [h.stack k]
  have hlevel : t.committed = s.committed := by
    rw [State.committed, State.committed, hagg]
    exact congrArg (bits · 1 0) (h.raw s.agg .pkg 0 0x100 (by decide) (by decide))
  rw [State.targetLevel, State.targetLevel, hlevel, hcap, htrim]

/-- What a level leaves beside the level itself. -/
theorem settleFrame_setLevel (s : State) (l : Nat) : SettleFrame { s with runLevel := l, levelNext := none } (setLevel s l) := by
  unfold setLevel
  refine .foldl _ (fun u k => ?_) _ _
  exact .modStk u k _ (fun _ => rfl) (fun _ => rfl)

/-- The state that runs at the level that its live values give, before its rails do (R391). -/
def State.atTarget (s : State) : State := { s with runLevel := s.targetLevel, levelNext := none }

/-- The state at the level that the live values give (R391). -/
def State.leveled (s : State) : State :=
  if s.runLevel = s.targetLevel then { s with levelNext := none } else setLevel s s.targetLevel

theorem settleFrame_leveled (s : State) : SettleFrame s.atTarget s.leveled := by
  unfold State.leveled State.atTarget
  split_ifs with h
  · rw [← h]
    exact .refl _
  · exact settleFrame_setLevel s s.targetLevel

/-! ### The rest of tick T -/

/-- The state after the level, with budgets, the comparison of capacity, and the counters of COMMITs, the last of them the frame (R102,
R156, R165). -/
def State.settled (s : State) (a frame : Nat) : State :=
  let u := (capCheck (forStacks s.leveled setBudget)).count a .cmt 0 0 1
  if u.frozen a .cmt 0 then u else u.setCnt a .cmt 0 5 frame

theorem settleFrame_settled (s : State) (a frame : Nat) : SettleFrame s.atTarget (s.settled a frame) := by
  have hlevel := settleFrame_leveled s
  have hbudget : SettleFrame s.leveled (forStacks s.leveled setBudget) := .foldl _ SettleFrame.setBudget _ _
  have hcount := (hlevel.trans hbudget).trans ((SettleFrame.capCheck _).trans (.count _ a .cmt 0 0 1 rfl))
  unfold State.settled
  dsimp only
  split_ifs
  · exact hcount
  · exact hcount.trans (.of_eq rfl)

/-! ### COMMIT_APPLY (R92 step 6, R97) -/

/-- The state when tick T has come to every stack. -/
def State.ticked (s : State) : State := forStacks (splitStacks s) applyTurn

/-- The state after COMMIT_APPLY, but for the sequencer. -/
def State.commitApplied (s : State) : State := s.ticked.settled (splitStacks s).agg ((splitStacks s).frame (splitStacks s).agg)

theorem exec_commitApply (s : State) (hphase : (splitStacks s).commit.phase = .confirmed)
    (htick : (splitStacks s).commit.target ≤ (splitStacks s).now (splitStacks s).agg) : exec .commitApply s = .next
      { s.commitApplied with commit := { s.commitApplied.commit with phase := .done, status := 0, failStack := 0 } } := by
  change execCommitApply s = _
  unfold execCommitApply
  dsimp only
  rw [if_neg (by simp [hphase, htick])]
  rfl

/-- What was applied stays applied as the tick goes on. -/
theorem Applied.settled {s u t : State} {k : Nat} (h : Applied s u k) (g : SettleFrame u.atTarget t) : Applied s t k where
  live pg i off hpage hlabel hlo hhi hst :=
    (g.raw k pg i off (by omega) (by omega)).trans (h.live pg i off hpage hlabel hlo hhi hst)
  labels := by rw [g.stack k]; exact h.labels
  clean e he := by rw [State.dirty, g.raw k e.1 e.2 0x1C (by decide) (by omega)]; exact h.clean e he

theorem raised_of_splitSent {s t : State} {k : Nat} (h : SplitSent t k) : Raised s t k K.CMT_SPLIT 0 := by
  rw [Raised, if_pos (by decide), if_pos (by decide)]
  exact h

/-- A stack that did not apply keeps its live values as the tick goes on, but for SCH_PAGE_STATUS (R97). -/
theorem kept_settled {s u t : State} {k : Nat} (hpart : u.part = s.part) (h : RgOnly (s.stk k) (u.stk k))
    (g : SettleFrame u.atTarget t) : (t.stk k).regs = (s.stk k).regs ∧ (t.stk k).labels = (s.stk k).labels ∧
      ∀ pg i off, off < 0x1000 → ¬(pg = .sch ∧ off = 0x0C) → t.raw k pg i off = s.raw k pg i off := by
  have hstk : u.atTarget.stk k = { s.stk k with rg := (u.stk k).rg } := h
  refine ⟨by rw [g.stack k, hstk], by rw [g.stack k, hstk], fun pg i off hlt hne => (g.raw k pg i off hlt hne).trans ?_⟩
  exact State.raw_congr (s := s) (t := u) hpart (by rw [h]) (by rw [h]) pg i off

theorem claims_commitApply : Claims.CommitApply := by
  intro s hshape hphase htick hrising
  have hrep := reportFrame_splitStacks s
  have hn : (splitStacks s).n = s.n := hrep.n
  have hstk : ∀ k, RgOnly (s.stk k) ((splitStacks s).stk k) := hrep.stack
  have hraw : ∀ k pg i off, (splitStacks s).raw k pg i off = s.raw k pg i off := hrep.raw
  have hcommit : (splitStacks s).commit = s.commit := by rw [hrep.state]
  have hagg : (splitStacks s).agg = s.agg := by rw [hrep.state]
  have hnow : (splitStacks s).now s.agg = s.now s.agg := by rw [State.now, hstk]; rfl
  have hrst : ∀ k, (splitStacks s).inReset k = s.inReset k := fun k => by rw [State.inReset, hstk]; rfl
  have hloop : AppliedBelow (splitStacks s) s.n s.ticked := by
    rw [State.ticked, forStacks, hn]
    refine appliedBelow_forN (splitStacks s) s.n (by rw [hrep.length]; exact hshape.1.ge) fun k hk => ?_
    rw [hstk k]
    exact hrising k hk
  have hset := settleFrame_settled s.ticked (splitStacks s).agg ((splitStacks s).frame (splitStacks s).agg)
  refine ⟨_, exec_commitApply s (by rw [hcommit, hphase]) (by rw [hcommit, hagg, hnow]; exact htick), ?_⟩
  rw [← State.commitApplied] at hset
  generalize s.commitApplied = t at hset
  refine ⟨fun k hk hlive hgot => ?_, fun k hk hlive hgot => ?_, ?_, rfl, rfl, ?_⟩
  · have happ := (hloop.applied k hk (by rw [hrst, hlive]) (by rw [hcommit]; exact hgot)).settled hset
    refine ⟨fun pg i off hpage hlabel hlo hhi hst => ?_, ?_, happ.clean⟩
    · exact (happ.live pg i off hpage hlabel hlo hhi hst).trans (hraw k pg i _)
    · exact happ.labels.trans (by rw [hstk])
  · obtain ⟨hrg, hsent⟩ := hloop.split k hk (by rw [hrst, hlive]) (by rw [hcommit]; exact hgot)
    have hpart : s.ticked.part = s.part := by rw [hloop.state, hrep.state]
    obtain ⟨hregs, hlabels, hkept⟩ := kept_settled hpart ((hstk k).trans hrg) hset
    refine ⟨?_, hregs, hlabels, fun pg i off _ _ hlt hne => hkept pg i off hlt hne⟩
    exact raised_of_splitSent (hset.errPend hsent)
  · have hlevel : t.runLevel = s.ticked.targetLevel := by rw [hset.state]; rfl
    exact hlevel.trans hset.targetLevel.symm
  · have hdies : t.dies = s.dies := by rw [hset.state, State.atTarget, hloop.state, hrep.state]
    exact hdies

/-! ### COMMIT_COMPLETE (R92 step 7, R100) -/

/-- STATUS of an outcome: 0xB after an abort (R100). -/
def Commit.shown (c : Commit) : Nat := if c.phase = .aborted then 11 else c.status

/-- What completion writes in CMT_RESULT (R100). -/
def resultFields (c : Commit) : List (FRef × Nat) :=
  [(F.CMT_RESULT_BUSY, 0), (F.CMT_RESULT_DONE, 1), (F.CMT_RESULT_STATUS, c.shown), (F.CMT_RESULT_FAIL_STACK, c.failStack)]

theorem fieldsAt_resultFields (c : Commit) : FieldsAt .cmt 0x104 ((resultFields c).map Prod.fst) := by
  change FieldsAt .cmt 0x104 [F.CMT_RESULT_BUSY, F.CMT_RESULT_DONE, F.CMT_RESULT_STATUS, F.CMT_RESULT_FAIL_STACK]
  decide

/-- The state with the outcome in every copy, its event, its count, and after an abort its report and the voltage of the running level. -/
def State.resultShown (s : State) : State :=
  let u := (s.setPkg s.agg (resultFields s.commit)).event s.agg .cmt 0 0
  if s.commit.shown = 11 then (setLevel (u.count s.agg .cmt 0 2 1) u.runLevel).report s.agg K.CMT_ABORT 0 0 0
  else if s.commit.checkOnly then u.count s.agg .cmt 0 4 1
  else if s.commit.shown ≠ 0 then u.count s.agg .cmt 0 1 1 else u

theorem showResult_eq (s : State) : showResult s = { s.resultShown with commit := { s.commit with phase := .none, held := [] } } := rfl

/-- From s to t the package kept its mode, its dies, its live labels and the registers of CMT. -/
structure KeepsCmt (s t : State) : Prop where
  mode : t.mode = s.mode
  dies : t.dies = s.dies
  labels : ∀ k, (t.stk k).labels = (s.stk k).labels
  raw : ∀ k off, off < 0x1000 → t.raw k .cmt 0 off = s.raw k .cmt 0 off

namespace KeepsCmt

theorem trans {s t u : State} (h : KeepsCmt s t) (g : KeepsCmt t u) : KeepsCmt s u where
  mode := g.mode.trans h.mode
  dies := g.dies.trans h.dies
  labels k := (g.labels k).trans (h.labels k)
  raw k off hlt := (g.raw k off hlt).trans (h.raw k off hlt)

theorem of_settle {s t : State} (h : SettleFrame s t) : KeepsCmt s t where
  mode := by rw [h.state]
  dies := by rw [h.state]
  labels k := by rw [h.stack k]
  raw k off hlt := h.raw k .cmt 0 off hlt (by simp)

theorem setLevel (s : State) (l : Nat) : KeepsCmt s (setLevel s l) := by
  have h := of_settle (settleFrame_setLevel s l)
  exact ⟨h.mode, h.dies, h.labels, h.raw⟩

theorem event (s : State) (k : Nat) (pg : Page) (i n : Nat) : KeepsCmt s (s.event k pg i n) :=
  of_settle (.of_eq (by rw [State.event_eq]))

theorem count (s : State) (k c : Nat) : KeepsCmt s (s.count k .cmt 0 c 1) := of_settle (.count s k .cmt 0 c 1 rfl)

theorem proceedRetain (s : State) : KeepsCmt s (proceedRetain s) := by
  unfold Machine.proceedRetain wantRetain
  split_ifs <;> exact ⟨rfl, rfl, fun _ => rfl, fun _ _ _ => rfl⟩

/-- What shows an outcome beside CMT_RESULT. -/
theorem resultShown (s : State) : KeepsCmt (s.setPkg s.agg (resultFields s.commit)) s.resultShown := by
  have hevent := event (s.setPkg s.agg (resultFields s.commit)) s.agg .cmt 0 0
  unfold State.resultShown
  dsimp only
  split_ifs
  · exact ((hevent.trans (count _ _ 2)).trans (setLevel _ _)).trans (of_settle (.of_report (.report _ _ K.CMT_ABORT 0 0 0 (by decide) rfl)))
  · exact hevent.trans (count _ _ 4)
  · exact hevent.trans (count _ _ 1)
  · exact hevent

end KeepsCmt

/-- A RETAIN request that goes on leaves the sequencer. -/
theorem commit_proceedRetain (s : State) : (proceedRetain s).commit = s.commit := by
  unfold proceedRetain wantRetain
  split_ifs <;> rfl

theorem exec_commitComplete (s : State) (hphase : s.commit.phase = .done ∨ s.commit.phase = .aborted) (hheld : s.commit.held = []) :
    exec .commitComplete s = .next (proceedRetain (showResult s)) := by
  change execCommitComplete s = _
  rw [execCommitComplete, if_pos (by simpa using hphase), hheld, List.foldl_nil]

theorem claims_commitComplete : Claims.CommitComplete := by
  intro s hshape hphase hheld hstatus hstack
  have hsent := fieldsSent_setPkg s s.agg .cmt 0x104 (resultFields s.commit) hshape.1 rfl (fieldsAt_resultFields s.commit)
  have hshown : KeepsCmt (s.setPkg s.agg (resultFields s.commit)) (showResult s) := by
    rw [showResult_eq]
    obtain ⟨hmode, hdies, hlabels, hraw⟩ := KeepsCmt.resultShown s
    exact ⟨hmode, hdies, hlabels, hraw⟩
  have hkept := hshown.trans (.proceedRetain (showResult s))
  have hcommit := commit_proceedRetain (showResult s)
  refine ⟨_, exec_commitComplete s hphase hheld, ?_⟩
  generalize proceedRetain (showResult s) = t at hkept hcommit
  have hread : ∀ k g x, k < s.n → s.reach s.agg k = true → (g, x) ∈ resultFields s.commit → x < 2 ^ (g.hi + 1 - g.lo) →
      t.fld k 0 g = x := by
    intro k g x hk hr hg hx
    obtain ⟨hpage, hoff, -, -⟩ := (fieldsAt_resultFields s.commit).1 g (List.mem_map_of_mem hg)
    have hfield := hsent.fields k g x hk hr hg
    rw [Nat.mod_eq_of_lt hx] at hfield
    rw [← hfield, State.fld, State.fld, hpage, hoff, hkept.raw k 0x104 (by decide)]
  have hst : s.commit.shown < 16 := by
    unfold Commit.shown
    split_ifs
    · decide
    · exact hstatus
  refine ⟨fun k hk hr => ⟨?_, ?_, ?_, ?_⟩, ?_, ?_, ?_, fun k => ?_⟩
  · exact hread k _ 0 hk hr (by simp [resultFields]) (by decide)
  · exact hread k _ 1 hk hr (by simp [resultFields]) (by decide)
  · exact hread k _ s.commit.shown hk hr (by simp [resultFields]) hst
  · exact hread k _ _ hk hr (by simp [resultFields]) hstack
  · rw [State.cmtBusy, hcommit, showResult_eq]
    rfl
  · rw [hkept.dies, hsent.frame.state]
  · rw [hkept.mode, hsent.frame.state]
  · rw [hkept.labels, hsent.frame.stack k]

/-- Settles O16: tick T comes to the stacks one after the other, and what each turn adds is what `AppliedBelow` states; completion
writes the outcome in every copy. -/
theorem commitEnd : Obligations.CommitEnd := ⟨claims_commitApply, claims_commitComplete⟩

end Sys2Proof.Machine
end

section
/-! PROOFS. A step runs the command at the front of the queue (R119). -/

namespace Sys2Proof.Machine

/-- Settles O1: `step` looks at the queue alone. -/
theorem stepRunsFront : Obligations.StepRunsFront := by
  refine ⟨fun s c rest hqueue => ?_, fun s hqueue => ?_⟩
  · rw [step, hqueue]
  · rw [step, hqueue]

end Sys2Proof.Machine
end

section
/-! PROOFS. Interrupt messages (R104, R128). -/

namespace Sys2Proof.Machine

/-! ### Interrupt messages that go out (R128) -/

/-- The state after the oldest interrupt message has gone out. -/
def State.irqSent (s : State) (e : Irq) (rest : List Irq) : State :=
  { s with irqs := rest }.modPort s.refPort (fun x => { x with
    mgmtAvail := x.mgmtAvail - 1, mgmtRaw := x.mgmtRaw ++ [[irqHeader e]] })

theorem exec_irq_of_credit (s : State) (e : Irq) (rest : List Irq) (hirqs : s.irqs = e :: rest)
    (hcredit : 0 < (s.prt s.refPort).mgmtAvail) : exec .irq s = .next (s.irqSent e rest) := by
  change execIrq s = _
  rw [execIrq, hirqs]
  simp only [if_neg (Nat.ne_of_gt hcredit)]
  rfl

theorem exec_irq_of_no_credit (s : State) (hcredit : (s.prt s.refPort).mgmtAvail = 0) : exec .irq s = .next s := by
  change execIrq s = _
  unfold execIrq
  split
  · rfl
  · simp only [if_pos hcredit]

/-! ### Interrupt messages that come in (R104) -/

/-- Flit slots of an interrupt or telemetry message. -/
def irqSlots (h : Word) : Nat := if wordNum h 0 1 = 0x89 then 1 + bits (wordNum h 4 2) 15 12 else 1

/-- The state after a message on MGMT has been discarded, but for its report. -/
def State.irqDropped (s : State) (p : Nat) (h : Word) : State :=
  s.modPort p (fun x => { x with mgmtCred := x.mgmtCred - irqSlots h, mgmtRet := x.mgmtRet + irqSlots h })

theorem exec_inboundIrqTelemetry (s : State) (p : Nat) (h : Word) (hvc : (s.prt p).rxVc = .mgmt)
    (hop : wordNum h 0 1 = 0x88 ∨ wordNum h 0 1 = 0x89) : exec (.inboundIrqTelemetry p h) s =
      .next ((s.irqDropped p h).report (p / 4) K.NXP_PROTOCOL (p % 4) 0 0) := by
  change execInboundIrqTelemetry p h s = _
  rw [execInboundIrqTelemetry, if_neg (by tauto), hvc]
  rfl

/-- Settles O22: a message out is one change of the reference's port; one from the partner is a change of its port and a report. -/
theorem interrupts : Obligations.Interrupts := by
  refine ⟨fun s e rest hirqs hport hcredit => ?out, exec_irq_of_no_credit, fun s p h hshape hp hvc hop => ?inbound⟩
  case out =>
    have hsame : (s.irqSent e rest).prt s.refPort = _ := State.prt_modPort_same _ s.refPort _ hport
    refine ⟨_, exec_irq_of_credit s e rest hirqs hcredit, rfl, ?_, ?_, rfl, fun q hq => ?_, ?_⟩
    · rw [hsame]
      rfl
    · rw [hsame]
      rfl
    · exact State.prt_modPort_other _ s.refPort q _ hq
    · rw [hsame]
      rfl
  case inbound =>
    have hk : p / 4 < (s.irqDropped p h).stks.length := by
      have hstks : (s.irqDropped p h).stks.length = s.n := hshape.1
      have hports := hshape.2
      omega
    have hstate := report_of_stack_page (s.irqDropped p h) (p / 4) K.NXP_PROTOCOL (p % 4) 0 0 rfl
    have hstk := stk_report (s.irqDropped p h) (p / 4) K.NXP_PROTOCOL (p % 4) 0 0
    have hraised := raised_report_of_stack_page (s.irqDropped p h) (p / 4) K.NXP_PROTOCOL (p % 4) 0 0 hk (by decide) rfl
    have hexec := exec_inboundIrqTelemetry s p h hvc hop
    generalize (s.irqDropped p h).report (p / 4) K.NXP_PROTOCOL (p % 4) 0 0 = t at hstate hstk hraised hexec
    have hprt : ∀ q, t.prt q = (s.irqDropped p h).prt q := fun q => by rw [hstate]; rfl
    have hsame : t.prt p = _ := (hprt p).trans (State.prt_modPort_same s p _ hp)
    refine ⟨t, hexec, ?_, ?_, ?_, hraised.of_rg_eq rfl, ?_, fun q hq => ?_, fun j hj => (hstk j).2 hj, ?_, (hstk (p / 4)).1⟩
    · rw [hsame]
      rfl
    · rw [hsame]
      rfl
    · rw [hsame]
    · rw [hstate]
      rfl
    · exact (hprt q).trans (State.prt_modPort_other s p q _ hq)
    · rw [hsame]

end Sys2Proof.Machine
end

section
/-! PROOFS. FENCE (R121). -/

namespace Sys2Proof.Machine

/-! ### A FENCE leaves ingress -/

/-- The state after a FENCE has left ingress and holds its context. -/
def State.fencedBy (s : State) (p : Nat) (r : Req) : State :=
  (leaveIngress s p r).modPort p (fun x => { x with fences := x.fences ++ [r] })

theorem exec_fence (s : State) (p ctx : Nat) (r : Req) (hhead : (s.prt p).head ctx = some r) (hop : r.op = 0x08)
    (hform : r.formOk = true) (hfree : (s.prt p).fenced ctx = false) (hmode : s.mode = .active) (hrst : s.inReset (p / 4) = false)
    (hhalt : s.halt = none) (hout : s.outAllows p r = true) : exec (.fence p ctx) s = .next (s.fencedBy p r) := by
  change execFence p ctx s = _
  rw [execFence, hhead]
  simp [hop, hfree, hmode, hrst, hout, hform, hhalt, State.fencedBy]

/-- A fenced context lets no request leave (R121). -/
theorem canLeave_of_fenced (s : State) (p : Nat) (q : Req) (h : (s.prt p).fenced q.reqId = true) : s.canLeave p q = false := by
  simp [State.canLeave, h]

/-- The head of a context is of the context. -/
theorem reqId_of_head {x : Port} {ctx : Nat} {r : Req} (h : x.head ctx = some r) : r.reqId = ctx := by
  simpa using List.find?_some h

/-- Of a port only its ingress, FENCEs and returned credits changed. -/
def FenceOnly (x y : Port) : Prop :=
  y = { x with ingress := y.ingress, fences := y.fences, ctxCred := y.ctxCred, lcrdOut := y.lcrdOut }

theorem prt_fencedBy (s : State) (p : Nat) (r : Req) (hp : p < s.ports.length) :
    ((s.fencedBy p r).prt p).fences = (s.prt p).fences ++ [r] ∧
    ((s.fencedBy p r).prt p).ingress = (s.prt p).ingress.filter (fun q => q.rid != r.rid) ∧
    FenceOnly (s.prt p) ((s.fencedBy p r).prt p) := by
  have hleft : (leaveIngress s p r).prt p = _ := State.prt_modPort_same s p _ hp
  have hfence : (s.fencedBy p r).prt p = _ :=
    State.prt_modPort_same (leaveIngress s p r) p _ (lt_of_lt_of_eq hp (List.length_modify _ _ _).symm)
  rw [hleft] at hfence
  rw [hfence]
  exact ⟨rfl, rfl, rfl⟩

theorem onlyPort_fencedBy (s : State) (p : Nat) (r : Req) : OnlyPort p s (s.fencedBy p r) :=
  (onlyPort_modPort s p _).trans (onlyPort_modPort _ p _)

/-! ### The response of a FENCE -/

/-- The state without the FENCE among those that wait. -/
def State.unfenced (s : State) (p : Nat) (f : Req) : State :=
  s.modPort p (fun x => { x with fences := x.fences.filter (fun r => r.rid != f.rid) })

theorem exec_fenceComplete (s : State) (p ctx : Nat) (f : Req) (hfind : (s.prt p).fences.find? (fun r => r.reqId == ctx) = some f)
    (hdone : s.earlierPending f = false) (hroom : s.rspRoom p 1 = true) :
    exec (.fenceComplete p ctx) s = .next (pushRsp (s.unfenced p f) (respTo f stOk (s.frame (p / 4)))) := by
  change execFenceComplete p ctx s = _
  rw [execFenceComplete, hfind]
  simp [hdone, hroom, State.unfenced]

theorem exec_fenceComplete_of_pending (s : State) (p ctx : Nat) (f : Req)
    (hfind : (s.prt p).fences.find? (fun r => r.reqId == ctx) = some f) (hpending : s.earlierPending f = true) :
    exec (.fenceComplete p ctx) s = .next s := by
  change execFenceComplete p ctx s = _
  rw [execFenceComplete, hfind]
  simp [hpending]

/-- Settles O19: a FENCE moves from ingress to the FENCEs that wait, and from there its response to RSP egress. -/
theorem fence : Obligations.Fence := by
  refine ⟨fun s p ctx r hp hhead hop hform hfree hmode hrst hhalt hout => ?leaves,
    fun s p ctx f hp hfind hport hdone hroom hdrop => ?answered, exec_fenceComplete_of_pending⟩
  case leaves =>
    obtain ⟨hfences, hingress, honly⟩ := prt_fencedBy s p r hp
    refine ⟨_, exec_fence s p ctx r hhead hop hform hfree hmode hrst hhalt hout, hfences, hingress, fun q hq => ?_,
      onlyPort_fencedBy s p r, honly⟩
    refine canLeave_of_fenced _ p q ?_
    rw [Port.fenced, hfences, List.any_append]
    simp [hq, reqId_of_head hhead]
  case answered =>
    subst hport
    have hfree : (s.unfenced f.port f).prt f.port = _ := State.prt_modPort_same s f.port _ hp
    have hroom' : (s.unfenced f.port f).rspRoom f.port 1 = true := by
      rw [State.rspRoom, hfree]
      exact hroom
    have hpush := pushRsp_of_room (s.unfenced f.port f) (respTo f stOk (s.frame (f.port / 4))) hroom' (by
      rw [show (respTo f stOk (s.frame (f.port / 4))).port = f.port from rfl, hfree]
      exact hdrop)
    have hsame := State.prt_addRsp_same (s.unfenced f.port f) (respTo f stOk (s.frame (f.port / 4))) f.port
      (lt_of_lt_of_eq hp (List.length_modify _ _ _).symm) rfl
    refine ⟨_, exec_fenceComplete s f.port ctx f hfind hdone hroom, ?_⟩
    rw [hpush]
    refine ⟨?_, ?_, (onlyPort_modPort s f.port _).trans (onlyPort_modPort _ f.port _), ?_⟩
    · rw [hsame, hfree]
    · rw [hsame, hfree]
    · rw [hsame, hfree]

end Sys2Proof.Machine
end

section
/-! PROOFS. Requests that complete in their table (R109, R132, R140). -/

namespace Sys2Proof.Machine

theorem rid_of_entry {s : State} {k rid : Nat} {e : Entry} (h : s.entry k rid = some e) : e.req.rid = rid := by
  simpa using List.find?_some h

/-! ### Ready entries -/

/-- A ready entry of one opcode has it. -/
theorem Ready.op_eq {s : State} {k rid op : Nat} {e : Entry} (h : Ready s k rid e [op]) : e.req.op = op := by
  obtain ⟨-, hop, -⟩ := h
  exact List.mem_singleton.mp hop

theorem Ready.entry_eq {s : State} {k rid : Nat} {e : Entry} {ops : List Nat} (h : Ready s k rid e ops) : s.entry k rid = some e := h.1

theorem Ready.done_eq {s : State} {k rid : Nat} {e : Entry} {ops : List Nat} (h : Ready s k rid e ops) : e.done = none := by
  obtain ⟨-, -, hdone, -⟩ := h
  exact hdone

/-- A stack with a ready entry serves. -/
theorem Ready.unreach_eq {s : State} {k rid : Nat} {e : Entry} {ops : List Nat} (h : Ready s k rid e ops) : s.unreach k = false := by
  obtain ⟨-, -, -, -, hserve⟩ := h
  simp only [State.servable, Bool.and_eq_true, Bool.not_eq_true'] at hserve
  obtain ⟨⟨⟨-, hup⟩, -⟩, -⟩ := hserve
  exact hup

/-! ### Answers and freed entries -/

/-- An entry depends on the request table of its stack alone. -/
theorem State.entry_congr {s t : State} {k : Nat} (h : (t.stk k).table = (s.stk k).table) (rid : Nat) : t.entry k rid = s.entry k rid := by
  rw [State.entry, State.entry, h]

theorem finish_of_acknowledged (s : State) (k : Nat) (r : Req) (rs : List Resp) (h : isPosted r.op = false) :
    finish s k r rs = s.modEntry k r.rid (fun e => { e with done := some rs }) := by
  simp [finish, h]

/-- An acknowledged request is answered in its entry, and nothing else changes. -/
theorem answered_finish {s : State} {k rid : Nat} {e : Entry} (rs : List Resp) (he : s.entry k rid = some e)
    (h : isPosted e.req.op = false) :
    Answered (finish s k e.req rs) k rid e rs ∧ StksFrame (AtStk k TableOnly) s (finish s k e.req rs) := by
  rw [finish_of_acknowledged s k e.req rs h, rid_of_entry he]
  exact ⟨State.entry_modEntry s k rid _ e he fun _ => rfl, stksFrame_modEntry s k rid _⟩

/-- A posted best-effort request that completes with OK is no longer outstanding, and its entry is freed (R109, R132). -/
theorem finish_of_posted {s : State} {k rid : Nat} {e : Entry} {r : Resp} (he : s.entry k rid = some e)
    (hposted : isPosted e.req.op = true) (hbest : isGuar e.req.cls = false) (hok : r.status = stOk) :
    finish s k e.req [r] = (s.endOutst e.req.port e.req.reqId rid).dropEntry k rid := by
  simp [finish, hposted, rid_of_entry he, he, lateCheck_of_bestEffort s k e hbest, hok]

/-- One outstanding request of its context less (R132). -/
theorem prt_endOutst (s : State) (p ctx rid : Nat) (hp : p < s.ports.length) (hdrop : (s.prt p).dropBelow ≤ rid) :
    (s.endOutst p ctx rid).prt p = { s.prt p with outst := mput (s.prt p).outst ctx (mget (s.prt p).outst ctx 0 - 1) 0 } := by
  rw [State.endOutst, State.prt_modPort_same s p _ hp, if_neg (by omega)]

end Sys2Proof.Machine
end

section
/-! PROOFS. RANGE_ZERO (R109, R277, R297). -/

namespace Sys2Proof.Machine

/-! ### What a tile's offset depends on -/

theorem State.tileIn_congr {s t : State} {k : Nat} (hpart : t.part = s.part)
    (hraw : ∀ off, t.raw k .adm 0 off = s.raw k .adm 0 off) : t.tileIn k = s.tileIn k := by
  have hmask : t.mask k = s.mask k := by
    funext staged n
    simp only [State.mask, hraw]
  have hbase : t.tileBase k = s.tileBase k := by
    funext x
    simp only [State.tileBase, State.offsetOf, hpart, hmask]
  funext x base n
  simp only [State.tileIn, hbase]

/-! ### The tiles that a map lists -/

/-- A tile that the map does not list is INVALID (R275). -/
theorem Stack.tileSt_of_not_mem {x : Stack} {t : Nat} (h : t ∉ x.tiles.map (·.1)) : x.tileSt t = .invalid := by
  rw [Stack.tileSt, mget, mfind_eq_none]
  · rfl
  · exact fun e he heq => h (heq ▸ List.mem_map_of_mem he)

/-- A listed key of a rising map has its listed value. -/
theorem mfind_of_mem {α : Type} {m : SMap α} (hm : Rising m) {e : Nat × α} (he : e ∈ m) : mfind m e.1 = some e.2 := by
  induction m with
  | nil => cases he
  | cons a m ih =>
    obtain ⟨hlt, hrest⟩ := List.pairwise_cons.mp hm
    rw [mfind_cons]
    obtain rfl | he := List.mem_cons.mp he
    · exact if_pos rfl
    · rw [if_neg (Nat.ne_of_lt (hlt e he)), ih hrest he]

theorem Stack.tileSt_of_mem {x : Stack} (h : Rising x.tiles) {e : Nat × TileState} (he : e ∈ x.tiles) : x.tileSt e.1 = e.2 := by
  rw [Stack.tileSt, mget, mfind_of_mem h he]
  rfl

/-! ### What clearing tiles may change -/

/-- Of a stack only tile states, lines, accumulators, the open list, seals and counters changed. -/
def ZeroOnly (x y : Stack) : Prop :=
  y = { x with
    tiles := y.tiles
    lines := y.lines
    chans := y.chans
    openList := y.openList
    seals := y.seals
    cnt := y.cnt }

/-- t is s but for what clearing tiles changes in stack k. -/
abbrev ZeroFrame (k : Nat) (s t : State) : Prop := StksFrame (AtStk k ZeroOnly) s t

namespace ZeroFrame

theorem refl (k : Nat) (s : State) : ZeroFrame k s s := StksFrame.refl (fun _ _ => ⟨rfl, fun _ => rfl⟩) s

theorem trans {k : Nat} {s t u : State} (h : ZeroFrame k s t) (g : ZeroFrame k t u) : ZeroFrame k s u :=
  StksFrame.trans (fun _ x y z hxy hyz => ⟨by rw [ZeroOnly, hyz.1, hxy.1], fun hj => (hyz.2 hj).trans (hxy.2 hj)⟩) h g

theorem modStk (s : State) (k : Nat) (f : Stack → Stack) (hf : ∀ x, ZeroOnly x (f x)) : ZeroFrame k s (s.modStk k f) :=
  StksFrame.modStk (fun _ _ => ⟨rfl, fun _ => rfl⟩) s k f fun x => ⟨hf x, fun hk => absurd rfl hk⟩

theorem count (s : State) (k : Nat) (pg : Page) (i c n : Nat) (hp : pg.isPkg = false) : ZeroFrame k s (s.count k pg i c n) :=
  (CountFrame.count s k pg i c n hp).mono fun _ x y h => ⟨by rw [ZeroOnly, h.1], h.2⟩

theorem dropSeal (s : State) (k x : Nat) : ZeroFrame k s (dropSeal s k x) := by
  have habort : ZeroFrame k s (abortSeal s k x) := by
    unfold Machine.abortSeal
    split
    · exact (modStk s k _ (by exact fun _ => rfl)).trans (count _ k .scb 0 4 1 rfl)
    · exact refl k s
  exact habort.trans (modStk _ k _ (by exact fun _ => rfl))

end ZeroFrame

/-! ### One tile of the span -/

/-- The state after a tile's accumulators and lines are dropped (R109). -/
def State.emptied (s : State) (k x : Nat) : State := dropLines (dropAccs s k x) k x true

/-- The state after a tile has become INVALID (R277). -/
def State.invalidated (s : State) (k x : Nat) : State := ((unlist (dropSeal s k x) k x).setTile k x .invalid).count k .tsm 0 1 1

/-- The state after a tile has been cleared: one that is RETIRED, or INVALID already, keeps its state. -/
def State.zeroedAt (s : State) (k x : Nat) : State :=
  if (s.stk k).tileSt x = .retired ∨ (s.stk k).tileSt x = .invalid then s.emptied k x else (s.emptied k x).invalidated k x

/-- What RANGE_ZERO does to one tile: a RETIRED one is counted. -/
def zeroTile (k : Nat) (acc : Nat × State) (x : Nat) : Nat × State :=
  (if (acc.2.stk k).tileSt x = .retired then acc.1 + 1 else acc.1, acc.2.zeroedAt k x)

theorem keepsTiles_emptied (s : State) (k x : Nat) : KeepsTiles k s (s.emptied k x) :=
  (KeepsTiles.dropAccs s k x).trans (.dropLines _ k x true)

theorem zeroFrame_emptied (s : State) (k x : Nat) : ZeroFrame k s (s.emptied k x) :=
  (ZeroFrame.modStk s k _ (by exact fun _ => rfl)).trans (.modStk _ k _ (by exact fun _ => rfl))

theorem zeroFrame_invalidated (s : State) (k x : Nat) : ZeroFrame k s (s.invalidated k x) := by
  have hlist : ZeroFrame k s (unlist (dropSeal s k x) k x) := (ZeroFrame.dropSeal s k x).trans (.modStk _ k _ (by exact fun _ => rfl))
  exact (hlist.trans (.modStk _ k _ (by exact fun _ => rfl))).trans (.count _ k .tsm 0 1 1 rfl)

theorem setsTile_invalidated (s : State) (k x : Nat) : SetsTile k x .invalid s (s.invalidated k x) :=
  (SetsTile.after ((KeepsTiles.dropSeal s k x).trans (.unlist _ k x)) (.setTile _ k x .invalid)).then_keeps (.count _ k .tsm 0 1 1 rfl)

theorem keepsStore_invalidated (s : State) (k x : Nat) : KeepsStore k s (s.invalidated k x) := by
  have hseal : KeepsStore k s (dropSeal s k x) := (KeepsStore.abortSeal s k x).trans (.modStk _ k _ fun _ => rfl)
  have hlist : KeepsStore k s (unlist (dropSeal s k x) k x) := hseal.trans (.modStk _ k _ fun _ => rfl)
  exact (hlist.trans (.setTile _ k x .invalid)).trans (.count _ k .tsm 0 1 1 rfl)

/-- The tiles of a span that the map of stack k lists. -/
def State.spanKeys (s : State) (k base n : Nat) : List Nat := ((s.stk k).tiles.map (·.1)).filter (fun x => s.tileIn k x base n)

theorem zeroTiles_eq (s : State) (k base n : Nat) : zeroTiles s k base n = (s.spanKeys k base n).foldl (zeroTile k) (0, s) := by
  rw [zeroTiles]
  refine congrArg (fun f => (s.spanKeys k base n).foldl f (0, s)) ?_
  funext acc x
  have htile : ((dropLines (dropAccs acc.2 k x) k x true).stk k).tileSt x = (acc.2.stk k).tileSt x :=
    (keepsTiles_emptied acc.2 k x).tileSt x
  simp only [htile, zeroTile, State.zeroedAt]
  cases (acc.2.stk k).tileSt x <;> rfl

/-! ### The tiles of the span, one after the other -/

/-- RANGE_ZERO has gone over the tiles listed, from s to t, and skipped n of them. -/
structure Zeroed (k : Nat) (xs : List Nat) (s : State) (n : Nat) (t : State) : Prop where
  frame : ZeroFrame k s t
  tiles : ∀ x, (t.stk k).tileSt x = if x ∈ xs ∧ (s.stk k).tileSt x ≠ .retired then .invalid else (s.stk k).tileSt x
  lines : ∀ y ∈ (t.stk k).lines, y ∈ (s.stk k).lines ∧ (y.loc k 0).tile ∉ xs
  skipped : n = (xs.filter (fun x => (s.stk k).tileSt x == .retired)).length

namespace Zeroed

variable {k n m : Nat} {xs : List Nat} {s t u : State}

theorem nil (k : Nat) (s : State) : Zeroed k [] s 0 s := ⟨.refl k s, fun _ => by simp, fun _ hy => ⟨hy, by simp⟩, rfl⟩

/-- One tile. -/
theorem single (s : State) (k x c : Nat) (hk : k < s.stks.length) :
    ∃ n, (zeroTile k (c, s) x).1 = c + n ∧ Zeroed k [x] s n (zeroTile k (c, s) x).2 := by
  have hempty := zeroFrame_emptied s k x
  have htiles := (keepsTiles_emptied s k x).tileSt
  obtain ⟨hstore, hgone⟩ := KeepsStore.dropLines (dropAccs s k x) k x (by rw [(KeepsTiles.dropAccs s k x).length]; exact hk)
  have hlines : ∀ y ∈ ((s.emptied k x).stk k).lines, y ∈ (s.stk k).lines ∧ (y.loc k 0).tile ∉ [x] := fun y hy =>
    ⟨(KeepsStore.dropAccs s k x).lines y (hstore.lines y hy), by simpa using hgone y hy⟩
  by_cases hretired : (s.stk k).tileSt x = .retired
  · refine ⟨1, if_pos hretired, ?_⟩
    change Zeroed k [x] s 1 (s.zeroedAt k x)
    rw [State.zeroedAt, if_pos (.inl hretired)]
    refine ⟨hempty, fun y => ?_, hlines, by simp [hretired]⟩
    rw [htiles, if_neg]
    rintro ⟨hy, hne⟩
    exact hne (List.mem_singleton.mp hy ▸ hretired)
  · refine ⟨0, if_neg hretired, ?_⟩
    change Zeroed k [x] s 0 (s.zeroedAt k x)
    by_cases hinvalid : (s.stk k).tileSt x = .invalid
    · rw [State.zeroedAt, if_pos (.inr hinvalid)]
      refine ⟨hempty, fun y => ?_, hlines, by simp [hretired]⟩
      rw [htiles]
      split_ifs with hy
      · rw [List.mem_singleton.mp hy.1, hinvalid]
      · rfl
    · have hset := setsTile_invalidated (s.emptied k x) k x
      rw [State.zeroedAt, if_neg (not_or.mpr ⟨hretired, hinvalid⟩)]
      refine ⟨hempty.trans (zeroFrame_invalidated _ k x), fun y => ?_,
        fun y hy => hlines y ((keepsStore_invalidated _ k x).lines y hy), by simp [hretired]⟩
      by_cases hy : y = x
      · subst hy
        rw [hset.same (hempty.length ▸ hk), if_pos ⟨List.mem_singleton_self y, hretired⟩]
      · rw [hset.tiles y hy, htiles, if_neg (by simp [hy])]

/-- A tile is RETIRED after as before. -/
theorem retired_iff (h : Zeroed k xs s n t) (x : Nat) : (t.stk k).tileSt x = .retired ↔ (s.stk k).tileSt x = .retired := by
  rw [h.tiles]
  split_ifs with hx
  · simp [hx.2]
  · rfl

/-- One list of tiles after one tile. -/
theorem cons {x : Nat} (h : Zeroed k [x] s n t) (g : Zeroed k xs t m u) : Zeroed k (x :: xs) s (n + m) u where
  frame := h.frame.trans g.frame
  tiles y := by
    simp only [g.tiles, ne_eq, h.retired_iff]
    rw [h.tiles]
    by_cases hret : (s.stk k).tileSt y = .retired
    · simp [hret]
    · obtain rfl | hfirst := eq_or_ne y x
      · simp [hret]
      · simp [hret, hfirst]
  lines y hy := by
    obtain ⟨hmid, hrest⟩ := g.lines y hy
    obtain ⟨hold, hfirst⟩ := h.lines y hmid
    exact ⟨hold, by simpa using ⟨by simpa using hfirst, hrest⟩⟩
  skipped := by
    have hsame : ∀ y ∈ xs, ((t.stk k).tileSt y == .retired) = ((s.stk k).tileSt y == .retired) := fun y _ => by
      rw [Bool.eq_iff_iff, beq_iff_eq, beq_iff_eq]
      exact h.retired_iff y
    rw [h.skipped, g.skipped, List.filter_congr hsame, ← List.length_append, ← List.filter_append, List.singleton_append]

theorem foldl (xs : List Nat) (s : State) (k c : Nat) (hk : k < s.stks.length) :
    ∃ n, (xs.foldl (zeroTile k) (c, s)).1 = c + n ∧ Zeroed k xs s n (xs.foldl (zeroTile k) (c, s)).2 := by
  induction xs generalizing s c with
  | nil => exact ⟨0, rfl, nil k s⟩
  | cons x xs ih =>
    obtain ⟨n, hn, hone⟩ := single s k x c hk
    obtain ⟨m, hm, hall⟩ := ih (zeroTile k (c, s) x).2 (zeroTile k (c, s) x).1 (by rw [hone.frame.length]; exact hk)
    rw [List.foldl_cons]
    exact ⟨n + m, by rw [hm, hn, Nat.add_assoc], hone.cons hall⟩

end Zeroed

/-- RANGE_ZERO over the tiles of a span (R109). -/
theorem zeroed_zeroTiles (s : State) (k base n : Nat) (hk : k < s.stks.length) :
    Zeroed k (s.spanKeys k base n) s (zeroTiles s k base n).1 (zeroTiles s k base n).2 := by
  obtain ⟨m, hm, hall⟩ := Zeroed.foldl (s.spanKeys k base n) s k 0 hk
  rw [zeroTiles_eq, hm, Nat.zero_add]
  exact hall

/-! ### The command at one stack -/

/-- The state with the messages of the command to stack j and back counted (R34). -/
def State.zeroSent (s : State) (k j : Nat) : State := (s.ringTx k j).ringTx j k

/-- The state after stack j has cleared its tiles. -/
def State.zeroedBy (s : State) (k rid j : Nat) (r : Req) : State :=
  (zeroTiles (s.zeroSent k j) j r.off (r.parNum 0 4)).2.modEntry k rid (fun e => { e with
    rzDone := e.rzDone ++ [j], rzSkip := e.rzSkip + (zeroTiles (s.zeroSent k j) j r.off (r.parNum 0 4)).1 })

theorem exec_rangeZero {s : State} {k rid j : Nat} {e : Entry} (h : Ready s k rid e [0x09]) (hj : j < s.n) (hnew : j ∉ e.rzDone)
    (hup : s.unreach j = false) (hreach : s.reach k j = true) : exec (.rangeZero k rid j) s = .next (s.zeroedBy k rid j e.req) := by
  have hop := h.op_eq
  obtain ⟨he, -, hdone, -, hserve⟩ := h
  change execRangeZero k rid j s = _
  rw [execRangeZero, doRangeZero, he]
  simp [hop, hdone, hserve, hj, hnew, hup, hreach, State.zeroedBy, State.zeroSent]

/-- The messages change counters of the two stacks. -/
theorem zeroSent_spec (s : State) (k j : Nat) : StksFrame (fun _ => CntOnly) s (s.zeroSent k j) ∧
    (∀ i, i ≠ j → i ≠ k → (s.zeroSent k j).stk i = s.stk i) ∧
    ∀ off, (s.zeroSent k j).raw j .adm 0 off = s.raw j .adm 0 off := by
  have hout := CountFrame.ringTx s k j
  have hback := CountFrame.ringTx (s.ringTx k j) j k
  refine ⟨StksFrame.trans (fun _ x y z hxy hyz => by rw [CntOnly, hyz, hxy]) (hout.mono fun _ _ _ h => h.1)
    (hback.mono fun _ _ _ h => h.1), fun i hij hik => ?_, fun off => ?_⟩
  · exact ((hback.stack i).2 hij).trans ((hout.stack i).2 hik)
  · exact (hback.raw j .adm 0 off).trans (hout.raw j .adm 0 off)

theorem runs_rangeZero {s : State} {k rid j : Nat} {e : Entry} (h : Ready s k rid e [0x09]) (hj : j < s.n) (hshape : Shaped s)
    (hnew : j ∉ e.rzDone) (hup : s.unreach j = false) (hreach : s.reach k j = true) (hrising : Rising (s.stk j).tiles) :
    Runs (.rangeZero k rid j) s (fun t =>
      (∀ x, s.tileIn j x e.req.off (e.req.parNum 0 4) = true → (s.stk j).tileSt x ≠ .retired → (t.stk j).tileSt x = .invalid) ∧
      (∀ x, (s.stk j).tileSt x = .retired → (t.stk j).tileSt x = .retired) ∧
      (∀ x, s.tileIn j x e.req.off (e.req.parNum 0 4) = false → (t.stk j).tileSt x = (s.stk j).tileSt x) ∧
      (∀ x, s.tileIn j x e.req.off (e.req.parNum 0 4) = true → x ∈ (s.stk j).tiles.map (·.1) →
        ∀ y ∈ (t.stk j).lines, (y.loc j 0).tile ≠ x) ∧
      (∃ e', t.entry k rid = some e' ∧ e'.rzDone = e.rzDone ++ [j] ∧ e'.done = none ∧
        e'.rzSkip = e.rzSkip + ((s.stk j).tiles.filter (fun x => s.tileIn j x.1 e.req.off (e.req.parNum 0 4) &&
          x.2 == .retired)).length) ∧
      t = { s with stks := t.stks } ∧ ∀ i, i ≠ j → i ≠ k → t.stk i = s.stk i) := by
  obtain ⟨hsent, hothers, hraw⟩ := zeroSent_spec s k j
  have hstk : ∀ i, (s.zeroSent k j).stk i = { s.stk i with cnt := ((s.zeroSent k j).stk i).cnt } := hsent.stack
  have htile : ∀ x, ((s.zeroSent k j).stk j).tileSt x = (s.stk j).tileSt x := fun x => by rw [hstk]; rfl
  have hkeys : (s.zeroSent k j).spanKeys j e.req.off (e.req.parNum 0 4) = s.spanKeys j e.req.off (e.req.parNum 0 4) := by
    rw [State.spanKeys, State.tileIn_congr hsent.part hraw, hstk, State.spanKeys]
  have hzero := zeroed_zeroTiles (s.zeroSent k j) j e.req.off (e.req.parNum 0 4) (by rw [hsent.length, hshape.1]; exact hj)
  have hexec := exec_rangeZero h hj hnew hup hreach
  rw [hkeys] at hzero
  rw [State.zeroedBy] at hexec
  generalize (zeroTiles (s.zeroSent k j) j e.req.off (e.req.parNum 0 4)).1 = n at hzero hexec
  generalize (zeroTiles (s.zeroSent k j) j e.req.off (e.req.parNum 0 4)).2 = u at hzero hexec
  have hmem : ∀ x, x ∈ s.spanKeys j e.req.off (e.req.parNum 0 4) ↔
      x ∈ (s.stk j).tiles.map (·.1) ∧ s.tileIn j x e.req.off (e.req.parNum 0 4) = true := fun x => List.mem_filter
  have htable : (u.stk k).table = (s.stk k).table := by rw [(hzero.frame.stack k).1, hstk]
  have hentry : u.entry k rid = some e := (State.entry_congr htable rid).trans h.entry_eq
  have hlast := stksFrame_modEntry u k rid (fun e => { e with rzDone := e.rzDone ++ [j], rzSkip := e.rzSkip + n })
  have hnewEntry := State.entry_modEntry u k rid (fun e => { e with rzDone := e.rzDone ++ [j], rzSkip := e.rzSkip + n }) e hentry
    fun _ => rfl
  generalize u.modEntry k rid (fun e => { e with rzDone := e.rzDone ++ [j], rzSkip := e.rzSkip + n }) = t at hlast hnewEntry hexec
  have htiles : ∀ x, (t.stk j).tileSt x = if x ∈ s.spanKeys j e.req.off (e.req.parNum 0 4) ∧ (s.stk j).tileSt x ≠ .retired
      then .invalid else (s.stk j).tileSt x := fun x => by
    rw [(hlast.stack j).1, ← htile, ← hzero.tiles]
    rfl
  refine ⟨t, hexec, fun x hin hne => ?_, fun x hret => ?_, fun x hout => ?_, fun x hin hlisted y hy heq => ?_,
    ⟨_, hnewEntry, rfl, h.done_eq, ?_⟩, ?_, fun i hij hik => ?_⟩
  · rw [htiles]
    split_ifs with hx
    · rfl
    · exact Stack.tileSt_of_not_mem fun hlisted => hx ⟨(hmem x).mpr ⟨hlisted, hin⟩, hne⟩
  · rw [htiles, if_neg (by simp [hret]), hret]
  · rw [htiles, if_neg (by simp [hmem, hout])]
  · rw [(hlast.stack j).1] at hy
    exact (hzero.lines y hy).2 ((hmem _).mpr (heq ▸ ⟨hlisted, hin⟩))
  · refine congrArg (e.rzSkip + ·) (hzero.skipped.trans ?_)
    rw [State.spanKeys, List.filter_map, List.filter_map, List.length_map, List.filter_filter]
    refine congrArg List.length (List.filter_congr fun a ha => ?_)
    simp [htile, Stack.tileSt_of_mem hrising ha, Bool.and_comm]
  · rw [hlast.state, hzero.frame.state, hsent.state]
  · exact ((hlast.stack i).2 hik).trans (((hzero.frame.stack i).2 hij).trans (hothers i hij hik))

/-! ### The response -/

theorem exec_rangeZeroComplete {s : State} {k rid : Nat} {e : Entry} (h : Ready s k rid e [0x09])
    (hall : ∀ i, i < s.n → i ∈ e.rzDone ∨ s.unreach i = true ∨ s.reach k i = false) : exec (.rangeZeroComplete k rid) s =
      .next (if (List.range s.n).all e.rzDone.contains then
        finish s k e.req [{ respTo e.req stOk (s.frame k) with inline := BitVec.ofNat 128 (e.rzSkip % 2 ^ 32) }]
      else finishSt s k e.req stStackReset) := by
  have hend : (List.range s.n).all (fun j => e.rzDone.contains j || (s.unreach j || !s.reach k j)) = true := by
    simpa using hall
  change execRangeZeroComplete k rid s = _
  rw [execRangeZeroComplete, doRangeZeroDone, h.entry_eq]
  dsimp only
  rw [if_pos (by rw [hend, h.unreach_eq, h.done_eq, h.op_eq]; rfl)]

/-- Settles O20: the tiles of the span are cleared one by one, and each turn is what `Zeroed` states; the response is one entry. -/
theorem rangeZero : Obligations.RangeZero := by
  have hanswer : ∀ (s : State) (k rid : Nat) (e : Entry) (r : Resp), Ready s k rid e [0x09] →
      Answered (finish s k e.req [r]) k rid e [r] ∧ OnlyStk k s (finish s k e.req [r]) ∧
        (finish s k e.req [r]).stk k = { s.stk k with table := ((finish s k e.req [r]).stk k).table } := fun s k rid e r h => by
    obtain ⟨hans, hframe⟩ := answered_finish [r] h.entry_eq (by rw [h.op_eq]; rfl)
    exact ⟨hans, hframe.onlyStk, (hframe.stack k).1⟩
  refine ⟨fun s k rid j e h hj hshape hnew hup hreach hrising => runs_rangeZero h hj hshape hnew hup hreach hrising,
    fun s k rid e h hall => ?done, fun s k rid j e h hj hnew hall => ?failed⟩
  case done =>
    have hexec := exec_rangeZeroComplete h fun i hi => .inl (hall i hi)
    rw [if_pos (by simpa using hall)] at hexec
    exact ⟨_, hexec, hanswer s k rid e _ h⟩
  case failed =>
    have hexec := exec_rangeZeroComplete h hall
    rw [if_neg (by simpa using ⟨j, hj, hnew⟩)] at hexec
    exact ⟨_, hexec, hanswer s k rid e _ h⟩

end Sys2Proof.Machine
end

section
/-! PROOFS. The slice as a request that hits it sees it: words of a line, uses of a way, writes of dirty sectors, and the completion of
the request (R208, R210, R214, R281, R283). -/

namespace Sys2Proof.Machine

/-! ### Words of a line -/

/-- Sector i of a line as the slice holds it: its word and its poison bit, where it is valid. -/
def Line.word (y : Line) (i : Nat) : Option (Word × Bool) :=
  if y.valid.getLsbD i then some (y.sector i, y.poison.getLsbD i) else none

theorem Stack.sectorAt_eq (x : Stack) (l : Loc) : x.sectorAt l = (x.line l false).bind (fun y => y.word (l.col % 8)) := by
  unfold Stack.sectorAt
  cases x.line l false <;> rfl

/-- A place whose word the slice holds is in a line. -/
theorem Stack.isSome_line {x : Stack} {l : Loc} (h : (x.sectorAt l).isSome = true) : (x.line l false).isSome = true := by
  rw [Stack.sectorAt_eq] at h
  cases hline : x.line l false with
  | none => simp [hline] at h
  | some y => rfl

theorem getLsbD_setBit8 (m : BitVec 8) (i j : Nat) (b : Bool) (hj : j < 8) :
    (setBit8 m i b).getLsbD j = if j = i then b else m.getLsbD j := by
  have hone : ((1#8) <<< i).getLsbD j = decide (j = i) := by
    rw [BitVec.getLsbD_shiftLeft, BitVec.getLsbD_one]
    by_cases hlt : j < i
    · simp [hlt, Nat.ne_of_lt hlt]
    · have hiff : j - i = 0 ↔ j = i := by omega
      simp [hlt, hj, hiff]
  cases b with
  | true =>
    rw [setBit8, if_pos rfl, BitVec.getLsbD_or, hone]
    by_cases h : j = i <;> simp [h]
  | false =>
    rw [setBit8, if_neg Bool.false_ne_true, BitVec.getLsbD_and, BitVec.getLsbD_not, hone]
    by_cases h : j = i <;> simp [h, hj]

/-- A word at the place of sector i of a line. -/
theorem getLsbD_zeroExtend_shiftLeft (w : Word) (i n : Nat) :
    (w.zeroExtend 2048 <<< (256 * i)).getLsbD n = (decide (n < 2048) && decide (256 * i ≤ n) && w.getLsbD (n - 256 * i)) := by
  rw [BitVec.getLsbD_shiftLeft, BitVec.zeroExtend, BitVec.getLsbD_setWidth]
  by_cases hn : n < 2048
  · have hsub : n - 256 * i < 2048 := by omega
    have hle : decide (256 * i ≤ n) = !decide (n < 256 * i) := by
      rw [← decide_not, decide_eq_decide]
      omega
    simp [hn, hsub, hle]
  · simp [hn]

/-- A sector that is replaced reads as replaced, another one as before. -/
theorem Line.sector_put (y : Line) (i j : Nat) (w : Word) (p d : Bool) (hj : j < 8) :
    (y.put i w p d).sector j = if j = i then w else y.sector j := by
  apply BitVec.eq_of_getLsbD_eq
  intro b hb
  have hlt : 256 * j + b < 2048 := by omega
  simp only [Line.put, Line.sector, BitVec.getLsbD_extractLsb', BitVec.getLsbD_or, BitVec.getLsbD_and, BitVec.getLsbD_not,
    getLsbD_zeroExtend_shiftLeft, BitVec.getLsbD_allOnes, hb, hlt, decide_true, Bool.true_and]
  by_cases hji : j = i
  · have hsub : 256 * j + b - 256 * i = b := by omega
    have hle : 256 * i ≤ 256 * j + b := by omega
    rw [hsub, if_pos hji]
    simp [hle, hb]
  · have hout : 256 * j + b < 256 * i ∨ 256 ≤ 256 * j + b - 256 * i := by omega
    obtain hout | hout := hout
    · simp [hji, hb, Nat.not_le.mpr hout]
    · simp [hji, hb, BitVec.getLsbD_of_ge w _ hout, Nat.not_lt.mpr hout]

theorem Line.word_put (y : Line) (i j : Nat) (w : Word) (p d : Bool) (hj : j < 8) :
    (y.put i w p d).word j = if j = i then some (w, p) else y.word j := by
  have hvalid : (y.put i w p d).valid.getLsbD j = if j = i then true else y.valid.getLsbD j := getLsbD_setBit8 y.valid i j true hj
  have hpoison : (y.put i w p d).poison.getLsbD j = if j = i then p else y.poison.getLsbD j := getLsbD_setBit8 y.poison i j p hj
  rw [Line.word, Line.word, hvalid, hpoison, Line.sector_put y i j w p d hj]
  by_cases h : j = i <;> simp [h]

/-! ### Lines of a stack -/

/-- Places of one line that differ differ in the sector. -/
theorem Line.sector_ne_of_isAt {y : Line} {l m : Loc} {p : Bool} (hl : y.isAt l p = true) (hm : y.isAt m p = true)
    (hne : m.place ≠ l.place) : m.col % 8 ≠ l.col % 8 := by
  simp only [Line.isAt, Bool.and_eq_true, beq_iff_eq] at hl hm
  obtain ⟨⟨⟨⟨⟨⟨⟨hch, hsid⟩, hpc⟩, hbg⟩, hbank⟩, hrow⟩, hline⟩, -⟩ := hl
  obtain ⟨⟨⟨⟨⟨⟨⟨hch', hsid'⟩, hpc'⟩, hbg'⟩, hbank'⟩, hrow'⟩, hline'⟩, -⟩ := hm
  intro hcol
  have hsame : m.col = l.col := by omega
  refine hne ?_
  rw [Loc.place, Loc.place, ← hch, ← hpc, ← hbg, ← hbank, ← hsid, ← hrow, hsame, hch', hpc', hbg', hbank', hsid', hrow']

theorem Stack.isAt_of_line {x : Stack} {l : Loc} {p : Bool} {y : Line} (h : x.line l p = some y) : y.isAt l p = true := by
  simpa using List.find?_some h

/-- A change of a line that leaves where it stands. -/
theorem State.line_modLine (s : State) (k : Nat) (l : Loc) (f : Line → Line) (hk : k < s.stks.length)
    (hf : ∀ y m q, (f y).isAt m q = y.isAt m q) (m : Loc) :
    ((s.modLine k l false f).stk k).line m false =
      ((s.stk k).line m false).map (fun y => if y.isAt l false = true then f y else y) := by
  have hat : ((fun y : Line => y.isAt m false) ∘ fun y => if y.isAt l false = true then f y else y) = fun y => y.isAt m false := by
    funext y
    by_cases hy : y.isAt l false = true <;> simp [hy, hf]
  rw [State.modLine, State.stk_modStk_same s k _ hk, Stack.line, List.find?_map, hat, Stack.line]

/-! ### What a service from the slice leaves -/

/-- Of a stack only lines, ways, counters, the open list and the seals changed. -/
def SliceOnly (x y : Stack) : Prop :=
  y = { x with lines := y.lines, chans := y.chans, cnt := y.cnt, openList := y.openList, seals := y.seals }

/-- From s to t the slice of stack k has served: every word but those at the places listed reads as before, every line is still
held, and every slice is as usable as before. -/
structure SliceStep (k : Nat) (s t : State) (ls : List Loc) : Prop where
  frame : StksFrame (AtStk k SliceOnly) s t
  words : OtherWords k s t ls
  held : ∀ l, ((t.stk k).line l false).isSome = ((s.stk k).line l false).isSome
  usable : (t.stk k).chans.map Chan.viUnusable = (s.stk k).chans.map Chan.viUnusable

namespace SliceStep

variable {k : Nat} {s t u : State} {ls ms : List Loc}

theorem refl (k : Nat) (s : State) (ls : List Loc) : SliceStep k s s ls :=
  ⟨StksFrame.refl (fun _ _ => ⟨rfl, fun _ => rfl⟩) s, fun _ _ => rfl, fun _ => rfl, rfl⟩

theorem trans (h : SliceStep k s t ls) (g : SliceStep k t u ls) : SliceStep k s u ls where
  frame := StksFrame.trans
    (fun _ x y z hxy hyz => ⟨by rw [SliceOnly, hyz.1, hxy.1], fun hj => (hyz.2 hj).trans (hxy.2 hj)⟩) h.frame g.frame
  words l hl := (g.words l hl).trans (h.words l hl)
  held l := (g.held l).trans (h.held l)
  usable := g.usable.trans h.usable

theorem mono (h : SliceStep k s t ls) (hsub : ls ⊆ ms) : SliceStep k s t ms :=
  ⟨h.frame, fun l hl => h.words l fun x hx => hl x (hsub hx), h.held, h.usable⟩

/-- A service that changes no word. -/
theorem of_nil (h : SliceStep k s t []) (ls : List Loc) : SliceStep k s t ls := h.mono (List.nil_subset ls)

/-- A change of a stack that leaves its lines. -/
theorem modStk (s : State) (k : Nat) (f : Stack → Stack) (hf : ∀ x, SliceOnly x (f x)) (hlines : ∀ x, (f x).lines = x.lines)
    (husable : ∀ x, (f x).chans.map Chan.viUnusable = x.chans.map Chan.viUnusable) : SliceStep k s (s.modStk k f) [] where
  frame := StksFrame.modStk (fun _ _ => ⟨rfl, fun _ => rfl⟩) s k f fun x => ⟨hf x, fun hj => absurd rfl hj⟩
  words l _ := State.stk_modStk_proj (fun x => x.sectorAt l) (fun x => by rw [Stack.sectorAt, Stack.line, hlines]; rfl) s k k
  held l := State.stk_modStk_proj (fun x => (x.line l false).isSome) (fun x => by rw [Stack.line, hlines]; rfl) s k k
  usable := State.stk_modStk_proj (fun x => x.chans.map Chan.viUnusable) husable s k k

theorem count (s : State) (k : Nat) (pg : Page) (i c n : Nat) (hp : pg.isPkg = false) : SliceStep k s (s.count k pg i c n) [] := by
  have h := CountFrame.count s k pg i c n hp
  have hstk := h.stk k
  refine ⟨h.mono fun _ x y hxy => ⟨by rw [SliceOnly, hxy.1], hxy.2⟩, fun l _ => ?_, fun l => ?_, ?_⟩
  · rw [hstk]; rfl
  · rw [hstk]; rfl
  · rw [hstk]

/-- A change of a line's owner or data: words at other places read as before. -/
theorem modLine (s : State) (k : Nat) (l : Loc) (f : Line → Line) (ls : List Loc) (hk : k < s.stks.length)
    (hf : ∀ y m q, (f y).isAt m q = y.isAt m q)
    (hword : ∀ y m, y.isAt l false = true → y.isAt m false = true → (∀ x ∈ ls, m.place ≠ x.place) →
      (f y).word (m.col % 8) = y.word (m.col % 8)) : SliceStep k s (s.modLine k l false f) ls where
  frame := StksFrame.modStk (fun _ _ => ⟨rfl, fun _ => rfl⟩) s k _ fun x => ⟨rfl, fun hj => absurd rfl hj⟩
  words m hm := by
    rw [Stack.sectorAt_eq, State.line_modLine s k l f hk hf, Stack.sectorAt_eq]
    cases hline : (s.stk k).line m false with
    | none => rfl
    | some y =>
      have hat := Stack.isAt_of_line hline
      rw [Option.map_some, Option.bind_some, Option.bind_some]
      split_ifs with hl
      · exact hword y m hl hat hm
      · rfl
  held m := by rw [State.line_modLine s k l f hk hf, Option.isSome_map]
  usable := State.stk_modStk_proj (fun x => x.chans.map Chan.viUnusable) (by exact fun _ => rfl) s k k

variable (h : SliceStep k s t ls)
include h

theorem viUnusable (c : Nat) : ((t.stk k).ch c).viUnusable = ((s.stk k).ch c).viUnusable := by
  have hget : ∀ y : Stack, (y.ch c).viUnusable = (y.chans.map Chan.viUnusable).getD c Chan.reset.viUnusable := fun y =>
    (List.getD_map y.chans Chan.reset Chan.viUnusable).symm
  rw [hget, hget, h.usable]

theorem tileSt (x : Nat) : (t.stk k).tileSt x = (s.stk k).tileSt x := by
  rw [(h.frame.stack k).1]
  rfl

theorem length : t.stks.length = s.stks.length := h.frame.length

theorem entry (rid : Nat) : t.entry k rid = s.entry k rid := State.entry_congr (by rw [(h.frame.stack k).1]) rid

theorem frame_eq : t.frame k = s.frame k := by
  rw [State.frame, (h.frame.stack k).1, State.frame]

end SliceStep

/-! ### A hit (R210, R214) -/

/-- The state after a lookup that hits the line of a place. -/
def State.hit (s : State) (k : Nat) (l : Loc) (w : Who) : State := hitLine (s.count k .vit 0 0 1) k l w

/-- A use of a way and a new owner change no word (R208, R214). -/
theorem SliceStep.hit (s : State) (k : Nat) (l : Loc) (w : Who) (hk : k < s.stks.length) : SliceStep k s (s.hit k l w) [] := by
  have hcount := SliceStep.count s k .vit 0 0 1 rfl
  have htouch : SliceStep k (s.count k .vit 0 0 1) (useLine (s.count k .vit 0 0 1) k l) [] := by
    unfold useLine
    split
    · refine SliceStep.modStk _ k _ (fun _ => rfl) (fun _ => rfl) fun x => ?_
      exact map_modify_of_eq Chan.viUnusable _ (by exact fun _ => rfl) x.chans l.ch
    · exact .refl k _ []
  have huse := hcount.trans htouch
  unfold State.hit hitLine
  dsimp only
  split
  · exact huse.trans (.modLine _ k l _ [] (huse.length ▸ hk) (fun _ _ _ => rfl) fun _ _ _ _ _ => rfl)
  · exact huse

/-- The slice of a channel works and holds the words at the places. -/
def Holds (x : Stack) (l : Loc) (ls : List Loc) : Prop :=
  (x.ch l.ch).viUnusable = false ∧ ∀ m ∈ l :: ls, (x.sectorAt m).isSome = true

theorem lookup_of_holds {s : State} {k : Nat} {l : Loc} {ls : List Loc} (w : Who) (h : Holds (s.stk k) l ls) :
    lookup s k (l :: ls) w = (s.hit k l w, true) := by
  have hall : (l :: ls).all (fun m => ((s.stk k).sectorAt m).isSome) = true := List.all_eq_true.mpr h.2
  simp only [lookup, h.1, hall, Bool.false_eq_true, if_false, if_true]
  rfl

theorem SliceStep.holds {k : Nat} {s t : State} {l : Loc} {ls : List Loc} (h : SliceStep k s t []) (hs : Holds (s.stk k) l ls) :
    Holds (t.stk k) l ls :=
  ⟨(h.viUnusable l.ch).trans hs.1, fun m hm => by rw [h.words m (by simp)]; exact hs.2 m hm⟩

/-! ### Reading words (R115, R126) -/

/-- What a read of a place answers: a poisoned word as zeros with its poison bit (R126). -/
def Stack.answer (x : Stack) (l : Loc) : Word × Bool :=
  (x.sectorAt l).elim (0, false) (fun v => (if v.2 = true then 0 else v.1, v.2))

theorem readAfter_of_sectorAt {s : State} {k : Nat} {l : Loc} {v : Word × Bool} (present : Bool) (w : Who)
    (h : (s.stk k).sectorAt l = some v) : readAfter s k present l w = (v, s) := by
  rw [readAfter, h]

/-- Words that the slice holds are read one after the other, and the state stays. -/
theorem foldl_readAfter (s : State) (k : Nat) (present : Bool) (w : Who) (ls : List Loc) (acc : List (Word × Bool))
    (h : ∀ m ∈ ls, ((s.stk k).sectorAt m).isSome = true) :
    ls.foldl (fun acc l =>
      let r := readAfter acc.2 k present l w
      (acc.1 ++ [(if r.1.2 then 0 else r.1.1, r.1.2)], r.2)) (acc, s) = (acc ++ ls.map (s.stk k).answer, s) := by
  induction ls generalizing acc with
  | nil => simp
  | cons l ls ih =>
    obtain ⟨v, hv⟩ := Option.isSome_iff_exists.mp (h l List.mem_cons_self)
    have hanswer : (s.stk k).answer l = (if v.2 = true then 0 else v.1, v.2) := by rw [Stack.answer, hv]; rfl
    rw [List.foldl_cons, readAfter_of_sectorAt present w hv, ih _ fun m hm => h m (List.mem_cons_of_mem l hm), List.map_cons, hanswer,
      List.append_assoc]
    rfl

theorem readWords_of_holds {s : State} {k : Nat} {l : Loc} {ls : List Loc} (w : Who) (hk : k < s.stks.length)
    (htile : (s.stk k).tileSt l.tile ≠ .invalid) (h : Holds (s.stk k) l ls) :
    readWords s k (l :: ls) w = ((l :: ls).map (s.stk k).answer, s.hit k l w) := by
  have hhit := SliceStep.hit s k l w hk
  have hanswer : ((s.hit k l w).stk k).answer = (s.stk k).answer := by
    funext m
    rw [Stack.answer, hhit.words m (by simp), Stack.answer]
  unfold readWords
  simp only [if_neg htile, lookup_of_holds w h]
  rw [foldl_readAfter _ k true w _ [] (hhit.holds h).2, List.nil_append, hanswer]

/-- An INVALID tile reads as zeros, without an access (R115). -/
theorem readWords_of_invalid {s : State} {k : Nat} {l : Loc} (ls : List Loc) (w : Who) (h : (s.stk k).tileSt l.tile = .invalid) :
    readWords s k (l :: ls) w = ((l :: ls).map (fun _ => (0, false)), s) := by
  unfold readWords
  simp only [if_pos h]

/-! ### Writing words (R210, R281, R283) -/

/-- An OPEN tile's entry is updated, and a normal seal of it aborts (R281, R283). -/
theorem SliceStep.noteWrite {s : State} {k x : Nat} (w : Who) (h : (s.stk k).tileSt x = .opened) :
    SliceStep k s (noteWrite s k x w) [] := by
  have habort : SliceStep k s (abortSeal s k x) [] := by
    unfold abortSeal
    split
    · exact (SliceStep.modStk s k _ (by exact fun _ => rfl) (by exact fun _ => rfl) (by exact fun _ => rfl)).trans
        (.count _ k .scb 0 4 1 rfl)
    · exact .refl k s []
  have hlist : SliceStep k (abortSeal s k x) (listOpen (abortSeal s k x) k x false) [] := by
    unfold listOpen
    dsimp only
    split
    · exact SliceStep.modStk _ k _ (fun _ => rfl) (fun _ => rfl) fun _ => rfl
    · exact .refl k _ []
  unfold Machine.noteWrite
  rw [h]
  exact habort.trans hlist

/-- A word written to a line that the slice holds is there, dirty, and no other word changes. -/
theorem sliceStep_writeAfter (s : State) (k : Nat) (l : Loc) (v : Word) (p : Bool) (w : Who) (hk : k < s.stks.length)
    (hline : ((s.stk k).line l false).isSome = true) :
    SliceStep k s (writeAfter s k true l v p w) [l] ∧ ((writeAfter s k true l v p w).stk k).sectorAt l = some (v, p) := by
  have hcol : ∀ m : Loc, m.col % 8 < 8 := fun m => Nat.mod_lt _ (by decide)
  rw [writeAfter, if_pos rfl]
  refine ⟨.modLine s k l _ [l] hk (fun _ _ _ => rfl) fun y m hl hm hne => ?_, ?_⟩
  · rw [Line.word_put _ _ _ _ _ _ (hcol m), if_neg (Line.sector_ne_of_isAt hl hm (hne l (List.mem_singleton_self l)))]
  · obtain ⟨y, hy⟩ := Option.isSome_iff_exists.mp hline
    have hat := Stack.isAt_of_line hy
    rw [Stack.sectorAt_eq, State.line_modLine s k l _ hk (by exact fun _ _ _ => rfl), hy, Option.map_some, Option.bind_some, if_pos hat,
      Line.word_put _ _ _ _ _ _ (hcol l), if_pos rfl]

/-- Words written one after the other, at places that all differ. -/
theorem sliceStep_foldl_writeAfter (k : Nat) (w : Who) (lvs : List (Loc × Word × Bool)) (s : State) (hk : k < s.stks.length)
    (hlines : ∀ x ∈ lvs, ((s.stk k).line x.1 false).isSome = true)
    (hdiff : lvs.Pairwise (fun a b => a.1.place ≠ b.1.place)) :
    SliceStep k s (lvs.foldl (fun s x => writeAfter s k true x.1 x.2.1 x.2.2 w) s) (lvs.map Prod.fst) ∧
    ∀ x ∈ lvs, ((lvs.foldl (fun s x => writeAfter s k true x.1 x.2.1 x.2.2 w) s).stk k).sectorAt x.1 = some x.2 := by
  induction lvs generalizing s with
  | nil => exact ⟨.refl k s [], nofun⟩
  | cons a lvs ih =>
    obtain ⟨hfirst, hrest⟩ := List.pairwise_cons.mp hdiff
    obtain ⟨hone, hword⟩ := sliceStep_writeAfter s k a.1 a.2.1 a.2.2 w hk (hlines a List.mem_cons_self)
    obtain ⟨hall, hwords⟩ := ih (writeAfter s k true a.1 a.2.1 a.2.2 w) (hone.length ▸ hk)
      (fun x hx => by rw [hone.held]; exact hlines x (List.mem_cons_of_mem a hx)) hrest
    rw [List.foldl_cons]
    refine ⟨(hone.mono (by simp)).trans (hall.mono (by simp)), fun x hx => ?_⟩
    obtain rfl | hx := List.mem_cons.mp hx
    · rw [hall.words x.1 fun m hm => ?_, hword]
      obtain ⟨b, hb, rfl⟩ := List.mem_map.mp hm
      exact hfirst b hb
    · exact hwords x hx

/-- A write of words that the slice holds, in an OPEN tile. -/
theorem writeWords_of_holds {s : State} {k : Nat} {l : Loc} {ls : List Loc} (vs : List (Word × Bool)) (w : Who) (hk : k < s.stks.length)
    (htile : (s.stk k).tileSt l.tile = .opened) (h : Holds (s.stk k) l ls) (hlen : vs.length = (l :: ls).length)
    (hdiff : (l :: ls).Pairwise (fun a b => a.place ≠ b.place)) :
    SliceStep k s (writeWords s k (l :: ls) vs w) (l :: ls) ∧
    ∀ x ∈ (l :: ls).zip vs, ((writeWords s k (l :: ls) vs w).stk k).sectorAt x.1 = some x.2 := by
  have hnote := SliceStep.noteWrite w htile
  have hheld := hnote.holds h
  have hhit := SliceStep.hit (noteWrite s k l.tile w) k l w (hnote.length ▸ hk)
  have hstart := hnote.trans hhit
  have hfst : ((l :: ls).zip vs).map Prod.fst = l :: ls := List.map_fst_zip (Nat.le_of_eq hlen.symm)
  obtain ⟨hall, hwords⟩ := sliceStep_foldl_writeAfter k w ((l :: ls).zip vs) ((noteWrite s k l.tile w).hit k l w) (hstart.length ▸ hk)
    (fun x hx => by
      rw [hstart.held]
      exact Stack.isSome_line (h.2 x.1 (hfst ▸ List.mem_map_of_mem hx)))
    ((List.pairwise_map (f := Prod.fst) (R := fun a b : Loc => a.place ≠ b.place)).mp (by rw [hfst]; exact hdiff))
  have hwrite : writeWords s k (l :: ls) vs w =
      ((l :: ls).zip vs).foldl (fun s x => writeAfter s k true x.1 x.2.1 x.2.2 w) ((noteWrite s k l.tile w).hit k l w) := by
    unfold writeWords
    simp only [lookup_of_holds w hheld, htile]
    rfl
  rw [hwrite]
  rw [hfst] at hall
  exact ⟨(hstart.of_nil _).trans hall, hwords⟩

/-- A read-modify-write of a word that the slice holds, in an OPEN tile: what f answers, and the word that f gives or the old one
(R177, R210). -/
theorem rmw_of_holds {α : Type} {s : State} {k : Nat} {l : Loc} {v : Word × Bool} (w : Who) (f : Word × Bool → Option (Word × Bool) × α)
    (hk : k < s.stks.length) (htile : (s.stk k).tileSt l.tile = .opened) (h : Holds (s.stk k) l [])
    (hv : (s.stk k).sectorAt l = some v) : (rmw s k l w f).1 = (f v).2 ∧ SliceStep k s (rmw s k l w f).2 [l] ∧
      ((rmw s k l w f).2.stk k).sectorAt l = some ((f v).1.getD v) := by
  have hhit := SliceStep.hit s k l w hk
  have hword : ((s.hit k l w).stk k).sectorAt l = some v := (hhit.words l (by simp)).trans hv
  have hne : (s.stk k).tileSt l.tile ≠ .invalid := by simp [htile]
  unfold rmw
  simp only [if_neg hne, lookup_of_holds w h, readAfter_of_sectorAt true w hword]
  cases hf : (f v).1 with
  | none => exact ⟨rfl, hhit.of_nil [l], hword⟩
  | some u =>
    have hnote := hhit.trans (SliceStep.noteWrite w ((hhit.tileSt l.tile).trans htile))
    have hline : ((((noteWrite (s.hit k l w) k l.tile w).stk k).line l false).isSome) = true := by
      rw [hnote.held]
      exact Stack.isSome_line (by rw [hv]; rfl)
    obtain ⟨hwrite, hnew⟩ := sliceStep_writeAfter (noteWrite (s.hit k l w) k l.tile w) k l u.1 u.2 w (hnote.length ▸ hk) hline
    simp only [hline]
    exact ⟨trivial, (hnote.of_nil [l]).trans hwrite, hnew⟩

/-! ### A request that the slice serves -/

/-- The first word of a request, and the others. -/
theorem State.reqLocs_eq_cons (s : State) (k : Nat) {r : Req} (h : 1 ≤ r.len) :
    s.reqLocs k r = s.wordLoc k r 0 :: (List.range (r.len - 1)).map (fun i => s.wordLoc k r (i + 1)) := by
  obtain ⟨n, hn⟩ := Nat.exists_eq_add_of_le' h
  have hlocs : s.reqLocs k r = (List.range r.len).map (s.wordLoc k r) := rfl
  rw [hlocs, hn, List.range_succ_eq_map, List.map_cons, List.map_map, Nat.add_sub_cancel]
  rfl

theorem State.mem_reqLocs {s : State} {k : Nat} {r : Req} {l : Loc} : l ∈ s.reqLocs k r ↔ ∃ i, i < r.len ∧ s.wordLoc k r i = l := by
  have hlocs : s.reqLocs k r = (List.range r.len).map (s.wordLoc k r) := rfl
  simp [hlocs]

/-- The words of a request that is resident. -/
theorem Resident.holds {s : State} {k : Nat} {r : Req} {st : TileState} (h : Resident s k r st) :
    ∃ ls, s.reqLocs k r = s.wordLoc k r 0 :: ls ∧ Holds (s.stk k) (s.wordLoc k r 0) ls := by
  obtain ⟨hlen, hwords, hslice, -⟩ := h
  have hcons := s.reqLocs_eq_cons k hlen
  refine ⟨_, hcons, hslice, fun m hm => ?_⟩
  obtain ⟨i, hi, rfl⟩ := State.mem_reqLocs.mp (hcons ▸ hm)
  exact hwords i hi

theorem Resident.tileSt_eq {s : State} {k : Nat} {r : Req} {st : TileState} (h : Resident s k r st) :
    (s.stk k).tileSt (s.wordLoc k r 0).tile = st := by
  obtain ⟨-, -, -, htile⟩ := h
  exact htile

/-- A resident request needs nothing from a bank (R210). -/
theorem bankBound_of_resident {s : State} {k : Nat} {r : Req} {st : TileState} (h : Resident s k r st) : s.bankBound k r = false := by
  obtain ⟨ls, hlocs, hslice, hwords⟩ := h.holds
  have hall : (s.reqLocs k r).all (fun l => ((s.stk k).sectorAt l).isSome) = true := by
    rw [hlocs]
    exact List.all_eq_true.mpr hwords
  have htakes : s.sliceTakes k (s.wordLoc k r 0) r.who = true := by
    simp [State.sliceTakes, hslice, Stack.isSome_line (hwords _ List.mem_cons_self)]
  unfold State.bankBound
  dsimp only
  split_ifs
  · rfl
  · rw [show s.sliceTakes k (s.locOf k r.off) r.who = true from htakes]
    rfl
  · rw [hall]
    rfl

/-- A ready request that is resident is served at once. -/
theorem serve_of_resident {s : State} {k rid : Nat} {e : Entry} {ops : List Nat} {st : TileState} (f : State → Req → State)
    (h : Ready s k rid e ops) (hres : Resident s k e.req st) : serve s k rid ops f = f s e.req := by
  obtain ⟨he, hop, hdone, hgth, hserve⟩ := h
  exact serve_slice s k rid ops f e he hop hdone hgth hserve (bankBound_of_resident hres)

/-- An acknowledged request that the slice has served is answered. -/
theorem SliceStep.answered {s t : State} {k rid : Nat} {ls : List Loc} {e : Entry} (h : SliceStep k s t ls)
    (he : s.entry k rid = some e) (hack : isPosted e.req.op = false) (rs : List Resp) :
    Answered (finish t k e.req rs) k rid e rs ∧ SliceFrame k s (finish t k e.req rs) ∧ OtherWords k s (finish t k e.req rs) ls ∧
    ∀ l, ((finish t k e.req rs).stk k).sectorAt l = (t.stk k).sectorAt l := by
  obtain ⟨hans, hframe⟩ := answered_finish rs ((h.entry rid).trans he) hack
  have hwords : ∀ l, ((finish t k e.req rs).stk k).sectorAt l = (t.stk k).sectorAt l := fun l => by
    rw [(hframe.stack k).1]
    rfl
  refine ⟨hans, ⟨h.frame.onlyStk.trans hframe.onlyStk, ?_⟩, fun l hl => (hwords l).trans (h.words l hl), hwords⟩
  rw [(hframe.stack k).1, (h.frame.stack k).1]

/-- A posted best-effort request that the slice has served frees its entry, and its context has one outstanding request less. -/
theorem SliceStep.freed {s t : State} {k rid d : Nat} {ls : List Loc} {e : Entry} (h : SliceStep k s t ls)
    (he : s.entry k rid = some e) (hposted : isPosted e.req.op = true) (hbest : isGuar e.req.cls = false)
    (hport : e.req.port < s.ports.length) (hdrop : (s.prt e.req.port).dropBelow ≤ rid) :
    (finish t k e.req [respTo e.req stOk d]).entry k rid = none ∧
    PostedFrame k e.req.port s (finish t k e.req [respTo e.req stOk d]) ∧
    mget ((finish t k e.req [respTo e.req stOk d]).prt e.req.port).outst e.req.reqId 0 =
      mget (s.prt e.req.port).outst e.req.reqId 0 - 1 ∧
    OtherWords k s (finish t k e.req [respTo e.req stOk d]) ls ∧
    ∀ l, ((finish t k e.req [respTo e.req stOk d]).stk k).sectorAt l = (t.stk k).sectorAt l := by
  have hk : k < t.stks.length := h.length ▸ State.lt_length_of_entry he
  have hports : t.ports = s.ports := by rw [h.frame.state]
  have hdropped := stksFrame_dropEntry (t.endOutst e.req.port e.req.reqId rid) k rid
  have hgone := State.entry_dropEntry (t.endOutst e.req.port e.req.reqId rid) k rid hk
  have hout := prt_endOutst t e.req.port e.req.reqId rid (hports ▸ hport) (by rw [h.frame.prt]; exact hdrop)
  rw [finish_of_posted ((h.entry rid).trans he) hposted hbest rfl]
  generalize (t.endOutst e.req.port e.req.reqId rid).dropEntry k rid = u at hdropped hgone
  have hstk : ∀ j, AtStk k TableOnly j (t.stk j) (u.stk j) := hdropped.stack
  have hprt : u.prt e.req.port = _ := (hdropped.prt e.req.port).trans hout
  have hwords : ∀ l, (u.stk k).sectorAt l = (t.stk k).sectorAt l := fun l => by
    rw [(hstk k).1]
    rfl
  rw [h.frame.prt] at hprt
  refine ⟨hgone, ⟨?_, fun j hj => ((hstk j).2 hj).trans ((h.frame.stack j).2 hj), fun q hq => ?_, by rw [hprt], ?_⟩, ?_,
    fun l hl => (hwords l).trans (h.words l hl), hwords⟩
  · rw [hdropped.state, State.endOutst, State.modPort, h.frame.state]
  · exact (hdropped.prt q).trans ((State.prt_modPort_other t e.req.port q _ hq).trans (h.frame.prt q))
  · rw [(hstk k).1, (h.frame.stack k).1]
  · rw [hprt]
    exact mget_mput_same _ _ _ _

end Sys2Proof.Machine
end

section
/-! PROOFS. READ (R115, R126). -/

namespace Sys2Proof.Machine

/-- A lookup that meets no SRAM error changes nothing for its request (R221). -/
theorem withError_none (s : State) (k : Nat) (r : Req) (f : State → Req → State) : withError s k r none f = f s r := by
  simp [withError, State.tagLost, lookupError]

theorem exec_read_none (s : State) (k rid : Nat) :
    exec (.read k rid none) s = .next (serve s k rid [0x01] (fun s r => doRead s k r)) := by
  change execRead k rid none s = _
  simp only [execRead, withError_none]

/-- A READ of an INVALID tile and a request to a RETIRED one need nothing from a bank (R115, R116). -/
theorem bankBound_of_no_lookup {s : State} {k : Nat} {r : Req} (h : (s.stk k).tileSt (s.wordLoc k r 0).tile = .retired ∨
    ((s.stk k).tileSt (s.wordLoc k r 0).tile = .invalid ∧ r.op = 0x01)) : s.bankBound k r = false := if_pos h

/-- A READ that needs nothing from a bank runs at once. -/
theorem exec_read_of_ready {s : State} {k rid : Nat} {e : Entry} (h : Ready s k rid e [0x01]) (hbank : s.bankBound k e.req = false) :
    exec (.read k rid none) s = .next (doRead s k e.req) := by
  obtain ⟨he, hop, hdone, hgth, hserve⟩ := h
  rw [exec_read_none, serve_slice s k rid [0x01] _ e he hop hdone hgth hserve hbank]

/-- The tile of a request is that of its first word. -/
theorem isRetired_of_eq {s : State} {k : Nat} {r : Req} (h : (s.stk k).tileSt (s.wordLoc k r 0).tile = .retired) :
    s.isRetired k r = true := beq_iff_eq.mpr h

theorem isRetired_of_ne {s : State} {k : Nat} {r : Req} (h : (s.stk k).tileSt (s.wordLoc k r 0).tile ≠ .retired) :
    s.isRetired k r = false := beq_eq_false_iff_ne.mpr h

theorem doRead_of_retired {s : State} {k : Nat} {r : Req} (h : (s.stk k).tileSt (s.wordLoc k r 0).tile = .retired) :
    doRead s k r = finish s k r [respTo r stRetired (s.frame k)] := by
  rw [doRead, if_pos (isRetired_of_eq h)]
  rfl

/-- POISON where a word that a READ answers is poisoned (R126). -/
def readStatus (ds : List (Word × Bool)) : Nat := if ds.any (·.2) = true then stPoison else stOk

/-- A READ answers what `readWords` reads. -/
theorem doRead_of_readWords {s t : State} {k : Nat} {r : Req} {ds : List (Word × Bool)}
    (htile : (s.stk k).tileSt (s.wordLoc k r 0).tile ≠ .retired) (h : readWords s k (s.reqLocs k r) r.who = (ds, t)) :
    doRead s k r = finish t k r [{ respTo r (readStatus ds) (s.frame k) with data := ds }] := by
  rw [doRead, isRetired_of_ne htile]
  simp only [h]
  rfl

/-! ### A READ that hits -/

/-- The words that a READ answers from the slice. -/
def State.readData (s : State) (k : Nat) (r : Req) : List (Word × Bool) := (s.reqLocs k r).map (s.stk k).answer

theorem State.length_readData (s : State) (k : Nat) (r : Req) : (s.readData k r).length = r.len := by
  simp [State.readData, State.reqLocs]

theorem State.getElem?_readData (s : State) (k : Nat) (r : Req) {i : Nat} (hi : i < r.len) :
    (s.readData k r)[i]? = some ((s.stk k).answer (s.wordLoc k r i)) := by
  simp [State.readData, State.reqLocs, hi, State.wordLoc]

theorem Stack.answer_of_sectorAt {x : Stack} {l : Loc} {w : Word} {p : Bool} (h : x.sectorAt l = some (w, p)) :
    x.answer l = if p = true then (0, true) else (w, false) := by
  rw [Stack.answer, h]
  cases p <;> rfl

/-- A READ answers a poisoned word where a place of the request holds one. -/
theorem any_readData (s : State) (k : Nat) (r : Req) : (s.readData k r).any (·.2) = true ↔
    ∃ i w, i < r.len ∧ (s.stk k).sectorAt (s.wordLoc k r i) = some (w, true) := by
  have hpoison : ∀ l, ((s.stk k).answer l).2 = true ↔ ∃ w, (s.stk k).sectorAt l = some (w, true) := fun l => by
    cases hl : (s.stk k).sectorAt l with
    | none => simp [Stack.answer, hl]
    | some v => simp [Stack.answer, hl, Prod.ext_iff]
  rw [State.readData, List.any_map, List.any_eq_true]
  simp only [Function.comp_apply, hpoison]
  constructor
  · rintro ⟨l, hl, w, hw⟩
    obtain ⟨i, hi, rfl⟩ := State.mem_reqLocs.mp hl
    exact ⟨i, w, hi, hw⟩
  · rintro ⟨i, w, hi, hw⟩
    exact ⟨_, State.mem_reqLocs.mpr ⟨i, hi, rfl⟩, w, hw⟩

theorem readWords_of_resident {s : State} {k : Nat} {r : Req} {st : TileState} (w : Who) (hk : k < s.stks.length)
    (hne : st ≠ .invalid) (h : Resident s k r st) :
    readWords s k (s.reqLocs k r) w = (s.readData k r, s.hit k (s.wordLoc k r 0) w) := by
  obtain ⟨ls, hlocs, hholds⟩ := h.holds
  rw [State.readData, hlocs]
  exact readWords_of_holds w hk (h.tileSt_eq.trans_ne hne) hholds

/-- Settles O17: a READ of an INVALID or RETIRED tile looks nothing up; another one hits, which changes no word. -/
theorem readReturns : Obligations.ReadReturns := by
  intro s k rid e h
  have he := h.entry_eq
  have hop := h.op_eq
  have hack : isPosted e.req.op = false := by rw [hop]; rfl
  refine ⟨fun htile hlen => ?invalid, fun htile => ?retired, fun st hne hlive hres => ?hit⟩
  case invalid =>
    have hexec := exec_read_of_ready h (bankBound_of_no_lookup (.inr ⟨htile, hop⟩))
    have hread : readWords s k (s.reqLocs k e.req) e.req.who = (List.replicate e.req.len (0, false), s) := by
      have hlength : (s.reqLocs k e.req).length = e.req.len := by simp [State.reqLocs]
      rw [← hlength, ← List.map_const', s.reqLocs_eq_cons k hlen]
      exact readWords_of_invalid _ _ htile
    have hok : readStatus (List.replicate e.req.len ((0 : Word), false)) = stOk := if_neg (by simp)
    rw [doRead_of_readWords (by simp [htile]) hread, hok] at hexec
    obtain ⟨hans, hframe⟩ := answered_finish
      [{ respTo e.req stOk (s.frame k) with data := List.replicate e.req.len (0, false) }] he hack
    exact ⟨_, hexec, hans, hframe.onlyStk, (hframe.stack k).1⟩
  case retired =>
    have hexec := exec_read_of_ready h (bankBound_of_no_lookup (.inl htile))
    rw [doRead_of_retired htile] at hexec
    obtain ⟨hans, hframe⟩ := answered_finish [respTo e.req stRetired (s.frame k)] he hack
    exact ⟨_, hexec, hans, hframe.onlyStk, (hframe.stack k).1⟩
  case hit =>
    have hk := State.lt_length_of_entry he
    have hexec := exec_read_of_ready h (bankBound_of_resident hres)
    rw [doRead_of_readWords (hres.tileSt_eq.trans_ne hlive) (readWords_of_resident e.req.who hk hne hres)] at hexec
    obtain ⟨hans, hframe, hwords, -⟩ := (SliceStep.hit s k (s.wordLoc k e.req 0) e.req.who hk).answered he hack
      [{ respTo e.req (readStatus (s.readData k e.req)) (s.frame k) with data := s.readData k e.req }]
    refine ⟨_, hexec, hframe, hwords, _, hans, s.length_readData k e.req, fun i w p hi hw => ?_, ?_, ?_⟩
    · rw [← Stack.answer_of_sectorAt hw]
      exact s.getElem?_readData k e.req hi
    · rw [← any_readData]
      change readStatus (s.readData k e.req) = stPoison ↔ _
      unfold readStatus
      split_ifs with hany
      · simp [hany]
      · simp [hany, stOk, stPoison]
    · change readStatus (s.readData k e.req) = stPoison ∨ readStatus (s.readData k e.req) = stOk
      exact ite_eq_or_eq _ _ _

end Sys2Proof.Machine
end

section
/-! PROOFS. WRITE, WRITE_POSTED and WRITE_MASKED to words that the slice holds (R64, R65, R108, R109, R126). -/

namespace Sys2Proof.Machine

/-! ### The words of one line (R64, R65) -/

/-- A mask whose bits start at bit n sees of a number only its bits from n on. -/
theorem and_congr_of_div {a b m n : Nat} (hm : m % 2 ^ n = 0) (h : a / 2 ^ n = b / 2 ^ n) : a &&& m = b &&& m := by
  apply Nat.eq_of_testBit_eq
  intro i
  rw [Nat.testBit_and, Nat.testBit_and]
  by_cases hi : i < n
  · have hbit : m.testBit i = false := by
      have hmod : (m % 2 ^ n).testBit i = false := by rw [hm, Nat.zero_testBit]
      rw [Nat.testBit_mod_two_pow] at hmod
      simpa [hi] using hmod
    simp [hbit]
  · have hbits : ∀ x : Nat, x.testBit i = (x / 2 ^ n).testBit (i - n) := fun x => by
      rw [Nat.testBit_div_two_pow, Nat.sub_add_cancel (by omega)]
    rw [hbits a, hbits b, h]

/-- The masks of R71 start at bit 10. -/
theorem State.mask_mod (s : State) (k : Nat) (staged : Bool) (n : Nat) : s.mask k staged n % 2 ^ 10 = 0 := by
  rw [State.mask]
  omega

/-- Words of one line differ in their column alone. -/
theorem decompose_add {ms : List Nat} (hms : ∀ m ∈ ms, m % 2 ^ 10 = 0) {o i : Nat} (halign : o % 32 = 0) (hline : o % 256 + 32 * i < 256) :
    decompose ms (o + 32 * i) = { decompose ms o with col := (decompose ms o).col + i } := by
  have hmask : ∀ n, parity 40 ((o + 32 * i) &&& ms.getD n 0) = parity 40 (o &&& ms.getD n 0) := fun n => by
    refine congrArg (parity 40) (and_congr_of_div (n := 10) ?_ (by omega))
    rw [List.getD_eq_getElem?_getD]
    cases hn : ms[n]? with
    | none => rfl
    | some m => exact hms m (List.mem_of_getElem? hn)
  have hrow : bits (o + 32 * i) 26 12 = bits o 26 12 := by
    rw [bits, bits, Nat.shiftRight_eq_div_pow, Nat.shiftRight_eq_div_pow]
    omega
  have hcol : bits (o + 32 * i) 9 5 = bits o 9 5 + i := by
    rw [bits, bits, Nat.shiftRight_eq_div_pow, Nat.shiftRight_eq_div_pow]
    omega
  simp only [decompose, hmask, hrow, hcol]

/-- The form of a WRITE or WRITE_POSTED: its words are of one line (R108). -/
theorem Req.form_of_write {r : Req} (h : r.formOk = true) (hop : r.op = 0x02 ∨ r.op = 0x03) :
    r.off % 32 = 0 ∧ r.off % 256 + 32 * r.len ≤ 256 := by
  obtain hop | hop := hop
  all_goals
    simp [Req.formOk, hop, isRw] at h
    omega

/-- The places of a request's words, where they are of one line, all differ. -/
theorem pairwise_reqLocs (s : State) (k : Nat) {r : Req} (halign : r.off % 32 = 0) (hline : r.off % 256 + 32 * r.len ≤ 256) :
    (s.reqLocs k r).Pairwise (fun a b => a.place ≠ b.place) := by
  have hmasks : ∀ m ∈ s.masks k false, m % 2 ^ 10 = 0 := fun m hm => by
    obtain ⟨n, -, rfl⟩ := List.mem_map.mp hm
    exact s.mask_mod k false n
  have hcol : ∀ i, i < r.len → (s.wordLoc k r i).col = (s.locOf k r.off).col + i := fun i hi => by
    rw [State.wordLoc, State.locOf, decompose_add hmasks halign (by omega), State.locOf]
  refine List.pairwise_map.mpr (List.pairwise_lt_range.imp_of_mem fun {i j} hi hj hlt hplace => ?_)
  have hcols : (s.wordLoc k r i).col = (s.wordLoc k r j).col := by
    simp only [Loc.place, List.cons.injEq] at hplace
    obtain ⟨-, -, -, -, -, -, hlast, -⟩ := hplace
    exact hlast
  rw [hcol i (List.mem_range.mp hi), hcol j (List.mem_range.mp hj)] at hcols
  omega

/-! ### WRITE and WRITE_POSTED -/

/-- The words that a write stores, poisoned where their poison bit or POISON_IN says so (R126). -/
def Req.stored (r : Req) : List (Word × Bool) := r.data.map (fun d => if (r.poisonIn || d.2) = true then (0, true) else d)

theorem exec_write_none (s : State) (k rid : Nat) :
    exec (.write k rid none) s = .next (serve s k rid [0x02] (fun s r => doWrite s k r)) := by
  change execWrite k rid none s = _
  simp only [execWrite, withError_none]

theorem doWrite_of_live {s : State} {k : Nat} {r : Req} (h : (s.stk k).tileSt (s.wordLoc k r 0).tile ≠ .retired) :
    doWrite s k r = finish (writeWords s k (s.reqLocs k r) r.stored r.who) k r
      [respTo r stOk ((writeWords s k (s.reqLocs k r) r.stored r.who).frame k)] := by
  rw [doWrite, isRetired_of_ne h]
  rfl

/-- A write of the words of one line that the slice holds stores them, and changes no other word. -/
theorem writeWords_of_resident {s : State} {k : Nat} {r : Req} (hk : k < s.stks.length) (hform : r.formOk = true)
    (hop : r.op = 0x02 ∨ r.op = 0x03) (hlen : r.data.length = r.len) (h : Resident s k r .opened) :
    SliceStep k s (writeWords s k (s.reqLocs k r) r.stored r.who) (s.reqLocs k r) ∧
    ∀ i d, r.data[i]? = some d → ((writeWords s k (s.reqLocs k r) r.stored r.who).stk k).sectorAt (s.wordLoc k r i) =
      some (if r.poisonIn || d.2 then (0, true) else (d.1, false)) := by
  obtain ⟨halign, hline⟩ := Req.form_of_write hform hop
  have hdiff := pairwise_reqLocs s k halign hline
  have hlength : r.stored.length = (s.reqLocs k r).length := by simp [Req.stored, State.reqLocs, hlen]
  obtain ⟨ls, hlocs, hholds⟩ := h.holds
  obtain ⟨hstep, hwords⟩ := writeWords_of_holds (ls := ls) r.stored r.who hk h.tileSt_eq hholds (hlocs ▸ hlength) (hlocs ▸ hdiff)
  rw [← hlocs] at hstep hwords
  refine ⟨hstep, fun i d hd => ?_⟩
  have hi : i < r.len := hlen ▸ (List.getElem?_eq_some_iff.mp hd).1
  have hzip : ((s.reqLocs k r).zip r.stored)[i]? =
      some (s.wordLoc k r i, if (r.poisonIn || d.2) = true then (0, true) else d) := by
    rw [List.getElem?_zip_eq_some]
    exact ⟨by simp [State.reqLocs, hi, State.wordLoc], by simp [Req.stored, hd]⟩
  rw [hwords _ (List.mem_of_getElem? hzip)]
  obtain ⟨w, p⟩ := d
  cases hp : (r.poisonIn || p)
  · rw [if_neg Bool.false_ne_true, if_neg Bool.false_ne_true, (Bool.or_eq_false_iff.mp hp).2]
  · rfl

/-- What a WRITE leaves of memory. -/
theorem claims_writeStores : Claims.WriteStores := by
  have hlocs : ∀ (s : State) (k : Nat) (r : Req), s.reqLocs k r = (List.range r.len).map (s.wordLoc k r) := fun _ _ _ => rfl
  refine ⟨fun s k rid e h hform hlen hres => ?acknowledged, fun s k rid e h hform hlen hres hbest hport hdrop => ?posted⟩
  case acknowledged =>
    have hop := h.op_eq
    have hack : isPosted e.req.op = false := by rw [hop]; rfl
    obtain ⟨hstep, hstored⟩ := writeWords_of_resident (State.lt_length_of_entry h.entry_eq) hform (.inl hop) hlen hres
    have hlive : (s.stk k).tileSt (s.wordLoc k e.req 0).tile ≠ .retired := by simp [hres.tileSt_eq]
    obtain ⟨hans, hframe, hwords, hsame⟩ := hstep.answered h.entry_eq hack [respTo e.req stOk (s.frame k)]
    refine ⟨_, ?_, hans, hframe, fun i d hd => (hsame _).trans (hstored i d hd), hlocs s k e.req ▸ hwords⟩
    rw [exec_write_none, serve_of_resident _ h hres, doWrite_of_live hlive, hstep.frame_eq]
  case posted =>
    have hop := h.op_eq
    have hposted : isPosted e.req.op = true := by rw [hop]; rfl
    obtain ⟨hstep, hstored⟩ := writeWords_of_resident (State.lt_length_of_entry h.entry_eq) hform (.inr hop) hlen hres
    have hlive : (s.stk k).tileSt (s.wordLoc k e.req 0).tile ≠ .retired := by simp [hres.tileSt_eq]
    obtain ⟨hgone, hframe, hout, hwords, hsame⟩ := hstep.freed (d := s.frame k) h.entry_eq hposted hbest hport hdrop
    refine ⟨_, ?_, hgone, hframe, hout, fun i d hd => (hsame _).trans (hstored i d hd), hlocs s k e.req ▸ hwords⟩
    change execWritePosted k rid s = _
    rw [execWritePosted, serve_of_resident _ h hres, doWrite_of_live hlive, hstep.frame_eq]

/-! ### WRITE_MASKED: the merged bytes (R108) -/

/-- Byte i of a number given by its bytes (R9). -/
theorem ofBytes_div_mod (l : List Byte) (i : Nat) : ofBytes l / 256 ^ i % 256 = (l.getD i 0).toNat := by
  induction l generalizing i with
  | nil => simp [ofBytes]
  | cons b l ih =>
    have hb := b.isLt
    cases i with
    | zero =>
      simp only [ofBytes, pow_zero, Nat.div_one, List.getD_cons_zero]
      omega
    | succ i =>
      have htail : ofBytes (b :: l) / 256 = ofBytes l := by
        rw [ofBytes]
        omega
      rw [pow_succ', ← Nat.div_div_eq_div_mul, htail, ih, List.getD_cons_succ]

/-- A byte of a word given by its bytes. -/
theorem wordByte_ofBytes (l : List Byte) {i : Nat} (hi : i < 32) : wordByte (BitVec.ofNat 256 (ofBytes l)) i = l.getD i 0 := by
  apply BitVec.eq_of_toNat_eq
  rw [← ofBytes_div_mod, wordByte, BitVec.extractLsb'_toNat, BitVec.toNat_ofNat, Nat.shiftRight_eq_div_pow]
  have hpow : (2 : Nat) ^ (8 * i) = 256 ^ i := by rw [pow_mul]; norm_num
  have hsplit : (2 : Nat) ^ 256 = 256 ^ i * (256 * 256 ^ (31 - i)) := by
    rw [← pow_succ', ← pow_add, show i + (31 - i + 1) = 32 by omega]
    norm_num
  rw [hpow, hsplit, Nat.mod_mul_right_div_self, Nat.mod_mul_right_mod]

/-- Enabled bytes are replaced, the others kept. -/
theorem wordByte_mergeBytes (be : Nat) (old new : Word) {b : Nat} (hb : b < 32) :
    wordByte (mergeBytes be old new) b = if be.testBit b then wordByte new b else wordByte old b := by
  rw [mergeBytes, wordByte_ofBytes _ hb]
  simp [hb, bitAt]

/-- What WRITE_MASKED makes of the word that it finds: no write with no byte enabled. -/
def maskedWrite (be : Nat) (new : Word) (m : Word × Bool) : Option (Word × Bool) × Bool :=
  (if be = 0 then none else some (mergeBytes be m.1 new, m.2), m.2)

/-- The word that WRITE_MASKED leaves of an old one. -/
theorem maskedWrite_getD (be : Nat) (new w : Word) (p : Bool) : ∃ w', (maskedWrite be new (w, p)).1.getD (w, p) = (w', p) ∧
    ∀ b, b < 32 → wordByte w' b = if be.testBit b then wordByte new b else wordByte w b := by
  by_cases hbe : be = 0
  · exact ⟨w, by simp [maskedWrite, hbe], fun b _ => by simp [hbe]⟩
  · exact ⟨mergeBytes be w new, by simp [maskedWrite, hbe], fun b hb => wordByte_mergeBytes be w new hb⟩

theorem exec_writeMasked_of_resident {s : State} {k rid : Nat} {e : Entry} {new : Word} (h : Ready s k rid e [0x04])
    (hdata : e.req.data = [(new, false)]) (hres : Resident s k e.req .opened) : exec (.writeMasked k rid) s =
      .next (if e.req.parNum 0 4 = 2 ^ 32 - 1 then
          finishSt (writeWords s k [s.wordLoc k e.req 0] [(new, false)] e.req.who) k e.req stOk
        else
          finishSt (rmw s k (s.wordLoc k e.req 0) e.req.who (maskedWrite (e.req.parNum 0 4) new)).2 k e.req
            (if (rmw s k (s.wordLoc k e.req 0) e.req.who (maskedWrite (e.req.parNum 0 4) new)).1 = true then stPoison else stOk)) := by
  have hlive : (s.stk k).tileSt (s.wordLoc k e.req 0).tile ≠ .retired := by simp [hres.tileSt_eq]
  change execWriteMasked k rid s = _
  rw [execWriteMasked, serve_of_resident _ h hres, doWriteMasked, isRetired_of_ne hlive, hdata]
  rfl

/-- Every byte enabled: the mask has every bit. -/
theorem testBit_full_mask {b : Nat} (hb : b < 32) : (2 ^ 32 - 1).testBit b = true := by
  rw [Nat.testBit_two_pow_sub_one]
  exact decide_eq_true hb

theorem claims_writeMasked : Claims.WriteMasked := by
  intro s k rid e w new p h hlen hdata hres hword
  have hk := State.lt_length_of_entry h.entry_eq
  have hop := h.op_eq
  have hack : isPosted e.req.op = false := by rw [hop]; rfl
  have htile := hres.tileSt_eq
  have hholds : Holds (s.stk k) (s.wordLoc k e.req 0) [] := by
    obtain ⟨-, -, hslice, -⟩ := hres
    exact ⟨hslice, by simp [hword]⟩
  have hexec := exec_writeMasked_of_resident h hdata hres
  by_cases hfull : e.req.parNum 0 4 = 2 ^ 32 - 1
  · obtain ⟨hstep, hnew⟩ := writeWords_of_holds [(new, false)] e.req.who hk htile hholds rfl (List.pairwise_singleton _ _)
    obtain ⟨hans, hframe, hwords, hsame⟩ := hstep.answered h.entry_eq hack [respTo e.req stOk (s.frame k)]
    have hstored := (hsame _).trans (hnew (s.wordLoc k e.req 0, new, false) (List.mem_singleton_self _))
    rw [if_pos hfull, finishSt, hstep.frame_eq] at hexec
    refine ⟨_, hexec, hframe, hwords, fun _ => ⟨hans, new, hstored, fun b hb => ?_⟩, fun _ hpart => absurd hfull hpart,
      fun _ _ => ⟨hans, hstored⟩⟩
    rw [hfull, if_pos (testBit_full_mask hb)]
  · obtain ⟨hpoison, hstep, hnew⟩ := rmw_of_holds e.req.who (maskedWrite (e.req.parNum 0 4) new) hk htile hholds hword
    obtain ⟨w', hw', hbytes⟩ := maskedWrite_getD (e.req.parNum 0 4) new w p
    obtain ⟨hans, hframe, hwords, hsame⟩ := hstep.answered h.entry_eq hack [respTo e.req (if p = true then stPoison else stOk) (s.frame k)]
    have hstored := (hsame _).trans (hnew.trans (congrArg some hw'))
    rw [if_neg hfull, hpoison, finishSt, hstep.frame_eq] at hexec
    refine ⟨_, hexec, hframe, hwords, fun hp => ?_, fun hp _ => ?_, fun _ hall => absurd hall hfull⟩
    · subst hp
      exact ⟨hans, w', hstored, hbytes⟩
    · subst hp
      exact ⟨hans, w', hstored⟩

end Sys2Proof.Machine
end

section
/-! PROOFS. What the slots of a pseudo-channel and the order of its queues leave (R122, R155, R157, R234, R237, R238, R244). -/

namespace Sys2Proof.Machine

/-- Of a stack only the request table, the channels and counters changed. -/
def SlotOnly (x y : Stack) : Prop := y = { x with table := y.table, chans := y.chans, cnt := y.cnt }

/-- t is s but for what the slots of stack k change: beside `SlotOnly` the package's counters and the free values drawn. -/
structure SlotFrame (k : Nat) (s t : State) : Prop where
  state : t = { s with stks := t.stks, free := t.free, pkgCnt := t.pkgCnt }
  length : t.stks.length = s.stks.length
  stack : ∀ j, AtStk k SlotOnly j (s.stk j) (t.stk j)

namespace SlotFrame

variable {k : Nat} {s t u : State}

theorem refl (k : Nat) (s : State) : SlotFrame k s s := ⟨rfl, rfl, fun _ => ⟨rfl, fun _ => rfl⟩⟩

theorem trans (h : SlotFrame k s t) (g : SlotFrame k t u) : SlotFrame k s u where
  state := by rw [g.state, h.state]
  length := g.length.trans h.length
  stack j := ⟨by rw [SlotOnly, (g.stack j).1, (h.stack j).1], fun hj => ((g.stack j).2 hj).trans ((h.stack j).2 hj)⟩

theorem of_stksFrame {R : Stack → Stack → Prop} (h : StksFrame (AtStk k R) s t) (hR : ∀ x y, R x y → SlotOnly x y) : SlotFrame k s t :=
  ⟨by rw [h.state], h.length, fun j => ⟨hR _ _ (h.stack j).1, (h.stack j).2⟩⟩

theorem modStk (s : State) (k : Nat) (f : Stack → Stack) (hf : ∀ x, SlotOnly x (f x)) : SlotFrame k s (s.modStk k f) :=
  of_stksFrame (StksFrame.modStk (fun _ _ => ⟨rfl, fun _ => rfl⟩) s k f fun x => ⟨hf x, fun hk => absurd rfl hk⟩) fun _ _ h => h

theorem modPc (s : State) (k c i : Nat) (f : PChan → PChan) : SlotFrame k s (s.modPc k c i f) := modStk s k _ (by exact fun _ => rfl)

theorem draw (k : Nat) (s : State) : SlotFrame k s s.draw.2 := ⟨rfl, rfl, fun _ => ⟨rfl, fun _ => rfl⟩⟩

theorem count (s : State) (k : Nat) (pg : Page) (i c n : Nat) : SlotFrame k s (s.count k pg i c n) := by
  cases hp : pg.isPkg with
  | true =>
    rw [s.count_of_isPkg k pg i c n hp]
    exact ⟨rfl, rfl, fun _ => ⟨rfl, fun _ => rfl⟩⟩
  | false => exact of_stksFrame (CountFrame.count s k pg i c n hp) fun x y h => by rw [SlotOnly, h]

theorem foldl {α : Type} (f : State → α → State) (hf : ∀ s a, SlotFrame k s (f s a)) (l : List α) (s : State) :
    SlotFrame k s (l.foldl f s) := by
  induction l generalizing s with
  | nil => exact refl k s
  | cons a l ih => exact (hf s a).trans (ih _)

/-! ### One word (R157, R234, R238, R244, R417) -/

theorem activate (s : State) (k ch pc bank row : Nat) : SlotFrame k s (activate s k ch pc bank row) := by
  have hopen : SlotFrame k s ((s.modPc k ch pc s.wakePc).count k .ctl ch 0 1) := (modPc s k ch pc _).trans (count _ k .ctl ch 0 1)
  simp only [Machine.activate]
  split
  · split
    · exact (hopen.trans (modPc _ k ch pc _)).trans (modPc _ k ch pc _)
    · exact hopen.trans (modPc _ k ch pc _)
  · exact hopen.trans (modPc _ k ch pc _)

theorem openRow (s : State) (k : Nat) (l : Loc) (w : Who) : SlotFrame k s (openRow s k l w) := by
  simp only [Machine.openRow]
  split
  · exact refl k s
  · exact ((draw k s).trans (modPc _ k l.ch l.pc _)).trans (activate _ k l.ch l.pc _ _)

theorem busTurn (s : State) (k ch pc : Nat) (w : Who) (wr : Bool) : SlotFrame k s (busTurn s k ch pc w wr) := by
  unfold Machine.busTurn
  split
  · exact modPc s k ch pc _
  · split
    · exact refl k s
    · exact (modPc s k ch pc _).trans (count _ k .ctl ch 5 1)

theorem beSlot (s : State) (k ch pc c : Nat) : SlotFrame k s (beSlot s k ch pc c) := by
  unfold Machine.beSlot
  dsimp only
  split_ifs
  · exact (modPc s k ch pc _).trans (count _ k .thm 0 6 1)
  · exact modPc s k ch pc _
  · exact modPc s k ch pc _

theorem takeSlot (s : State) (k ch pc : Nat) (w : Who) : SlotFrame k s (takeSlot s k ch pc w) := by
  unfold Machine.takeSlot
  dsimp only
  split_ifs
  · exact modPc s k ch pc _
  · exact ((modPc s k ch pc _).trans (modPc _ k ch pc _)).trans (modPc _ k ch pc _)
  · exact ((((modPc s k ch pc _).trans (modPc _ k ch pc _)).trans (beSlot _ k ch pc w.ovf)).trans
      (modStk _ k _ (by exact fun _ => rfl))).trans (count _ k .sch 0 8 1)
  · exact (modPc s k ch pc _).trans (beSlot _ k ch pc w.cls)

theorem charge1 (s : State) (k : Nat) (l : Loc) (w : Who) (wr : Bool) : SlotFrame k s (charge1 s k l w wr) :=
  ((openRow s k l w).trans (busTurn _ k l.ch l.pc w wr)).trans (takeSlot _ k l.ch l.pc w)

/-! ### Write-backs and the order of a bank's queue (R122, R237) -/

theorem postWrite (s : State) (k : Nat) (l : Loc) (w : Who) : SlotFrame k s (postWrite s k l w) := by
  unfold Machine.postWrite
  split
  · exact charge1 s k l w true
  · exact modPc s k l.ch l.pc _

theorem issueWb (s : State) (k ch pc : Nat) (y : Wb) : SlotFrame k s (issueWb s k ch pc y) :=
  (modPc s k ch pc _).trans (charge1 _ k _ _ true)

theorem noteOrder (s : State) (k ch pc b : Nat) : SlotFrame k s (noteOrder s k ch pc b) := by
  simp only [Machine.noteOrder]
  split
  · exact (modPc s k ch pc _).trans (count _ k .ctl ch 4 1)
  · split
    · exact refl k s
    · exact modPc s k ch pc _

theorem beginBank (s : State) (k : Nat) (r : Req) : SlotFrame k s (beginBank s k r) := by
  have hdrain : ∀ ch pc b f, SlotFrame k s ((Machine.noteOrder s k ch pc b).modPc k ch pc f) := fun ch pc b f =>
    (noteOrder s k ch pc b).trans (modPc _ k ch pc f)
  simp only [Machine.beginBank]
  split
  · exact (hdrain _ _ _ _).trans (foldl _ (fun u y => issueWb u k _ _ y) _ _)
  · exact hdrain _ _ _ _

theorem endBank (s : State) (k : Nat) (r : Req) : SlotFrame k s (endBank s k r) :=
  (noteOrder s k _ _ _).trans (modPc _ k _ _ _)

variable (h : SlotFrame k s t)
include h

theorem raw (j : Nat) (pg : Page) (i off : Nat) : t.raw j pg i off = s.raw j pg i off :=
  State.raw_congr (by rw [h.state]) (by rw [(h.stack j).1]) (by rw [(h.stack j).1]) pg i off

theorem locOf : t.locOf k = s.locOf k := State.locOf_congr fun off _ => h.raw k .adm 0 off

theorem tileSt (x : Nat) : (t.stk k).tileSt x = (s.stk k).tileSt x := by
  rw [(h.stack k).1]
  rfl

end SlotFrame

end Sys2Proof.Machine
end

section
/-! PROOFS. A write opens its tile, wherever its words are (R210, R211, R213, R215, R275, R276). -/

namespace Sys2Proof.Machine

/-! ### What keeps the tile-state map of a stack -/

/-- The tile-state map of stack k is as before. -/
structure TilesStay (k : Nat) (s t : State) : Prop where
  length : t.stks.length = s.stks.length
  tiles : (t.stk k).tiles = (s.stk k).tiles

theorem SlotFrame.tilesStay {k : Nat} {s t : State} (h : SlotFrame k s t) : TilesStay k s t :=
  ⟨h.length, by rw [(h.stack k).1]⟩

theorem KeepsTiles.tilesStay {k : Nat} {s t : State} (h : KeepsTiles k s t) : TilesStay k s t := ⟨h.length, h.tiles⟩

namespace TilesStay

variable {k : Nat} {s t u : State}

theorem refl (k : Nat) (s : State) : TilesStay k s s := ⟨rfl, rfl⟩

theorem trans (h : TilesStay k s t) (g : TilesStay k t u) : TilesStay k s u := ⟨g.length.trans h.length, g.tiles.trans h.tiles⟩

theorem foldl {α : Type} (f : State → α → State) (hf : ∀ s a, TilesStay k s (f s a)) (l : List α) (s : State) :
    TilesStay k s (l.foldl f s) := by
  induction l generalizing s with
  | nil => exact refl k s
  | cons a l ih => exact (hf s a).trans (ih _)

/-- What leaves the still part of a state leaves its tiles. -/
theorem of_still (h : t.still = s.still) : TilesStay k s t := by
  have hstks : t.stks.map Stack.still = s.stks.map Stack.still := congrArg Still.stks h
  have hlen : t.stks.length = s.stks.length := by simpa using congrArg List.length hstks
  refine ⟨hlen, ?_⟩
  by_cases hk : k < s.stks.length
  · have hget := congrArg (fun l => l[k]?) hstks
    simp only [List.getElem?_map, List.getElem?_eq_getElem hk, List.getElem?_eq_getElem (hlen.symm ▸ hk), Option.map_some,
      Option.some.injEq] at hget
    have htiles := congrArg StillStk.tiles hget
    simpa [State.stk, List.getD, hk, hlen.symm ▸ hk] using htiles
  · simp [State.stk, List.getD, List.getElem?_eq_none (Nat.not_lt.mp hk), List.getElem?_eq_none (hlen ▸ Nat.not_lt.mp hk), Stack.reset]

theorem putDie (s : State) (k : Nat) (l : Loc) (v : Word) (p : Bool) : TilesStay k s (s.putDie k l v p) :=
  (KeepsTiles.setDie s k l _).tilesStay

theorem writeBack (s : State) (k : Nat) (y : Line) (w : Who) : TilesStay k s (writeBack s k y w) := by
  simp only [Machine.writeBack]
  refine ((foldl _ (fun u i => ?_) _ s).trans (SlotFrame.count _ k .vit 0 2 _).tilesStay).trans (KeepsTiles.withLines _ k _).tilesStay
  exact (putDie u k _ _ _).trans (SlotFrame.postWrite _ k _ w).tilesStay

theorem alloc {l : Loc} {parity pin : Bool} {w : Who} (h : alloc s k l parity pin w = some t) : TilesStay k s t := by
  unfold Machine.alloc at h
  split at h
  · cases h
  · simp only at h
    split at h
    · cases h
    · obtain rfl := Option.some.inj h
      refine (TilesStay.trans ?_ (KeepsTiles.withLines _ k _).tilesStay).trans (KeepsTiles.touch _ k l _).tilesStay
      split
      · exact (writeBack s k _ w).trans (KeepsTiles.withLines _ k _).tilesStay
      · exact refl k s

theorem pinParity (s : State) (k x : Nat) (w : Who) : TilesStay k s (pinParity s k x w) := by
  unfold Machine.pinParity
  simp only
  split
  · exact refl k s
  · split
    · exact (SlotFrame.count s k .vit 0 4 1).tilesStay
    · split
      · exact (KeepsTiles.modLine s k _ true _).tilesStay
      · split
        · rename_i t halloc
          exact alloc halloc
        · exact refl k s

theorem useLine (s : State) (k : Nat) (l : Loc) : TilesStay k s (useLine s k l) := by
  unfold Machine.useLine
  split
  · exact (KeepsTiles.touch s k l _).tilesStay
  · exact refl k s

theorem hitLine (s : State) (k : Nat) (l : Loc) (w : Who) : TilesStay k s (hitLine s k l w) := by
  unfold Machine.hitLine
  dsimp only
  split
  · exact (useLine s k l).trans (KeepsTiles.modLine _ k l false _).tilesStay
  · exact useLine s k l

theorem lookup (s : State) (k : Nat) (ls : List Loc) (w : Who) : TilesStay k s (lookup s k ls w).1 := by
  have hcount : ∀ (u : State) (c : Nat), TilesStay k u (u.count k .vit 0 c 1) := fun u c => (SlotFrame.count u k .vit 0 c 1).tilesStay
  unfold Machine.lookup
  split
  · exact refl k s
  · split
    · exact hcount s 3
    · split
      · exact (hcount s 0).trans (hitLine _ k _ w)
      · split
        · exact (hcount s 1).trans (useLine _ k _)
        · split
          · rename_i t halloc
            exact (alloc halloc).trans (hcount t 1)
          · exact hcount s 3

theorem writeAfter (s : State) (k : Nat) (present : Bool) (l : Loc) (v : Word) (p : Bool) (w : Who) :
    TilesStay k s (writeAfter s k present l v p w) := by
  unfold Machine.writeAfter
  split
  · exact (KeepsTiles.modLine s k l false _).tilesStay
  · exact (putDie s k l v p).trans (SlotFrame.charge1 _ k l w true).tilesStay

end TilesStay

/-! ### A tile that turns OPEN -/

/-- Tile x of stack k is OPEN, and there are as many stacks as before. -/
structure Opened (k x : Nat) (s t : State) : Prop where
  length : t.stks.length = s.stks.length
  opened : (t.stk k).tileSt x = .opened

namespace Opened

variable {k x : Nat} {s t u : State}

theorem then_stay (h : Opened k x s t) (g : TilesStay k t u) : Opened k x s u :=
  ⟨g.length.trans h.length, by rw [Stack.tileSt, g.tiles]; exact h.opened⟩

theorem turnOpen (s : State) (k x : Nat) (w : Who) (hk : k < s.stks.length) : Opened k x s (turnOpen s k x w) := by
  have hset := SetsTile.setTile s k x .opened
  have hopen : Opened k x s (s.setTile k x .opened) := ⟨hset.length, hset.same hk⟩
  exact (hopen.then_stay (KeepsTiles.listOpen _ k x true).tilesStay).then_stay (.pinParity _ k x w)

/-- A write that is accepted leaves its tile OPEN, whatever it was (R275, R276, R283). -/
theorem noteWrite {s : State} {k x : Nat} (w : Who) (hk : k < s.stks.length) (h : (s.stk k).tileSt x ≠ .retired) :
    Opened k x s (noteWrite s k x w) := by
  unfold Machine.noteWrite
  split
  case h_1 =>
    refine ((turnOpen s k x w hk).then_stay (.foldl _ (fun u l => ?_) _ _)).then_stay (SlotFrame.count _ k .tsm 0 0 1).tilesStay
    exact (TilesStay.putDie u k l 0 false).trans (SlotFrame.postWrite _ k l w).tilesStay
  case h_2 => exact turnOpen s k x w hk
  case h_3 hopen =>
    have hstay : TilesStay k s (listOpen (abortSeal s k x) k x false) :=
      (KeepsTiles.abortSeal s k x).tilesStay.trans (KeepsTiles.listOpen _ k x false).tilesStay
    exact then_stay ⟨rfl, hopen⟩ hstay
  case h_4 hretired => exact absurd hretired h

theorem writeWords {s : State} {k : Nat} {l : Loc} (ls : List Loc) (vs : List (Word × Bool)) (w : Who) (hk : k < s.stks.length)
    (h : (s.stk k).tileSt l.tile ≠ .retired) : Opened k l.tile s (writeWords s k (l :: ls) vs w) := by
  simp only [Machine.writeWords]
  refine ((noteWrite w hk h).then_stay (.lookup _ k (l :: ls) w)).then_stay (.foldl _ (fun u x => ?_) _ _)
  split
  · exact .putDie u k _ _ _
  · exact .writeAfter u k _ _ _ _ w

/-- A WRITE or WRITE_POSTED to a tile that is not RETIRED (R275). -/
theorem doWrite {s : State} {k : Nat} {r : Req} (hk : k < s.stks.length) (hlen : 1 ≤ r.len)
    (h : (s.stk k).tileSt (s.wordLoc k r 0).tile ≠ .retired) : Opened k (s.wordLoc k r 0).tile s (doWrite s k r) := by
  rw [doWrite_of_live h, s.reqLocs_eq_cons k hlen]
  exact (writeWords _ r.stored r.who hk h).then_stay (.of_still (still_finish _ k r _))

/-- A WRITE or WRITE_POSTED that is ready, served in its bank's order where it moves words of a bank (R237). -/
theorem serve {s : State} {k rid : Nat} {e : Entry} {ops : List Nat} (h : Ready s k rid e ops) (hlen : 1 ≤ e.req.len)
    (hlive : (s.stk k).tileSt (s.wordLoc k e.req 0).tile ≠ .retired) :
    Opened k (s.wordLoc k e.req 0).tile s (serve s k rid ops (fun s r => Machine.doWrite s k r)) := by
  obtain ⟨he, hop, hdone, hgth, hserve⟩ := h
  have hk := State.lt_length_of_entry he
  cases hbank : s.bankBound k e.req with
  | false =>
    rw [serve_slice s k rid ops _ e he hop hdone hgth hserve hbank]
    exact doWrite hk hlen hlive
  | true =>
    have hbegin := SlotFrame.beginBank s k e.req
    have hloc : (beginBank s k e.req).wordLoc k e.req 0 = s.wordLoc k e.req 0 := congrFun hbegin.locOf _
    have hwrite := doWrite (s := beginBank s k e.req) (hbegin.length ▸ hk) hlen (by rw [hloc, hbegin.tileSt]; exact hlive)
    rw [serve_bank s k rid ops _ e he hop hdone hgth hserve hbank]
    rw [hloc] at hwrite
    exact then_stay ⟨hwrite.length.trans hbegin.length, hwrite.opened⟩ (SlotFrame.endBank _ k e.req).tilesStay

end Opened

theorem claims_writeOpensTile : Claims.WriteOpensTile := by
  intro s k rid e h hlen hlive
  obtain ⟨he, hop, hrest⟩ := h
  simp only [List.mem_cons, List.not_mem_nil, or_false] at hop
  obtain hop | hop := hop
  · rw [if_pos hop]
    exact ⟨_, exec_write_none s k rid, (Opened.serve ⟨he, List.mem_singleton.mpr hop, hrest⟩ hlen hlive).opened⟩
  · rw [if_neg (by simp [hop])]
    exact ⟨_, rfl, (Opened.serve ⟨he, List.mem_singleton.mpr hop, hrest⟩ hlen hlive).opened⟩

/-- Settles O18: a write that hits is one change of the slice for each word; a write of any kind opens its tile before its words move. -/
theorem writes : Obligations.Writes := ⟨claims_writeStores, claims_writeMasked, claims_writeOpensTile⟩

end Sys2Proof.Machine
end

section
/-! PROOFS. Rounding to nearest with ties to even, and the fields of an accumulator word (R183, R185, R188). -/

namespace Sys2Proof.Machine

/-! ### Rounding to nearest, ties to even -/

/-- r is m / d rounded to the nearest integer, with ties to even (R183). -/
def NearestEven (m d r : Nat) : Prop :=
  2 * ((r : Int) * d - m).natAbs ≤ d ∧ (2 * ((r : Int) * d - m).natAbs = d → r % 2 = 0)

/-- Of m and d one may cancel a common factor. -/
theorem NearestEven.mul {m d r : Nat} (h : NearestEven m d r) {c : Nat} (hc : 0 < c) : NearestEven (m * c) (d * c) r := by
  obtain ⟨hnear, htie⟩ := h
  have hscale : ((r : Int) * (d * c : Nat) - (m * c : Nat)).natAbs = ((r : Int) * d - m).natAbs * c := by
    rw [show (r : Int) * (d * c : Nat) - (m * c : Nat) = ((r : Int) * d - m) * (c : Nat) by push_cast; ring, Int.natAbs_mul,
      Int.natAbs_natCast]
  rw [NearestEven, hscale, ← Nat.mul_assoc]
  exact ⟨Nat.mul_le_mul_right c hnear, fun h => htie (Nat.eq_of_mul_eq_mul_right hc h)⟩

/-- A quotient without a remainder is its own rounding. -/
theorem nearestEven_of_eq {m d r : Nat} (h : r * d = m) (hd : 0 < d) : NearestEven m d r := by
  have hzero : ((r : Int) * d - m).natAbs = 0 := by
    rw [← h]
    simp
  rw [NearestEven, hzero]
  exact ⟨by omega, fun h => by omega⟩

/-- The quotient, or the next integer where the remainder is more than half a step, or half a step from an odd quotient. -/
theorem nearestEven_half {hi rem half r : Nat} (hrem : rem < 2 * half)
    (hr : r = if half < rem ∨ (rem = half ∧ hi % 2 = 1) then hi + 1 else hi) : NearestEven (hi * (2 * half) + rem) (2 * half) r := by
  have hdiff : (r : Int) * (2 * half : Nat) - (hi * (2 * half) + rem : Nat) =
      if half < rem ∨ (rem = half ∧ hi % 2 = 1) then (2 * half : Int) - rem else -(rem : Int) := by
    rw [hr]
    split_ifs <;> push_cast <;> ring
  rw [NearestEven, hdiff]
  split_ifs at hr ⊢ <;> omega

/-- What `roundAt` answers, in steps of 2^b: the nearest multiple of 2^q, with ties to even, and whether it is another value. -/
theorem roundAt_spec (m : Nat) {e q b : Int} (he : b ≤ e) (hq : b ≤ q) :
    NearestEven (m * 2 ^ (e - b).toNat) (2 ^ (q - b).toNat) (roundAt m e q).1 ∧
    ((roundAt m e q).2 = true ↔ (roundAt m e q).1 * 2 ^ (q - b).toNat ≠ m * 2 ^ (e - b).toNat) := by
  by_cases hqe : q ≤ e
  · have hexact : m * 2 ^ (e - q).toNat * 2 ^ (q - b).toNat = m * 2 ^ (e - b).toNat := by
      rw [Nat.mul_assoc, ← pow_add, show (e - q).toNat + (q - b).toNat = (e - b).toNat by omega]
    rw [roundAt, if_pos hqe]
    exact ⟨nearestEven_of_eq hexact (by positivity), by simp [hexact]⟩
  · obtain ⟨n, hn⟩ : ∃ n, (q - e).toNat = n + 1 := ⟨(q - e).toNat - 1, by omega⟩
    have hpow : 2 ^ (q - b).toNat = 2 * 2 ^ n * 2 ^ (e - b).toNat := by
      rw [← pow_succ', ← hn, ← pow_add, show (q - e).toNat + (e - b).toNat = (q - b).toNat by omega]
    have hsplit : m = m / 2 ^ (n + 1) * (2 * 2 ^ n) + m % 2 ^ (n + 1) := by
      rw [← pow_succ', Nat.div_add_mod']
    have hrem : m % 2 ^ (n + 1) < 2 * 2 ^ n := pow_succ' 2 n ▸ Nat.mod_lt m (by positivity)
    have hhalf : 0 < 2 ^ n := by positivity
    have hround : roundAt m e q = (if 2 ^ n < m % 2 ^ (n + 1) ∨ (m % 2 ^ (n + 1) = 2 ^ n ∧ m / 2 ^ (n + 1) % 2 = 1)
        then m / 2 ^ (n + 1) + 1 else m / 2 ^ (n + 1), m % 2 ^ (n + 1) != 0) := by
      rw [roundAt, if_neg hqe, hn]
      simp only [Nat.shiftRight_eq_div_pow, Nat.add_sub_cancel]
    have hinexact : (roundAt m e q).1 * (2 * 2 ^ n) ≠ m ↔ m % 2 ^ (n + 1) ≠ 0 := by
      rw [hround]
      generalize m / 2 ^ (n + 1) = hi at hsplit ⊢
      generalize m % 2 ^ (n + 1) = rem at hsplit hrem ⊢
      generalize (2 : Nat) ^ n = half at hsplit hrem hhalf ⊢
      subst hsplit
      dsimp only
      split_ifs <;> simp only [Nat.add_mul, ne_eq] <;> omega
    have hnear := nearestEven_half hrem (r := (roundAt m e q).1) (congrArg Prod.fst hround)
    rw [← hsplit] at hnear
    rw [hpow]
    refine ⟨hnear.mul (by positivity), ?_⟩
    rw [← Nat.mul_assoc, ne_eq, Nat.mul_left_inj (by positivity : 2 ^ (e - b).toNat ≠ 0), ← ne_eq, hinexact, hround]
    simp

end Sys2Proof.Machine
end

section
/-! PROOFS. REPRO_ADD: what an addend adds to an accumulator, and the order of addends (R185, R188). -/

namespace Sys2Proof.Machine

/-! ### Fields of an accumulator word (R185) -/

/-- Bytes of a word as a number. -/
theorem wordNum_eq (w : Word) (lo : Nat) {n : Nat} (hn : 0 < n) : wordNum w lo n = w.toNat / 2 ^ (8 * lo) % 2 ^ (8 * n) := by
  rw [wordNum, bits, Nat.shiftRight_eq_div_pow, show 8 * (lo + n) - 1 + 1 - 8 * lo = 8 * n by omega]

theorem wordNum_lt (w : Word) (lo : Nat) {n : Nat} (hn : 0 < n) : wordNum w lo n < 2 ^ (8 * n) := by
  rw [wordNum_eq w lo hn]
  exact Nat.mod_lt _ (by positivity)

/-- An accumulator word reads as its fields. -/
theorem toNat_accWord (a : Nat) {wbase flags : Nat} (hw : wbase < 256) (hf : flags < 256) :
    (accWord a wbase flags).toNat = a % 2 ^ 192 + wbase * 2 ^ 192 + flags * 2 ^ 200 := by
  rw [accWord, BitVec.toNat_ofNat]
  omega

theorem acc_accWord (a : Nat) {wbase flags : Nat} (hw : wbase < 256) (hf : flags < 256) :
    wordNum (accWord a wbase flags) 0 24 = a % 2 ^ 192 := by
  rw [wordNum_eq _ _ (by decide), toNat_accWord a hw hf]
  omega

theorem wbase_accWord (a : Nat) {wbase flags : Nat} (hw : wbase < 256) (hf : flags < 256) :
    wordNum (accWord a wbase flags) 24 1 = wbase := by
  rw [wordNum_eq _ _ (by decide), toNat_accWord a hw hf]
  omega

theorem flags_accWord (a : Nat) {wbase flags : Nat} (hw : wbase < 256) (hf : flags < 256) :
    wordNum (accWord a wbase flags) 25 1 = flags := by
  rw [wordNum_eq _ _ (by decide), toNat_accWord a hw hf]
  omega

/-- A two's-complement value as a number. -/
theorem ofSigned_cast (n : Nat) (x : Int) : (ofSigned n x : Int) = x % 2 ^ n := by
  rw [ofSigned, Int.toNat_of_nonneg (Int.emod_nonneg x (by positivity))]
  push_cast
  rfl

theorem ofSigned_lt (n : Nat) (x : Int) : ofSigned n x < 2 ^ n := by
  have hlt := Int.emod_lt_of_pos x (show (0 : Int) < 2 ^ n by positivity)
  rw [← ofSigned_cast] at hlt
  exact_mod_cast hlt

/-! ### What an addend does (R188) -/

/-- The integer that an addend that is not 0 adds to A, in units of the weight 2^L, and the flags it sets (R188). -/
def addendOf (wbase x : Nat) : Option (Int × Byte) :=
  if fp64.isNan x || fp64.isInf x then some (0, 1)
  else if (fp64.val x).1 = 0 then none
  else if accL wbase + 160 ≤ ((fp64.val x).1.natAbs.log2 : Nat) + (fp64.val x).2 then some (0, 1)
  else some ((fp64.val x).1.sign * (roundAt (fp64.val x).1.natAbs (fp64.val x).2 (accL wbase)).1,
    if (roundAt (fp64.val x).1.natAbs (fp64.val x).2 (accL wbase)).2 then 2 else 0)

/-- An accumulator word with an integer added to A modulo 2^192 and flags set. -/
def accAdd (w : Word) (d : Int × Byte) : Word :=
  accWord (ofSigned 192 ((wordNum w 0 24 : Int) + d.1)) (wordNum w 24 1) (wordNum w 25 1 ||| d.2.toNat)

/-- An accumulator word after what an addend does. -/
def accStep (w : Word) : Option (Int × Byte) → Word
  | none => w
  | some d => accAdd w d

/-- The accumulator of a word as a number stays. -/
theorem ofSigned_acc (w : Word) : ofSigned 192 (wordNum w 0 24) = wordNum w 0 24 := by
  have hlt := wordNum_lt w 0 (n := 24) (by decide)
  have hcast := ofSigned_cast 192 (wordNum w 0 24)
  omega

/-- A magnitude with the sign of a number that is not 0. -/
theorem sign_mul_eq_ite {v : Int} (h : v ≠ 0) (r : Int) : v.sign * r = if v < 0 then -r else r := by
  obtain hneg | hpos := Int.lt_or_gt_of_ne h
  · rw [Int.sign_eq_neg_one_of_neg hneg, Int.neg_one_mul, if_pos hneg]
  · rw [Int.sign_eq_one_of_pos hpos, Int.one_mul, if_neg (by omega)]

/-- REPRO_ADD adds the addend's integer and sets its flags, and a zero leaves the word. -/
theorem reproStep_fst (w : Word) (x : Nat) : (reproStep w x).1 = accStep w (addendOf (wordNum w 24 1) x) := by
  unfold reproStep addendOf
  dsimp only
  by_cases hzero : (fp64.val x).1 = 0
  · split_ifs <;> simp [accStep, accAdd, ofSigned_acc]
  · rw [sign_mul_eq_ite hzero]
    split_ifs <;> simp [accStep, accAdd, ofSigned_acc]

section

variable (w : Word) (d : Int × Byte)

theorem flags_or_lt : wordNum w 25 1 ||| d.2.toNat < 256 :=
  Nat.or_lt_two_pow (n := 8) (wordNum_lt w 25 (by decide)) d.2.isLt

theorem acc_accAdd : (wordNum (accAdd w d) 0 24 : Int) = ((wordNum w 0 24 : Int) + d.1) % 2 ^ 192 := by
  rw [accAdd, acc_accWord _ (wordNum_lt w 24 (by decide)) (flags_or_lt w d), Nat.mod_eq_of_lt (ofSigned_lt 192 _), ofSigned_cast]

theorem wbase_accAdd : wordNum (accAdd w d) 24 1 = wordNum w 24 1 :=
  wbase_accWord _ (wordNum_lt w 24 (by decide)) (flags_or_lt w d)

theorem flags_accAdd : wordNum (accAdd w d) 25 1 = wordNum w 25 1 ||| d.2.toNat :=
  flags_accWord _ (wordNum_lt w 24 (by decide)) (flags_or_lt w d)

end

/-! ### The order of addends -/

/-- Integers added one after the other, modulo 2^n, add their sum. -/
theorem ofSigned_emod_add (n : Nat) (x y : Int) : ofSigned n (x % 2 ^ n + y) = ofSigned n (x + y) := by
  rw [ofSigned, ofSigned]
  push_cast
  rw [Int.emod_add_emod]

/-- Two integers added and two sets of flags set, one after the other. -/
theorem accAdd_accAdd (w : Word) (c d : Int × Byte) : accAdd (accAdd w c) d =
    accWord (ofSigned 192 (wordNum w 0 24 + (c.1 + d.1))) (wordNum w 24 1) (wordNum w 25 1 ||| (c.2.toNat ||| d.2.toNat)) := by
  rw [accAdd, wbase_accAdd, flags_accAdd, acc_accAdd, ofSigned_emod_add, Int.add_assoc, Nat.or_assoc]

/-- Integers added modulo 2^192 and flags set commute. -/
theorem accAdd_comm (w : Word) (c d : Int × Byte) : accAdd (accAdd w c) d = accAdd (accAdd w d) c := by
  rw [accAdd_accAdd, accAdd_accAdd w d c, Int.add_comm c.1, Nat.or_comm c.2.toNat]

theorem accStep_comm (w : Word) (c d : Option (Int × Byte)) : accStep (accStep w c) d = accStep (accStep w d) c := by
  cases c with
  | none => rfl
  | some c =>
    cases d with
    | none => rfl
    | some d => exact accAdd_comm w c d

theorem wbase_accStep (w : Word) (d : Option (Int × Byte)) : wordNum (accStep w d) 24 1 = wordNum w 24 1 := by
  cases d with
  | none => rfl
  | some d => exact wbase_accAdd w d

/-- Two addends leave the same word in either order: what each adds depends on the window base alone, which both keep. -/
theorem reproStep_comm (w : Word) (x y : Nat) : (reproStep (reproStep w x).1 y).1 = (reproStep (reproStep w y).1 x).1 := by
  simp only [reproStep_fst, wbase_accStep]
  exact accStep_comm w _ _

theorem claims_reproOrder : Claims.ReproOrder :=
  fun w _ _ _ hperm => hperm.foldl_eq' (fun x _ y _ v => reproStep_comm v x y) w

/-! ### Single addends -/

/-- A NaN, an infinity, or a finite addend of at least 2^(L+160). -/
theorem addendOf_of_large {wbase x : Nat} (h : fp64.isNan x = true ∨ fp64.isInf x = true ∨ ((fp64.val x).1 ≠ 0 ∧
    accL wbase + 160 ≤ ((fp64.val x).1.natAbs.log2 : Nat) + (fp64.val x).2)) : addendOf wbase x = some (0, 1) := by
  unfold addendOf
  obtain h | h | ⟨hne, hlarge⟩ := h
  · rw [if_pos (by simp [h])]
  · rw [if_pos (by simp [h])]
  · rw [if_neg hne, if_pos hlarge, ite_self]

theorem addendOf_of_zero {wbase x : Nat} (hnan : fp64.isNan x = false) (hinf : fp64.isInf x = false) (h : (fp64.val x).1 = 0) :
    addendOf wbase x = none := by
  rw [addendOf, if_neg (by simp [hnan, hinf]), if_pos h]

/-- A finite addend below 2^(L+160) adds its rounding, with its sign. -/
theorem addendOf_of_finite {wbase x : Nat} (hnan : fp64.isNan x = false) (hinf : fp64.isInf x = false) (hne : (fp64.val x).1 ≠ 0)
    (hsmall : ((fp64.val x).1.natAbs.log2 : Nat) + (fp64.val x).2 < accL wbase + 160) :
    addendOf wbase x = some ((fp64.val x).1.sign * (roundAt (fp64.val x).1.natAbs (fp64.val x).2 (accL wbase)).1,
      if (roundAt (fp64.val x).1.natAbs (fp64.val x).2 (accL wbase)).2 then 2 else 0) := by
  rw [addendOf, if_neg (by simp [hnan, hinf]), if_neg hne, if_neg (by omega)]

/-- A multiple q of the weight is its own rounding. -/
theorem addendOf_of_multiple {wbase x : Nat} {q : Int} (hnan : fp64.isNan x = false) (hinf : fp64.isInf x = false) (hq : q ≠ 0)
    (hbound : q.natAbs < 2 ^ 160) (hle : accL wbase ≤ (fp64.val x).2)
    (hval : q = (fp64.val x).1 * 2 ^ ((fp64.val x).2 - accL wbase).toNat) : addendOf wbase x = some (q, 0) := by
  have hne : (fp64.val x).1 ≠ 0 := fun h => hq (by rw [hval, h, Int.zero_mul])
  have habs : q.natAbs = (fp64.val x).1.natAbs * 2 ^ ((fp64.val x).2 - accL wbase).toNat := by
    rw [hval, Int.natAbs_mul, Int.natAbs_pow]
    rfl
  have hlog : (fp64.val x).1.natAbs.log2 + ((fp64.val x).2 - accL wbase).toNat < 160 := by
    have htop := Nat.mul_le_mul_right (2 ^ ((fp64.val x).2 - accL wbase).toNat) (Nat.log2_self_le (Int.natAbs_ne_zero.mpr hne))
    rw [← habs, ← pow_add] at htop
    exact (Nat.pow_lt_pow_iff_right (by decide)).mp (lt_of_le_of_lt htop hbound)
  have hround : roundAt (fp64.val x).1.natAbs (fp64.val x).2 (accL wbase) = (q.natAbs, false) := by
    rw [roundAt, if_pos hle, habs]
  have hsign : (fp64.val x).1.sign * (q.natAbs : Int) = q := by
    rw [habs]
    push_cast
    rw [← Int.mul_assoc, Int.sign_mul_abs, hval]
  rw [addendOf_of_finite hnan hinf hne (by omega), hround, hsign]
  rfl

/-- An addend that is not 0 (R188). -/
theorem reproStep_of_addendOf {w : Word} {x : Nat} {d : Int × Byte} (h : addendOf (wordNum w 24 1) x = some d) :
    (reproStep w x).1 = accAdd w d := by
  rw [reproStep_fst, h, accStep]

theorem claims_reproAddend : Claims.ReproAddend := by
  intro w x _ _
  refine ⟨fun hlarge => ?large, fun hnan hinf hzero => ?zero, fun q hnan hinf hq hbound hmul hval => ?exact⟩
  case large =>
    have hstep := reproStep_of_addendOf (addendOf_of_large hlarge)
    have hlt := wordNum_lt w 0 (n := 24) (by decide)
    have hacc := acc_accAdd w (0, 1)
    rw [hstep]
    exact ⟨by omega, flags_accAdd w (0, 1)⟩
  case zero => rw [reproStep_fst, addendOf_of_zero hnan hinf hzero, accStep]
  case exact =>
    have hstep := reproStep_of_addendOf (addendOf_of_multiple hnan hinf hq hbound hmul hval)
    rw [hstep]
    exact ⟨acc_accAdd w (q, 0), by rw [flags_accAdd]; simp, wbase_accAdd w (q, 0)⟩

theorem claims_reproRounding : Claims.ReproRounding := by
  intro w x d _ _ hnan hinf hfine hd hrest hsmall
  have hne : (fp64.val x).1 ≠ 0 := fun h => hrest (by rw [h, Int.zero_emod])
  obtain ⟨⟨hnear, htie⟩, hinexact⟩ := roundAt_spec (fp64.val x).1.natAbs (Int.le_refl (fp64.val x).2) hfine.le
  rw [Int.sub_self, Int.toNat_zero, pow_zero, Nat.mul_one, ← hd] at hnear htie hinexact
  generalize hr : (roundAt (fp64.val x).1.natAbs (fp64.val x).2 (accL (wordNum w 24 1))).1 = r at hnear htie hinexact
  have hdist : ((fp64.val x).1.sign * r * d - (fp64.val x).1).natAbs = ((r : Int) * d - (fp64.val x).1.natAbs).natAbs := by
    rw [sign_mul_eq_ite hne]
    split_ifs
    · rw [Int.neg_mul]
      omega
    · omega
  have hflag : (roundAt (fp64.val x).1.natAbs (fp64.val x).2 (accL (wordNum w 24 1))).2 = true := by
    refine hinexact.mpr fun h => hrest (Int.emod_eq_zero_of_dvd (Int.natCast_dvd.mpr ⟨r, ?_⟩))
    rw [← h, Nat.mul_comm]
  have hstep := reproStep_of_addendOf (addendOf_of_finite hnan hinf hne hsmall)
  rw [hr, hflag] at hstep
  refine ⟨(fp64.val x).1.sign * r, hdist ▸ hnear, fun h => ?_, ?_⟩
  · have heven := htie (hdist ▸ h)
    rw [sign_mul_eq_ite hne]
    split_ifs <;> omega
  · rw [hstep]
    exact ⟨acc_accAdd w _, flags_accAdd w _, wbase_accAdd w _⟩

/-- Settles O30: REPRO_ADD adds an integer modulo 2^192 and sets flags, both of which depend on the addend and the window base
alone. -/
theorem reproducibleSum : Obligations.ReproducibleSum := ⟨claims_reproAddend, claims_reproRounding, claims_reproOrder⟩

end Sys2Proof.Machine
end

section
/-! PROOFS. Encodings of the binary formats, in units of the least magnitude: their order, and the encoding that rounding answers
(R183). -/

namespace Sys2Proof.Machine

/-! ### Magnitudes -/

/-- The magnitude, in units of the least one, of an encoding without its sign. -/
def Fmt.mag (f : Fmt) (b : Nat) : Nat :=
  if b / 2 ^ f.mb = 0 then b % 2 ^ f.mb else (b % 2 ^ f.mb + 2 ^ f.mb) * 2 ^ (b / 2 ^ f.mb - 1)

/-- An encoding without its sign. -/
def Fmt.body (f : Fmt) (x : Nat) : Nat := x % 2 ^ (f.eb + f.mb)

theorem Fmt.ex_eq (f : Fmt) (x : Nat) : f.ex x = f.body x / 2 ^ f.mb := by
  rw [Fmt.ex, Fmt.body, Nat.shiftRight_eq_div_pow, Nat.add_comm f.eb, pow_add, Nat.mod_mul_right_div_self]

theorem Fmt.fr_eq (f : Fmt) (x : Nat) : f.fr x = f.body x % 2 ^ f.mb := by
  rw [Fmt.fr, Fmt.body, Nat.mod_mod_of_dvd _ (Nat.pow_dvd_pow 2 (by omega))]

/-- The exponent of a value, in steps above that of subnormals. -/
theorem Fmt.val_exponent (f : Fmt) (x : Nat) : (f.val x).2 = f.qmin + ((f.ex x - 1 : Nat) : Int) := by
  rw [Fmt.val]
  omega

/-- A finite value is its magnitude with its sign. -/
theorem Fmt.units_eq (f : Fmt) (x : Nat) :
    f.units x = if f.sign x = true then -(f.mag (f.body x) : Int) else f.mag (f.body x) := by
  have hval : (f.val x).1 = if f.sign x = true
      then -((if f.ex x = 0 then f.fr x else f.fr x + 2 ^ f.mb : Nat) : Int) else (if f.ex x = 0 then f.fr x else f.fr x + 2 ^ f.mb : Nat) := by
    rw [Fmt.val]
    push_cast
    rfl
  have hsteps : ((f.val x).2 - f.qmin).toNat = f.ex x - 1 := by
    rw [f.val_exponent]
    omega
  have hmag : f.mag (f.body x) = (if f.ex x = 0 then f.fr x else f.fr x + 2 ^ f.mb) * 2 ^ (f.ex x - 1) := by
    rw [Fmt.mag, ← f.ex_eq, ← f.fr_eq]
    split_ifs with h
    · simp [h]
    · rfl
  rw [Fmt.units, hsteps, hval, hmag]
  push_cast
  split_ifs <;> ring

/-- A larger body has a larger magnitude. -/
theorem Fmt.mag_strictMono (f : Fmt) : StrictMono f.mag := by
  refine strictMono_nat_of_lt_succ fun b => ?_
  have hpos : 0 < 2 ^ f.mb := by positivity
  have hmod : b % 2 ^ f.mb < 2 ^ f.mb := Nat.mod_lt b hpos
  have hsplit := Nat.div_add_mod b (2 ^ f.mb)
  by_cases hcarry : b % 2 ^ f.mb + 1 < 2 ^ f.mb
  · have hdiv : (b + 1) / 2 ^ f.mb = b / 2 ^ f.mb := by
      rw [← hsplit, Nat.add_assoc, Nat.mul_add_div hpos, Nat.div_eq_of_lt hcarry, Nat.mul_add_div hpos, Nat.div_eq_of_lt hmod]
    have hrest : (b + 1) % 2 ^ f.mb = b % 2 ^ f.mb + 1 := by
      rw [Nat.add_mod_eq_add_mod_right (a := b) (b := b % 2 ^ f.mb) 1 (Nat.mod_mod _ _).symm, Nat.mod_eq_of_lt hcarry]
    rw [Fmt.mag, Fmt.mag, hdiv, hrest]
    split_ifs
    · omega
    · exact Nat.mul_lt_mul_of_pos_right (by omega) (by positivity)
  · have hnext : b + 1 = 2 ^ f.mb * (b / 2 ^ f.mb + 1) := by
      rw [Nat.mul_add, Nat.mul_one]
      omega
    have hdiv : (b + 1) / 2 ^ f.mb = b / 2 ^ f.mb + 1 := by rw [hnext, Nat.mul_div_cancel_left _ hpos]
    have hrest : (b + 1) % 2 ^ f.mb = 0 := by rw [hnext, Nat.mul_mod_right]
    rw [Fmt.mag, Fmt.mag, hdiv, hrest, if_neg (Nat.succ_ne_zero _), Nat.zero_add, Nat.add_sub_cancel]
    split_ifs with hzero
    · rw [hzero, pow_zero]
      omega
    · obtain ⟨n, hn⟩ := Nat.exists_eq_succ_of_ne_zero hzero
      rw [hn, Nat.succ_eq_add_one, Nat.add_sub_cancel, pow_succ', ← Nat.mul_assoc]
      exact Nat.mul_lt_mul_of_pos_right (by omega) (by positivity)

/-- The body of h steps and a significand of mb + 1 bits, or of a carry out of them. -/
theorem Fmt.mag_of_significand (f : Fmt) {h r : Nat} (hle : r ≤ 2 ^ (f.mb + 1)) (hnormal : h = 0 ∨ 2 ^ f.mb ≤ r) :
    f.mag (h * 2 ^ f.mb + r) = r * 2 ^ h := by
  have hpos : 0 < 2 ^ f.mb := by positivity
  rw [pow_succ'] at hle
  have hsum : ∀ c d, (c + d * 2 ^ f.mb) / 2 ^ f.mb = c / 2 ^ f.mb + d := fun c d => Nat.add_mul_div_right c d hpos
  by_cases hsub : r < 2 ^ f.mb
  · have hzero : h = 0 := by omega
    rw [hzero, Nat.zero_mul, Nat.zero_add, Fmt.mag, if_pos (Nat.div_eq_of_lt hsub), Nat.mod_eq_of_lt hsub, pow_zero, Nat.mul_one]
  · by_cases hcarry : r = 2 * 2 ^ f.mb
    · have hbody : h * 2 ^ f.mb + r = 0 + (h + 2) * 2 ^ f.mb := by rw [hcarry]; ring
      rw [hbody, Fmt.mag, hsum, Nat.zero_div, Nat.zero_add, if_neg (by omega), Nat.zero_add, Nat.mul_mod_left, hcarry,
        show h + 2 - 1 = h + 1 by omega, pow_succ]
      ring
    · obtain ⟨c, hc⟩ := Nat.exists_eq_add_of_le (Nat.le_of_not_lt hsub)
      have hlt : c < 2 ^ f.mb := by omega
      have hbody : h * 2 ^ f.mb + r = c + (h + 1) * 2 ^ f.mb := by rw [hc]; ring
      rw [hbody, Fmt.mag, hsum, Nat.div_eq_of_lt hlt, if_neg (by omega), Nat.add_mul_mod_self_right, Nat.mod_eq_of_lt hlt,
        show 0 + (h + 1) - 1 = h by omega, hc, Nat.add_comm c]

/-- A magnitude is a multiple of 2^h, or below the magnitudes of step h. -/
theorem Fmt.dvd_mag_or_lt (f : Fmt) (b h : Nat) : 2 ^ h ∣ f.mag b ∨ f.mag b < 2 ^ (f.mb + h) := by
  have hmod : b % 2 ^ f.mb < 2 ^ f.mb := Nat.mod_lt b (by positivity)
  rw [Fmt.mag]
  split_ifs
  · exact .inr (lt_of_lt_of_le hmod (Nat.pow_le_pow_right (by decide) (by omega)))
  · by_cases hstep : h ≤ b / 2 ^ f.mb - 1
    · exact .inl ((Nat.pow_dvd_pow 2 hstep).mul_left _)
    · refine .inr ?_
      calc (b % 2 ^ f.mb + 2 ^ f.mb) * 2 ^ (b / 2 ^ f.mb - 1)
          < 2 ^ (f.mb + 1) * 2 ^ (b / 2 ^ f.mb - 1) := Nat.mul_lt_mul_of_pos_right (by rw [pow_succ]; omega) (by positivity)
        _ = 2 ^ (f.mb + 1 + (b / 2 ^ f.mb - 1)) := (pow_add 2 _ _).symm
        _ ≤ 2 ^ (f.mb + h) := Nat.pow_le_pow_right (by decide) (by omega)

/-! ### Encodings with a sign -/

/-- A finite encoding is a sign and a body below those of infinity. -/
theorem Fmt.isFinite_iff (f : Fmt) (x : Nat) :
    f.isFinite x = true ↔ x < 2 ^ (f.eb + f.mb + 1) ∧ f.body x < (2 ^ f.eb - 1) * 2 ^ f.mb := by
  have hlt : f.ex x < 2 ^ f.eb := Nat.mod_lt _ (by positivity)
  have hiff : f.body x < (2 ^ f.eb - 1) * 2 ^ f.mb ↔ f.ex x < 2 ^ f.eb - 1 := by
    rw [f.ex_eq]
    exact (Nat.div_lt_iff_lt_mul (by positivity)).symm
  rw [hiff, Fmt.isFinite, Bool.and_eq_true, decide_eq_true_iff, bne_iff_ne]
  omega

section

variable (f : Fmt) (neg : Bool) {b : Nat} (hb : b < 2 ^ (f.eb + f.mb))
include hb

theorem Fmt.body_zero_add : f.body (f.zero neg + b) = b := by
  rw [Fmt.body, Fmt.zero, Nat.add_comm, Nat.add_mul_mod_self_right, Nat.mod_eq_of_lt hb]

theorem Fmt.sign_zero_add : f.sign (f.zero neg + b) = neg := by
  rw [Fmt.sign, Nat.testBit_eq_decide_div_mod_eq, Fmt.zero, Nat.add_comm, Nat.add_mul_div_right _ _ (by positivity),
    Nat.div_eq_of_lt hb]
  cases neg <;> rfl

theorem Fmt.units_zero_add : f.units (f.zero neg + b) = if neg = true then -(f.mag b : Int) else f.mag b := by
  rw [f.units_eq, f.body_zero_add neg hb, f.sign_zero_add neg hb]

end

theorem Fmt.isFinite_zero_add (f : Fmt) (neg : Bool) {b : Nat} (hb : b < (2 ^ f.eb - 1) * 2 ^ f.mb) :
    f.isFinite (f.zero neg + b) = true := by
  have hlt : b < 2 ^ (f.eb + f.mb) := by
    rw [pow_add]
    exact lt_of_lt_of_le hb (Nat.mul_le_mul_right _ (Nat.sub_le _ _))
  rw [f.isFinite_iff, f.body_zero_add neg hlt, Fmt.zero, pow_succ]
  refine ⟨?_, hb⟩
  cases neg <;> simp only [b2n, Bool.false_eq_true, if_true, if_false] <;> omega

end Sys2Proof.Machine
end

section
/-! PROOFS. Rounding into a binary format (R183). -/

namespace Sys2Proof.Machine

/-! ### The step of a result -/

/-- The step in which a number of units is rounded, above the least one: results have mb + 1 significant bits. -/
def Fmt.step (f : Fmt) (m : Nat) : Nat := m.log2 - f.mb

theorem log2_mul_two_pow {m : Nat} (hm : m ≠ 0) (c : Nat) : (m * 2 ^ c).log2 = m.log2 + c := by
  have hlow := Nat.log2_self_le hm
  have hhigh := Nat.lt_log2_self (n := m)
  rw [Nat.log2_eq_iff (by positivity), Nat.add_right_comm, pow_add, pow_add _ (m.log2 + 1)]
  exact ⟨Nat.mul_le_mul_right _ hlow, Nat.mul_lt_mul_of_pos_right hhigh (by positivity)⟩

/-- A number in the steps of its results has mb + 1 bits, fewer only where the step is the least. -/
theorem Fmt.bounds_step (f : Fmt) {m : Nat} (hm : m ≠ 0) :
    m < 2 ^ (f.mb + 1) * 2 ^ f.step m ∧ (f.step m = 0 ∨ 2 ^ f.mb * 2 ^ f.step m ≤ m) := by
  rw [← pow_add, ← pow_add, Fmt.step]
  refine ⟨lt_of_lt_of_le Nat.lt_log2_self (Nat.pow_le_pow_right (by decide) (by omega)), ?_⟩
  by_cases hlow : m.log2 ≤ f.mb
  · exact .inl (by omega)
  · refine .inr (le_trans (Nat.pow_le_pow_right (by decide) ?_) (Nat.log2_self_le hm))
    omega

/-- A rounding lies between multiples of the step that the number lies between. -/
theorem NearestEven.le {m d r c : Nat} (h : NearestEven m d r) (hd : 0 < d) (hm : m ≤ c * d) : r ≤ c := by
  obtain ⟨hnear, -⟩ := h
  by_contra hlt
  have hstep : (c + 1) * d ≤ r * d := Nat.mul_le_mul_right d (by omega)
  rw [Nat.add_mul] at hstep
  omega

theorem NearestEven.ge {m d r c : Nat} (h : NearestEven m d r) (hd : 0 < d) (hm : c * d ≤ m) : c ≤ r := by
  obtain ⟨hnear, -⟩ := h
  by_contra hlt
  have hstep : (r + 1) * d ≤ c * d := Nat.mul_le_mul_right d (by omega)
  rw [Nat.add_mul] at hstep
  omega

theorem NearestEven.eq_of_one {m r : Nat} (h : NearestEven m 1 r) : r = m := by
  obtain ⟨hnear, -⟩ := h
  omega

/-- A rounded number has a significand of mb + 1 bits or a carry out of them. -/
theorem Fmt.bounds_of_nearestEven (f : Fmt) {m r : Nat} (hm : m ≠ 0) (h : NearestEven m (2 ^ f.step m) r) :
    r ≤ 2 ^ (f.mb + 1) ∧ (f.step m = 0 ∨ 2 ^ f.mb ≤ r) := by
  obtain ⟨hlt, hle⟩ := f.bounds_step hm
  exact ⟨h.le (by positivity) hlt.le, hle.imp_right fun hle => h.ge (by positivity) hle⟩

/-! ### What rounding answers -/

/-- The encoding of significand r in step h, and the exceptions of rounding m units to it: infinity beyond the finite encodings. -/
def Fmt.pack (f : Fmt) (neg : Bool) (m h r : Nat) : Nat × Nat :=
  if (2 ^ f.eb - 1) * 2 ^ f.mb ≤ h * 2 ^ f.mb + r then (f.inf neg, opOverflow ||| opInexact)
  else (f.zero neg + (h * 2 ^ f.mb + r), if r * 2 ^ h = m then 0 else opInexact)

/-- An encoding put together from a biased exponent and a fraction, where the significand may carry, is its step and significand. -/
theorem Fmt.pack_eq (f : Fmt) (heb : 1 ≤ f.eb) (neg : Bool) (m : Nat) {h r mm biased : Nat} (hle : r ≤ 2 ^ (f.mb + 1))
    (hnormal : h = 0 ∨ 2 ^ f.mb ≤ r) (hmm : mm = if r = 2 ^ (f.mb + 1) then 2 ^ f.mb else r)
    (hbiased : biased = if mm < 2 ^ f.mb then 0 else (if r = 2 ^ (f.mb + 1) then h + 2 else h + 1)) :
    f.pack neg m h r = if 2 ^ f.eb - 1 ≤ biased then (f.inf neg, opOverflow ||| opInexact)
      else (f.zero neg + (if biased = 0 then mm else biased * 2 ^ f.mb + (mm - 2 ^ f.mb)), if r * 2 ^ h = m then 0 else opInexact) := by
  have hpos : 0 < 2 ^ f.mb := by positivity
  have htop : 1 ≤ 2 ^ f.eb - 1 := by
    have hpow := Nat.pow_le_pow_right (n := 2) (by decide) heb
    omega
  obtain ⟨c, hbody, hc⟩ : ∃ c, h * 2 ^ f.mb + r = biased * 2 ^ f.mb + c ∧ c < 2 ^ f.mb ∧
      (if biased = 0 then mm else biased * 2 ^ f.mb + (mm - 2 ^ f.mb)) = biased * 2 ^ f.mb + c := by
    rw [pow_succ'] at hle hmm hbiased
    by_cases hcarry : r = 2 * 2 ^ f.mb
    · rw [if_pos hcarry] at hmm hbiased
      rw [if_neg (by omega)] at hbiased
      refine ⟨0, ?_, hpos, ?_⟩
      · rw [hbiased, hcarry]
        ring
      · rw [if_neg (by omega), hmm, Nat.sub_self]
    · rw [if_neg hcarry] at hmm hbiased
      by_cases hsub : r < 2 ^ f.mb
      · rw [if_pos (by omega)] at hbiased
        refine ⟨r, ?_, hsub, ?_⟩
        · rw [hbiased, hnormal.resolve_right (by omega)]
        · rw [if_pos hbiased, hbiased, hmm]
          omega
      · rw [if_neg (by omega)] at hbiased
        refine ⟨r - 2 ^ f.mb, ?_, by omega, ?_⟩
        · rw [hbiased, Nat.add_mul, Nat.one_mul]
          omega
        · rw [if_neg (by omega), hmm]
  have hinf : (2 ^ f.eb - 1) * 2 ^ f.mb ≤ h * 2 ^ f.mb + r ↔ 2 ^ f.eb - 1 ≤ biased := by
    rw [hbody, ← Nat.le_div_iff_mul_le hpos, Nat.add_comm, Nat.add_mul_div_right _ _ hpos, Nat.div_eq_of_lt hc.1, Nat.zero_add]
  rw [Fmt.pack, hc.2, ← hbody]
  simp only [hinf]

/-- Rounding m × 2^e, in units M: the nearest multiple of M's step, with ties to even. Below the least normal number every sum of two
encodings is exact, so that FP_UNDERFLOW is not set. -/
theorem Fmt.round_eq_pack (f : Fmt) (heb : 1 ≤ f.eb) (neg : Bool) {m : Nat} {e : Int} (hm : m ≠ 0) (he : f.qmin ≤ e) :
    ∃ r, NearestEven (m * 2 ^ (e - f.qmin).toNat) (2 ^ f.step (m * 2 ^ (e - f.qmin).toNat)) r ∧
      f.round neg m e = f.pack neg (m * 2 ^ (e - f.qmin).toNat) (f.step (m * 2 ^ (e - f.qmin).toNat)) r := by
  have hne : m * 2 ^ (e - f.qmin).toNat ≠ 0 := by positivity
  have hlog := log2_mul_two_pow hm (e - f.qmin).toNat
  generalize hM : m * 2 ^ (e - f.qmin).toNat = M at hne hlog ⊢
  have hstep : (max ((m.log2 : Int) + e - f.mb) f.qmin - f.qmin).toNat = f.step M := by
    rw [Fmt.step]
    omega
  obtain ⟨hnear, hinexact⟩ := roundAt_spec m he (le_max_right ((m.log2 : Int) + e - f.mb) f.qmin)
  rw [hstep, hM] at hnear hinexact
  unfold Fmt.round
  rw [if_neg hm]
  dsimp only
  generalize hr : roundAt m e (max ((m.log2 : Int) + e - f.mb) f.qmin) = r at hnear hinexact ⊢
  obtain ⟨r, inexact⟩ := r
  dsimp only at hnear hinexact ⊢
  obtain ⟨hle, hnormal⟩ := f.bounds_of_nearestEven hne hnear
  refine ⟨r, hnear, ?_⟩
  have hexponent : ((if r = 2 ^ (f.mb + 1) then max ((m.log2 : Int) + e - f.mb) f.qmin + 1 else max ((m.log2 : Int) + e - f.mb) f.qmin) -
      f.qmin + 1).toNat = if r = 2 ^ (f.mb + 1) then f.step M + 2 else f.step M + 1 := by
    split_ifs <;> omega
  have hflags : ∀ top : Int, (m.log2 : Int) + e ≤ top → ((if inexact = true then opInexact else 0) |||
      if (inexact && decide (top < 1 - (f.bias : Int))) = true then opUnderflow else 0) =
        if r * 2 ^ f.step M = M then 0 else opInexact := by
    intro top htop
    by_cases hexact : r * 2 ^ f.step M = M
    · have hfalse : inexact = false := Bool.eq_false_iff.mpr fun h => hinexact.mp h hexact
      simp [hfalse, hexact]
    · have hpos : f.step M ≠ 0 := fun h => hexact (by rw [h, pow_zero] at hnear ⊢; rw [hnear.eq_of_one, Nat.mul_one])
      have hlarge : ¬ top < 1 - (f.bias : Int) := by
        have hqmin : f.qmin = 1 - f.bias - f.mb := rfl
        omega
      simp [hinexact.mpr hexact, hexact, hlarge]
  rw [f.pack_eq heb neg M hle hnormal rfl rfl, hexponent, hflags]
  split_ifs <;> omega

/-! ### Overflow -/

/-- A number rounds to an even multiple or beyond it from half a step below it on. -/
theorem NearestEven.le_iff_of_even {m d r c : Nat} (h : NearestEven m d r) (hd : 0 < d) (hc : c % 2 = 0) (hpos : 0 < c) :
    c ≤ r ↔ (2 * c - 1) * d ≤ 2 * m := by
  obtain ⟨hnear, htie⟩ := h
  have hhalf : (2 * c - 1) * d + d = 2 * (c * d) := by
    rw [← Nat.succ_mul, show (2 * c - 1).succ = 2 * c by omega, Nat.mul_assoc]
  constructor
  · intro hle
    have hmul : c * d ≤ r * d := Nat.mul_le_mul_right d hle
    omega
  · intro hle
    by_contra hlt
    have hmul : (r + 1) * d ≤ c * d := Nat.mul_le_mul_right d (by omega)
    have hsucc : (r + 1) * d = r * d + d := Nat.succ_mul r d
    have heven := htie (by omega)
    have hodd : r + 1 = c := Nat.eq_of_mul_eq_mul_right hd (by omega)
    omega

/-- Infinity is the answer from half a step above the largest finite value on (R183). -/
theorem Fmt.overflow_iff (f : Fmt) (heb : 2 ≤ f.eb) {m r : Nat} (hm : m ≠ 0) (h : NearestEven m (2 ^ f.step m) r) :
    (2 ^ f.eb - 1) * 2 ^ f.mb ≤ f.step m * 2 ^ f.mb + r ↔ f.overflowAt ≤ 2 * m := by
  obtain ⟨hle, hnormal⟩ := f.bounds_of_nearestEven hm h
  obtain ⟨hlt, hge⟩ := f.bounds_step hm
  have hfour : 2 ^ 2 ≤ 2 ^ f.eb := Nat.pow_le_pow_right (by decide) heb
  obtain ⟨n, hn⟩ : ∃ n, 2 ^ f.eb = n + 3 := ⟨2 ^ f.eb - 3, by omega⟩
  have hpos : 0 < 2 ^ f.mb := by positivity
  rw [Fmt.overflowAt, hn, Nat.add_sub_cancel, show n + 3 - 1 = n + 2 by omega, show f.mb + 2 = f.mb + 1 + 1 by omega,
    pow_succ' 2 (f.mb + 1)]
  rw [pow_succ'] at hle hlt ⊢
  generalize (2 : Nat) ^ f.mb = p at *
  obtain hlow | heq | hhigh := Nat.lt_trichotomy (f.step m) n
  · have hsteps : (f.step m + 1 + 2) * p ≤ (n + 2) * p := Nat.mul_le_mul_right p (by omega)
    have hscaled : 2 * p * (2 * 2 ^ f.step m) ≤ 2 * p * 2 ^ n := Nat.mul_le_mul_left _ (pow_succ' 2 _ ▸ Nat.pow_le_pow_right (by decide) hlow)
    have hless : 2 * p * 2 ^ n ≤ (2 * (2 * p) - 1) * 2 ^ n := Nat.mul_le_mul_right _ (by omega)
    have hassoc : 2 * p * (2 * 2 ^ f.step m) = 2 * (2 * p * 2 ^ f.step m) := by ring
    have hsplit : (f.step m + 1 + 2) * p = f.step m * p + 3 * p := by ring
    exact iff_of_false (by omega) (by omega)
  · have hbody : (n + 2) * p ≤ n * p + r ↔ 2 * p ≤ r := by
      rw [Nat.add_mul]
      omega
    rw [heq] at h ⊢
    rw [hbody, h.le_iff_of_even (by positivity) (by omega) (by omega)]
  · have hsteps : (n + 2) * p ≤ (f.step m + 1) * p := Nat.mul_le_mul_right p (by omega)
    have hscaled : 2 * p * (2 * 2 ^ n) ≤ 2 * p * 2 ^ f.step m := Nat.mul_le_mul_left _ (pow_succ' 2 _ ▸ Nat.pow_le_pow_right (by decide) hhigh)
    have hless : (2 * (2 * p) - 1) * 2 ^ n ≤ 2 * (2 * p) * 2 ^ n := Nat.mul_le_mul_right _ (Nat.sub_le _ _)
    have hassoc : 2 * p * (2 * 2 ^ n) = 2 * (2 * p) * 2 ^ n := by ring
    have hgoal : 2 * p * 2 ^ f.step m = 2 * (p * 2 ^ f.step m) := by ring
    have hsplit : (f.step m + 1) * p = f.step m * p + p := Nat.succ_mul _ p
    exact iff_of_true (by omega) (by omega)

/-! ### The nearest value -/

/-- A rounded magnitude with the sign of the number. -/
def roundedInt (v : Int) (d r : Nat) : Int := if v < 0 then -((r * d : Nat) : Int) else (r * d : Nat)

/-- Of the multiples of the step none is nearer than the rounding, and one as near shows that it is even. -/
theorem NearestEven.nearest {v u : Int} {d r : Nat} (h : NearestEven v.natAbs d r) (hu : (d : Int) ∣ u) :
    (roundedInt v d r - v).natAbs ≤ (u - v).natAbs ∧
    ((roundedInt v d r - v).natAbs = (u - v).natAbs → u = roundedInt v d r ∨ r % 2 = 0) := by
  obtain ⟨hnear, htie⟩ := h
  have hdist : (roundedInt v d r - v).natAbs = ((r : Int) * d - v.natAbs).natAbs := by
    rw [roundedInt, Nat.cast_mul]
    split_ifs <;> omega
  have hdvd : (d : Int) ∣ roundedInt v d r := by
    rw [roundedInt, Nat.cast_mul]
    split_ifs
    · exact (Int.dvd_mul_left _ _).neg_right
    · exact Int.dvd_mul_left _ _
  by_cases heq : u = roundedInt v d r
  · exact ⟨by rw [heq], fun _ => .inl heq⟩
  · have hfar : d ≤ (u - roundedInt v d r).natAbs :=
      Nat.le_of_dvd (by omega) (Int.natCast_dvd.mp (Int.dvd_sub hu hdvd))
    exact ⟨by omega, fun hsame => .inr (htie (by omega))⟩

/-- No finite value is nearer to a number of units than its rounding, and one as near shows that its significand is even. -/
theorem Fmt.nearest (f : Fmt) {v : Int} {r : Nat} (hv : v ≠ 0) (h : NearestEven v.natAbs (2 ^ f.step v.natAbs) r) (x : Nat) :
    (roundedInt v (2 ^ f.step v.natAbs) r - v).natAbs ≤ (f.units x - v).natAbs ∧
    ((roundedInt v (2 ^ f.step v.natAbs) r - v).natAbs = (f.units x - v).natAbs →
      f.units x = roundedInt v (2 ^ f.step v.natAbs) r ∨ r % 2 = 0) := by
  have hmultiple : ∀ u : Int, ((2 ^ f.step v.natAbs : Nat) : Int) ∣ u → _ := fun u hu => h.nearest (u := u) hu
  have habs : (f.units x).natAbs = f.mag (f.body x) := by
    rw [f.units_eq]
    split_ifs <;> omega
  obtain hdvd | hsmall := f.dvd_mag_or_lt (f.body x) (f.step v.natAbs)
  · exact hmultiple _ (Int.natCast_dvd.mpr (habs ▸ hdvd))
  · obtain ⟨-, hzero | hge⟩ := f.bounds_step (Int.natAbs_ne_zero.mpr hv)
    · exact hmultiple _ (Int.natCast_dvd.mpr (by rw [hzero, pow_zero]; exact one_dvd _))
    · rw [pow_add, ← habs] at hsmall
      obtain ⟨hnear, -⟩ := hmultiple (if v < 0 then -(2 ^ f.mb * 2 ^ f.step v.natAbs : Nat) else (2 ^ f.mb * 2 ^ f.step v.natAbs : Nat))
        (by
          rw [Nat.cast_mul]
          split_ifs
          · exact (Int.dvd_mul_left _ _).neg_right
          · exact Int.dvd_mul_left _ _)
      generalize 2 ^ f.mb * 2 ^ f.step v.natAbs = c at *
      split_ifs at hnear <;> exact ⟨by omega, fun hsame => by omega⟩

end Sys2Proof.Machine
end

section
/-! PROOFS. FADD, FMIN and FMAX (R183, R184). -/

namespace Sys2Proof.Machine

/-! ### Finite operands and special ones -/

theorem Fmt.isNan_of_finite {f : Fmt} {x : Nat} (h : f.isFinite x = true) : f.isNan x = false := by
  rw [Fmt.isFinite, Bool.and_eq_true, bne_iff_ne] at h
  rw [Fmt.isNan, beq_false_of_ne h.2, Bool.false_and]

theorem Fmt.isInf_of_finite {f : Fmt} {x : Nat} (h : f.isFinite x = true) : f.isInf x = false := by
  rw [Fmt.isFinite, Bool.and_eq_true, bne_iff_ne] at h
  rw [Fmt.isInf, beq_false_of_ne h.2, Bool.false_and]

theorem Fmt.isSnan_of_not_nan {f : Fmt} {x : Nat} (h : f.isNan x = false) : f.isSnan x = false := by
  rw [Fmt.isSnan, h, Bool.false_and]

theorem Fmt.isNan_of_snan {f : Fmt} {x : Nat} (h : f.isSnan x = true) : f.isNan x = true := by
  rw [Fmt.isSnan, Bool.and_eq_true] at h
  exact h.1

/-! ### The sum (R183) -/

/-- A finite value as its significand, scaled from the exponent e to units. -/
theorem Fmt.units_scaled (f : Fmt) (x : Nat) {e : Int} (he : f.qmin ≤ e) (hle : e ≤ (f.val x).2) :
    (f.val x).1 * 2 ^ ((f.val x).2 - e).toNat * 2 ^ (e - f.qmin).toNat = f.units x := by
  rw [Fmt.units, Int.mul_assoc, ← pow_add, show ((f.val x).2 - e).toNat + (e - f.qmin).toNat = ((f.val x).2 - f.qmin).toNat by omega]

/-- The exact sum of two finite operands: its significand, and the exponent that both come to. -/
def Fmt.sumAt (f : Fmt) (a b : Nat) : Int :=
  (f.val a).1 * 2 ^ ((f.val a).2 - min (f.val a).2 (f.val b).2).toNat + (f.val b).1 * 2 ^ ((f.val b).2 - min (f.val a).2 (f.val b).2).toNat

theorem Fmt.add_of_finite (f : Fmt) {a b : Nat} (ha : f.isFinite a = true) (hb : f.isFinite b = true) :
    f.add a b = if f.sumAt a b = 0 then (f.zero (f.sign a && f.sign b), 0)
      else f.round (decide (f.sumAt a b < 0)) (f.sumAt a b).natAbs (min (f.val a).2 (f.val b).2) := by
  rw [Fmt.add, isNan_of_finite ha, isNan_of_finite hb, isInf_of_finite ha, isInf_of_finite hb]
  rfl

section

variable (f : Fmt) {a b : Nat}

theorem Fmt.qmin_le_min (a b : Nat) : f.qmin ≤ min (f.val a).2 (f.val b).2 := by
  rw [f.val_exponent, f.val_exponent]
  omega

/-- The sum in units. -/
theorem Fmt.units_sumAt (a b : Nat) :
    f.sumAt a b * 2 ^ (min (f.val a).2 (f.val b).2 - f.qmin).toNat = f.units a + f.units b := by
  rw [Fmt.sumAt, Int.add_mul, f.units_scaled a (f.qmin_le_min a b) (min_le_left _ _),
    f.units_scaled b (f.qmin_le_min a b) (min_le_right _ _)]

theorem Fmt.natAbs_sumAt (a b : Nat) :
    (f.sumAt a b).natAbs * 2 ^ (min (f.val a).2 (f.val b).2 - f.qmin).toNat = (f.units a + f.units b).natAbs := by
  rw [← f.units_sumAt, Int.natAbs_mul, Int.natAbs_pow]
  rfl

theorem Fmt.sumAt_neg_iff (a b : Nat) : f.sumAt a b < 0 ↔ f.units a + f.units b < 0 := by
  rw [← f.units_sumAt]
  exact ⟨fun h => mul_neg_of_neg_of_pos h (by positivity),
    fun h => Int.not_le.mp fun hnonneg => absurd (mul_nonneg hnonneg (by positivity)) (Int.not_le.mpr h)⟩

theorem Fmt.sumAt_eq_zero_iff (a b : Nat) : f.sumAt a b = 0 ↔ f.units a + f.units b = 0 := by
  rw [← f.units_sumAt, mul_eq_zero_iff_right (by positivity)]

/-- FADD of finite operands whose sum is 0: the sign that both have. -/
theorem Fmt.add_of_sum_zero (ha : f.isFinite a = true) (hb : f.isFinite b = true) (h : f.units a + f.units b = 0) :
    f.add a b = (f.zero (f.sign a && f.sign b), 0) := by
  rw [f.add_of_finite ha hb, if_pos ((f.sumAt_eq_zero_iff a b).mpr h)]

/-- FADD of finite operands rounds their sum. -/
theorem Fmt.add_eq_pack (heb : 1 ≤ f.eb) (ha : f.isFinite a = true) (hb : f.isFinite b = true) {v : Int}
    (h : f.units a + f.units b = v) (hv : v ≠ 0) : ∃ r, NearestEven v.natAbs (2 ^ f.step v.natAbs) r ∧
      f.add a b = f.pack (decide (v < 0)) v.natAbs (f.step v.natAbs) r := by
  have hne : f.sumAt a b ≠ 0 := fun hzero => hv (h ▸ (f.sumAt_eq_zero_iff a b).mp hzero)
  have hround := f.round_eq_pack heb (decide (f.sumAt a b < 0)) (Int.natAbs_ne_zero.mpr hne) (f.qmin_le_min a b)
  rw [f.natAbs_sumAt, h] at hround
  simpa only [f.add_of_finite ha hb, if_neg hne, f.sumAt_neg_iff, h] using hround

end

/-! ### Values and their encodings -/

/-- A result below the overflow threshold is finite and has the rounded value, and it is even where its significand is. -/
theorem Fmt.pack_of_small (f : Fmt) (heb : 2 ≤ f.eb) (hmb : 1 ≤ f.mb) {v : Int} {r : Nat} (hv : v ≠ 0)
    (h : NearestEven v.natAbs (2 ^ f.step v.natAbs) r) (hsmall : 2 * v.natAbs < f.overflowAt) :
    ∃ x, f.pack (decide (v < 0)) v.natAbs (f.step v.natAbs) r =
        (x, if f.units x = v then 0 else opInexact) ∧
      f.isFinite x = true ∧ f.units x = roundedInt v (2 ^ f.step v.natAbs) r ∧ (r % 2 = 0 → x % 2 = 0) := by
  have habs := Int.natAbs_ne_zero.mpr hv
  have hbody : f.step v.natAbs * 2 ^ f.mb + r < (2 ^ f.eb - 1) * 2 ^ f.mb :=
    Nat.lt_of_not_le fun hle => absurd ((f.overflow_iff heb habs h).mp hle) (by omega)
  have hlt : f.step v.natAbs * 2 ^ f.mb + r < 2 ^ (f.eb + f.mb) := by
    rw [pow_add]
    exact lt_of_lt_of_le hbody (Nat.mul_le_mul_right _ (Nat.sub_le _ _))
  obtain ⟨hle, hnormal⟩ := f.bounds_of_nearestEven habs h
  have hunits : f.units (f.zero (decide (v < 0)) + (f.step v.natAbs * 2 ^ f.mb + r)) = roundedInt v (2 ^ f.step v.natAbs) r := by
    rw [f.units_zero_add _ hlt, f.mag_of_significand hle hnormal, roundedInt]
    simp only [decide_eq_true_iff]
  have hexact : r * 2 ^ f.step v.natAbs = v.natAbs ↔ roundedInt v (2 ^ f.step v.natAbs) r = v := by
    rw [roundedInt]
    split_ifs <;> omega
  refine ⟨_, ?_, f.isFinite_zero_add _ hbody, hunits, fun heven => ?_⟩
  · rw [Fmt.pack, if_neg (by omega), hunits]
    simp only [hexact]
  · obtain ⟨n, hn⟩ := Nat.exists_eq_add_of_le' hmb
    rw [Fmt.zero, hn, show f.eb + (n + 1) = f.eb + n + 1 from rfl, pow_succ, pow_succ, ← Nat.mul_assoc, ← Nat.mul_assoc]
    omega

/-- Finite encodings of one value that is not 0 are the same. -/
theorem Fmt.eq_of_units_eq (f : Fmt) {x y : Nat} (hx : f.isFinite x = true) (hy : f.isFinite y = true) (h : f.units x = f.units y)
    (hne : f.units y ≠ 0) : x = y := by
  have hsplit : ∀ z, f.isFinite z = true → z = b2n (f.sign z) * 2 ^ (f.eb + f.mb) + f.body z := fun z hz => by
    have hlt := (f.isFinite_iff z).mp hz |>.1
    rw [pow_succ] at hlt
    have hbit : z / 2 ^ (f.eb + f.mb) < 2 := (Nat.div_lt_iff_lt_mul (by positivity)).mpr (by omega)
    have hsign : b2n (f.sign z) = z / 2 ^ (f.eb + f.mb) := by
      rw [Fmt.sign, Nat.testBit_eq_decide_div_mod_eq, b2n]
      generalize z / 2 ^ (f.eb + f.mb) = q at hbit ⊢
      simp only [decide_eq_true_iff]
      split_ifs <;> omega
    rw [hsign, Fmt.body, Nat.div_add_mod']
  rw [f.units_eq, f.units_eq] at h
  rw [f.units_eq] at hne
  have hmag : f.mag (f.body x) = f.mag (f.body y) := by split_ifs at h <;> omega
  have hsign : f.sign x = f.sign y := by
    cases hxs : f.sign x <;> cases hys : f.sign y <;> simp only [hxs, hys, if_true, if_false, Bool.false_eq_true] at h hne ⊢ <;> omega
  rw [hsplit x hx, hsplit y hy, hsign, f.mag_strictMono.injective hmag]

/-- Every finite value lies below the overflow threshold. -/
theorem Fmt.units_lt_overflowAt (f : Fmt) (heb : 2 ≤ f.eb) {x : Nat} (hx : f.isFinite x = true) :
    2 * (f.units x).natAbs < f.overflowAt := by
  have hbody := (f.isFinite_iff x).mp hx |>.2
  have hfour : 2 ^ 2 ≤ 2 ^ f.eb := Nat.pow_le_pow_right (by decide) heb
  obtain ⟨n, hn⟩ : ∃ n, 2 ^ f.eb = n + 3 := ⟨2 ^ f.eb - 3, by omega⟩
  have hpos : 0 < 2 ^ f.mb := by positivity
  have htop : f.mag (n * 2 ^ f.mb + (2 * 2 ^ f.mb - 1)) = (2 * 2 ^ f.mb - 1) * 2 ^ n :=
    f.mag_of_significand (by rw [pow_succ']; omega) (.inr (by omega))
  have hle : f.mag (f.body x) ≤ (2 * 2 ^ f.mb - 1) * 2 ^ n := by
    rw [← htop]
    refine f.mag_strictMono.monotone ?_
    rw [hn, show n + 3 - 1 = n + 2 by omega, Nat.add_mul] at hbody
    omega
  have habs : (f.units x).natAbs = f.mag (f.body x) := by
    rw [f.units_eq]
    split_ifs <;> omega
  rw [habs, Fmt.overflowAt, hn, Nat.add_sub_cancel, show f.mb + 2 = f.mb + 1 + 1 by omega, pow_succ', pow_succ']
  calc 2 * f.mag (f.body x) ≤ 2 * ((2 * 2 ^ f.mb - 1) * 2 ^ n) := Nat.mul_le_mul_left 2 hle
    _ = 2 * (2 * 2 ^ f.mb - 1) * 2 ^ n := (Nat.mul_assoc _ _ _).symm
    _ < (2 * (2 * 2 ^ f.mb) - 1) * 2 ^ n := Nat.mul_lt_mul_of_pos_right (by omega) (by positivity)

/-! ### FADD -/

theorem Fmt.isFinite_zero (f : Fmt) (heb : 2 ≤ f.eb) (neg : Bool) : f.isFinite (f.zero neg) = true := by
  have hfour : 2 ^ 2 ≤ 2 ^ f.eb := Nat.pow_le_pow_right (by decide) heb
  exact f.isFinite_zero_add neg (b := 0) (Nat.mul_pos (by omega) (by positivity))

theorem Fmt.mag_zero (f : Fmt) : f.mag 0 = 0 := by simp [Fmt.mag]

theorem Fmt.units_zero (f : Fmt) (neg : Bool) : f.units (f.zero neg) = 0 := by
  have h := f.units_zero_add neg (b := 0) (by positivity)
  simpa [f.mag_zero] using h

/-- FADD of finite operands below the overflow threshold: a nearest finite value, the even one of two, and whether it is the sum. -/
theorem Fmt.add_nearest (f : Fmt) (heb : 2 ≤ f.eb) (hmb : 1 ≤ f.mb) {a b : Nat} (ha : f.isFinite a = true) (hb : f.isFinite b = true)
    {v : Int} (hv : f.units a + f.units b = v) (hsmall : 2 * v.natAbs < f.overflowAt) :
    f.isFinite (f.add a b).1 = true ∧
    (∀ x, (f.units (f.add a b).1 - v).natAbs ≤ (f.units x - v).natAbs ∧
      ((f.units (f.add a b).1 - v).natAbs = (f.units x - v).natAbs → f.units x = f.units (f.add a b).1 ∨ (f.add a b).1 % 2 = 0)) ∧
    (f.add a b).2 = if f.units (f.add a b).1 = v then 0 else opInexact := by
  by_cases hzero : v = 0
  · rw [f.add_of_sum_zero ha hb (hv.trans hzero)]
    dsimp only
    rw [f.units_zero, hzero]
    exact ⟨f.isFinite_zero heb _, fun x => ⟨Nat.zero_le _, fun h => .inl (by omega)⟩, rfl⟩
  · obtain ⟨r, hr, hadd⟩ := f.add_eq_pack (by omega) ha hb hv hzero
    obtain ⟨y, hpack, hfinite, hunits, heven⟩ := f.pack_of_small heb hmb hzero hr hsmall
    rw [hadd, hpack]
    refine ⟨hfinite, fun x => ?_, rfl⟩
    rw [hunits]
    exact (f.nearest hzero hr x).imp_right fun htie hsame => (htie hsame).imp_right heven

/-- FADD of finite operands from the overflow threshold on. -/
theorem Fmt.add_overflow (f : Fmt) (heb : 2 ≤ f.eb) {a b : Nat} (ha : f.isFinite a = true) (hb : f.isFinite b = true)
    {v : Int} (hv : f.units a + f.units b = v) (hlarge : f.overflowAt ≤ 2 * v.natAbs) :
    f.add a b = (f.inf (decide (v < 0)), opOverflow ||| opInexact) := by
  have hpos : 0 < f.overflowAt := by
    rw [Fmt.overflowAt]
    have hfour : 2 ^ 2 ≤ 2 ^ (f.mb + 2) := Nat.pow_le_pow_right (by decide) (by omega)
    exact Nat.mul_pos (by omega) (by positivity)
  have hne : v ≠ 0 := fun h => by
    rw [h] at hlarge
    omega
  obtain ⟨r, hr, hadd⟩ := f.add_eq_pack (by omega) ha hb hv hne
  rw [hadd, Fmt.pack, if_pos ((f.overflow_iff heb (Int.natAbs_ne_zero.mpr hne) hr).mpr hlarge)]

/-- Adding +0 to a finite value that is not 0 answers it exactly. -/
theorem Fmt.add_zero_of_finite (f : Fmt) (heb : 2 ≤ f.eb) (hmb : 1 ≤ f.mb) {a : Nat} (ha : f.isFinite a = true)
    (hne : f.units a ≠ 0) : f.add a (f.zero false) = (a, 0) := by
  obtain ⟨hfinite, hnear, hflags⟩ := f.add_nearest heb hmb ha (f.isFinite_zero heb false) (v := f.units a)
    (by rw [f.units_zero, Int.add_zero]) (f.units_lt_overflowAt heb ha)
  have hunits : f.units (f.add a (f.zero false)).1 = f.units a := by
    have hle := (hnear a).1
    omega
  rw [if_pos hunits] at hflags
  exact Prod.ext (f.eq_of_units_eq hfinite ha hunits hne) hflags

/-- Adding +0 to an infinity answers it. -/
theorem Fmt.add_zero_of_inf (f : Fmt) (heb : 2 ≤ f.eb) {a : Nat} (hnan : f.isNan a = false) (ha : f.isInf a = true) :
    f.add a (f.zero false) = (a, 0) := by
  have hzero := f.isFinite_zero heb false
  rw [Fmt.add, hnan, isNan_of_finite hzero, ha, isInf_of_finite hzero]
  rfl

/-- A normal number is not 0. -/
theorem Fmt.units_ne_zero (f : Fmt) {a : Nat} (h : f.ex a ≠ 0) : f.units a ≠ 0 := by
  rw [f.ex_eq] at h
  have hpos : 0 < f.body a := Nat.pos_of_ne_zero fun hzero => h (by rw [hzero, Nat.zero_div])
  have hmag := f.mag_strictMono hpos
  rw [f.mag_zero] at hmag
  rw [f.units_eq]
  split_ifs <;> omega

/-! ### FMIN and FMAX -/

/-- The order key follows the order of finite values. -/
theorem Fmt.units_le_of_key_le (f : Fmt) {a b : Nat} (h : f.key a ≤ f.key b) : f.units a ≤ f.units b := by
  have hmono : f.body a ≤ f.body b → f.mag (f.body a) ≤ f.mag (f.body b) := fun h => f.mag_strictMono.monotone h
  have hanti : f.body b ≤ f.body a → f.mag (f.body b) ≤ f.mag (f.body a) := fun h => f.mag_strictMono.monotone h
  have hkey : ∀ x, f.key x = if f.sign x = true then -1 - (f.body x : Int) else f.body x := fun _ => rfl
  rw [hkey, hkey] at h
  rw [f.units_eq, f.units_eq]
  split_ifs at h ⊢ <;> omega

/-- FMIN and FMAX of numbers answer the operand that comes first or last by the order key. -/
theorem Fmt.minmax_of_numbers (f : Fmt) (mx : Bool) {a b : Nat} (ha : f.isNan a = false) (hb : f.isNan b = false) :
    f.minmax mx a b = (if decide (f.key a ≤ f.key b) != mx then a else b, 0) := by
  rw [Fmt.minmax, ha, hb, isSnan_of_not_nan ha, isSnan_of_not_nan hb]
  simp only [Bool.or_self, Bool.and_self, Bool.false_eq_true, if_false]
  split_ifs <;> rfl

theorem Fmt.units_fmin (f : Fmt) {a b : Nat} (ha : f.isNan a = false) (hb : f.isNan b = false) :
    f.units (f.minmax false a b).1 = min (f.units a) (f.units b) := by
  rw [f.minmax_of_numbers false ha hb]
  obtain h | h := Int.le_total (f.key a) (f.key b)
  all_goals have hunits := f.units_le_of_key_le h
  · simp [h, hunits]
  · by_cases heq : f.key a ≤ f.key b
    · simp [heq, f.units_le_of_key_le heq]
    · simp [heq, hunits]

theorem Fmt.units_fmax (f : Fmt) {a b : Nat} (ha : f.isNan a = false) (hb : f.isNan b = false) :
    f.units (f.minmax true a b).1 = max (f.units a) (f.units b) := by
  rw [f.minmax_of_numbers true ha hb]
  by_cases h : f.key a ≤ f.key b
  · simp [h, f.units_le_of_key_le h]
  · simp [h, f.units_le_of_key_le (Int.le_of_not_le h)]

/-- The two formats have room for normal numbers. -/
theorem fmt_widths {f : Fmt} (h : f ∈ [fp32, fp64]) : 2 ≤ f.eb ∧ 1 ≤ f.mb := by
  simp only [List.mem_cons, List.not_mem_nil, or_false] at h
  obtain rfl | rfl := h <;> decide

theorem claims_floatRounding : Claims.FloatRounding := by
  intro f hf a b ha hb
  obtain ⟨heb, hmb⟩ := fmt_widths hf
  have hna := Fmt.isNan_of_finite ha
  have hnb := Fmt.isNan_of_finite hb
  refine ⟨fun hsmall => ?_, fun hlarge => f.add_overflow heb ha hb rfl hlarge, f.units_fmin hna hnb, f.units_fmax hna hnb, fun mx => ?_⟩
  · obtain ⟨hfinite, hnear, hflags⟩ := f.add_nearest heb hmb ha hb rfl hsmall
    exact ⟨hfinite, fun x _ => hnear x, hflags⟩
  · rw [f.minmax_of_numbers mx hna hnb]
    exact ⟨ite_eq_or_eq _ _ _, rfl⟩

theorem claims_floatSpecials : Claims.FloatSpecials := by
  intro f hf
  have hadd : ∀ a b, f.isNan a = true ∨ f.isNan b = true →
      f.add a b = (f.qnan, if (f.isSnan a || f.isSnan b) = true then opInvalid else 0) := fun a b h => by
    rw [Fmt.add, if_pos (by simpa using h)]
  refine ⟨fun a b h => by rw [hadd a b h], fun a b ha hb mx => ?both, fun a b mx ha hb => ?one, fun a b h => ?signalling, ?infinities,
    ?fmin, ?fmax, fun a hnan hlt hnormal => ?addZero⟩
  case both => simp [Fmt.minmax, ha, hb]
  case one => constructor <;> simp [Fmt.minmax, ha, hb]
  case signalling =>
    rw [hadd a b (h.imp Fmt.isNan_of_snan Fmt.isNan_of_snan), if_pos (by simpa using h)]
  case infinities | fmin | fmax =>
    simp only [List.mem_cons, List.not_mem_nil, or_false] at hf
    obtain rfl | rfl := hf <;> decide
  case addZero =>
    obtain ⟨heb, hmb⟩ := fmt_widths hf
    by_cases htop : f.ex a = 2 ^ f.eb - 1
    · exact f.add_zero_of_inf heb hnan (by simpa [Fmt.isNan, Fmt.isInf, htop] using hnan)
    · exact f.add_zero_of_finite heb hmb (by simp [Fmt.isFinite, hlt, htop]) (f.units_ne_zero hnormal)

end Sys2Proof.Machine
end

section
/-! PROOFS. Single-word near-data operations that find their word in the slice: the word in the NDU, the counters, and the completion
of the request (R177, R181, R182, R184, R199, R203). -/

namespace Sys2Proof.Machine

/-! ### Steps of the slice beside the free values drawn -/

/-- The state with the free values drawn up to a number. -/
def State.drawnTo (s : State) (n : Nat) : State := { s with free := n }

/-- From s to t the slice of stack k has served, and free values may have been drawn. -/
abbrev NduStep (k : Nat) (s t : State) (ls : List Loc) : Prop := SliceStep k (s.drawnTo t.free) t ls

namespace NduStep

variable {k : Nat} {s t u : State} {ls : List Loc}

theorem of_slice (h : SliceStep k s t ls) : NduStep k s t ls := by
  have hfree : t.free = s.free := by rw [h.frame.state]
  rw [NduStep, State.drawnTo, hfree]
  exact h

theorem trans (h : NduStep k s t ls) (g : NduStep k t u ls) : NduStep k s u ls := by
  have hdrawn : SliceStep k (s.drawnTo u.free) (t.drawnTo u.free) ls := by
    refine ⟨⟨?_, h.frame.length, h.frame.stack⟩, h.words, h.held, h.usable⟩
    have hstate := h.frame.state
    rw [State.drawnTo] at hstate ⊢
    rw [hstate]
    rfl
  exact hdrawn.trans g

theorem sectorAt (h : NduStep k s t ls) (l : Loc) (hl : ∀ x ∈ ls, l.place ≠ x.place) :
    (t.stk k).sectorAt l = (s.stk k).sectorAt l := SliceStep.words h l hl

/-- A request that waited for another one on its word (R177). -/
theorem serialWait (s : State) (k : Nat) (r : Req) : NduStep k s (serialWait s k r) [] := by
  unfold Machine.serialWait
  dsimp only
  split
  · have hcount := SliceStep.count s.draw.2 k .ndu (s.locOf k r.off).ch 5 (s.draw.1 % 2) rfl
    have hfree : (s.draw.2.count k .ndu (s.locOf k r.off).ch 5 (s.draw.1 % 2)).free = s.free + 1 := by rw [hcount.frame.state]; rfl
    rw [NduStep, State.drawnTo, hfree]
    exact hcount
  · exact of_slice (.refl k s [])

/-- A single-word operation that has been performed is answered, or freed in its posted form. -/
theorem performed (h : NduStep k s t ls) {rid m op : Nat} {e : Entry} {w' : Word} (hls : ls = [s.wordLoc k e.req 0])
    (he : s.entry k rid = some e) (hword : (t.stk k).sectorAt (s.wordLoc k e.req 0) = some (w', false))
    (hposted : isPosted e.req.op = true → PostedOk s e) :
    Performed s (finish t k e.req [fetchResp s k e.req m op]) k rid e w' m op := by
  subst hls
  have hfree : ∀ u : State, u = { s.drawnTo t.free with stks := u.stks, ports := u.ports } → s.drawnTo t.free = { s with free := u.free } :=
    fun u hu => by rw [hu]; rfl
  cases hform : isPosted e.req.op with
  | false =>
    obtain ⟨hans, hframe, hwords, hsame⟩ := SliceStep.answered h he hform [fetchResp s k e.req m op]
    refine ⟨(hsame _).trans hword, hwords, fun _ => ⟨hans, ?_⟩, fun hp => Bool.noConfusion (hform.symm.trans hp)⟩
    rw [← hfree (finish t k e.req [fetchResp s k e.req m op]) (by rw [hframe.1.1])]
    exact hframe
  | true =>
    obtain ⟨hbest, hport, hdrop⟩ := hposted hform
    have hrid := rid_of_entry he
    have hresp : finish t k e.req [fetchResp s k e.req m op] = finish t k e.req [respTo e.req stOk 0] := by
      have he' := (SliceStep.entry h rid).trans he
      rw [finish_of_posted he' hform hbest rfl, finish_of_posted he' hform hbest rfl]
    obtain ⟨hgone, hframe, -, hwords, hsame⟩ := SliceStep.freed (d := 0) h he hform hbest hport (hrid ▸ hdrop)
    rw [hresp]
    refine ⟨(hsame _).trans hword, hwords, fun hp => Bool.noConfusion (hform.symm.trans hp), fun _ => ⟨hgone, ?_⟩⟩
    rw [← hfree (finish t k e.req [respTo e.req stOk 0]) (by rw [hframe.1])]
    exact hframe

end NduStep

/-! ### The resident accumulators of a stack -/

/-- The resident accumulators of each slice. -/
def Stack.residents (x : Stack) : List (List (Nat × Nat)) := x.chans.map Chan.accs

theorem Stack.accs_eq (x : Stack) (c : Nat) : (x.ch c).accs = x.residents.getD c [] :=
  (List.getD_map x.chans Chan.reset Chan.accs).symm

@[simp] theorem residents_count (s : State) (k : Nat) (pg : Page) (i c n j : Nat) :
    ((s.count k pg i c n).stk j).residents = (s.stk j).residents := by
  rw [State.count, State.setCnt]
  split_ifs
  · rfl
  · rfl
  · exact State.stk_modStk_proj Stack.residents (by exact fun _ => rfl) s k j

@[simp] theorem residents_modLine (s : State) (k : Nat) (l : Loc) (p : Bool) (f : Line → Line) (j : Nat) :
    ((s.modLine k l p f).stk j).residents = (s.stk j).residents := State.stk_modStk_proj Stack.residents (by exact fun _ => rfl) s k j

theorem residents_modCh (s : State) (k c : Nat) (f : Chan → Chan) (hf : ∀ x, (f x).accs = x.accs) (j : Nat) :
    ((s.modCh k c f).stk j).residents = (s.stk j).residents :=
  State.stk_modStk_proj Stack.residents (f := (·.modCh c f)) (fun x => map_modify_of_eq Chan.accs f hf x.chans c) s k j

@[simp] theorem residents_hit (s : State) (k : Nat) (l : Loc) (w : Who) (j : Nat) : ((s.hit k l w).stk j).residents = (s.stk j).residents := by
  have huse : ((useLine (s.count k .vit 0 0 1) k l).stk j).residents = (s.stk j).residents := by
    unfold useLine
    split
    · exact (residents_modCh _ k l.ch _ (by exact fun _ => rfl) j).trans (residents_count s k .vit 0 0 1 j)
    · exact residents_count s k .vit 0 0 1 j
  unfold State.hit hitLine
  dsimp only
  split
  · exact (residents_modLine _ k l false _ j).trans huse
  · exact huse

theorem residents_noteWrite {s : State} {k x : Nat} (w : Who) (j : Nat) (h : (s.stk k).tileSt x = .opened) :
    ((noteWrite s k x w).stk j).residents = (s.stk j).residents := by
  have habort : ((abortSeal s k x).stk j).residents = (s.stk j).residents := by
    unfold abortSeal
    split
    · exact (residents_count _ k .scb 0 4 1 j).trans (State.stk_modStk_proj Stack.residents (by exact fun _ => rfl) s k j)
    · rfl
  unfold noteWrite listOpen
  rw [h]
  dsimp only
  split
  · exact (State.stk_modStk_proj Stack.residents (by exact fun _ => rfl) _ k j).trans habort
  · exact habort

@[simp] theorem residents_serialWait (s : State) (k : Nat) (r : Req) (j : Nat) :
    ((serialWait s k r).stk j).residents = (s.stk j).residents := by
  unfold serialWait
  dsimp only
  split
  · exact residents_count _ k .ndu _ 5 _ j
  · rfl

@[simp] theorem residents_report (s : State) (k : Nat) (x : Kind) (i sub addr j : Nat) :
    ((s.report k x i sub addr).stk j).residents = (s.stk j).residents := by
  rw [(stk_report s k x i sub addr j).1]
  rfl

/-- A read-modify-write of a word that the slice holds makes no accumulator resident and spills none. -/
theorem residents_rmw {α : Type} {s : State} {k : Nat} {l : Loc} {v : Word × Bool} (w : Who) (f : Word × Bool → Option (Word × Bool) × α)
    (hk : k < s.stks.length) (htile : (s.stk k).tileSt l.tile = .opened) (h : Holds (s.stk k) l [])
    (hv : (s.stk k).sectorAt l = some v) : ((rmw s k l w f).2.stk k).residents = (s.stk k).residents := by
  have hhit := SliceStep.hit s k l w hk
  have hword : ((s.hit k l w).stk k).sectorAt l = some v := (hhit.words l (by simp)).trans hv
  have hne : (s.stk k).tileSt l.tile ≠ .invalid := by simp [htile]
  have hopen := (hhit.tileSt l.tile).trans htile
  unfold rmw
  simp only [if_neg hne, lookup_of_holds w h, readAfter_of_sectorAt true w hword]
  cases hf : (f v).1 with
  | none => exact residents_hit s k l w k
  | some u =>
    have hline : ((((noteWrite (s.hit k l w) k l.tile w).stk k).line l false).isSome) = true := by
      rw [(hhit.trans (SliceStep.noteWrite w hopen)).held]
      exact Stack.isSome_line (by rw [hv]; rfl)
    simp only [hline, writeAfter, if_true]
    rw [residents_modLine, residents_noteWrite w k hopen, residents_hit]

/-! ### The operation in the NDU -/

/-- What the NDU makes of a word that it finds: the new word or none, and the value answered with OP_STATUS, where the word is not
poisoned (R177, R182, R183, R188, R189, R199). -/
def nduFn (a : Nat) (region : Option Nat) (elem : Nat) (ow : Word) (m : Word × Bool) : Option (Word × Bool) × Option (Nat × Nat) :=
  if m.2 then (none, none)
  else if a = 0x3E then
    (some ((reproStep (accFresh (region.getD 0) m.1) (wordNum ow 0 8)).1, false),
      some (0, (reproStep (accFresh (region.getD 0) m.1) (wordNum ow 0 8)).2))
  else if a = 0x68 ∨ a = 0x69 then
    (if a = 0x69 then (foldCleared m.1).map (fun v => (v, false)) else none,
      some ((foldVal m.1).1 + (foldVal m.1).2.1 * 2 ^ 64, (foldVal m.1).2.2))
  else ((atomic a elem ow m.1).1.map (fun v => (v, false)), some ((atomic a elem ow m.1).2.1, (atomic a elem ow m.1).2.2))

/-- An accumulator operation (R187 to R189). -/
def isAccOp (a : Nat) : Bool := decide (a = 0x3E ∨ a = 0x68 ∨ a = 0x69)

/-- After an operation that has been counted: an overflow is reported (R188). -/
def reportOvf (s : State) (k : Nat) (r : Req) (l : Loc) (op : Nat) : State :=
  if ackForm r.op = 0x3E ∧ op &&& opAccOvf ≠ 0 then s.report k K.NDU_ACC_OVF l.ch l.pc r.off else s

/-- After that an accumulator becomes or stays resident (R190). -/
def afterNdu (s : State) (k : Nat) (r : Req) (l : Loc) (op : Nat) : State :=
  if isAccOp (ackForm r.op) = true ∧ ((reportOvf s k r l op).stk k).tileSt l.tile ≠ .invalid
  then accSettle (reportOvf s k r l op) k l r.who else reportOvf s k r l op

/-- A single-word operation on a word that is not poisoned, with an operand that is not (R186, R199, R480). -/
theorem doSingle_of_result {s : State} {k : Nat} {r : Req} {ow : Word} {m op : Nat}
    (hlive : (s.stk k).tileSt (s.wordLoc k r 0).tile ≠ .retired) (hregion : isAccOp (ackForm r.op) = (s.accRegion k r.off).isSome)
    (hndu : ((s.stk k).ch (s.wordLoc k r 0).ch).nduUnusable = false) (hdata : r.data.getD 0 (0, false) = (ow, false))
    (hrmw : (rmw s k (s.wordLoc k r 0) r.who (nduFn (ackForm r.op) (s.accRegion k r.off) r.elem ow)).1 = some (m, op)) :
    doSingle s k r = finish (afterNdu (serialWait ((rmw s k (s.wordLoc k r 0) r.who
      (nduFn (ackForm r.op) (s.accRegion k r.off) r.elem ow)).2.count k .ndu (s.wordLoc k r 0).ch (nduCounter r.op) 1) k r) k r
      (s.wordLoc k r 0) op) k r [fetchResp s k r m op] := by
  have hgate : (decide (ackForm r.op = 0x3E ∨ ackForm r.op = 0x68 ∨ ackForm r.op = 0x69) != (s.accRegion k r.off).isSome ||
      ((s.stk k).ch (s.locOf k r.off).ch).nduUnusable) = false := by
    have hndu' : ((s.stk k).ch (s.locOf k r.off).ch).nduUnusable = false := hndu
    rw [hndu', ← hregion, isAccOp]
    simp
  unfold doSingle
  rw [isRetired_of_ne hlive]
  dsimp only
  rw [hgate, hdata]
  simp only [Bool.false_eq_true, if_false]
  change (match (rmw s k (s.wordLoc k r 0) r.who (nduFn (ackForm r.op) (s.accRegion k r.off) r.elem ow)).1 with
    | none => _
    | some (m, op) => _) = _
  rw [hrmw]
  rfl

/-- What a single-word operation leaves of the slice that holds its word, before an accumulator stays resident and the request
completes. -/
theorem doSingle_of_resident {s : State} {k rid : Nat} {e : Entry} {ow w : Word} {v : Option (Word × Bool)} {m op : Nat}
    (he : s.entry k rid = some e) (hres : Resident s k e.req .opened)
    (hword : (s.stk k).sectorAt (s.wordLoc k e.req 0) = some (w, false))
    (hregion : isAccOp (ackForm e.req.op) = (s.accRegion k e.req.off).isSome)
    (hndu : ((s.stk k).ch (s.wordLoc k e.req 0).ch).nduUnusable = false) (hdata : e.req.data.getD 0 (0, false) = (ow, false))
    (hfn : nduFn (ackForm e.req.op) (s.accRegion k e.req.off) e.req.elem ow (w, false) = (v, some (m, op))) :
    ∃ u, NduStep k s u [s.wordLoc k e.req 0] ∧ (u.stk k).sectorAt (s.wordLoc k e.req 0) = some (v.getD (w, false)) ∧
      (u.stk k).residents = (s.stk k).residents ∧
      doSingle s k e.req = finish (afterNdu u k e.req (s.wordLoc k e.req 0) op) k e.req [fetchResp s k e.req m op] := by
  have hk := State.lt_length_of_entry he
  have htile := hres.tileSt_eq
  have hholds : Holds (s.stk k) (s.wordLoc k e.req 0) [] := by
    obtain ⟨-, -, hslice, -⟩ := hres
    exact ⟨hslice, by simp [hword]⟩
  obtain ⟨hresult, hstep, hnew⟩ := rmw_of_holds e.req.who (nduFn (ackForm e.req.op) (s.accRegion k e.req.off) e.req.elem ow) hk htile
    hholds hword
  have haccs := residents_rmw e.req.who (nduFn (ackForm e.req.op) (s.accRegion k e.req.off) e.req.elem ow) hk htile hholds hword
  rw [hfn] at hresult hnew
  refine ⟨_, ?_, ?_, ?_, doSingle_of_result (by simp [htile]) hregion hndu hdata hresult⟩
  all_goals
    generalize (rmw s k (s.wordLoc k e.req 0) e.req.who (nduFn (ackForm e.req.op) (s.accRegion k e.req.off) e.req.elem ow)).2 = u
      at hstep hnew haccs ⊢
    have hcount := SliceStep.count u k .ndu (s.wordLoc k e.req 0).ch (nduCounter e.req.op) 1 rfl
    have hwait := NduStep.serialWait (u.count k .ndu (s.wordLoc k e.req 0).ch (nduCounter e.req.op) 1) k e.req
  · exact (NduStep.of_slice (hstep.trans (hcount.of_nil _))).trans (hwait.of_nil _)
  · rw [hwait.sectorAt _ (by simp), hcount.words _ (by simp), hnew]
  · rw [residents_serialWait, residents_count, haccs]

/-! ### Atomics on words that the slice holds -/

/-- An atomic on a word in the slice: its result, the value M and OP_STATUS (R181 to R184). -/
theorem performed_doSingle {s : State} {k rid : Nat} {e : Entry} {ow w : Word} (he : s.entry k rid = some e)
    (hit : NduHit s k e ow w) (hacc : isAccOp (ackForm e.req.op) = false) (hposted : isPosted e.req.op = true → PostedOk s e)
    {v : Option Word} {m op : Nat} (hatomic : atomic (ackForm e.req.op) e.req.elem ow w = (v, m, op)) :
    Performed s (doSingle s k e.req) k rid e (v.getD w) m op := by
  obtain ⟨hdata, hres, -, hword, hregion, hndu⟩ := hit
  have hne : ackForm e.req.op ≠ 0x3E ∧ ¬(ackForm e.req.op = 0x68 ∨ ackForm e.req.op = 0x69) :=
    not_or.mp (of_decide_eq_false hacc)
  have hfn : nduFn (ackForm e.req.op) (s.accRegion k e.req.off) e.req.elem ow (w, false) = (v.map (fun v => (v, false)), some (m, op)) := by
    simp [nduFn, hne, hatomic]
  obtain ⟨u, hstep, hnew, -, hdo⟩ := doSingle_of_resident he hres hword (by rw [hacc, hregion]; rfl) hndu (by rw [hdata]; rfl) hfn
  have hafter : afterNdu u k e.req (s.wordLoc k e.req 0) op = u := by simp [afterNdu, reportOvf, hacc, hne]
  rw [hdo, hafter]
  refine hstep.performed rfl he (hnew.trans ?_) hposted
  cases v <;> rfl

/-- The opcode of an entry of a row of R179, acknowledged or posted. -/
theorem ackForm_of_row {op o : Nat} (hop : o ∈ [op, op + 0x20]) (hrange : 0x20 ≤ op ∧ op ≤ 0x3D) : ackForm o = op := by
  simp only [List.mem_cons, List.not_mem_nil, or_false] at hop
  rw [ackForm]
  split_ifs <;> omega

/-- A command of a row of R179 on a word that the slice holds. -/
theorem runs_atomic {c : Instr} {s : State} {k rid row : Nat} {e : Entry} {ow w : Word}
    (hexec : exec c s = .next (serve s k rid [row, row + 0x20] (fun s r => doSingle s k r))) (hrange : 0x20 ≤ row ∧ row ≤ 0x3D)
    (h : Ready s k rid e [row, row + 0x20]) (hit : NduHit s k e ow w) (hposted : isPosted e.req.op = true → PostedOk s e)
    {v : Option Word} {m op : Nat} (hatomic : atomic row e.req.elem ow w = (v, m, op)) :
    Runs c s (fun t => Performed s t k rid e (v.getD w) m op) := by
  have hrow : ackForm e.req.op = row := ackForm_of_row h.2.1 hrange
  refine ⟨_, hexec, ?_⟩
  obtain ⟨-, hres, -⟩ := id hit
  rw [serve_of_resident _ h hres]
  refine performed_doSingle h.entry_eq hit ?_ hposted (by rw [hrow]; exact hatomic)
  rw [hrow, isAccOp]
  exact decide_eq_false (by omega)

end Sys2Proof.Machine
end

section
/-! PROOFS. The atomics: each row of R179 on a word that the slice holds (R182, R183, R184). -/

namespace Sys2Proof.Machine

/-! ### Integer atomics (R182) -/

/-- The functions of R182 but CAS, in R179's order. -/
def intFnAt : Nat → IntFn
  | 0 => fun _ m a => m + a
  | 1 => fun _ m a => m &&& a
  | 2 => fun _ m a => m ||| a
  | 3 => fun _ m a => m ^^^ a
  | 4 => fun _ m a => if a.slt m then a else m
  | 5 => fun _ m a => if m.slt a then a else m
  | 6 => fun _ m a => if a.ult m then a else m
  | 7 => fun _ m a => if m.ult a then a else m
  | _ => fun _ _ a => a

/-- A row's function is that of its opcode's last digit, and its operand size that of the opcode. -/
theorem intRows_facts : ∀ row ∈ intRows, row.fn = intFnAt (row.op % 16) ∧ row.bytes = opSize row.op ∧ row.op % 16 < 9 ∧
    (0x20 ≤ row.op ∧ row.op < 0x3D) := by
  simp only [intRows, List.forall_mem_cons, List.not_mem_nil, false_imp_iff, implies_true, and_true]
  refine ⟨?_, ?_, ?_, ?_, ?_, ?_, ?_, ?_, ?_, ?_, ?_, ?_, ?_, ?_, ?_, ?_, ?_, ?_⟩ <;> exact ⟨rfl, rfl, by decide⟩

theorem exec_intRow : ∀ row ∈ intRows, ∀ (k rid : Nat) (s : State),
    exec (row.cmd k rid) s = .next (serve s k rid [row.op, row.op + 0x20] (fun s r => doSingle s k r)) := by
  simp only [intRows, List.forall_mem_cons, List.not_mem_nil, false_imp_iff, implies_true, and_true]
  refine ⟨?_, ?_, ?_, ?_, ?_, ?_, ?_, ?_, ?_, ?_, ?_, ?_, ?_, ?_, ?_, ?_, ?_, ?_⟩ <;> exact fun _ _ _ => rfl

theorem toSigned_eq_toInt (n m : Nat) : toSigned n m = (BitVec.ofNat n m).toInt := by
  rw [toSigned, BitVec.toInt_eq_toNat_cond, BitVec.toNat_ofNat]
  cases n with
  | zero => simp [Nat.mod_one]
  | succ n =>
    rw [Nat.add_sub_cancel, pow_succ']
    push_cast
    split_ifs <;> omega

/-- What the integer operations answer (R182). -/
theorem intOp_eq {i : Nat} (hi : i < 9) (n b : Nat) {m a : Nat} (hm : m < 2 ^ (8 * n)) (ha : a < 2 ^ (8 * n)) :
    intOp i n m a b = some (intFnAt i (8 * n) (BitVec.ofNat (8 * n) m) (BitVec.ofNat (8 * n) a)).toNat := by
  have hnat : ∀ {x}, x < 2 ^ (8 * n) → (BitVec.ofNat (8 * n) x).toNat = x := fun hx => by rw [BitVec.toNat_ofNat, Nat.mod_eq_of_lt hx]
  have hchoice : ∀ (p : Prop) [Decidable p], (if p then BitVec.ofNat (8 * n) a else BitVec.ofNat (8 * n) m).toNat = if p then a else m :=
    fun p _ => by rw [apply_ite BitVec.toNat, hnat hm, hnat ha]
  interval_cases i
  · simp [intOp, intFnAt]
  · simp [intOp, intFnAt, hnat hm, hnat ha]
  · simp [intOp, intFnAt, hnat hm, hnat ha]
  · simp [intOp, intFnAt, hnat hm, hnat ha]
  · simp [intOp, intFnAt, hchoice, toSigned_eq_toInt, BitVec.slt]
  · simp [intOp, intFnAt, hchoice, toSigned_eq_toInt, BitVec.slt]
  · simp only [intOp, intFnAt, hchoice, BitVec.ult, hnat hm, hnat ha, decide_eq_true_iff]
    split_ifs <;> simp <;> omega
  · simp only [intOp, intFnAt, hchoice, BitVec.ult, hnat hm, hnat ha, decide_eq_true_iff]
    split_ifs <;> simp <;> omega
  · simp [intOp, intFnAt, hnat ha]

/-- An integer atomic on a word writes its function of M and A, and answers M. -/
theorem atomic_int {op : Nat} (elem : Nat) (ow w : Word) (hi : op % 16 < 9) (hop : op ≠ 0x3D) (hsize : 0 < opSize op) :
    atomic op elem ow w = (some (wordSet w elem (opSize op) (intFnAt (op % 16) (8 * opSize op)
      (BitVec.ofNat _ (wordNum w elem (opSize op))) (BitVec.ofNat _ (wordNum ow 0 (opSize op)))).toNat),
      wordNum w elem (opSize op), 0) := by
  have hval := intOp_eq hi (opSize op) (wordNum ow 8 (opSize op)) (wordNum_lt w elem hsize) (wordNum_lt ow 0 hsize)
  rw [atomic, if_neg hop]
  dsimp only
  rw [if_pos (by omega), hval]

/-- Settles O27: each row's command runs its operation in the NDU on the word that the slice holds. -/
theorem integerAtomics : Obligations.IntegerAtomics := by
  intro row hrow s k rid e ow w h hit _ hposted
  obtain ⟨hfn, hbytes, hdigit, hlow, hhigh⟩ := intRows_facts row hrow
  have hsize : 0 < opSize row.op := by
    rw [opSize, ackForm]
    split_ifs <;> simp <;> omega
  have hatomic := atomic_int e.req.elem ow w hdigit (by omega) hsize
  rw [← hbytes, ← hfn] at hatomic
  exact runs_atomic (exec_intRow row hrow k rid s) (by omega) h hit hposted hatomic

/-! ### CAS (R182) -/

/-- CAS32 and CAS64: the compare value is the operand's first bytes, the swap value those from byte 8 on. -/
theorem atomic_cas {op : Nat} (elem : Nat) (ow w : Word) (hi : op % 16 = 9) (hop : op ≠ 0x3D) : atomic op elem ow w =
    if wordNum w elem (opSize op) = wordNum ow 0 (opSize op)
    then (some (wordSet w elem (opSize op) (wordNum ow 8 (opSize op))), wordNum w elem (opSize op), 0)
    else (none, wordNum w elem (opSize op), opCmpFail) := by
  rw [atomic, if_neg hop, hi]
  simp only [Nat.le_refl, if_true, intOp]
  split_ifs <;> rfl

/-- Settles O28: CAS writes the swap value where the compare value is M, and reports CMP_FAIL where it is not. -/
theorem compareAndSwap : Obligations.CompareAndSwap := by
  intro x hx s k rid e ow w h hit _ hposted
  have hrow : (∀ s, exec (x.1 k rid) s = .next (serve s k rid [x.2.1, x.2.1 + 0x20] (fun s r => doSingle s k r))) ∧
      (0x20 ≤ x.2.1 ∧ x.2.1 ≤ 0x3D) ∧ atomic x.2.1 e.req.elem ow w =
        if wordNum w e.req.elem x.2.2.1 = wordNum ow 0 x.2.2.1
        then (some (wordSet w e.req.elem x.2.2.1 (wordNum ow x.2.2.2 x.2.2.1)), wordNum w e.req.elem x.2.2.1, 0)
        else (none, wordNum w e.req.elem x.2.2.1, 0x01) := by
    simp only [List.mem_cons, List.not_mem_nil, or_false] at hx
    obtain rfl | rfl | rfl := hx
    · exact ⟨fun _ => rfl, by decide, atomic_cas _ ow w rfl (by decide)⟩
    · exact ⟨fun _ => rfl, by decide, atomic_cas _ ow w rfl (by decide)⟩
    · exact ⟨fun _ => rfl, by decide, rfl⟩
  obtain ⟨hexec, hrange, hatomic⟩ := hrow
  refine ⟨fun heq => ?_, fun hne => ?_⟩
  · rw [if_pos heq] at hatomic
    exact runs_atomic (hexec s) hrange h hit hposted hatomic
  · rw [if_neg hne] at hatomic
    exact runs_atomic (hexec s) hrange h hit hposted hatomic

/-! ### Floating-point atomics (R183) -/

theorem claims_floatAtomics : Claims.FloatAtomics := by
  intro x hx s k rid e ow w h hit _ hposted
  have hrow : (∀ s, exec (x.1 k rid) s = .next (serve s k rid [x.2.1, x.2.1 + 0x20] (fun s r => doSingle s k r))) ∧
      (0x20 ≤ x.2.1 ∧ x.2.1 ≤ 0x3D) ∧ atomic x.2.1 e.req.elem ow w =
        (some (wordSet w e.req.elem x.2.2.1 (x.2.2.2 (wordNum w e.req.elem x.2.2.1) (wordNum ow 0 x.2.2.1)).1),
        (wordNum w e.req.elem x.2.2.1), (x.2.2.2 (wordNum w e.req.elem x.2.2.1) (wordNum ow 0 x.2.2.1)).2) := by
    simp only [List.mem_cons, List.not_mem_nil, or_false] at hx
    obtain rfl | rfl | rfl | rfl | rfl | rfl := hx <;> exact ⟨fun _ => rfl, by decide, rfl⟩
  obtain ⟨hexec, hrange, hatomic⟩ := hrow
  exact runs_atomic (hexec s) hrange h hit hposted hatomic

/-- Settles O29: the operations run in the NDU; their results are packed from the nearest multiple of the result's step. -/
theorem floatingPoint : Obligations.FloatingPoint := ⟨claims_floatAtomics, claims_floatSpecials, claims_floatRounding⟩

end Sys2Proof.Machine
end

section
/-! PROOFS. Accumulators that stay resident: REPRO_ADD, FOLD and FOLD_CLEAR on a word that the slice holds (R187 to R190, R201). -/

namespace Sys2Proof.Machine

/-! ### An accumulator operation on a resident word (R190, R201) -/

/-- The resident is the most recently used one. -/
def Chan.useAcc (a : Nat × Nat) (c : Chan) : Chan := { c with accs := c.accs.filter (· != a) ++ [a] }

/-- A resident that is used is moved to the end, and none is spilled where no more than ACC_LIMIT are resident. -/
theorem accSettle_of_resident {s : State} {k : Nat} {l : Loc} (w : Who) (hk : k < s.stks.length)
    (hline : ((s.stk k).line l false).isSome = true) (hmem : l.accKey ∈ ((s.stk k).ch l.ch).accs)
    (hlimit : ((s.stk k).ch l.ch).accs.length ≤ s.accLimit k l.ch) : accSettle s k l w = s.modCh k l.ch (Chan.useAcc l.accKey) := by
  obtain ⟨y, hy⟩ := Option.isSome_iff_exists.mp hline
  have hc : l.ch < (s.stk k).chans.length := by
    by_contra hout
    rw [Stack.ch, List.getD_eq_default _ _ (by omega)] at hmem
    exact List.not_mem_nil hmem
  have hlen : (((s.stk k).ch l.ch).accs.filter (· != l.accKey)).length < ((s.stk k).ch l.ch).accs.length :=
    List.length_filter_lt_length_iff_exists.mpr ⟨_, hmem, by simp⟩
  have hsame : (s.modCh k l.ch (Chan.useAcc l.accKey)).accLimit k l.ch = s.accLimit k l.ch := by
    rw [State.accLimit, State.fld, State.raw_modCh, State.accLimit, State.fld]
  have hnone : ∀ t, t = s.modCh k l.ch (Chan.useAcc l.accKey) → accTrim t k l.ch w = t := by
    rintro t rfl
    rw [accTrim, hsame, State.ch_modCh_same s k l.ch _ hk hc, Chan.useAcc]
    dsimp only
    rw [List.length_append, List.length_singleton, Nat.sub_eq_zero_of_le (by omega), List.take_zero, List.foldl_nil]
  unfold accSettle
  rw [hy]
  dsimp only
  rw [if_pos (by simpa using hmem)]
  exact hnone _ rfl

theorem SliceStep.useAcc (s : State) (k c : Nat) (a : Nat × Nat) : SliceStep k s (s.modCh k c (Chan.useAcc a)) [] :=
  .modStk s k _ (fun _ => rfl) (fun _ => rfl) fun x => map_modify_of_eq Chan.viUnusable (Chan.useAcc a) (fun _ => rfl) x.chans c

/-! ### What an operation leaves, a report included -/

/-- From s to t only stack k changed, and free values were drawn: its request table, its tile-state map and every word but those at
the places listed are as before. -/
structure WordStep (k : Nat) (s t : State) (ls : List Loc) : Prop where
  state : t = { s with stks := t.stks, free := t.free }
  length : t.stks.length = s.stks.length
  other : ∀ j, j ≠ k → t.stk j = s.stk j
  table : (t.stk k).table = (s.stk k).table
  tiles : (t.stk k).tiles = (s.stk k).tiles
  words : OtherWords k s t ls

namespace WordStep

variable {k : Nat} {s t u : State} {ls : List Loc}

theorem trans (h : WordStep k s t ls) (g : WordStep k t u ls) : WordStep k s u ls where
  state := by rw [g.state, h.state]
  length := g.length.trans h.length
  other j hj := (g.other j hj).trans (h.other j hj)
  table := g.table.trans h.table
  tiles := g.tiles.trans h.tiles
  words l hl := (g.words l hl).trans (h.words l hl)

theorem of_ndu (h : NduStep k s t ls) : WordStep k s t ls where
  state := h.frame.state
  length := h.frame.length
  other j hj := (h.frame.stack j).2 hj
  table := by rw [(h.frame.stack k).1]; rfl
  tiles := by rw [(h.frame.stack k).1]; rfl
  words := h.words

theorem of_slice (h : SliceStep k s t ls) : WordStep k s t ls := of_ndu (.of_slice h)

/-- A report on a stack's own page. -/
theorem report (s : State) (k : Nat) (x : Kind) (i sub addr : Nat) (ls : List Loc) (hp : x.page.isPkg = false) :
    WordStep k s (s.report k x i sub addr) ls := by
  have hstk := stk_report s k x i sub addr
  obtain ⟨st, ep, heq, hlen⟩ := s.report_eq k x i sub addr
  refine ⟨by rw [report_of_stack_page s k x i sub addr hp], by rw [heq, hlen], fun j hj => (hstk j).2 hj, ?_, ?_, fun l _ => ?_⟩
  · rw [(hstk k).1]
  · rw [(hstk k).1]
  · rw [(hstk k).1]
    rfl

variable (h : WordStep k s t ls)
include h

theorem mono {ms : List Loc} (hsub : ls ⊆ ms) : WordStep k s t ms :=
  ⟨h.state, h.length, h.other, h.table, h.tiles, fun l hl => h.words l fun x hx => hl x (hsub hx)⟩

theorem entry (rid : Nat) : t.entry k rid = s.entry k rid := State.entry_congr h.table rid

/-- An acknowledged request is answered in its entry. -/
theorem answered {rid : Nat} {e : Entry} (he : s.entry k rid = some e) (hack : isPosted e.req.op = false) (rs : List Resp) :
    Answered (finish t k e.req rs) k rid e rs ∧ OnlyStk k { s with free := (finish t k e.req rs).free } (finish t k e.req rs) ∧
    ((finish t k e.req rs).stk k).tiles = (s.stk k).tiles ∧ OtherWords k s (finish t k e.req rs) ls ∧
    ∀ l, ((finish t k e.req rs).stk k).sectorAt l = (t.stk k).sectorAt l := by
  obtain ⟨hans, hframe⟩ := answered_finish rs ((h.entry rid).trans he) hack
  generalize finish t k e.req rs = v at hans hframe ⊢
  have hsame : ∀ l, (v.stk k).sectorAt l = (t.stk k).sectorAt l := fun l => by
    rw [(hframe.stack k).1]
    rfl
  refine ⟨hans, ⟨by rw [hframe.state, h.state], fun j hj => ((hframe.stack j).2 hj).trans (h.other j hj)⟩, ?_,
    fun l hl => (hsame l).trans (h.words l hl), hsame⟩
  rw [(hframe.stack k).1]
  exact h.tiles

/-- A posted best-effort request frees its entry, and its context has one outstanding request less. -/
theorem freed {rid : Nat} {e : Entry} {r : Resp} (he : s.entry k rid = some e) (hposted : isPosted e.req.op = true)
    (hok : PostedOk s e) (hstatus : r.status = stOk) :
    (finish t k e.req [r]).entry k rid = none ∧
    finish t k e.req [r] = { s with
      stks := (finish t k e.req [r]).stks
      ports := (finish t k e.req [r]).ports
      free := (finish t k e.req [r]).free } ∧
    (∀ j, j ≠ k → (finish t k e.req [r]).stk j = s.stk j) ∧ (∀ q, q ≠ e.req.port → (finish t k e.req [r]).prt q = s.prt q) ∧
    (finish t k e.req [r]).prt e.req.port = { s.prt e.req.port with outst := ((finish t k e.req [r]).prt e.req.port).outst } ∧
    ((finish t k e.req [r]).stk k).tiles = (s.stk k).tiles ∧ OtherWords k s (finish t k e.req [r]) ls ∧
    ∀ l, ((finish t k e.req [r]).stk k).sectorAt l = (t.stk k).sectorAt l := by
  obtain ⟨hbest, hport, hdrop⟩ := hok
  have hk : k < t.stks.length := h.length ▸ State.lt_length_of_entry he
  have hports : t.ports = s.ports := by rw [h.state]
  have hprt : ∀ q, t.prt q = s.prt q := fun q => by rw [State.prt, hports, State.prt]
  have hdropped := stksFrame_dropEntry (t.endOutst e.req.port e.req.reqId rid) k rid
  have hgone := State.entry_dropEntry (t.endOutst e.req.port e.req.reqId rid) k rid hk
  have hout := prt_endOutst t e.req.port e.req.reqId rid (hports ▸ hport) (by rw [hprt]; exact rid_of_entry he ▸ hdrop)
  rw [finish_of_posted ((h.entry rid).trans he) hposted hbest hstatus]
  generalize (t.endOutst e.req.port e.req.reqId rid).dropEntry k rid = u at hdropped hgone
  have hstk : ∀ j, AtStk k TableOnly j (t.stk j) (u.stk j) := hdropped.stack
  have hsame : ∀ l, (u.stk k).sectorAt l = (t.stk k).sectorAt l := fun l => by
    rw [(hstk k).1]
    rfl
  refine ⟨hgone, ?_, fun j hj => ((hstk j).2 hj).trans (h.other j hj), fun q hq => ?_, ?_, ?_, fun l hl => (hsame l).trans (h.words l hl),
    hsame⟩
  · rw [hdropped.state, State.endOutst, State.modPort, h.state]
  · exact (hdropped.prt q).trans ((State.prt_modPort_other t e.req.port q _ hq).trans (hprt q))
  · rw [hdropped.prt, hout, hprt]
  · rw [(hstk k).1]
    exact h.tiles

end WordStep

end Sys2Proof.Machine
end

section
/-! PROOFS. REPRO_ADD, FOLD and FOLD_CLEAR (R187 to R190). -/

namespace Sys2Proof.Machine

/-- A word in the slice is that of its place. -/
theorem Stack.sectorAt_congr (x : Stack) {l m : Loc} (h : l.place = m.place) : x.sectorAt l = x.sectorAt m := by
  simp only [Loc.place, List.cons.injEq] at h
  obtain ⟨hch, hpc, hbg, hbank, hsid, hrow, hcol, -⟩ := h
  have hline : x.line l false = x.line m false := by
    unfold Stack.line
    congr 1
    funext y
    rw [Line.isAt, Line.isAt, hch, hpc, hbg, hbank, hsid, hrow, hcol]
  rw [Stack.sectorAt_eq, Stack.sectorAt_eq, hline, hcol]

/-- A word that is written back as it was is as before. -/
theorem OtherWords.of_same {k : Nat} {s t : State} {l : Loc} (h : OtherWords k s t [l])
    (hsame : (t.stk k).sectorAt l = (s.stk k).sectorAt l) : OtherWords k s t [] := by
  intro m _
  by_cases hplace : m.place = l.place
  · rw [Stack.sectorAt_congr _ hplace, hsame, Stack.sectorAt_congr _ hplace]
  · exact h m (by simpa using hplace)

/-- A ready entry of some opcodes is one of more. -/
theorem Ready.mono {s : State} {k rid : Nat} {e : Entry} {ops more : List Nat} (h : Ready s k rid e ops) (hsub : ops ⊆ more) :
    Ready s k rid e more := ⟨h.1, hsub h.2.1, h.2.2⟩

/-- An accumulator that stays resident when it is used: its slice holds its word, in an OPEN tile, and no more accumulators than
ACC_LIMIT. -/
structure AccHeld (k : Nat) (l : Loc) (s : State) : Prop where
  stack : k < s.stks.length
  line : ((s.stk k).line l false).isSome = true
  tile : (s.stk k).tileSt l.tile = .opened
  resident : l.accKey ∈ ((s.stk k).ch l.ch).accs
  limit : ((s.stk k).ch l.ch).accs.length ≤ s.accLimit k l.ch

namespace AccHeld

variable {k : Nat} {l : Loc} {s t : State}

theorem congr (h : AccHeld k l s) (hlen : t.stks.length = s.stks.length)
    (hline : ((t.stk k).line l false).isSome = ((s.stk k).line l false).isSome) (htile : (t.stk k).tileSt l.tile = (s.stk k).tileSt l.tile)
    (haccs : (t.stk k).residents = (s.stk k).residents) (hlimit : t.accLimit k l.ch = s.accLimit k l.ch) : AccHeld k l t := by
  have hsame : ((t.stk k).ch l.ch).accs = ((s.stk k).ch l.ch).accs := by rw [Stack.accs_eq, haccs, Stack.accs_eq]
  exact ⟨hlen ▸ h.stack, hline.trans h.line, htile.trans h.tile, hsame ▸ h.resident, by rw [hsame, hlimit]; exact h.limit⟩

theorem ndu (h : AccHeld k l s) {ls : List Loc} (hstep : NduStep k s t ls) (haccs : (t.stk k).residents = (s.stk k).residents) :
    AccHeld k l t := by
  have hraw : ∀ pg i off, t.raw k pg i off = s.raw k pg i off := by
    have hstk := (hstep.frame.stack k).1
    exact State.raw_congr hstep.frame.part (by rw [hstk]; rfl) (by rw [hstk]; rfl)
  exact h.congr hstep.length (hstep.held l) (hstep.tileSt l.tile) haccs (by rw [State.accLimit, State.fld, hraw, State.accLimit, State.fld])

theorem report (h : AccHeld k l s) (c sub addr : Nat) : AccHeld k l (s.report k K.NDU_ACC_OVF c sub addr) := by
  have hstk := (stk_report s k K.NDU_ACC_OVF c sub addr k).1
  have hraw : (s.report k K.NDU_ACC_OVF c sub addr).raw k .ndu l.ch 0x104 = s.raw k .ndu l.ch 0x104 := by
    refine raw_report_other s k k K.NDU_ACC_OVF c sub addr .ndu l.ch 0x104 (.inr (.inr ?_))
    change (0x40 + l.ch) * 0x1000 + 0x104 ≠ (0x40 + c) * 0x1000 + 0x10
    omega
  refine h.congr (WordStep.report s k _ c sub addr [] rfl).length ?_ ?_ (residents_report s k _ c sub addr k) ?_
  · rw [hstk]
    rfl
  · rw [hstk]
    rfl
  · rw [State.accLimit, State.fld, State.accLimit, State.fld]
    exact congrArg _ (congrArg (bits · _ _) hraw)

theorem reportOvf (h : AccHeld k l s) (r : Req) (op : Nat) : AccHeld k l (reportOvf s k r l op) := by
  unfold Machine.reportOvf
  split
  · exact h.report _ _ _
  · exact h

/-- After its operation a resident accumulator is the most recently used one, and none is spilled. -/
theorem afterNdu_eq (h : AccHeld k l s) {r : Req} (op : Nat) (hacc : isAccOp (ackForm r.op) = true) :
    afterNdu s k r l op = (Machine.reportOvf s k r l op).modCh k l.ch (Chan.useAcc l.accKey) := by
  have hreport := h.reportOvf r op
  rw [afterNdu, if_pos ⟨hacc, by simp [hreport.tile]⟩,
    accSettle_of_resident r.who hreport.stack hreport.line hreport.resident hreport.limit]

end AccHeld

/-- A request to a resident accumulator in region wb (R186, R190). -/
structure AccHit (s : State) (k : Nat) (e : Entry) (w : Word) (wb : Nat) : Prop where
  held : Resident s k e.req .opened
  word : (s.stk k).sectorAt (s.wordLoc k e.req 0) = some (w, false)
  region : s.accRegion k e.req.off = some wb
  usable : ((s.stk k).ch (s.wordLoc k e.req 0).ch).nduUnusable = false
  resident : (s.wordLoc k e.req 0).accKey ∈ ((s.stk k).ch (s.wordLoc k e.req 0).ch).accs
  limit : ((s.stk k).ch (s.wordLoc k e.req 0).ch).accs.length ≤ s.accLimit k (s.wordLoc k e.req 0).ch

namespace AccHit

variable {s : State} {k rid wb : Nat} {e : Entry} {w ow : Word} (hit : AccHit s k e w wb)
include hit

theorem accHeld (he : s.entry k rid = some e) : AccHeld k (s.wordLoc k e.req 0) s :=
  ⟨State.lt_length_of_entry he, Stack.isSome_line (by rw [hit.word]; rfl), hit.held.tileSt_eq, hit.resident, hit.limit⟩

/-- What an accumulator operation leaves, before the request completes. -/
theorem doSingle_eq (he : s.entry k rid = some e) (hacc : isAccOp (ackForm e.req.op) = true)
    (hdata : e.req.data.getD 0 (0, false) = (ow, false)) {v : Option (Word × Bool)} {m op : Nat}
    (hfn : nduFn (ackForm e.req.op) (some wb) e.req.elem ow (w, false) = (v, some (m, op))) :
    ∃ u, NduStep k s u [s.wordLoc k e.req 0] ∧ (u.stk k).sectorAt (s.wordLoc k e.req 0) = some (v.getD (w, false)) ∧
      doSingle s k e.req = finish ((reportOvf u k e.req (s.wordLoc k e.req 0) op).modCh k (s.wordLoc k e.req 0).ch
        (Chan.useAcc (s.wordLoc k e.req 0).accKey)) k e.req [fetchResp s k e.req m op] := by
  obtain ⟨u, hstep, hnew, haccs, hdo⟩ := doSingle_of_resident he hit.held hit.word (by rw [hacc, hit.region]; rfl) hit.usable hdata
    (by rw [hit.region]; exact hfn)
  refine ⟨u, hstep, hnew, ?_⟩
  rw [hdo, ((hit.accHeld he).ndu hstep haccs).afterNdu_eq op hacc]

/-- FOLD and FOLD_CLEAR, which report no overflow: the word, the frame and the answer. -/
theorem performed_fold (he : s.entry k rid = some e) (hop : e.req.op = 0x68 ∨ e.req.op = 0x69) (hdata : e.req.data = [])
    {v : Option (Word × Bool)} {w' : Word} (hv : v.getD (w, false) = (w', false))
    (hfn : (if e.req.op = 0x69 then (foldCleared w).map (fun v => (v, false)) else none) = v) :
    Performed s (doSingle s k e.req) k rid e w' ((foldVal w).1 + (foldVal w).2.1 * 2 ^ 64) (foldVal w).2.2 := by
  have hform : ackForm e.req.op = e.req.op := by obtain h | h := hop <;> rw [h] <;> rfl
  have hne : ackForm e.req.op ≠ 0x3E := by rw [hform]; omega
  have hresult : nduFn (ackForm e.req.op) (some wb) e.req.elem 0 (w, false) =
      (v, some ((foldVal w).1 + (foldVal w).2.1 * 2 ^ 64, (foldVal w).2.2)) := by
    rw [nduFn, if_neg Bool.false_ne_true, if_neg hne, hform, if_pos hop, hfn]
  obtain ⟨u, hstep, hnew, hdo⟩ := hit.doSingle_eq he (by rw [hform, isAccOp]; exact decide_eq_true (.inr hop)) (by rw [hdata]; rfl) hresult
  rw [reportOvf, if_neg fun h => hne h.1] at hdo
  have huse := SliceStep.useAcc u k (s.wordLoc k e.req 0).ch (s.wordLoc k e.req 0).accKey
  rw [hdo]
  refine (hstep.trans (NduStep.of_slice (huse.of_nil _))).performed rfl he ?_ fun hposted => ?_
  · rw [huse.words _ (by simp), hnew, hv]
  · obtain h | h := hop <;> rw [h] at hposted <;> exact Bool.noConfusion hposted

/-- REPRO_ADD, before the request completes: the word with the addend added, and nothing else of the words, tiles and requests. -/
theorem wordStep_reproAdd (he : s.entry k rid = some e) (hop : ackForm e.req.op = 0x3E) (hdata : e.req.data = [(ow, false)]) :
    ∃ t, WordStep k s t [s.wordLoc k e.req 0] ∧ (t.stk k).sectorAt (s.wordLoc k e.req 0) =
        some ((reproStep (accFresh wb w) (wordNum ow 0 8)).1, false) ∧
      doSingle s k e.req = finish t k e.req [fetchResp s k e.req 0 (reproStep (accFresh wb w) (wordNum ow 0 8)).2] := by
  have hresult : nduFn (ackForm e.req.op) (some wb) e.req.elem ow (w, false) =
      (some ((reproStep (accFresh wb w) (wordNum ow 0 8)).1, false), some (0, (reproStep (accFresh wb w) (wordNum ow 0 8)).2)) := by
    rw [nduFn, if_neg Bool.false_ne_true, if_pos hop]
    rfl
  obtain ⟨u, hstep, hnew, hdo⟩ := hit.doSingle_eq he (by rw [hop]; rfl) (by rw [hdata]; rfl) hresult
  generalize (reproStep (accFresh wb w) (wordNum ow 0 8)).2 = op at hdo ⊢
  have hreport : WordStep k u (reportOvf u k e.req (s.wordLoc k e.req 0) op) [] := by
    unfold reportOvf
    split
    · exact .report u k _ _ _ _ [] rfl
    · exact .of_slice (.refl k u [])
  have hsettled := hreport.trans (.of_slice (.useAcc (reportOvf u k e.req (s.wordLoc k e.req 0) op) k (s.wordLoc k e.req 0).ch
    (s.wordLoc k e.req 0).accKey))
  exact ⟨_, (WordStep.of_ndu hstep).trans (hsettled.mono (List.nil_subset _)), (hsettled.words _ (by simp)).trans hnew, hdo⟩

end AccHit

theorem claims_accumulators : Claims.Accumulators := by
  intro s k rid wb e w hres _ hword hregion hndu hmem hlimit
  have hit : AccHit s k e w wb := ⟨hres, hword, hregion, hndu, hmem, hlimit⟩
  refine ⟨fun ow h hdata => ?reproAdd, fun ow h hdata hposted => ?reproAddPosted, fun h hdata => ?fold, fun h hdata hinit => ?foldClear⟩
  case reproAdd =>
    have hop := h.op_eq
    obtain ⟨t, hstep, hnew, hdo⟩ := hit.wordStep_reproAdd h.entry_eq (by rw [hop]; rfl) hdata
    obtain ⟨hans, honly, htiles, hwords, hsame⟩ := hstep.answered h.entry_eq (by rw [hop]; rfl)
      [fetchResp s k e.req 0 (reproStep (accFresh wb w) (wordNum ow 0 8)).2]
    refine ⟨_, rfl, ?_⟩
    rw [serve_of_resident _ (h.mono (by simp)) hres, hdo]
    exact ⟨(hsame _).trans hnew, hwords, honly, htiles, hans⟩
  case reproAddPosted =>
    have hop := h.op_eq
    obtain ⟨t, hstep, hnew, hdo⟩ := hit.wordStep_reproAdd h.entry_eq (by rw [hop]; rfl) hdata
    obtain ⟨hgone, hstate, hstks, hprts, hprt, htiles, hwords, hsame⟩ := hstep.freed
      (r := fetchResp s k e.req 0 (reproStep (accFresh wb w) (wordNum ow 0 8)).2) h.entry_eq (by rw [hop]; rfl) hposted rfl
    refine ⟨_, rfl, ?_⟩
    rw [serve_of_resident _ (h.mono (by simp)) hres, hdo]
    exact ⟨(hsame _).trans hnew, hwords, htiles, hgone, hstate, hstks, hprts, hprt⟩
  case fold =>
    have hop := h.op_eq
    obtain ⟨hnew, hwords, hack, -⟩ := hit.performed_fold h.entry_eq (.inl hop) hdata (v := none) rfl (by rw [hop]; rfl)
    obtain ⟨hans, hframe⟩ := hack (by rw [hop]; rfl)
    refine ⟨_, rfl, ?_⟩
    rw [serve_of_resident _ h hres]
    exact ⟨hnew, hwords.of_same (hnew.trans hword.symm), hans, hframe⟩
  case foldClear =>
    have hop := h.op_eq
    have hcleared : foldCleared w = some (accWord 0 (wordNum w 24 1) 0x80) := by rw [foldCleared, if_pos hinit]
    obtain ⟨hnew, hwords, hack, -⟩ := hit.performed_fold h.entry_eq (.inr hop) hdata (v := some (_, false)) rfl
      (by rw [if_pos hop, hcleared]; rfl)
    obtain ⟨hans, hframe⟩ := hack (by rw [hop]; rfl)
    have hwbase := wordNum_lt w 24 (n := 1) (by decide)
    refine ⟨_, rfl, ?_⟩
    rw [serve_of_resident _ h hres]
    exact ⟨⟨_, hnew, acc_accWord 0 hwbase (by decide), wbase_accWord 0 hwbase (by decide), flags_accWord 0 hwbase (by decide)⟩, hwords,
      hframe, hans⟩

/-- Settles O31: a resident accumulator is used where it stands, and stays resident. -/
theorem accumulatorWords : Obligations.AccumulatorWords := claims_accumulators

end Sys2Proof.Machine
end

section
/-! PROOFS. The start of a descriptor: its context and its elements (R178, R191, R192). -/

namespace Sys2Proof.Machine

/-! ### The elements of a descriptor -/

/-- Element i of a STRIDED_GATHER, STRIDED_COPY or PKG_COPY. -/
def rangeElem (r : Req) (i : Nat) : Elem where
  idx := i
  src := some (if r.op = 0x64 then (r.off : Int) + 32 * i else (r.off : Int) + i * toSigned 32 (wordNum r.word0 4 4))
  dst := if r.op = 0x64 then some ((wordNum r.word0 4 5 : Int) + 32 * i)
    else if r.op = 0x63 then some ((wordNum r.word0 12 5 : Int) + i * toSigned 32 (wordNum r.word0 8 4)) else none
  value := 0

/-- The elements of STRIDED_GATHER, STRIDED_COPY and PKG_COPY are in index order. -/
theorem buildElems_of_range (s : State) (k : Nat) {r : Req} (hop : r.op ∈ [0x62, 0x63, 0x64]) :
    buildElems s k r =
      ((List.range (if r.op = 0x64 then wordNum r.word0 0 2 + 1 else wordNum r.word0 0 2)).map (rangeElem r), s) := by
  simp only [List.mem_cons, List.not_mem_nil, or_false] at hop
  obtain hop | hop | hop := hop
  all_goals
    simp only [buildElems, hop]
    congr 1
    refine List.map_congr_left fun i _ => ?_
    simp [rangeElem, hop]

/-- Element j of the pairs of word number i of a SCATTER_ACC on 4-byte values. -/
def scatterElem (off : Int) (d : Word) (i j : Nat) : Elem where
  idx := i * 4 + j
  src := some (off + (wordNum d (j * 8) 4 : Int) * 4)
  dst := none
  value := BitVec.ofNat 128 (wordNum d (j * 8 + 4) 4)

/-- A SCATTER_ACC on 4-byte values has four elements for each of its words. -/
theorem buildElems_of_scatter (s : State) (k : Nat) {r : Req} (hop : r.op = 0x60) (hsize : bits r.param.toNat 2 0 ∈ [0, 2])
    (hdata : ∀ d ∈ r.data, d.2 = false) :
    buildElems s k r = ((r.data.zipIdx.map (fun d => (List.range 4).map (scatterElem r.off d.1.1 d.2))).flatten, s) := by
  have hn : scatterSize (bits r.param.toNat 2 0) = 4 := by
    simp only [List.mem_cons, List.not_mem_nil, or_false] at hsize
    obtain h | h := hsize <;> rw [h] <;> rfl
  simp only [buildElems, hop, hn, if_true]
  congr 2
  refine List.map_congr_left fun d hd => List.map_congr_left fun j _ => ?_
  simp only [hdata d.1 (List.fst_mem_of_mem_zipIdx hd), Bool.false_eq_true, if_false]
  rfl

theorem length_flatten_of_length {α : Type} {n : Nat} {L : List (List α)} (h : ∀ x ∈ L, x.length = n) :
    L.flatten.length = n * L.length := by
  rw [List.length_flatten, List.map_congr_left h, List.map_const', List.sum_replicate, smul_eq_mul, Nat.mul_comm]

/-- An item of lists of one length, put one after the other. -/
theorem getElem?_flatten_of_length {α : Type} {n i j : Nat} {L : List (List α)} {x : List α} (h : ∀ x ∈ L, x.length = n)
    (hi : L[i]? = some x) (hj : j < n) : L.flatten[n * i + j]? = x[j]? := by
  induction L generalizing i with
  | nil => simp at hi
  | cons y L ih =>
    have hy := h y List.mem_cons_self
    rw [List.flatten_cons]
    cases i with
    | zero =>
      obtain rfl : y = x := by simpa using hi
      rw [Nat.mul_zero, Nat.zero_add, List.getElem?_append_left (hy ▸ hj)]
    | succ i =>
      have hsum : n * (i + 1) + j = y.length + (n * i + j) := by rw [hy, Nat.mul_succ]; omega
      rw [hsum, List.getElem?_append_right (Nat.le_add_right _ _), Nat.add_sub_cancel_left]
      exact ih (fun x hx => h x (List.mem_cons_of_mem y hx)) hi

/-! ### A context is taken (R178) -/

/-- The context of a descriptor before its first element. -/
def Gth.start (es : List Elem) : Gth where
  todo := es
  results := []
  fails := []
  poisoned := false
  opStatus := 0

/-- A request whose descriptor holds a context. -/
def Entry.withGth (g : Gth) (e : Entry) : Entry := { e with gth := some g }

theorem startDesc_of_next {s : State} {k rid : Nat} {e : Entry} {es : List Elem} (he : s.entry k rid = some e)
    (hdesc : isDesc e.req.op = true) (hdone : e.done = none) (hgth : e.gth = none) (hnext : s.descNext k e.req = true)
    (hes : buildElems s k e.req = (es, s)) :
    startDesc s k rid = (s.modEntry k rid (Entry.withGth (Gth.start es))).modStk k
      (fun x => { x with wrr := roundAfter (s.weight k) x.wrr (s.waitingDescs k) e.req }) := by
  have hcond : (isDesc e.req.op && e.done.isNone && e.gth.isNone && s.descNext k e.req) = true := by
    rw [hdesc, hdone, hgth, hnext]
    rfl
  simp only [startDesc, he, hcond, hes, if_true]
  rfl

/-- A descriptor whose turn it is, and whose elements are known without a read, takes a context with them. -/
theorem runs_startDesc {s : State} {k rid : Nat} {e : Entry} {es : List Elem} (he : s.entry k rid = some e)
    (hdesc : isDesc e.req.op = true) (hdone : e.done = none) (hgth : e.gth = none) (hnext : s.descNext k e.req = true)
    (hes : buildElems s k e.req = (es, s)) :
    Runs (.gthDescriptorStart k rid) s (fun t => OnlyStk k s t ∧
      t.stk k = { s.stk k with table := (t.stk k).table, wrr := (t.stk k).wrr } ∧ t.entry k rid = some (e.withGth (Gth.start es))) := by
  refine ⟨startDesc s k rid, rfl, ?_⟩
  have hmod := stksFrame_modEntry s k rid (Entry.withGth (Gth.start es))
  have hentry := State.entry_modEntry s k rid (Entry.withGth (Gth.start es)) e he fun _ => rfl
  rw [startDesc_of_next he hdesc hdone hgth hnext hes]
  generalize s.modEntry k rid (Entry.withGth (Gth.start es)) = u at hmod hentry ⊢
  have hstk := State.stk_modStk_same u k (fun x => { x with wrr := roundAfter (s.weight k) x.wrr (s.waitingDescs k) e.req })
    (hmod.length ▸ State.lt_length_of_entry he)
  refine ⟨hmod.onlyStk.trans (onlyStk_modStk u k _), ?_, (State.entry_congr ?_ rid).trans hentry⟩
  · rw [hstk, (hmod.stack k).1]
  · rw [hstk]

/-- While 16 contexts are busy no descriptor takes one. -/
theorem startDesc_of_busy {s : State} {k : Nat} (rid : Nat) (h : 16 ≤ s.busyGth k) : startDesc s k rid = s := by
  have hnext : ∀ r, s.descNext k r = false := fun r => by simp [State.descNext, Nat.not_lt.mpr h]
  unfold startDesc
  split
  · simp [hnext]
  · rfl

theorem claims_descriptorStart : Claims.DescriptorStart := by
  refine ⟨fun s k rid e he hop hdone hgth hnext => ?range, fun s k rid e he hop hdone hgth hnext hsize hdata => ?scatter,
    fun s k rid hbusy => ?busy⟩
  case range =>
    have hes := buildElems_of_range s k hop
    have hdesc : isDesc e.req.op = true := by
      simp only [List.mem_cons, List.not_mem_nil, or_false] at hop
      exact decide_eq_true (by omega)
    obtain ⟨t, hrun, honly, hstk, hentry⟩ := runs_startDesc he hdesc hdone hgth hnext hes
    refine ⟨t, hrun, honly, hstk, _, hentry, rfl, rfl, rfl, ?_, ?_, fun x hx => ?_⟩
    · simp [Gth.start, Function.comp_def, rangeElem]
    · simp [Gth.start]
    · obtain ⟨i, -, rfl⟩ := List.mem_map.mp hx
      exact ⟨fun hop => by simp [rangeElem, hop], fun hop => by simp [rangeElem, hop]⟩
  case scatter =>
    have hes := buildElems_of_scatter s k hop hsize hdata
    obtain ⟨t, hrun, honly, hstk, hentry⟩ := runs_startDesc he (by rw [hop]; rfl) hdone hgth hnext hes
    have hfour : ∀ x ∈ e.req.data.zipIdx.map (fun d => (List.range 4).map (scatterElem e.req.off d.1.1 d.2)), x.length = 4 := by
      intro x hx
      obtain ⟨d, -, rfl⟩ := List.mem_map.mp hx
      rw [List.length_map, List.length_range]
    refine ⟨t, hrun, honly, hstk, _, hentry, rfl, rfl, rfl, ?_, fun i j d hd hj => ?_⟩
    · rw [Gth.start, length_flatten_of_length hfour, List.length_map, List.length_zipIdx]
    · have hword : (e.req.data.zipIdx.map (fun d => (List.range 4).map (scatterElem e.req.off d.1.1 d.2)))[i]? =
          some ((List.range 4).map (scatterElem e.req.off d.1 i)) := by simp [hd]
      rw [Gth.start, getElem?_flatten_of_length hfour hword hj, List.getElem?_map, List.getElem?_range hj, Option.map_some, scatterElem,
        Nat.mul_comm i 4, Nat.mul_comm j 8]
  case busy =>
    exact congrArg Host.Outcome.next (startDesc_of_busy rid hbusy)

end Sys2Proof.Machine
end

section
/-! PROOFS. One element of a gather: one that waits, one that fails, and one whose word the slice holds (R193, R207, R254). -/

namespace Sys2Proof.Machine

/-! ### The read of an element (R193) -/

/-- A source that is out of range, unbacked, in a RETIRED tile or an accumulator region, or on a stack that does not serve or is out of
reach is not read. -/
theorem elemRead_of_not_ok {s : State} {k : Nat} {o : Int} (r : Req) (n : Nat) (h : s.elemOk k o = false) :
    elemRead s k r (some o) n = ((none, false), s) := by
  simp [elemRead, h]

/-- An access on the descriptor's own stack crosses no ring link (R34, R207). -/
theorem elemSent_self (s : State) (k : Nat) : elemSent s k k = s.count k .gth 0 1 1 := by
  simp [elemSent, State.ringTx]

/-- A word that the slice of the descriptor's own stack holds. -/
theorem elemRead_of_sectorAt {s : State} {k : Nat} {o : Int} {w : Word} (r : Req) (n : Nat) (hk : k < s.stks.length)
    (hok : s.elemOk k o = true) (hown : (s.locOf 0 o.toNat).stack = k)
    (hword : (s.stk k).sectorAt (s.locOf 0 o.toNat) = some (w, false))
    (hslice : ((s.stk k).ch (s.locOf 0 o.toNat).ch).viUnusable = false)
    (htile : (s.stk k).tileSt (s.locOf 0 o.toNat).tile ≠ .invalid) :
    ∃ t, SliceStep k s t [] ∧ elemRead s k r (some o) n = ((some (wordNum w (o.toNat % 32) n), false), t) := by
  have hcount := SliceStep.count s k .gth 0 1 1 rfl
  have hholds : Holds ((s.count k .gth 0 1 1).stk k) (s.locOf 0 o.toNat) [] := hcount.holds ⟨hslice, by simp [hword]⟩
  have hread := readWords_of_holds (reqElem r) (hcount.length ▸ hk) (by rw [hcount.tileSt]; exact htile) hholds
  have hanswer : ((s.count k .gth 0 1 1).stk k).answer (s.locOf 0 o.toNat) = (w, false) := by
    rw [Stack.answer, hcount.words _ (by simp), hword]
    rfl
  refine ⟨_, hcount.trans (.hit _ k (s.locOf 0 o.toNat) (reqElem r) (hcount.length ▸ hk)), ?_⟩
  simp only [elemRead, hok, Bool.not_true, Bool.false_eq_true, if_false, hown, elemSent_self, hread, List.map_cons, List.map_nil, hanswer]

/-! ### The context after an element of a gather -/

/-- An element that failed is counted and noted (R193). -/
def Gth.failed (g : Gth) (i : Nat) (poison : Bool) : Gth := { g with
  fails := g.fails ++ [i]
  poisoned := g.poisoned || poison
  opStatus := g.opStatus ||| opElemFail
  results := g.results ++ [(0, true, poison)] }

/-- An element's value is appended. -/
def Gth.gathered (g : Gth) (v : Nat) : Gth := { g with results := g.results ++ [(BitVec.ofNat 256 v, false, false)] }

theorem doElem_of_failed {s t : State} {k : Nat} {r : Req} {g : Gth} {x : Elem} {p : Bool} (hop : r.op = 0x61 ∨ r.op = 0x62)
    (h : elemRead s k r x.src (esize r.word0) = ((none, p), t)) : doElem s k r g x = (g.failed x.idx p, elemFailed t k x.src) := by
  obtain hop | hop := hop <;> simp only [doElem, hop, h] <;> rfl

theorem doElem_of_read {s t : State} {k v : Nat} {r : Req} {g : Gth} {x : Elem} {p : Bool} (hop : r.op = 0x61 ∨ r.op = 0x62)
    (h : elemRead s k r x.src (esize r.word0) = ((some v, p), t)) : doElem s k r g x = (g.gathered v, t) := by
  obtain hop | hop := hop <;> simp only [doElem, hop, h] <;> rfl

/-- The count and the report of a failed element (R193, R206). -/
theorem wordStep_elemFailed (s : State) (k : Nat) (off : Option Int) : WordStep k s (elemFailed s k off) [] :=
  (WordStep.of_slice (.count s k .gth 0 2 1 rfl)).trans (.report _ k K.GTH_ELEM_FAIL 0 0 _ [] rfl)

theorem cntVal_elemFailed {s : State} {k : Nat} (off : Option Int) (hk : k < s.stks.length) (hf : s.frozen k .gth 0 = false) :
    (elemFailed s k off).cntVal k .gth 0 2 = satAdd cntMax (s.cntVal k .gth 0 2) 1 := by
  have hcnt : ((elemFailed s k off).stk k).cnt = ((s.count k .gth 0 2 1).stk k).cnt := by
    rw [elemFailed, (stk_report (s.count k .gth 0 2 1) k K.GTH_ELEM_FAIL 0 0 _ k).1]
  rw [← State.cntVal_count_same s k .gth 0 2 1 hk hf, State.cntVal, State.cntVal]
  exact congrArg (mget · _ _) hcnt

/-! ### The step of a descriptor (R178, R254) -/

section
variable {s : State} {k rid : Nat} {e : Entry} {g : Gth} {x : Elem} {rest : List Elem} (he : s.entry k rid = some e)
  (hg : e.gth = some g) (htodo : g.todo = x :: rest)
include he hg htodo

theorem stepDesc_of_paused (h : s.elemMoves k x = false) : stepDesc s k rid = s := by
  simp [stepDesc, he, hg, htodo, h]

theorem stepDesc_of_moves (hserving : s.serving = true) (hunreach : s.unreach k = false) (h : s.elemMoves k x = true) :
    stepDesc s k rid = (doElem s k e.req { g with todo := rest } x).2.modEntry k rid
      (Entry.withGth (doElem s k e.req { g with todo := rest } x).1) := by
  simp only [stepDesc, he, hg, htodo, hserving, hunreach, h, Bool.not_false, Bool.and_true, if_true]
  rfl

end

/-- A step that changes no word, and then the context of a descriptor. -/
theorem WordStep.withGth {k rid : Nat} {s t : State} {e : Entry} (h : WordStep k s t []) (he : s.entry k rid = some e) (g : Gth) :
    OtherWords k s (t.modEntry k rid (Entry.withGth g)) [] ∧ (t.modEntry k rid (Entry.withGth g)).dies = s.dies ∧
    (t.modEntry k rid (Entry.withGth g)).entry k rid = some (e.withGth g) := by
  have hmod := stksFrame_modEntry t k rid (Entry.withGth g)
  refine ⟨fun l hl => ?_, ?_, State.entry_modEntry t k rid _ e ((h.entry rid).trans he) fun _ => rfl⟩
  · rw [(hmod.stack k).1]
    exact h.words l hl
  · rw [hmod.state, h.state]

theorem claims_descriptorElement : Claims.DescriptorElement := by
  intro s k rid e g x rest _ he hg htodo hop hserving hunreach hdst
  have hmoves : s.elemMoves k x = s.elemServes k x.src := by rw [State.elemMoves, hdst]; exact Bool.and_true _
  have hk := State.lt_length_of_entry he
  refine ⟨fun hpaused => ?paused, fun o hsrc hnot => ?failed, fun o w hsrc hok hserves hown hword hslice htile => ?read⟩
  case paused => exact congrArg Host.Outcome.next (stepDesc_of_paused he hg htodo (hmoves.trans hpaused))
  case failed =>
    have hserves : s.elemServes k x.src = true := by rw [hsrc, State.elemServes, hnot]; rfl
    have hdo := doElem_of_failed (g := { g with todo := rest }) hop (hsrc ▸ elemRead_of_not_ok e.req (esize e.req.word0) hnot)
    obtain ⟨hwords, hdies, hentry⟩ := (wordStep_elemFailed s k x.src).withGth he (({ g with todo := rest } : Gth).failed x.idx false)
    refine ⟨stepDesc s k rid, rfl, ?_⟩
    rw [stepDesc_of_moves he hg htodo hserving hunreach (hmoves.trans hserves), hdo]
    refine ⟨hwords, hdies, hentry.trans ?_, fun hf => ?_⟩
    · simp [Entry.withGth, Gth.failed]
    · rw [← cntVal_elemFailed x.src hk hf, State.cntVal,
        ((stksFrame_modEntry (elemFailed s k x.src) k rid (Entry.withGth _)).stack k).1]
      rfl
  case read =>
    obtain ⟨t, hstep, hread⟩ := elemRead_of_sectorAt e.req (esize e.req.word0) hk hok hown hword hslice htile
    have hdo := doElem_of_read (g := { g with todo := rest }) hop (hsrc ▸ hread)
    refine ⟨stepDesc s k rid, rfl, ?_⟩
    rw [stepDesc_of_moves he hg htodo hserving hunreach (hmoves.trans hserves), hdo]
    exact (WordStep.of_slice hstep).withGth he _

end Sys2Proof.Machine
end

section
/-! PROOFS. The completion of a descriptor, and the sequence of responses of a gather (R191, R194, R195). -/

namespace Sys2Proof.Machine

/-! ### Lists of n items -/

theorem length_chunks_le {α : Type} (n f : Nat) (l : List α) : (chunks n f l).length ≤ f := by
  induction f generalizing l with
  | zero => exact Nat.le_refl 0
  | succ f ih =>
    rw [chunks]
    split
    · exact Nat.zero_le _
    · exact Nat.succ_le_succ (ih _)

theorem length_chunks {α : Type} {n : Nat} (hn : 0 < n) {f : Nat} {l : List α} (hl : l.length ≤ f) :
    (chunks n f l).length = (l.length + n - 1) / n := by
  induction f generalizing l with
  | zero =>
    obtain rfl := List.length_eq_zero_iff.mp (Nat.le_zero.mp hl)
    exact (Nat.div_eq_of_lt (by simp; omega)).symm
  | succ f ih =>
    rw [chunks]
    cases l with
    | nil => exact (Nat.div_eq_of_lt (by simp; omega)).symm
    | cons x xs =>
      rw [if_neg (by simp), List.length_cons, ih (by simp at hl ⊢; omega), List.length_drop]
      by_cases hshort : (x :: xs).length ≤ n
      · rw [Nat.sub_eq_zero_of_le hshort, Nat.zero_add, Nat.div_eq_of_lt (by omega)]
        simp only [List.length_cons] at hshort ⊢
        rw [show xs.length + 1 + n - 1 = xs.length + n by omega, Nat.add_div_right _ hn, Nat.div_eq_of_lt (by omega)]
      · simp only [List.length_cons] at hshort ⊢
        rw [← Nat.add_div_right _ hn]
        congr 1
        omega

/-! ### The sequence of responses of a gather (R194) -/

/-- The groups of gathered elements, one for each response. -/
def gatherGroups (r : Req) (g : Gth) : List (List (BitVec 256 × Bool × Bool)) :=
  chunks (256 / esize r.word0) g.results.length g.results

theorem length_gatherResps (r : Req) (g : Gth) (status done : Nat) :
    (gatherResps r g status done).length = (gatherGroups r g).length := by
  simp [gatherResps, gatherGroups]

/-- A number of a response, the mark of the last one, and a map above. -/
theorem inline_of_parts {i b m : Nat} (hi : i < 2 ^ 16) (hb : b ≤ 1) :
    (BitVec.ofNat 128 (i + b * 2 ^ 16 + m * 2 ^ 32)).toNat % 2 ^ 16 = i ∧
    ((BitVec.ofNat 128 (i + b * 2 ^ 16 + m * 2 ^ 32)).getLsbD 16 = true ↔ b = 1) := by
  constructor
  · rw [BitVec.toNat_ofNat]
    omega
  · rw [BitVec.getLsbD_ofNat, Nat.testBit_eq_decide_div_mod_eq]
    simp only [Nat.reduceLT, decide_true, Bool.true_and, decide_eq_true_eq]
    omega

/-- Response number i of a gather. -/
theorem gatherResps_getElem? {r : Req} {g : Gth} {status done i : Nat} {x : Resp} (hlen : g.results.length ≤ 4096)
    (hx : (gatherResps r g status done)[i]? = some x) :
    x.status = status ∧ x.opStatus = g.opStatus ∧ x.inline.toNat % 2 ^ 16 = i ∧ x.data.length ≤ 8 ∧
    (x.inline.getLsbD 16 = true ↔ i + 1 = (gatherGroups r g).length) := by
  have hi : i < (gatherGroups r g).length := by
    rw [← length_gatherResps r g status done]
    exact (List.getElem?_eq_some_iff.mp hx).1
  have hgroups : (gatherGroups r g).length ≤ g.results.length := length_chunks_le _ _ _
  have hlast : (if i + 1 = (gatherGroups r g).length then 2 ^ 16 else 0) =
      (if i + 1 = (gatherGroups r g).length then 1 else 0) * 2 ^ 16 := by split <;> rfl
  obtain ⟨p, hp, rfl⟩ : ∃ p, ((gatherGroups r g).zipIdx)[i]? = some p ∧ _ = x := by
    rw [gatherResps, List.getElem?_map] at hx
    exact Option.map_eq_some_iff.mp hx
  obtain rfl : p.2 = i := by
    rw [List.getElem?_zipIdx] at hp
    obtain ⟨y, -, rfl⟩ := Option.map_eq_some_iff.mp hp
    exact Nat.zero_add i
  have hinline := fun m => inline_of_parts (i := p.2) (b := if p.2 + 1 = (gatherGroups r g).length then 1 else 0) (m := m) (by omega)
    (by split <;> decide)
  rw [← hlast] at hinline
  refine ⟨rfl, rfl, (hinline _).1, ?_, (hinline _).2.trans (by simp)⟩
  rw [List.length_map, List.length_zipIdx, List.length_map]
  exact length_chunks_le _ _ _

theorem esize_cases (w : Word) : esize w = 4 ∨ esize w = 8 ∨ esize w = 16 ∨ esize w = 32 := by
  have hbits : bits (wordNum w 2 1) 1 0 < 4 := Nat.mod_lt _ (by decide)
  rw [esize]
  interval_cases bits (wordNum w 2 1) 1 0 <;> simp

theorem length_gatherGroups (r : Req) (g : Gth) :
    (gatherGroups r g).length = (g.results.length + 256 / esize r.word0 - 1) / (256 / esize r.word0) := by
  refine length_chunks ?_ (Nat.le_refl _)
  obtain h | h | h | h := esize_cases r.word0 <;> rw [h] <;> decide

/-! ### A descriptor completes -/

/-- The response of a descriptor that answers once, but for its inline bytes. -/
def descResp (s : State) (k : Nat) (r : Req) (g : Gth) : Resp :=
  { respTo r (if g.poisoned then stPoison else stOk) (s.frame k) with opStatus := g.opStatus }

/-- The responses of a descriptor whose elements have all been accessed (R191, R194, R195). -/
def descResps (s : State) (k : Nat) (r : Req) (g : Gth) : List Resp :=
  match r.op with
  | 0x60 => [{ descResp s k r g with inline := BitVec.ofNat 128 (maskOf g.fails) }]
  | 0x61 | 0x62 => gatherResps r g (if g.poisoned then stPoison else stOk) (s.frame k)
  | _ => [{ descResp s k r g with inline := BitVec.ofNat 128 (g.fails.length + (g.fails.headD 0xFFFFFFFF) * 2 ^ 32) }]

/-- A descriptor's request out of its reservation, with its context. -/
def Entry.elemsDone (g : Gth) (e : Entry) : Entry := { e with gth := some g, inRes := false }

section
variable {s : State} {k rid : Nat} {e : Entry} {g : Gth} (he : s.entry k rid = some e) (hg : e.gth = some g) (htodo : g.todo = [])
  (hdone : e.done = none) (hserving : s.serving = true) (hunreach : s.unreach k = false)
include he hg htodo hdone hserving hunreach

theorem finishDesc_of_accessed :
    finishDesc s k rid e.req.op =
      finish ((s.modEntry k rid (Entry.elemsDone g)).count k .gth 0 0 1) k e.req (descResps s k e.req g) := by
  have hsame : ({ g with todo := [] } : Gth) = g := by rw [← htodo]
  simp only [finishDesc, he, hg, htodo, hdone, hserving, hunreach, hsame, List.all_nil, List.foldl_nil, Option.isNone_none, Bool.not_false,
    Bool.and_true, decide_true, if_true]
  rfl

/-- A descriptor whose elements have all been accessed is answered in its entry; its stack counts it. -/
theorem runs_finishDesc {c : Instr} (hexec : exec c s = .next (finishDesc s k rid e.req.op)) (hack : isPosted e.req.op = false) :
    Runs c s (fun t => OnlyStk k s t ∧ t.stk k = { s.stk k with table := (t.stk k).table, cnt := (t.stk k).cnt } ∧
      t.entry k rid = some { e with inRes := false, done := some (descResps s k e.req g) }) := by
  refine ⟨_, hexec, ?_⟩
  rw [finishDesc_of_accessed he hg htodo hdone hserving hunreach]
  have hmod := stksFrame_modEntry s k rid (Entry.elemsDone g)
  have hentry := State.entry_modEntry s k rid (Entry.elemsDone g) e he fun _ => rfl
  generalize s.modEntry k rid (Entry.elemsDone g) = u at hmod hentry ⊢
  have hcount := CountFrame.count u k .gth 0 0 1 rfl
  have hcounted : (u.count k .gth 0 0 1).entry k rid = some (e.elemsDone g) :=
    (State.entry_congr (by rw [hcount.stk k]) rid).trans hentry
  obtain ⟨hans, hfinish⟩ : Answered (finish (u.count k .gth 0 0 1) k e.req (descResps s k e.req g)) k rid (e.elemsDone g)
      (descResps s k e.req g) ∧ StksFrame (AtStk k TableOnly) (u.count k .gth 0 0 1)
      (finish (u.count k .gth 0 0 1) k e.req (descResps s k e.req g)) := answered_finish _ hcounted hack
  refine ⟨(hmod.onlyStk.trans hcount.onlyStk).trans hfinish.onlyStk, ?_, hans.trans ?_⟩
  · rw [(hfinish.stack k).1, hcount.stk k, (hmod.stack k).1]
  · simp [Entry.elemsDone, hg]

end

theorem claims_descriptorsComplete : Claims.DescriptorsComplete := by
  intro s k rid e g _ he hg htodo hdone hserving hunreach hlen
  refine ⟨fun hop => ?scatter, fun c hc hop => ?copy, fun c hc hop => ?gather⟩
  case scatter =>
    obtain ⟨t, hrun, honly, hstk, hentry⟩ := runs_finishDesc (c := .scatterAcc k rid) he hg htodo hdone hserving hunreach
      (by rw [hop]; rfl) (by rw [hop]; rfl)
    refine ⟨t, hrun, honly, hstk, hentry.trans ?_⟩
    simp only [descResps, hop]
    rfl
  case copy =>
    obtain ⟨hexec, hack, hresps⟩ : exec (c.1 k rid) s = .next (finishDesc s k rid e.req.op) ∧ isPosted e.req.op = false ∧
        descResps s k e.req g =
          [{ descResp s k e.req g with inline := BitVec.ofNat 128 (g.fails.length + (g.fails.headD 0xFFFFFFFF) * 2 ^ 32) }] := by
      simp only [List.mem_cons, List.not_mem_nil, or_false] at hc
      obtain rfl | rfl := hc <;> exact ⟨by rw [hop]; rfl, by rw [hop]; rfl, by simp only [descResps, hop]⟩
    obtain ⟨t, hrun, honly, hstk, hentry⟩ := runs_finishDesc he hg htodo hdone hserving hunreach hexec hack
    exact ⟨t, hrun, honly, hstk, by rw [hentry, hresps]; rfl⟩
  case gather =>
    obtain ⟨hexec, hack, hresps⟩ : exec (c.1 k rid) s = .next (finishDesc s k rid e.req.op) ∧ isPosted e.req.op = false ∧
        descResps s k e.req g = gatherResps e.req g (if g.poisoned then stPoison else stOk) (s.frame k) := by
      simp only [List.mem_cons, List.not_mem_nil, or_false] at hc
      obtain rfl | rfl := hc <;> exact ⟨by rw [hop]; rfl, by rw [hop]; rfl, by simp only [descResps, hop]⟩
    obtain ⟨t, hrun, honly, hstk, hentry⟩ := runs_finishDesc he hg htodo hdone hserving hunreach hexec hack
    rw [hresps] at hentry
    refine ⟨t, hrun, honly, hstk, _, hentry, fun i r hr => ?_, by rw [length_gatherResps, length_gatherGroups]⟩
    obtain ⟨hstatus, hopStatus, hindex, hdata, hlast⟩ := gatherResps_getElem? hlen hr
    rw [length_gatherResps]
    exact ⟨hstatus, hopStatus, by rw [← hindex, Nat.mod_mod], hdata, hlast⟩

/-- Settles O32: a descriptor takes a context with its elements, each is accessed, fails or waits, and the last one is answered. -/
theorem descriptors : Obligations.Descriptors :=
  ⟨claims_descriptorStart, claims_descriptorElement, claims_descriptorsComplete⟩

end Sys2Proof.Machine
end
